-- ==== Sys2Proof/Word.lean ====
section
/-! DEFINITION. The word types of the KZ-64 model (00 R6, R10; 13 R351) and the numbering of its dies, tiles and ports. -/

namespace Sys2Proof

/-- A byte of memory, of a descriptor or of a message. -/
abbrev Byte := BitVec 8
/-- A run of bytes, lowest address first. -/
abbrev Bytes := List Byte
abbrev W16 := BitVec 16
abbrev W32 := BitVec 32
abbrev W64 := BitVec 64
/-- A 48-bit fabric address (R10). -/
abbrev Fa := BitVec 48
/-- A die number, 8·row + column (R18). -/
abbrev DieNo := Fin 64
/-- A global tile number, 144·die + tile (00, the module at a glance). -/
abbrev TileNo := Fin 9216
/-- A general register or vector register number (R95). -/
abbrev RegNo := Fin 32

/-- The two host ports (R17). -/
inductive Port where
  | a
  | b
  deriving DecidableEq, Repr

/-- The code of a port wherever a message or table gives one (R322, R372). -/
def Port.code : Port → Nat
  | .a => 0
  | .b => 1

end Sys2Proof
end

