-- ==== Sys2Proof/Machine/Bits.lean ====
section
/-! DEFINITION. Bytes and the little-endian fields of descriptors, tables and messages (00 R6). -/

namespace Sys2Proof.Machine

/-- The number a run of bytes spells, least significant byte first (R6). -/
def leNat : Bytes → Nat
  | [] => 0
  | b :: bs => b.toNat + 256 * leNat bs

/-- The `n` low bytes of a number, least significant first (R6). -/
def leBytes : Nat → Nat → Bytes
  | 0, _ => []
  | n + 1, v => BitVec.ofNat 8 (v % 256) :: leBytes n (v / 256)

/-- Bytes `off` to `off + n − 1` of a run; bytes beyond its end read as zero. -/
def slice (bs : Bytes) (off n : Nat) : Bytes := (List.range n).map (fun i => bs.getD (off + i) 0)

/-- The field of `n` bytes at offset `off`, as a number. -/
def field (bs : Bytes) (off n : Nat) : Nat := leNat (slice bs off n)

/-- Every byte from `off` on, for `n` bytes, is zero. -/
def zeros (bs : Bytes) (off n : Nat) : Bool := (slice bs off n).all (· == 0)

/-- Bit `i` of a number. -/
def bit (v i : Nat) : Bool := v.testBit i

/-- Bits `lo` to `lo + n − 1` of a number. -/
def bits (v lo n : Nat) : Nat := (v >>> lo) % 2 ^ n

/-- A number that is a power of two is at hand as its log2; alignment to `a` bytes. -/
def aligned (v a : Nat) : Bool := v % a == 0

/-- Signed reading of the low 32 bits of a number. -/
def sint32 (v : Nat) : Int :=
  let w : Nat := v % 2 ^ 32
  if w < 2 ^ 31 then (w : Int) else (w : Int) - 2 ^ 32

/-- Signed reading of the low 64 bits of a number. -/
def sint64 (v : Nat) : Int :=
  let w : Nat := v % 2 ^ 64
  if w < 2 ^ 63 then (w : Int) else (w : Int) - 2 ^ 64

/-- Quotient rounded up. -/
def ceilDiv (a b : Nat) : Nat := (a + b - 1) / b

/-- A number rounded up to a multiple. -/
def roundUp (a b : Nat) : Nat := ceilDiv a b * b

/-- Two half-open ranges meet. -/
def rangesMeet (a an b bn : Nat) : Bool := decide (a < b + bn) && decide (b < a + an)

/-- A half-open range lies within another. -/
def rangeWithin (a an b bn : Nat) : Bool := decide (b ≤ a) && decide (a + an ≤ b + bn)

/-- The members of a 64-bit mask in ascending order (die masks: R175, R204, R223). -/
def maskMembers (mask n : Nat) : List Nat := (List.range n).filter (fun i => bit mask i)

/-- Bytes of an ASCII text. -/
def ascii (t : String) : Bytes := t.toList.map (fun c => BitVec.ofNat 8 c.toNat)

end Sys2Proof.Machine
end

