-- ==== Sys2Proof/Syntax.lean ====
section
/-! DEFINITION. The commands of the KZ-64 block: one constructor of `Instr` per row of spec/opcode_table.json, and the
operands they carry. What a command reads from outside the module (host memory, the wire, a sensor, the arithmetic of a job's
own code) is an operand of it. -/

namespace Sys2Proof

/-- Why a transfer over the host link ended (R171, R323). -/
inductive Cause where
  | accessDenied
  | retryExhausted
  deriving DecidableEq, Repr

/-- What an RDMA READ of host memory returned (R171, R251, R422). -/
inductive Transfer where
  | data (bs : Bytes)
  | poisoned
  | failed (c : Cause)
  deriving DecidableEq, Repr

/-- The fields of a vector instruction word other than its opcode (R98). -/
structure VOp where
  fmtA : BitVec 4 := 0
  fmtD : BitVec 4 := 0
  vd : BitVec 5 := 0
  va : BitVec 5 := 0
  vb : BitVec 5 := 0
  vc : BitVec 5 := 0
  sa : BitVec 5 := 0
  sb : BitVec 5 := 0
  sd : BitVec 5 := 0
  sat : Bool := false
  stoch : Bool := false
  bcast : Bool := false
  var : BitVec 4 := 0
  resv : BitVec 6 := 0
  imm : W64 := 0
  deriving DecidableEq, Repr

/-- The instances of the queue macro (R113): the hamper of a tile, the event queue of a context, the module event queue and
the fault log. -/
inductive QueueId where
  | hamper (t : TileNo)
  | context (c : W16)
  | events
  | faultLog
  deriving DecidableEq, Repr

/-- An item of a queue-macro instance: its 64-bit segments, lowest first, and its end mark (R113). -/
structure QItem where
  segs : List W64
  last : Bool
  deriving DecidableEq, Repr

/-- An error met in one segment of one item read (R115): a single-bit error, or an uncorrectable one. -/
structure SegFault where
  item : Nat
  seg : Nat
  double : Bool
  deriving DecidableEq, Repr

/-- The errors met in one 36-byte sector read (R406): the pattern that is XORed onto the stored code word. -/
structure SectorFault where
  sector : Fin 8
  err : Bytes
  deriving DecidableEq, Repr

/-- An error met in one 74-bit SRAM word read (R411). `unit` is the SRAM macro, 0 to 31, or 32 for the valid-bit array
(R417). -/
structure SramFault where
  unit : Nat
  word : Nat
  double : Bool
  deriving DecidableEq, Repr

/-- A logit of one id: an FP32 word and its poison mark (R271). -/
structure Logit where
  z : W32
  poison : Bool
  deriving DecidableEq, Repr

/-- What a fold asks the module to switch a collection to (R197). -/
structure FoldRequest where
  job : Fin 256
  binTable : Fa
  idIndex : Fa
  graphMap : Fa
  bins : Nat
  foldEpoch : Nat
  deriving DecidableEq, Repr

/-- What a build writes (R218): the new version's bases and the rows Zihasha makes hot, per sub-table. -/
structure BuildRequest where
  baseA : Fa
  baseB : Fa
  hotA : List Nat
  hotB : List Nat
  deriving DecidableEq, Repr

/-- What a received frame carries (R316). -/
inductive FrameKind where
  | arp
  | neighbour
  | echo
  | otherIcmp
  | globalPause
  | fragment
  | ipOptions
  | ipv6Extension
  | roce (qpn : BitVec 24)
  | roceOther
  | kop (port : W16)
  | otherUdp
  | tcp
  | identifyReply (unit : W16) (serial : Bytes)
  deriving DecidableEq, Repr

/-- A received frame: its length with FCS, its FEC result, its tag, its DSCP and ECN mark, what it carries, and the bytes its
receive buffer holds once it has arrived (R316, R318, R319). -/
structure Frame where
  length : Nat
  fecCorrected : Nat
  fecUncorrected : Nat
  vid : Option (BitVec 12)
  pcp : Option (BitVec 3)
  dscp : BitVec 6
  ce : Bool
  kind : FrameKind
  buffered : Nat
  deriving DecidableEq, Repr

/-- The NAKs a queue pair can receive (R321, R323). -/
inductive NakKind where
  | rnr
  | remoteAccess
  | other
  deriving DecidableEq, Repr

/-- A KOP datagram as it arrives (R356); its type is that of the command that carries it. -/
structure KMsg where
  port : Port
  src : BitVec 128
  dport : W16
  version : Byte
  flags : Byte
  status : Byte
  sid : W32
  seq : W32
  length : W16
  resv : W16
  payload : Bytes
  tag : Bytes
  deriving DecidableEq, Repr

/-- Who asks for an object write: the session, the request's sequence number, and where the request came from. -/
structure Requester where
  sid : W32
  seq : W32
  port : Port
  src : BitVec 128
  deriving DecidableEq, Repr

/-- A resource of a die whose event count reaches its threshold (R432). -/
inductive Resource where
  | row (ch : Fin 32) (bank : Fin 16) (row : Nat)
  | channel (ch : Fin 32)
  | lane (dir : Fin 4) (lane : Nat)
  | array (tile : Fin 144)
  | sramMacro (tile : Fin 144) (unit : Nat)
  deriving DecidableEq, Repr

/-- The vector instructions, by name (R101 to R109). -/
inductive VCode where
  | vnop
  | setvl
  | vfence
  | vstat
  | siteopen
  | siteq
  | siteclose
  | hpop
  | hstat
  | hrinse
  | vld
  | vlds
  | vldx
  | vldp
  | vst
  | vsts
  | vstx
  | vstp
  | vfadd
  | vfsub
  | vfmul
  | vfma
  | vfmin
  | vfmax
  | vfabs
  | vfneg
  | vfdiv
  | vfsqrt
  | vscale
  | vadd
  | vsub
  | vmul
  | vmin
  | vmax
  | vand
  | vor
  | vxor
  | vshl
  | vshr
  | vsra
  | vfcmp
  | vcmp
  | vsel
  | vcompress
  | vexpand
  | vidx
  | vperm
  | vslideup
  | vslidedn
  | vbcast
  | vzip
  | vunzip
  | vpack
  | vunpack
  | vfrsum
  | vfrmax
  | vfrmin
  | vfrargmax
  | vrsum
  | vrmax
  | vrmin
  | vcvt
  | vexp
  | vexp2
  | vlog
  | vlog2
  | vrcp
  | vrsqrt
  | vtanh
  | vsigm
  | vsilu
  | vgelu
  | vsin
  | vcos
  deriving DecidableEq, Repr

/-- The commands of the block: one constructor per row of spec/opcode_table.json. -/
inductive Instr where
  /-- MOVE_ISSUE (R26). A sequencer issues a move descriptor into its move queue, where it is checked and either queued or refused, which ends the job. -/
  | moveIssue (t : TileNo) (d : Bytes) (poisoned : Bool)
  /-- MOVE_DELIVERED (R28). Every byte of a move descriptor has been written at its destination, and the descriptor completes. -/
  | moveDelivered (t : TileNo) (entry : Nat)
  /-- WAIT_COUNTER (R28). A sequencer executes wait-counter on a signal counter against an operand, compared modulo 2^32. -/
  | waitCounter (t : TileNo) (c : Fin 256) (operand : W32)
  /-- WAIT_COUNTER_RESUME (R28). A waiting wait-counter resumes once the counter reaches its operand. -/
  | waitCounterResume (t : TileNo)
  /-- READ_COUNTER (R28). A sequencer executes read-counter and receives the raw 32-bit count. -/
  | readCounter (t : TileNo) (c : Fin 256) (rd : RegNo)
  /-- TILE_GATE (R37). A tile that has had no work for 64 consecutive cycles enters Gated. -/
  | tileGate (t : TileNo)
  /-- TILE_RETENTION (R37). The die steward commands a tile into Retention under the job's power plan. -/
  | tileRetention (t : TileNo)
  /-- TILE_WAKE (R38). A dispatch or an arriving transfer or memory return starts a tile's wake from Gated, Retention or Off. -/
  | tileWake (t : TileNo)
  /-- TILE_WAKE_DONE (R37). A waking tile reaches Running, and the accesses waiting at its router proceed. -/
  | tileWakeDone (t : TileNo) (ns : Nat)
  /-- DROOP_STRETCH (R39). A supply sag below the droop threshold stretches the die's fast clock to 1.4 GHz. -/
  | droopStretch (d : DieNo)
  /-- STRETCH_RELEASE (R39). After the supply has stayed above the threshold for 10 us, the die returns to 1.75 GHz. -/
  | stretchRelease (d : DieNo)
  /-- PASS_ISSUE (R48). A sequencer issues a pass descriptor into the pass queue, where it is checked and either queued or refused. -/
  | passIssue (t : TileNo) (d : Bytes) (poisoned : Bool)
  /-- PASS_START (R41). A pass reaches the head of the queue and starts: the stationary registers swap and the first column enters. -/
  | passStart (t : TileNo) (feedBubbles : Nat) (drainStalls : Nat)
  /-- PASS_LAST_COLUMN (R46). The last column of a pass enters the cells, and the pass's queue entry frees. -/
  | passLastColumn (t : TileNo) (feedBubbles : Nat) (faulty : List Nat)
  /-- PASS_RESULTS_DONE (R57). The last column of a pass reaches the accumulator file; after a DRAIN pass, the tile enters DRAINING. -/
  | passResultsDone (t : TileNo)
  /-- DRAIN_UNIT (R60). The hamper accepts one drain unit, which has waited while the hamper was full. -/
  | drainUnit (t : TileNo)
  /-- ACC_ACCESS_RESUME (R58). A sequencer or move access that waited on an ACTIVE or DRAINING accumulator tile proceeds once the tile is FREE. -/
  | accAccessResume (t : TileNo)
  /-- ARRAY_RETIRE (R67). An array is retired: its running pass and queue are discarded, its job ends ABORTED_FAULT and the live count falls. -/
  | arrayRetire (t : TileNo)
  /-- VNOP (R101). Vector no-operation. -/
  | vnop (t : TileNo) (o : VOp)
  /-- SETVL (R101). Sets VL to min(gpr[sa] + imm, 128) and writes it to gpr[sd]. -/
  | setvl (t : TileNo) (o : VOp)
  /-- VFENCE (R101). Waits until every earlier vector store is visible to the sequencer, the array and the move queue. -/
  | vfence (t : TileNo) (o : VOp)
  /-- VSTAT (R101). Reads VSR into gpr[sd], and clears VSR when var[0] is 1. -/
  | vstat (t : TileNo) (o : VOp)
  /-- SITEOPEN (R81). Opens a step of a scale-site record and fixes its scale from the history. -/
  | siteopen (t : TileNo) (o : VOp)
  /-- SITEQ (R81). Quantises FP32 lanes through a scale site, writing the output patterns and the scale bytes. -/
  | siteq (t : TileNo) (o : VOp)
  /-- SITECLOSE (R81). Closes a site step, recording step_amax in the history and counting a clamped step. -/
  | siteclose (t : TileNo) (o : VOp)
  /-- HPOP (R121). Issues a pop of up to VL/32 hamper units into a vector register. -/
  | hpop (t : TileNo) (o : VOp)
  /-- HPOP_COMPLETE (R121). A waiting HPOP completes once enough units, or a last-of-tile unit, are waiting, and writes its header. -/
  | hpopComplete (t : TileNo) (errs : List SegFault)
  /-- HSTAT (R101). Returns the counts of hamper units and packets waiting. -/
  | hstat (t : TileNo) (o : VOp)
  /-- HRINSE (R123). Rinses the waiting units of the hamper, while a drain in progress continues. -/
  | hrinse (t : TileNo) (o : VOp)
  /-- VLD (R102). Contiguous word load into a vector register. -/
  | vld (t : TileNo) (o : VOp)
  /-- VLDS (R102). Strided word load. -/
  | vlds (t : TileNo) (o : VOp)
  /-- VLDX (R102). Indexed word load. -/
  | vldx (t : TileNo) (o : VOp)
  /-- VLDP (R102). Unpacking load of packed narrow elements. -/
  | vldp (t : TileNo) (o : VOp)
  /-- VST (R102). Contiguous word store. -/
  | vst (t : TileNo) (o : VOp)
  /-- VSTS (R102). Strided word store. -/
  | vsts (t : TileNo) (o : VOp)
  /-- VSTX (R102). Indexed word store, in which the higher lane wins a collision. -/
  | vstx (t : TileNo) (o : VOp)
  /-- VSTP (R102). Packing store of narrow elements. -/
  | vstp (t : TileNo) (o : VOp)
  /-- VFADD (R103). FP32 add. -/
  | vfadd (t : TileNo) (o : VOp)
  /-- VFSUB (R103). FP32 subtract. -/
  | vfsub (t : TileNo) (o : VOp)
  /-- VFMUL (R103). FP32 multiply. -/
  | vfmul (t : TileNo) (o : VOp)
  /-- VFMA (R103). FP32 fused multiply-add with one rounding. -/
  | vfma (t : TileNo) (o : VOp)
  /-- VFMIN (R103). FP32 minimum. -/
  | vfmin (t : TileNo) (o : VOp)
  /-- VFMAX (R103). FP32 maximum. -/
  | vfmax (t : TileNo) (o : VOp)
  /-- VFABS (R103). FP32 absolute value. -/
  | vfabs (t : TileNo) (o : VOp)
  /-- VFNEG (R103). FP32 negation. -/
  | vfneg (t : TileNo) (o : VOp)
  /-- VFDIV (R103). FP32 division, correctly rounded. -/
  | vfdiv (t : TileNo) (o : VOp)
  /-- VFSQRT (R103). FP32 square root, correctly rounded. -/
  | vfsqrt (t : TileNo) (o : VOp)
  /-- VSCALE (R103). Multiplies each lane by the power of two given by an E8M0 pattern. -/
  | vscale (t : TileNo) (o : VOp)
  /-- VADD (R104). INT32 add, which saturates when SAT is set. -/
  | vadd (t : TileNo) (o : VOp)
  /-- VSUB (R104). INT32 subtract, which saturates when SAT is set. -/
  | vsub (t : TileNo) (o : VOp)
  /-- VMUL (R104). Low 32 bits of an INT32 multiply. -/
  | vmul (t : TileNo) (o : VOp)
  /-- VMIN (R104). Signed INT32 minimum. -/
  | vmin (t : TileNo) (o : VOp)
  /-- VMAX (R104). Signed INT32 maximum. -/
  | vmax (t : TileNo) (o : VOp)
  /-- VAND (R104). Bitwise and. -/
  | vand (t : TileNo) (o : VOp)
  /-- VOR (R104). Bitwise or. -/
  | vor (t : TileNo) (o : VOp)
  /-- VXOR (R104). Bitwise exclusive or. -/
  | vxor (t : TileNo) (o : VOp)
  /-- VSHL (R104). Shift left. -/
  | vshl (t : TileNo) (o : VOp)
  /-- VSHR (R104). Logical shift right. -/
  | vshr (t : TileNo) (o : VOp)
  /-- VSRA (R104). Arithmetic shift right. -/
  | vsra (t : TileNo) (o : VOp)
  /-- VFCMP (R105). FP32 compare under a condition. -/
  | vfcmp (t : TileNo) (o : VOp)
  /-- VCMP (R105). Signed INT32 compare under a condition. -/
  | vcmp (t : TileNo) (o : VOp)
  /-- VSEL (R105). Lane-wise select. -/
  | vsel (t : TileNo) (o : VOp)
  /-- VCOMPRESS (R105). Packs the selected lanes low and returns their count. -/
  | vcompress (t : TileNo) (o : VOp)
  /-- VEXPAND (R105). Scatters packed lanes back to the selected positions. -/
  | vexpand (t : TileNo) (o : VOp)
  /-- VIDX (R105). Writes each lane's index into that lane. -/
  | vidx (t : TileNo) (o : VOp)
  /-- VPERM (R106). Permutes lanes by index. -/
  | vperm (t : TileNo) (o : VOp)
  /-- VSLIDEUP (R106). Slides lanes up by s. -/
  | vslideup (t : TileNo) (o : VOp)
  /-- VSLIDEDN (R106). Slides lanes down by s. -/
  | vslidedn (t : TileNo) (o : VOp)
  /-- VBCAST (R106). Broadcasts a scalar into every lane. -/
  | vbcast (t : TileNo) (o : VOp)
  /-- VZIP (R106). Interleaves two registers. -/
  | vzip (t : TileNo) (o : VOp)
  /-- VUNZIP (R106). De-interleaves one register into two. -/
  | vunzip (t : TileNo) (o : VOp)
  /-- VPACK (R106). Packs narrow lane bits within registers. -/
  | vpack (t : TileNo) (o : VOp)
  /-- VUNPACK (R106). Unpacks packed bits into lanes. -/
  | vunpack (t : TileNo) (o : VOp)
  /-- VFRSUM (R107). FP32 sum reduction. -/
  | vfrsum (t : TileNo) (o : VOp)
  /-- VFRMAX (R107). FP32 max reduction, or max of magnitudes. -/
  | vfrmax (t : TileNo) (o : VOp)
  /-- VFRMIN (R107). FP32 min reduction. -/
  | vfrmin (t : TileNo) (o : VOp)
  /-- VFRARGMAX (R107). Lane index of the FP32 maximum. -/
  | vfrargmax (t : TileNo) (o : VOp)
  /-- VRSUM (R107). INT32 sum reduction to a signed 64-bit value. -/
  | vrsum (t : TileNo) (o : VOp)
  /-- VRMAX (R107). Signed INT32 max reduction. -/
  | vrmax (t : TileNo) (o : VOp)
  /-- VRMIN (R107). Signed INT32 min reduction. -/
  | vrmin (t : TileNo) (o : VOp)
  /-- VCVT (R108). Converts each lane between two formats under the rounding and range rules. -/
  | vcvt (t : TileNo) (o : VOp)
  /-- VEXP (R109). e to the power x. -/
  | vexp (t : TileNo) (o : VOp)
  /-- VEXP2 (R109). 2 to the power x. -/
  | vexp2 (t : TileNo) (o : VOp)
  /-- VLOG (R109). Natural logarithm. -/
  | vlog (t : TileNo) (o : VOp)
  /-- VLOG2 (R109). Base-2 logarithm. -/
  | vlog2 (t : TileNo) (o : VOp)
  /-- VRCP (R109). Reciprocal. -/
  | vrcp (t : TileNo) (o : VOp)
  /-- VRSQRT (R109). Reciprocal square root. -/
  | vrsqrt (t : TileNo) (o : VOp)
  /-- VTANH (R109). Hyperbolic tangent. -/
  | vtanh (t : TileNo) (o : VOp)
  /-- VSIGM (R109). Logistic sigmoid. -/
  | vsigm (t : TileNo) (o : VOp)
  /-- VSILU (R109). SiLU activation. -/
  | vsilu (t : TileNo) (o : VOp)
  /-- VGELU (R109). GELU activation, in its exact Gaussian form. -/
  | vgelu (t : TileNo) (o : VOp)
  /-- VSIN (R109). Sine. -/
  | vsin (t : TileNo) (o : VOp)
  /-- VCOS (R109). Cosine. -/
  | vcos (t : TileNo) (o : VOp)
  /-- QUEUE_WRITE (R117). A producer writes an item to a queue-macro instance, which under hold policy stalls while the instance is full. -/
  | queueWrite (q : QueueId) (item : QItem)
  /-- QUEUE_READ (R115). A consumer reads an item, and each segment is checked, corrected or delivered poisoned. -/
  | queueRead (q : QueueId) (errs : List SegFault)
  /-- QUEUE_RINSE (R116). An instance's rinse bit empties it at once. -/
  | queueRinse (q : QueueId)
  /-- SEL_ISSUE (R131). A sequencer issues a selection descriptor, which is checked and either queued or refused. -/
  | selIssue (t : TileNo) (d : Bytes) (poisoned : Bool)
  /-- SEL_OPEN (R130). A list slot is opened with its k, format, order, row_len and request. -/
  | selOpen (t : TileNo)
  /-- SEL_FEED (R133). A run of scores is entered into an open list. -/
  | selFeed (t : TileNo)
  /-- SEL_MERGE (R137). A stored list is merged into an open slot. -/
  | selMerge (t : TileNo)
  /-- SEL_CLOSE (R136). A list is written to the scratchpad, the slot closes, and a counter is optionally signalled. -/
  | selClose (t : TileNo)
  /-- SELECT_WAIT (R136). A sequencer waits on a list slot with select-wait. -/
  | selectWait (t : TileNo) (slot : Fin 8)
  /-- SELECT_WAIT_RESUME (R136). The select-wait resumes once CLOSE has written the list. -/
  | selectWaitResume (t : TileNo)
  /-- STACK_REQUEST_GRANT (R150). A channel controller grants free request slots to requesters by the rotating rule. -/
  | stackRequestGrant (d : DieNo) (ch : Fin 32)
  /-- STACK_READ_RETURN (R147). A granule read returns from a stack, decrypted and decoded, to its requester. -/
  | stackReadReturn (d : DieNo) (ch : Fin 32) (slot : Nat) (reads : List (List SectorFault))
  /-- STACK_WRITE_DONE (R148). A granule write reaches the stack, and its request slot frees. -/
  | stackWriteDone (d : DieNo) (ch : Fin 32) (slot : Nat)
  /-- STACK_WRITEBACK (R409). The controller writes back a corrected or poisoned sector, unless a newer write cancels it. -/
  | stackWriteback (d : DieNo)
  /-- SEQ_TIER1_LOAD (R153). A sequencer load from a tier-1 page misses, is checked against SEALED, and fills the cache with a granule. -/
  | seqTier1Load (t : TileNo) (addr : Fa)
  /-- SEQ_TIER1_STORE (R153). A sequencer store to tier 1 is refused and ends the job. -/
  | seqTier1Store (t : TileNo) (addr : Fa)
  /-- COMMIT_FENCE (R156). A sequencer issues a commit fence on a page range of an append region. -/
  | commitFence (t : TileNo) (addr : Fa) (pages : Nat)
  /-- COMMIT_FENCE_DONE (R156). Covered writes are in the stack, the range's pages become SEALED, and the fence completes. -/
  | commitFenceDone (t : TileNo)
  /-- PAGE_RECYCLE (R158). A page-recycle instruction, or an owning rule, asks for a SEALED page to be recycled. -/
  | pageRecycle (t : TileNo) (addr : Fa)
  /-- PAGE_RECYCLE_DONE (R158). Once every accepted read has returned, the page becomes FREE and cached copies are invalidated. -/
  | pageRecycleDone (d : DieNo) (addr : Fa)
  /-- STREAM_START (R160). A prefetch schedule starts, and its header is checked. -/
  | streamStart (t : TileNo) (addr : BitVec 21)
  /-- STREAM_RELEASE (R162). A stream-release instruction adds to the released count and clears arrival bits. -/
  | streamRelease (t : TileNo) (n : Nat)
  /-- STREAM_ENTRY_ISSUE (R162). The feeder issues the next schedule entry once it lies within lead and its destination is free. -/
  | streamEntryIssue (t : TileNo)
  /-- STREAM_ENTRY_ARRIVED (R163). An entry's bytes and scales land in the window, and their arrival bits are set. -/
  | streamEntryArrived (t : TileNo) (entry : Nat)
  /-- STREAM_WAIT (R163). A stream-wait instruction waits for a named entry. -/
  | streamWait (t : TileNo) (entry : Nat)
  /-- STREAM_WAIT_RESUME (R163). The stream-wait resumes when its entry has arrived. -/
  | streamWaitResume (t : TileNo)
  /-- GATHER_ADDR (R166). A gather descriptor with op ADDR is issued to the die's gather engine. -/
  | gatherAddr (t : TileNo) (d : Bytes) (poisoned : Bool)
  /-- GATHER_INDEX (R166). A gather descriptor with op INDEX is issued. -/
  | gatherIndex (t : TileNo) (d : Bytes) (poisoned : Bool)
  /-- GATHER_HOST_READ (R170). A HOST_READ moves host-window bytes to the device by RDMA READ. -/
  | gatherHostRead (t : TileNo) (d : Bytes) (poisoned : Bool) (data : Transfer)
  /-- GATHER_HOST_WRITE (R170). A HOST_WRITE moves device bytes to a host window by RDMA WRITE. -/
  | gatherHostWrite (t : TileNo) (d : Bytes) (poisoned : Bool)
  /-- GATHER_ELEMENT_ISSUE (R167). The gather engine issues one element, whose address is checked. -/
  | gatherElementIssue (d : DieNo)
  /-- GATHER_COMPLETE (R168). Every element is written, the descriptor completes, and a counter is optionally signalled. -/
  | gatherComplete (d : DieNo) (id : Nat)
  /-- GATHER_WAIT (R168). A gather-wait instruction waits for a descriptor. -/
  | gatherWait (t : TileNo) (id : Nat)
  /-- GATHER_WAIT_RESUME (R168). The gather-wait resumes when the descriptor completes. -/
  | gatherWaitResume (t : TileNo)
  /-- HOST_TRANSFER_FAIL (R171). A host transfer that the link cannot complete ends its requests with the queue pair's cause. -/
  | hostTransferFail (t : TileNo) (id : Nat)
  /-- SEARCH_ADMIT (R186). A SEARCH stage is admitted, its block is checked, and min_epoch is tested. -/
  | searchAdmit (req : W32) (query : Transfer)
  /-- BATCH_CLOSE (R187). A search batch closes when it holds q queries or its window expires. -/
  | batchClose (coll : Fin 256)
  /-- SEARCH_RESULT (R190). The merged root list and the search header are produced for a query. -/
  | searchResult (req : W32)
  /-- UPDATE_COMMIT (R192). An update writes side entries, seals them, records hides and publishes the next epoch. -/
  | updateCommit (coll : Fin 256) (src : DieNo) (entries : Transfer)
  /-- FOLD_SWITCH (R197). A fold asks to switch a collection to a new version, which is checked and published or held. -/
  | foldSwitch (coll : Fin 256) (f : FoldRequest)
  /-- FOLD_SWITCH_RELEASE (R197). A held switch proceeds once the older version's pins reach zero. -/
  | foldSwitchRelease (coll : Fin 256)
  /-- VERSION_RELEASE (R198). When an old version's pins reach zero, its structures and folded side slots are released. -/
  | versionRelease (coll : Fin 256)
  /-- LOOKUP_ADMIT (R209). An embedding lookup is admitted, its block is checked, and it pins the version. -/
  | lookupAdmit (req : W32) (indices : Transfer)
  /-- LOOKUP_DONE (R210). A lookup's rows are fetched and pooled, and its output is produced. -/
  | lookupDone (req : W32)
  /-- TABLE_MODE_WRITE (R213). A write to table_mode sets a table to RAW or SERVICE. -/
  | tableModeWrite (r : Requester) (v : Bytes)
  /-- STAGE_BATCH (R217). A stage batch is checked, routed to owner logs, sealed and completed. -/
  | stageBatch (table : Fin 1024) (entries : Transfer)
  /-- TABLE_BUILD (R218). A build cuts the staging logs and writes the next version. -/
  | tableBuild (table : Fin 1024) (b : BuildRequest)
  /-- TABLE_SWITCH (R215). A table's version record is switched in one write, or the switch is held. -/
  | tableSwitch (table : Fin 1024)
  /-- TABLE_SWITCH_RELEASE (R215). A held table switch proceeds once the older pins reach zero. -/
  | tableSwitchRelease (table : Fin 1024)
  /-- TABLE_VERSION_RELEASE (R215). An older table version whose last pin ends is recycled, and its hot area freed. -/
  | tableVersionRelease (table : Fin 1024)
  /-- TOKENISE (R232). The text engine splits the text lanes into pieces and merges them into tokens. -/
  | tokenise (req : W32) (lanes : List Transfer)
  /-- VCACHE_FILL (R229). A vocabulary-cache miss returns its granule to a lane. -/
  | vcacheFill (d : DieNo) (addr : Fa)
  /-- TEXT_INPUT (R247). Same-cycle tile requests enter the text engine's input queue by rotation. -/
  | textInput (d : DieNo) (requesters : List Nat)
  /-- DETOKENISE (R236). An emitted id is spelled into output bytes and stop strings are watched. -/
  | detokenise (req : W32) (id : W32)
  /-- DIRECTIVE (R241). After a token is emitted, the engine delivers the directive for the next step. -/
  | directive (req : W32)
  /-- DIRECTIVE_STEP0 (R241). The engine delivers the directive for step 0 once the record is taken and the prompt is known. -/
  | directiveStep0 (req : W32)
  /-- DESCRIPTOR_READ (R251). A request descriptor arrives by RDMA READ and enters CHECKING. -/
  | descriptorRead (req : W32) (data : Transfer)
  /-- STAGE_ADMIT (R267). The next set stage of a request is admitted by its serving job. -/
  | stageAdmit (req : W32)
  /-- STAGE_HANDOFF (R268). A stage ends and either hands its output on or ends the request. -/
  | stageHandoff (req : W32) (status : Byte)
  /-- EMBED_STAGE (R262). The query tokens are embedded into the FP32 query vector, with an optional sketch. -/
  | embedStage (req : W32) (dense : List W32)
  /-- RERANK_STAGE (R263). Search candidates are scored with the cross-encoder into a top list. -/
  | rerankStage (req : W32) (scores : List W32)
  /-- PACK_STAGE (R265). Candidate passages are packed into the prompt under the budget. -/
  | packStage (req : W32)
  /-- GENERATE_ADMIT (R284). GENERATE is admitted: the SRAM slot and KV pages are reserved or the request queues. -/
  | generateAdmit (req : W32) (list : Transfer)
  /-- KV_RESERVE_GRANT (R284). A queued request is given its slot and pages once they free. -/
  | kvReserveGrant (model : Fin 256)
  /-- KV_WAIT_EXPIRY (R284). A request that waited kv_wait us ends REFUSED_FIT. -/
  | kvWaitExpiry (req : W32)
  /-- PREFILL_DONE (R283). Prefill ends with every full KV page sealed, and the request joins a batch. -/
  | prefillDone (req : W32)
  /-- DECODE_STEP (R271). One decode step applies the directive and mask and emits a token. -/
  | decodeStep (req : W32) (z : List Logit)
  /-- OUTPUT_WRITE (R287). The header and sections of the output are written to the host window. -/
  | outputWrite (req : W32)
  /-- OUTPUT_WRITE_FAIL (R509). An output WRITE fails, and no further output is written. -/
  | outputWriteFail (req : W32) (cause : Cause)
  /-- COMPLETION_WRITE (R334). After the output WRITEs settle, a 64-byte completion is written to the completion ring. -/
  | completionWrite (req : W32)
  /-- COMPLETION_LOST (R336). A completion that cannot be written is lost, counted and reported. -/
  | completionLost (req : W32)
  /-- PARTITION_WRITE (R291). A partition rectangle is written, checked, and its table cleared. -/
  | partitionWrite (n : Fin 16) (r : Requester) (v : Bytes)
  /-- JOB_LOAD (R295). A load command starts the RDMA READ of a job image. -/
  | jobLoad (r : Requester) (v : Bytes)
  /-- JOB_ADMIT (R296). The read image is checked and admitted or refused, and the reply is sent. -/
  | jobAdmit (image : Transfer)
  /-- JOB_UNLOAD (R299). An unload is written and takes effect according to the job's state. -/
  | jobUnload (r : Requester) (v : Bytes)
  /-- JOB_END_INSTR (R299). A tile executes the end instruction, and the job ends OK when all tiles have. -/
  | jobEndInstr (t : TileNo)
  /-- PRIVILEGED_WRITE (R306). The Administrator grants or withdraws cheap-point saves. -/
  | privilegedWrite (r : Requester) (v : Bytes)
  /-- CYCLE_TABLE_WRITE (R302). A cycle table is written, checked, and accepted or refused. -/
  | cycleTableWrite (n : Fin 16) (r : Requester) (v : Bytes)
  /-- CYCLE_START (R303). A partition's cycle starts, and a pending table takes effect. -/
  | cycleStart (n : Fin 16)
  /-- SLOT_BOUNDARY (R304). At a slot boundary the residents are chosen and outgoing jobs save. -/
  | slotBoundary (n : Fin 16)
  /-- SAVE_DONE (R298). A job's save records are written and sealed, and the job is IDLE. -/
  | saveDone (j : Fin 256)
  /-- RESTORE_DONE (R298). Every tile's restore is written, and the job is RUNNING. -/
  | restoreDone (j : Fin 256)
  /-- CHEAP_POINT (R308). A tile executes a cheap-point instruction and is saved in a cheap record. -/
  | cheapPoint (t : TileNo) (point : W32)
  /-- CHEAP_GAP_EXPIRY (R308). A tile that reaches no cheap point within cheap_gap_cycles is saved in full. -/
  | cheapGapExpiry (t : TileNo)
  /-- STEP_BEGIN (R300). The lead tile of a G job asks for a step. -/
  | stepBegin (t : TileNo)
  /-- STEP_GRANT (R300). A held step-begin is granted, or a re-run is granted first. -/
  | stepGrant (j : Fin 256) (remainingUs : Nat)
  /-- STEP_END (R300). The lead tile ends the step, and its tokens are emitted. -/
  | stepEnd (t : TileNo)
  /-- WATCHDOG_EXPIRY (R311). A G step runs wcet_cycles without step-end and is abandoned. -/
  | watchdogExpiry (j : Fin 256)
  /-- WAIT_LIMIT_EXPIRY (R312). A wait longer than wait_limit_cycles ends the job. -/
  | waitLimitExpiry (t : TileNo)
  /-- PORT_LINK_UP (R317). A port trains at a rate its mode allows, and the link comes up. -/
  | portLinkUp (p : Port) (lanes : Byte)
  /-- LANE_FAIL_FALLBACK (R317). A lane fails or loses lock for 10 ms, and the port retrains or goes down. -/
  | laneFailFallback (p : Port) (lanes : Byte)
  /-- PORT_RETRY (R317). A down port retries training every 1 s. -/
  | portRetry (p : Port) (lanes : Byte)
  /-- PORT_MODE_WRITE (R317). A port_mode write restarts the port's link under the new mode. -/
  | portModeWrite (p : Port) (r : Requester) (v : Bytes)
  /-- FRAME_RECEIVE (R316). A frame arrives and is accepted or dropped under the supported features. -/
  | frameReceive (p : Port) (f : Frame)
  /-- PFC_XON (R318). The buffer falls to 384 KiB, and XON is sent. -/
  | pfcXon (p : Port) (second : Bool) (held : Nat)
  /-- PFC_RECEIVE (R318). A PFC frame pauses or releases transmission on a lossless priority. -/
  | pfcReceive (p : Port) (prio : Fin 8) (pause : Bool)
  /-- PAUSE_STORM (R318). A priority stays paused for pfc_storm_ms, and pause is ignored for that time. -/
  | pauseStorm (p : Port) (second : Bool)
  /-- PAUSE_HONOUR_RESUME (R318). After a storm period the module honours pause again. -/
  | pauseHonourResume (p : Port) (second : Bool)
  /-- CNP_RECEIVE (R319). A received CNP halves the queue pair's send-rate limit. -/
  | cnpReceive (qp : Fin 16384)
  /-- RATE_RECOVER (R319). Every 55 us without a CNP the rate limit rises by 5 % of line rate. -/
  | rateRecover (qp : Fin 16384)
  /-- ROCE_WRITE_IN (R326). An inbound RDMA WRITE to ring entries or doorbells is checked and applied, or NAKed. -/
  | roceWriteIn (p : Port) (qp : Fin 16384) (rkey : W32) (va : W64) (data : Bytes)
  /-- ROCE_OP_REFUSED (R320). An inbound SEND, READ, WRITE with immediate or atomic is answered with NAK invalid request. -/
  | roceOpRefused (p : Port) (qp : Fin 16384)
  /-- ACK_RECEIVE (R321). An acknowledgement completes outbound operations. -/
  | ackReceive (qp : Fin 16384) (n : Nat)
  /-- NAK_RECEIVE (R323). A received NAK retries on RNR or puts the queue pair in ERROR. -/
  | nakReceive (qp : Fin 16384) (kind : NakKind)
  /-- RETRANSMIT_TIMEOUT (R321). An unacknowledged request is retransmitted, or after retry_cnt the queue pair enters ERROR. -/
  | retransmitTimeout (qp : Fin 16384)
  /-- QP_SETUP (R322). A queue pair is set up and enters RTS, or the setup is refused. -/
  | qpSetup (r : Requester) (v : Bytes)
  /-- QP_RESET (R323). A queue pair is returned to RESET, and windows naming it are deleted. -/
  | qpReset (r : Requester) (v : Bytes)
  /-- RING_SETUP (R328). A request or completion ring is created. -/
  | ringSetup (r : Requester) (v : Bytes)
  /-- RING_TEARDOWN (R328). A ring is torn down, and unfetched entries are discarded. -/
  | ringTeardown (r : Requester) (v : Bytes)
  /-- DOORBELL_TAIL (R333). A TAIL doorbell is key-checked and advances a request ring's tail. -/
  | doorbellTail (ring : Fin 262144) (d : Bytes)
  /-- DOORBELL_HEAD (R333). A HEAD doorbell advances a completion ring's host_head. -/
  | doorbellHead (ring : Fin 262144) (d : Bytes)
  /-- DOORBELL_CANCEL (R333). A CANCEL doorbell marks an entry or cancels a fetched request. -/
  | doorbellCancel (ring : Fin 262144) (d : Bytes)
  /-- ENTRY_NOP (R331). A fetched NOP entry completes OK. -/
  | entryNop (ring : Fin 262144)
  /-- ENTRY_REQUEST (R331). A fetched REQUEST entry is admitted, and its descriptor is read. -/
  | entryRequest (ring : Fin 262144)
  /-- ENTRY_UPDATE (R331). A fetched UPDATE entry is passed to the collection's job. -/
  | entryUpdate (ring : Fin 262144)
  /-- ENTRY_STAGE (R331). A fetched STAGE entry is passed to the table's job. -/
  | entryStage (ring : Fin 262144)
  /-- WINDOW_SETUP (R338). A context window is written or deleted. -/
  | windowSetup (r : Requester) (v : Bytes)
  /-- EVENT_SELECT (R341). A session selects an event queue. -/
  | eventSelect (r : Requester) (v : Bytes)
  /-- EVENT_POP (R341). Reading event_pop returns and removes up to 32 oldest items. -/
  | eventPop (r : Requester)
  /-- EVENT_RINSE (R341). The selected event queue is rinsed. -/
  | eventRinse (r : Requester) (v : Bytes)
  /-- DAD_COMPLETE (R342). Duplicate address detection ends, and the port becomes ready or retries. -/
  | dadComplete (p : Port) (duplicate : Bool) (iid : W64)
  /-- IDENTIFY (R343). A KOP IDENTIFY is received and a reply delay is drawn. -/
  | identify (m : KMsg)
  /-- IDENTIFY_REPLY (R343). After the drawn delay each ready port replies. -/
  | identifyReply (n : Nat)
  /-- CLAIM (R345). A KOP CLAIM message is checked and starts the claim probe. -/
  | claim (m : KMsg)
  /-- CLAIM_WRITE (R345). A write of the claim object starts the same claim handling. -/
  | claimWrite (r : Requester) (v : Bytes)
  /-- CLAIM_PROBE_END (R345). After 100 ms of probing the claim is installed or refused. -/
  | claimProbeEnd (conflict : Bool)
  /-- RELEASE (R345). A write of 0x01 releases the claim. -/
  | releaseClaim (r : Requester) (v : Bytes)
  /-- KOP_MALFORMED (R357). A malformed KOP datagram, or one with a bad session or tag, is dropped and counted. -/
  | kopMalformed (p : Port) (dport : W16) (dgram : Bytes)
  /-- KOP_OPEN (R359). An OPEN message opens a session under a role key. -/
  | kopOpen (m : KMsg) (nonce : Bytes)
  /-- KOP_CLOSE (R362). A CLOSE message closes the session. -/
  | kopClose (m : KMsg)
  /-- SESSION_IDLE_EXPIRY (R362). A session with no verified message for the idle timeout closes. -/
  | sessionIdleExpiry (sid : W32)
  /-- CLOSE_OTHERS (R362). A write of 0x01 closes every other session. -/
  | closeOthers (r : Requester) (v : Bytes)
  /-- KOP_READ (R365). A READ message returns an object's value. -/
  | kopRead (m : KMsg)
  /-- KOP_WRITE (R365). A WRITE message writes an object's value. -/
  | kopWrite (m : KMsg)
  /-- KOP_NOTIFY_IN (R358). A NOTIFY received by the module is answered BAD_DESCRIPTOR. -/
  | kopNotifyIn (m : KMsg)
  /-- RB_INITIATE (R369). A READ_BLOCK INITIATE snapshots a BLOB. -/
  | rbInitiate (m : KMsg)
  /-- RB_SEGMENT (R369). A READ_BLOCK SEGMENT returns part of the snapshot. -/
  | rbSegment (m : KMsg)
  /-- RB_END (R369). A READ_BLOCK END closes the read transfer. -/
  | rbEnd (m : KMsg)
  /-- RB_ABORT (R370). A READ_BLOCK ABORT closes the transfer with no effect. -/
  | rbAbort (m : KMsg)
  /-- WB_INITIATE (R368). A WRITE_BLOCK INITIATE opens a staging buffer. -/
  | wbInitiate (m : KMsg)
  /-- WB_SEGMENT (R368). A WRITE_BLOCK SEGMENT stores one segment. -/
  | wbSegment (m : KMsg) (flashOk : Bool)
  /-- WB_END (R368). A WRITE_BLOCK END applies the whole value, or reports missing segments. -/
  | wbEnd (m : KMsg)
  /-- WB_ABORT (R370). A WRITE_BLOCK ABORT closes the transfer with no effect. -/
  | wbAbort (m : KMsg)
  /-- BLOCK_TIMEOUT (R370). A block transfer idle for 10 s is aborted. -/
  | blockTimeout (sid : W32)
  /-- OBJECT_WRITE (R352). A write to an RW or RWP object with no behaviour of its own stores and, for RWP, persists the value. -/
  | objectWrite (r : Requester) (index : W16) (sub : Byte) (type : Byte) (v : Bytes)
  /-- CONTEXT_SETUP (R380). An Administrator creates a context. -/
  | contextSetup (r : Requester) (v : Bytes)
  /-- CONTEXT_DELETE (R380). A context is deleted and its event queue discarded. -/
  | contextDelete (r : Requester) (v : Bytes)
  /-- DOMAIN_CREATE (R381). A domain is created with its next generation. -/
  | domainCreate (r : Requester) (v : Bytes)
  /-- DOMAIN_DESTROY (R381). A domain is destroyed. -/
  | domainDestroy (r : Requester) (v : Bytes)
  /-- REGION_WRITE (R384). A region entry is written, checked, and for OWN the fill starts. -/
  | regionWrite (r : Requester) (v : Bytes)
  /-- REGION_FILL_DONE (R384). An OWN range is filled with encrypted zeros, and the write is replied to. -/
  | regionFillDone
  /-- JOB_DOMAIN_WRITE (R382). A job handle's domain is set. -/
  | jobDomainWrite (j : Fin 256) (r : Requester) (v : Bytes)
  /-- ROLE_KEY_WRITE (R395). A role key is written or cleared, and that role's other sessions close. -/
  | roleKeyWrite (r : Requester) (v : Bytes)
  /-- ATTEST_NONCE (R398). A nonce write starts the signing of a report. -/
  | attestNonce (r : Requester) (v : Bytes)
  /-- ATTEST_SIGNED (R398). The report is signed and becomes readable. -/
  | attestSigned
  /-- SEAL_BLOW (R401). The service-seal fuse is blown. -/
  | sealBlow (r : Requester) (v : Bytes)
  /-- SRAM_WRITEBACK (R411). A bank writes back a corrected or poisoned word in a free cycle. -/
  | sramWriteback (t : TileNo)
  /-- SOAK_FILL (R412). A die's soak fill starts once its PHYs are trained and its remaps installed. -/
  | soakFill (d : DieNo)
  /-- SOAK_FILL_DONE (R412). The fill completes, and the die becomes ready. -/
  | soakFillDone (d : DieNo) (ms : Nat)
  /-- LINT_READ (R415). The lint sweeper's pacing issues the next granule read. -/
  | lintRead (d : DieNo) (errs : List SectorFault) (late : Bool)
  /-- LINT_SRAM_ROW (R416). Every 4,096 cycles the sweeper reads one SRAM row of each macro of a Running tile. -/
  | lintSramRow (t : TileNo) (errs : List SramFault)
  /-- REMAP (R419). A stack row is darned onto a spare row and the remap is logged. -/
  | remap (d : DieNo) (ch : Fin 32) (bank : Fin 16) (row : Nat) (ledgerOk : Bool)
  /-- LINK_FLIT_ERROR (R431). A flit CRC error is attributed to lanes and the flit is replayed. -/
  | linkFlitError (d : DieNo) (dir : Fin 4) (lanes : List Nat) (replays : Nat)
  /-- LINK_RETRAIN_DONE (R429). A link direction finishes a retrain at unchanged width. -/
  | linkRetrainDone (d : DieNo) (dir : Fin 4) (failed : List Nat) (discarded : Bool)
  /-- LINK_LOCK_LOSS (R432). A lane loses lock. -/
  | linkLockLoss (d : DieNo) (dir : Fin 4) (lane : Nat)
  /-- THRESHOLD_REACHED (R432). A resource's event count reaches its threshold, and a repair or retirement is queued. -/
  | thresholdReached (d : DieNo) (res : Resource)
  /-- LANE_RETIRE (R434). A lane is retired, replaced by a spare or the link narrowed. -/
  | laneRetire (d : DieNo) (dir : Fin 4) (lane : Nat)
  /-- LINK_RETIRE (R435). A link is retired and route tables are written. -/
  | linkRetire (d : DieNo) (dir : Fin 4)
  /-- CHANNEL_RETIRE (R436). A channel is retired and the die's memory is rebuilt. -/
  | channelRetire (d : DieNo) (ch : Fin 32)
  /-- TILE_RETIRE (R437). A tile is retired and goes Off for good. -/
  | tileRetire (t : TileNo)
  /-- DIE_RETIRE (R438). A die is retired. -/
  | dieRetire (d : DieNo)
  /-- STEWARD_LOCKUP (R441). A steward lockup for 10 ms escalates to a die reset. -/
  | stewardLockup (d : DieNo)
  /-- GOVERNOR_STRETCH (R442). While average power exceeds the limit, one more die is stretched every 100 us. -/
  | governorStretch (d : DieNo) (watts : Nat)
  /-- GOVERNOR_RELEASE (R442). Below 95 % of the limit, one die is released every 1 ms. -/
  | governorRelease (d : DieNo) (watts : Nat)
  /-- SUPPLY_TRIP (R442). Power above 19,000 W for 50 us stretches every die. -/
  | supplyTrip (watts : Nat)
  /-- THERMAL_WARN (R443). A die crosses die_warn and is logged. -/
  | thermalWarn (d : DieNo) (temp : Int)
  /-- THERMAL_THROTTLE (R443). A die crosses die_throttle and is stretched. -/
  | thermalThrottle (d : DieNo) (temp : Int)
  /-- THERMAL_THROTTLE_END (R443). A die has stayed 5 C below the throttle threshold for 10 ms, and its stretch ends. -/
  | thermalThrottleEnd (d : DieNo) (temp : Int)
  /-- THERMAL_TRIP (R443). A die at 115 C for 1 ms is held in reset. -/
  | thermalTrip (d : DieNo) (temp : Int)
  /-- COOLANT_HOLD (R494). Coolant outside its limits for 2 s holds every die in reset; `sensorFault`: a
flow or temperature sensor reads outside its own range. -/
  | coolantHold (inlet : Int) (outlet : Int) (flow : Nat) (sensorFault : Bool)
  /-- COOLANT_RELEASE (R494). Coolant within range for 10 s releases the held dies. -/
  | coolantRelease (inlet : Int) (outlet : Int) (flow : Nat)
  /-- COOLANT_QUALIFIED (R494). At power-up, coolant within range for 1 s enables die power. -/
  | coolantQualified (inlet : Int) (outlet : Int) (flow : Nat)
  /-- LEDGER_SUMMARY_WRITE (R445). The ledger summary records the retained records within 1 s. -/
  | ledgerSummaryWrite
  /-- LOG_RINSE (R446). The fault log is rinsed. -/
  | logRinse (r : Requester) (v : Bytes)
  /-- POWER_GOOD (R450). Power-good asserts, and the always-on domain starts. -/
  | powerGood (mv : Nat) (bootSel : BitVec 2) (clkSel : BitVec 2) (refOk : Bool)
  /-- POWER_GOOD_LOSS (R488). Power-good deasserts, and the module is held in cold reset. -/
  | powerGoodLoss
  /-- RESET_N_ASSERT (R455). RESET_N is low for 4 watch cycles, and a module cold reset begins. -/
  | resetNAssert
  /-- RESET_N_RELEASE (R455). RESET_N rises, and cold reset is released. -/
  | resetNRelease (bootSel : BitVec 2) (clkSel : BitVec 2) (refOk : Bool)
  /-- REF_LOSS (R452). The reference clock is absent for 4 us, and a cold reset is entered. -/
  | refLoss
  /-- REF_RECOVER (R452). The reference has been within tolerance for 1 ms, and cold reset is left. -/
  | refRecover (bootSel : BitVec 2) (clkSel : BitVec 2)
  /-- MC_WATCHDOG (R455). The module-controller watchdog expires, and a warm or cold reset begins. -/
  | mcWatchdog
  /-- MODULE_RESET_WARM (R456). A write of 0x01 schedules a warm reset 10 ms after the reply. -/
  | moduleResetWarm (r : Requester) (v : Bytes)
  /-- MODULE_RESET_COLD (R456). A write of 0x02 schedules a cold reset 10 ms after the reply. -/
  | moduleResetCold (r : Requester) (v : Bytes)
  /-- MODULE_RESET_BEGIN (R456). 10 ms after the reply, the module reset begins. -/
  | moduleResetBegin
  /-- DIE_RESET (R456). A die reset is written and runs. -/
  | dieReset (r : Requester) (v : Bytes)
  /-- TILE_RESET (R456). A tile reset zeroes one tile. -/
  | tileReset (r : Requester) (v : Bytes)
  /-- CONTEXT_RESET (R457). A context reset stops the rings and cancels fetched requests. -/
  | contextReset (r : Requester) (v : Bytes)
  /-- CONTEXT_RESET_DONE (R457). The cancelled requests complete, and the queue pairs return to RESET. -/
  | contextResetDone (c : W16)
  /-- BOOT_ROM (R396). The boot ROM selects a slot, verifies and starts the firmware; `recordOk`: its
writes of the activation record succeed. -/
  | bootRom (recordOk : Bool)
  /-- DIE_POWER_GROUP (R459). The next group of eight dies is powered every 2 ms. -/
  | diePowerGroup
  /-- DIE_PLL_LOCK (R459). A die PLL locks, and its firmware is verified and loaded; `recordOk` as for BOOT_ROM. -/
  | diePllLock (d : DieNo) (recordOk : Bool)
  /-- PHY_TRAINED (R459). Memory PHY training completes or fails. -/
  | phyTrained (d : DieNo) (ok : Bool)
  /-- LEDGER_ERASE_DONE (R465). A background erase of the bank out of force completes. -/
  | ledgerEraseDone (objects : Bool)
  /-- STAGE_PREPARE (R476). A prepare starts erasing the inactive slot. -/
  | stagePrepare (r : Requester) (v : Bytes)
  /-- PREPARE_ERASE_DONE (R476). The erase is verified, and staging is EMPTY or FAILED. -/
  | prepareEraseDone (badBlock : Option Nat)
  /-- ACTIVATE_WARM (R478). Activation with a warm reset. -/
  | activateWarm (r : Requester) (v : Bytes)
  /-- ACTIVATE_COLD (R478). Activation with a cold reset. -/
  | activateCold (r : Requester) (v : Bytes)
  /-- ACTIVATE_DEFER (R478). Activation that waits for the next reset. -/
  | activateDefer (r : Requester) (v : Bytes)
  /-- CONFIRM (R481). A trial release is confirmed, and rollback fuses are blown. -/
  | confirm (r : Requester) (v : Bytes)
  /-- REVERT (R481). A trial release is reverted, followed by a warm reset. -/
  | revert (r : Requester) (v : Bytes)
  /-- BUS_INSERT (R487). Blade contact charges the input capacitance through the limiter. -/
  | busInsert (mv : Nat)
  /-- BUS_HIGH_BAND (R488). The bus enters 58-60 V, and ALERT_N asserts. -/
  | busHighBand (mv : Nat)
  /-- BUS_OVERVOLT (R488). The bus stays above 60 V for 20 us, and the power stages stop. -/
  | busOvervolt (mv : Nat)
  /-- BUS_LOW_BAND (R488). The bus stays in 44-48 V for 1 ms, and the governor limit falls. -/
  | busLowBand (mv : Nat)
  /-- BUS_LOW_RECOVER (R488). The bus returns above 48 V, and the governor limit is restored. -/
  | busLowRecover (mv : Nat)
  /-- BUS_UNDERVOLT (R488). The bus stays below 44 V for 20 us, and power-good deasserts. -/
  | busUndervolt (mv : Nat)
  /-- TAP_EXTEST (R501). The EXTEST instruction selects the boundary register. -/
  | tapExtest
  /-- TAP_IDCODE (R501). The IDCODE instruction. -/
  | tapIdcode
  /-- TAP_BYPASS (R501). The BYPASS instruction. -/
  | tapBypass
  /-- TAP_VENDOR_DEBUG (R502). A vendor debug code opens a debug connection while the seal is open. -/
  | tapVendorDebug (code : Byte)
  /-- TAP_TEST_LOGIC_RESET (R502). The TAP enters Test-Logic-Reset, and the debug connection closes. -/
  | tapTestLogicReset
  /-- ARRAY_COUNTERS_CLEAR (R68). Clears the die's array counters. -/
  | arrayCountersClear (d : DieNo) (r : Requester) (v : Bytes)
  /-- FORMAT_COUNTERS_CLEAR (R90). Clears the die's format counters. -/
  | formatCountersClear (d : DieNo) (r : Requester) (v : Bytes)
  /-- VE_COUNTERS_CLEAR (R125). Clears the die's vector and hamper counters. -/
  | veCountersClear (d : DieNo) (r : Requester) (v : Bytes)
  /-- SEL_COUNTERS_CLEAR (R142). Clears the die's selection counters. -/
  | selCountersClear (d : DieNo) (r : Requester) (v : Bytes)
  /-- MEM_COUNTERS_CLEAR (R172). Clears the die's memory-tier counters. -/
  | memCountersClear (d : DieNo) (r : Requester) (v : Bytes)
  /-- SEARCH_COUNTERS_CLEAR (R201). Clears the search counters. -/
  | searchCountersClear (r : Requester) (v : Bytes)
  /-- TABLE_COUNTERS_CLEAR (R221). Clears the die's table counters. -/
  | tableCountersClear (d : DieNo) (r : Requester) (v : Bytes)
  /-- TEXT_COUNTERS_CLEAR (R248). Clears the module text counters. -/
  | textCountersClear (r : Requester) (v : Bytes)
  /-- TEXTDIE_COUNTERS_CLEAR (R249). Clears the die's text-engine counters. -/
  | textdieCountersClear (d : DieNo) (r : Requester) (v : Bytes)
  /-- GEN_COUNTERS_CLEAR (R288). Clears the generation counters. -/
  | genCountersClear (r : Requester) (v : Bytes)
  /-- SCHED_COUNTERS_CLEAR (R314). Clears the schedule counters. -/
  | schedCountersClear (r : Requester) (v : Bytes)
  /-- RING_COUNTERS_CLEAR (R348). Clears the ring counters. -/
  | ringCountersClear (r : Requester) (v : Bytes)
  /-- PORT_COUNTERS_CLEAR (R349). Clears a port's counters. -/
  | portCountersClear (p : Port) (r : Requester) (v : Bytes)
  /-- KOP_COUNTERS_CLEAR (R377). Clears the KOP counters. -/
  | kopCountersClear (r : Requester) (v : Bytes)
  /-- DIE_COUNTERS_CLEAR (R378). Clears a die's stretch counter. -/
  | dieCountersClear (d : DieNo) (r : Requester) (v : Bytes)
  /-- LINK_COUNTERS_CLEAR (R378). Clears a die's link counters. -/
  | linkCountersClear (d : DieNo) (r : Requester) (v : Bytes)
  /-- TENANCY_COUNTERS_CLEAR (R403). Clears the tenancy counters. -/
  | tenancyCountersClear (r : Requester) (v : Bytes)
  /-- INTEGRITY_COUNTERS_CLEAR (R425). Clears the die's integrity counters. -/
  | integrityCountersClear (d : DieNo) (r : Requester) (v : Bytes)
  /-- THERMAL_COUNTERS_CLEAR (R447). Clears the die's thermal counters. -/
  | thermalCountersClear (d : DieNo) (r : Requester) (v : Bytes)
  /-- RETIRE_COUNTERS_CLEAR (R448). Clears the die's retirement counters. -/
  | retireCountersClear (d : DieNo) (r : Requester) (v : Bytes)
  /-- CLOCK_COUNTERS_CLEAR (R467). Clears the die's clock and wake counters. -/
  | clockCountersClear (d : DieNo) (r : Requester) (v : Bytes)
  /-- FW_COUNTERS_CLEAR (R484). Clears the firmware counters. -/
  | fwCountersClear (r : Requester) (v : Bytes)
  /-- BUS_HIGH_BAND_EXIT (R488). The bus falls from the 58-60 V high band back into the operating range, and the high-band cause of ALERT_N ends. -/
  | busHighBandExit (mv : Nat)
  /-- SUPPLY_TRIP_ALERT_END (R497). 100 ms after a supply trip, that cause of ALERT_N ends and the pin may be released. -/
  | supplyTripAlertEnd
  /-- AK_DERIVED (R460). The security firmware finishes deriving the attestation key, and the ATTEST readiness bit is set. -/
  | akDerived
  /-- HELD_DIE_COOLED (R494). A die that stayed held after a coolant release because it was above 90.00 C cools to 90.00 C, and the module controller gives it a die reset. -/
  | heldDieCooled (d : DieNo) (temp : Int)
  /-- FUSE_PROGRAM_DONE (R498). A rollback or seal fuse finishes programming, and a RESET_N assertion or watchdog expiry deferred during it takes effect. -/
  | fuseProgramDone (ok : Bool)
  /-- STEWARD_UNCORRECTABLE (R441). An uncorrectable error in die-steward memory or a mesh packet header is reported as a die event and escalates to a die reset. -/
  | stewardUncorrectable (d : DieNo)
  /-- MC_UNCORRECTABLE (R441). An uncorrectable error in the module controller escalates to a module warm reset. -/
  | mcUncorrectable
  /-- TAP_UPDATE_DR (R501). Under EXTEST an Update-DR loads the boundary register, which then drives ALERT_N and PWRGD. -/
  | tapUpdateDr (bits : Byte)
  /-- LEDGER_WRITE_DONE (R465). Programming and read-back of a new ledger copy completes; the copy goes in force, or fails, and the waiting RWP write is replied to. -/
  | ledgerWriteDone (objects : Bool) (ok : Bool)
  deriving DecidableEq, Repr

end Sys2Proof
end

