-- ==== Sys2Proof/Decode.lean ====
section
/-! DEFINITION. The commands of the table carry no bits, so no word spells one. The one encoding the spec gives the module's own
work is the 128-bit vector instruction word (04 R98): its decoder and its encoder, from the opcode tables of R101 to R109. -/

namespace Sys2Proof

/-- The command a word spells: the table gives no row any bits. -/
def decodeTableWord (_nbits _w : Nat) : Option Instr := none

namespace Machine

/-- The opcode of a vector instruction (R101 to R109). -/
def opcode : VCode → BitVec 8
  | .vnop => 0x00 | .setvl => 0x01 | .vfence => 0x02 | .vstat => 0x03
  | .siteopen => 0x08 | .siteq => 0x09 | .siteclose => 0x0A | .hpop => 0x10 | .hstat => 0x11 | .hrinse => 0x12
  | .vld => 0x20 | .vlds => 0x21 | .vldx => 0x22 | .vldp => 0x23 | .vst => 0x28 | .vsts => 0x29 | .vstx => 0x2A | .vstp => 0x2B
  | .vfadd => 0x40 | .vfsub => 0x41 | .vfmul => 0x42 | .vfma => 0x43 | .vfmin => 0x44 | .vfmax => 0x45 | .vfabs => 0x46
  | .vfneg => 0x47 | .vfdiv => 0x48 | .vfsqrt => 0x49 | .vscale => 0x4A
  | .vadd => 0x60 | .vsub => 0x61 | .vmul => 0x62 | .vmin => 0x63 | .vmax => 0x64 | .vand => 0x65 | .vor => 0x66 | .vxor => 0x67
  | .vshl => 0x68 | .vshr => 0x69 | .vsra => 0x6A
  | .vfcmp => 0x80 | .vcmp => 0x81 | .vsel => 0x82 | .vcompress => 0x83 | .vexpand => 0x84 | .vidx => 0x85
  | .vperm => 0xA0 | .vslideup => 0xA1 | .vslidedn => 0xA2 | .vbcast => 0xA3 | .vzip => 0xA4 | .vunzip => 0xA5 | .vpack => 0xA6
  | .vunpack => 0xA7
  | .vfrsum => 0xC0 | .vfrmax => 0xC1 | .vfrmin => 0xC2 | .vfrargmax => 0xC3 | .vrsum => 0xC4 | .vrmax => 0xC5 | .vrmin => 0xC6
  | .vcvt => 0xE0
  | .vexp => 0xF0 | .vexp2 => 0xF1 | .vlog => 0xF2 | .vlog2 => 0xF3 | .vrcp => 0xF4 | .vrsqrt => 0xF5 | .vtanh => 0xF6
  | .vsigm => 0xF7 | .vsilu => 0xF8 | .vgelu => 0xF9 | .vsin => 0xFA | .vcos => 0xFB

/-- Control, scale-site and hamper instructions (R101). -/
def ctlCodes : List VCode :=
  [.vnop, .setvl, .vfence, .vstat, .siteopen, .siteq, .siteclose, .hpop, .hstat, .hrinse]
/-- Loads and stores (R102). -/
def memCodes : List VCode :=
  [.vld, .vlds, .vldx, .vldp, .vst, .vsts, .vstx, .vstp]
/-- FP32 arithmetic (R103). -/
def fpCodes : List VCode :=
  [.vfadd, .vfsub, .vfmul, .vfma, .vfmin, .vfmax, .vfabs, .vfneg, .vfdiv, .vfsqrt, .vscale]
/-- INT32 and logic (R104). -/
def intCodes : List VCode :=
  [.vadd, .vsub, .vmul, .vmin, .vmax, .vand, .vor, .vxor, .vshl, .vshr, .vsra]
/-- Compare, select, compress, expand (R105). -/
def selCodes : List VCode :=
  [.vfcmp, .vcmp, .vsel, .vcompress, .vexpand, .vidx]
/-- Permutes (R106). -/
def permCodes : List VCode :=
  [.vperm, .vslideup, .vslidedn, .vbcast, .vzip, .vunzip, .vpack, .vunpack]
/-- Reductions (R107). -/
def redCodes : List VCode :=
  [.vfrsum, .vfrmax, .vfrmin, .vfrargmax, .vrsum, .vrmax, .vrmin]
/-- Conversion and functions (R108, R109). -/
def convCodes : List VCode :=
  [.vcvt, .vexp, .vexp2, .vlog, .vlog2, .vrcp, .vrsqrt, .vtanh, .vsigm, .vsilu, .vgelu, .vsin, .vcos]

/-- Every assigned opcode with its instruction, in the order of the tables. -/
def opcodeTable : List VCode :=
  ctlCodes ++ memCodes ++ fpCodes ++ intCodes ++ selCodes ++ permCodes ++ redCodes ++ convCodes

/-- The instruction of an opcode; none where the opcode is unassigned (R100). -/
def ofOpcode (b : BitVec 8) : Option VCode := opcodeTable.find? (fun c => opcode c == b)

/-- Bits [127:64] of the word of a vector instruction (R98): opcode and operands. -/
def vectorHigh (c : VCode) (o : VOp) : BitVec 64 :=
  let regs : BitVec 35 :=
    o.vd.append (o.va.append (o.vb.append (o.vc.append (o.sa.append (o.sb.append o.sd)))))
  let tail : BitVec 13 :=
    (BitVec.ofBool o.sat).append ((BitVec.ofBool o.stoch).append ((BitVec.ofBool o.bcast).append (o.var.append o.resv)))
  let head : BitVec 16 := (opcode c).append (o.fmtA.append o.fmtD)
  head.append (regs.append tail)

/-- The 128-bit word of a vector instruction (R98). -/
def encodeVector (c : VCode) (o : VOp) : BitVec 128 := (vectorHigh c o).append o.imm

/-- The fields of a word (R98). -/
def vectorFields (w : BitVec 128) : VOp :=
  { fmtA := w.extractLsb' 116 4, fmtD := w.extractLsb' 112 4, vd := w.extractLsb' 107 5, va := w.extractLsb' 102 5,
    vb := w.extractLsb' 97 5, vc := w.extractLsb' 92 5, sa := w.extractLsb' 87 5, sb := w.extractLsb' 82 5,
    sd := w.extractLsb' 77 5, sat := w.getLsbD 76, stoch := w.getLsbD 75, bcast := w.getLsbD 74, var := w.extractLsb' 70 4,
    resv := w.extractLsb' 64 6, imm := w.extractLsb' 0 64 }

/-- The instruction a word holds; none for an unassigned opcode (R98, R100). -/
def decodeVector (w : BitVec 128) : Option (VCode × VOp) := (ofOpcode (w.extractLsb' 120 8)).map (fun c => (c, vectorFields w))

/-- The word as the 16 bytes of sequencer memory (R98). -/
def vectorBytes (c : VCode) (o : VOp) : Bytes := leBytes 16 (encodeVector c o).toNat

end Machine
end Sys2Proof
end

