-- ==== Sys2Proof/Config.lean ====
section
/-! DEFINITION. What an implementation fixes and the spec leaves open: constants with no body, so that no proof can see a value
of one. The step applies them to the counter `free` of the state, or to the operands they depend on (log 2). -/

namespace Sys2Proof.Config

/-- A free number, one per draw: stochastic-rounding draws (R86), sampler draws and module-chosen seeds (R272), the column at
which a boundary stops a pass (R65). -/
opaque freeNat : Nat → Nat

/-- The result a function approximation tends to give (R109); the model keeps it only where it lies within the bound. -/
opaque approx : Byte → W32 → W32

/-- The order of an unordered floating-point sum (R50, R92): draw and step give the two places combined next. -/
opaque sumPick : Nat → Nat → Nat × Nat

/-- What a byte of stack memory reads as where it is not held under the reading key (R389, R412): the numbers that fix the cipher
text and the key, and the address. -/
opaque noise : List Nat → Nat → Byte

/-- Verification of an SLH-DSA-SHA2-128s signature: public key, message, signature (R396, R472). -/
opaque slhVerify : Bytes → Bytes → Bytes → Bool

/-- The SLH-DSA-SHA2-128s signature the attestation key makes: device unique secret, message (R394, R399). -/
opaque slhSign : Bytes → Bytes → Bytes

/-- How many entries a table's staging log holds: the image declares it, and the spec does not say where (R205, R217). -/
opaque stagingCapacity : Nat → Nat

/-- The FP32 exponential the sampler forms, within the bounds of R109 (R271, R512). -/
opaque sampleExp : W32 → W32

end Sys2Proof.Config
end

