-- ==== Sys2Proof/Machine/Float.lean ====
section
/-! DEFINITION. Exact binary arithmetic and its one rounding to a format: the number formats of 03 (R70 to R75, R85 to R89) and
the FP32 operations of R103. -/

namespace Sys2Proof.Machine

/-- An exact value m · 2^e. -/
structure Dy where
  m : Int
  e : Int
  deriving DecidableEq, Repr

def Dy.neg (a : Dy) : Dy := ⟨-a.m, a.e⟩
def Dy.abs (a : Dy) : Dy := ⟨a.m.natAbs, a.e⟩
/-- The significand of a value brought to exponent `e`, which is at or below its own. -/
def Dy.at_ (a : Dy) (e : Int) : Int := a.m * 2 ^ (a.e - e).toNat
def Dy.add (a b : Dy) : Dy :=
  let e := min a.e b.e
  ⟨a.at_ e + b.at_ e, e⟩
def Dy.sub (a b : Dy) : Dy := a.add b.neg
def Dy.mul (a b : Dy) : Dy := ⟨a.m * b.m, a.e + b.e⟩
def Dy.lt (a b : Dy) : Bool := decide ((a.sub b).m < 0)
def Dy.le (a b : Dy) : Bool := decide ((a.sub b).m ≤ 0)

/-- A value of a floating-point format: a NaN, an infinity, or a finite value with its sign (zero is signed, R73). -/
inductive Fval where
  | nan
  | inf (neg : Bool)
  | fin (neg : Bool) (d : Dy)
  deriving DecidableEq, Repr

/-- What a format does with its highest exponent (R72): IEEE infinities and NaNs, the one NaN of E4M3, or neither. -/
inductive Tops where
  | ieee | e4m3 | finite
  deriving DecidableEq, Repr

/-- A floating-point format (R72): exponent bits, mantissa bits, bias. -/
structure Fmt where
  eb : Nat
  mb : Nat
  bias : Nat
  tops : Tops
  deriving DecidableEq, Repr

def Fmt.fp32 : Fmt := ⟨8, 23, 127, .ieee⟩
def Fmt.fp16 : Fmt := ⟨5, 10, 15, .ieee⟩
def Fmt.bf16 : Fmt := ⟨8, 7, 127, .ieee⟩
def Fmt.e4m3 : Fmt := ⟨4, 3, 7, .e4m3⟩
def Fmt.e5m2 : Fmt := ⟨5, 2, 15, .ieee⟩
def Fmt.e3m2 : Fmt := ⟨3, 2, 3, .finite⟩
def Fmt.e2m3 : Fmt := ⟨2, 3, 1, .finite⟩
def Fmt.e2m1 : Fmt := ⟨2, 1, 1, .finite⟩

/-- The pattern, without sign, of the format's largest finite value (R72). -/
def Fmt.maxPat (f : Fmt) : Nat :=
  match f.tops with
  | .ieee => (2 ^ f.eb - 1) * 2 ^ f.mb - 1
  | .e4m3 => 2 ^ (f.eb + f.mb) - 2
  | .finite => 2 ^ (f.eb + f.mb) - 1

/-- The value of a pattern (R72). -/
def Fmt.decode (f : Fmt) (p : Nat) : Fval :=
  let neg := bit p (f.eb + f.mb)
  let mag := p % 2 ^ (f.eb + f.mb)
  let m := mag % 2 ^ f.mb
  let e := mag / 2 ^ f.mb
  if f.tops = .ieee ∧ e = 2 ^ f.eb - 1 then (if m = 0 then .inf neg else .nan)
  else if f.tops = .e4m3 ∧ mag = 2 ^ (f.eb + f.mb) - 1 then .nan
  else
    let sig : Int := if e = 0 then (m : Int) else ((m + 2 ^ f.mb : Nat) : Int)
    let ex : Int := (max e 1 : Nat) - (f.bias : Int) - f.mb
    .fin neg ⟨if neg then -sig else sig, ex⟩

/-- How a significand is cut to its kept bits: to nearest even (R85), or stochastically with a draw (R86). -/
inductive Rnd where
  | nearest
  | stochastic (draw : Nat)
  deriving DecidableEq, Repr

/-- The significand `m` with its low `k` bits rounded away, and whether any of them was set (R85, R86). -/
def cut (r : Rnd) (m k : Nat) : Nat × Bool :=
  let q := m / 2 ^ k
  let rem := m % 2 ^ k
  match r with
  | .nearest =>
    let up := if 2 * rem > 2 ^ k then true else if 2 * rem = 2 ^ k then bit q 0 else false
    (if up then q + 1 else q, rem ≠ 0)
  | .stochastic draw =>
    let t := min k 16
    let low := rem / 2 ^ (k - t)
    (if low + draw % 2 ^ t ≥ 2 ^ t then q + 1 else q, rem ≠ 0)

/-- A finite magnitude rounded to a format's precision with no upper bound: its pattern without sign, and whether inexact. -/
def Fmt.roundMag (f : Fmt) (r : Rnd) (m : Nat) (e : Int) : Nat × Bool :=
  if m = 0 then (0, false) else
  let top : Int := (Nat.log2 m : Int) + e
  let emin : Int := 1 - (f.bias : Int)
  let q : Int := max top emin - f.mb
  let (sig, inexact) := if q ≤ e then (m * 2 ^ (e - q).toNat, false) else cut r m (q - e).toNat
  ((q + f.mb + f.bias - 1).toNat * 2 ^ f.mb + sig, inexact)

/-- The exception conditions an operation met, for VSR (R97). -/
structure Flags where
  nv : Bool := false
  of : Bool := false
  uf : Bool := false
  dz : Bool := false
  deriving DecidableEq, Repr

/-- An FP32 result with the conditions it met. -/
structure FRes where
  v : W32
  f : Flags := {}
  deriving DecidableEq, Repr

/-- The canonical FP32 NaN (R88, R103). -/
def qnan : W32 := 0x7FC00000

def signBit (neg : Bool) : Nat := if neg then 2 ^ 31 else 0
def finf (neg : Bool) : W32 := BitVec.ofNat 32 (signBit neg + 0x7F800000)
def fzero (neg : Bool) : W32 := BitVec.ofNat 32 (signBit neg)

/-- One rounding of an exact value to FP32, to nearest even; `neg` is the sign an exact zero takes. -/
def roundFp32 (neg : Bool) (d : Dy) : FRes :=
  if d.m = 0 then ⟨fzero neg, {}⟩ else
  let s := decide (d.m < 0)
  let (p, inexact) := Fmt.fp32.roundMag .nearest d.m.natAbs d.e
  if p > Fmt.fp32.maxPat then ⟨finf s, { of := true }⟩
  else ⟨BitVec.ofNat 32 (signBit s + p), { uf := inexact && decide (p < 2 ^ 23) }⟩

def fval (w : W32) : Fval := Fmt.fp32.decode w.toNat

def isNan (w : W32) : Bool := fval w == .nan

/-- The sum of two values, rounded once to FP32 (R50, R103). -/
def addVal : Fval → Fval → FRes
  | .nan, _ => ⟨qnan, {}⟩
  | _, .nan => ⟨qnan, {}⟩
  | .inf s, .inf t => if s = t then ⟨finf s, {}⟩ else ⟨qnan, { nv := true }⟩
  | .inf s, _ => ⟨finf s, {}⟩
  | _, .inf t => ⟨finf t, {}⟩
  | .fin s x, .fin t y => roundFp32 (s && t) (x.add y)

/-- A value rounded once to FP32. -/
def roundVal : Fval → FRes
  | .nan => ⟨qnan, {}⟩
  | .inf s => ⟨finf s, {}⟩
  | .fin s x => roundFp32 s x

/-- An exact product (R50). -/
def mulVal : Fval → Fval → Fval
  | .nan, _ => .nan
  | _, .nan => .nan
  | .inf s, .inf t => .inf (s != t)
  | .inf s, .fin t y => if y.m = 0 then .nan else .inf (s != t)
  | .fin s x, .inf t => if x.m = 0 then .nan else .inf (s != t)
  | .fin s x, .fin t y => .fin (s != t) (x.mul y)

/-- An exact sum of two values (R50). -/
def plusVal : Fval → Fval → Fval
  | .nan, _ => .nan
  | _, .nan => .nan
  | .inf s, .inf t => if s = t then .inf s else .nan
  | .inf s, _ => .inf s
  | _, .inf t => .inf t
  | .fin s x, .fin t y =>
    let z := x.add y
    .fin (if z.m = 0 then s && t else decide (z.m < 0)) z

/-- A value times the power of two of two E8M0 codes; code 0xFF makes it NaN (R50, R76). -/
def scaleVal (e f : Nat) (v : Fval) : Fval :=
  if e = 255 ∨ f = 255 then .nan else
  match v with
  | .fin s x => .fin s ⟨x.m, x.e + (e : Int) + (f : Int) - 254⟩
  | v => v

/-- FP32 addition (R103). -/
def fpAdd (a b : W32) : FRes := addVal (fval a) (fval b)

/-- FP32 negation: the sign bit inverted (R103). -/
def fpNeg (a : W32) : W32 := a ^^^ 0x80000000
/-- FP32 absolute value: the sign bit cleared (R103). -/
def fpAbs (a : W32) : W32 := a &&& 0x7FFFFFFF

def fpSub (a b : W32) : FRes :=
  if isNan b then ⟨qnan, {}⟩ else fpAdd a (fpNeg b)

/-- FP32 multiplication (R103). -/
def fpMul (a b : W32) : FRes :=
  let p := mulVal (fval a) (fval b)
  if p == .nan && !(isNan a) && !(isNan b) then ⟨qnan, { nv := true }⟩ else roundVal p

/-- FP32 fused multiply-add with one rounding (R103). -/
def fpFma (a b c : W32) : FRes :=
  match fval a, fval b, fval c with
  | .nan, _, _ => ⟨qnan, {}⟩
  | _, .nan, _ => ⟨qnan, {}⟩
  | _, _, .nan => ⟨qnan, {}⟩
  | .fin s x, .fin t y, .fin u z => roundFp32 ((s != t) && u) ((x.mul y).add z)
  | .fin _ _, .fin _ _, .inf u => ⟨finf u, {}⟩
  | x, y, z =>
    let p := fpMul a b
    match x, y, z with
    | _, _, .inf _ => if isNan p.v then p else fpAdd p.v c
    | _, _, _ => p

/-- A value of FP32 on one line: larger numbers stand for larger values, with −0 just below +0 (R103). -/
def ordKey (w : W32) : Int :=
  if w.msb then -1 - ((w &&& 0x7FFFFFFF).toNat : Int) else (w.toNat : Int)

/-- FP32 comparison by value, −0 and +0 equal (R128). -/
def fpLt (a b : W32) : Bool :=
  if isNan a || isNan b then false
  else if fpAbs a == 0 && fpAbs b == 0 then false else decide (ordKey a < ordKey b)

def fpEq (a b : W32) : Bool :=
  !(isNan a) && !(isNan b) && (a == b || (fpAbs a == 0 && fpAbs b == 0))

def fpMin (a b : W32) : W32 :=
  if isNan a || isNan b then qnan else if ordKey a ≤ ordKey b then a else b
def fpMax (a b : W32) : W32 :=
  if isNan a || isNan b then qnan else if ordKey a ≥ ordKey b then a else b

/-- The integer square root, one bit at a time: `n` bits of the root remain, `r` is the root so far. -/
def isqrtBits (x : Nat) : Nat → Nat → Nat
  | 0, r => r
  | n + 1, r =>
    let c := r + 2 ^ n
    isqrtBits x n (if c * c ≤ x then c else r)

def isqrt (x : Nat) : Nat := isqrtBits x (Nat.log2 x / 2 + 1) 0

/-- An exact quotient, as a value whose lowest bit stands for whatever lies beyond (enough bits for one rounding). -/
def dyDiv (a b : Dy) : Dy :=
  let s := 80 + Nat.log2 b.m.natAbs
  let n := a.m.natAbs * 2 ^ s
  let q := n / b.m.natAbs
  let m := 2 * q + (if n % b.m.natAbs = 0 then 0 else 1)
  let neg := decide (a.m < 0) != decide (b.m < 0)
  ⟨if neg then -(m : Int) else (m : Int), a.e - b.e - s - 1⟩

/-- FP32 division, correctly rounded (R103). -/
def fpDiv (a b : W32) : FRes :=
  match fval a, fval b with
  | .nan, _ => ⟨qnan, {}⟩
  | _, .nan => ⟨qnan, {}⟩
  | .inf _, .inf _ => ⟨qnan, { nv := true }⟩
  | .inf s, .fin t _ => ⟨finf (s != t), {}⟩
  | .fin s _, .inf t => ⟨fzero (s != t), {}⟩
  | .fin s x, .fin t y =>
    if y.m = 0 then
      (if x.m = 0 then ⟨qnan, { nv := true }⟩ else ⟨finf (s != t), { dz := true }⟩)
    else roundFp32 (s != t) (dyDiv x y)

/-- The square root of a positive value, as a value whose lowest bit stands for whatever lies beyond. -/
def dySqrt (a : Dy) : Dy :=
  let odd : Nat := (a.e % 2).toNat
  let n := a.m.natAbs * 2 ^ (odd + 160)
  let r := isqrt n
  ⟨(2 * r + (if r * r = n then 0 else 1) : Nat), (a.e - odd - 160) / 2 - 1⟩

/-- FP32 square root, correctly rounded; NaN below zero (R103). −0 gives −0, as IEEE 754. -/
def fpSqrt (a : W32) : FRes :=
  match fval a with
  | .nan => ⟨qnan, {}⟩
  | .inf false => ⟨finf false, {}⟩
  | .inf true => ⟨qnan, { nv := true }⟩
  | .fin s x => if x.m = 0 then ⟨fzero s, {}⟩ else if s then ⟨qnan, { nv := true }⟩ else roundFp32 false (dySqrt x)

/-- FP32 multiplied by the power of two of an E8M0 pattern; 0xFF gives NaN (R103). -/
def fpScale (a : W32) (e : Nat) : FRes :=
  if e % 256 = 255 then ⟨qnan, { nv := !(isNan a) }⟩ else
  match fval a with
  | .nan => ⟨qnan, {}⟩
  | .inf s => ⟨finf s, {}⟩
  | .fin s x => roundFp32 s ⟨x.m, x.e + (e % 256 : Nat) - 127⟩

/-! ### Formats by code (R70) and conversion (R87 to R89) -/

/-- The floating-point format of a code, for codes 0x0 to 0x7. -/
def fmtOf : Nat → Option Fmt
  | 0 => some .fp32
  | 1 => some .fp16
  | 2 => some .bf16
  | 3 => some .e4m3
  | 4 => some .e5m2
  | 5 => some .e3m2
  | 6 => some .e2m3
  | 7 => some .e2m1
  | _ => none

/-- The bits of an integer format, for codes 0x8 to 0xA (R74). -/
def intBits : Nat → Option Nat
  | 8 => some 8
  | 9 => some 4
  | 10 => some 32
  | _ => none

/-- The stored width of a format code in bits (R70); zero for a reserved code. -/
def width : Nat → Nat
  | 0 => 32 | 1 => 16 | 2 => 16 | 3 => 8 | 4 => 8 | 5 => 6 | 6 => 6 | 7 => 4
  | 8 => 8 | 9 => 4 | 10 => 32 | 11 => 8 | _ => 0

/-- The value of a pattern of any format (R72, R74, R75). -/
def decodeFmt (c : Nat) (p : Nat) : Fval :=
  match fmtOf c with
  | some f => f.decode (p % 2 ^ width c)
  | none =>
    match intBits c with
    | some n =>
      let v := p % 2 ^ n
      let i : Int := if v < 2 ^ (n - 1) then (v : Int) else (v : Int) - 2 ^ n
      .fin (decide (i < 0)) ⟨i, 0⟩
    | none => if p % 256 = 255 then .nan else .fin false ⟨1, (p % 256 : Nat) - 127⟩

/-- A converted pattern, whether it was saturated (R88, R89), whether a NaN became zero (R88), and its conditions. -/
structure Conv where
  p : Nat
  sat : Bool := false
  nanZero : Bool := false
  f : Flags := {}
  deriving DecidableEq, Repr

/-- The NaN a floating-point format gives, or none (R88). -/
def Fmt.nanPat (f : Fmt) : Option Nat :=
  match f.tops with
  | .ieee => some ((2 ^ f.eb - 1) * 2 ^ f.mb + 2 ^ (f.mb - 1))
  | .e4m3 => some 0x7F
  | .finite => none

/-- A value rounded into a floating-point format; out-of-range and special values under R88. -/
def toFmt (f : Fmt) (r : Rnd) (sat : Bool) (v : Fval) : Conv :=
  let sgn (neg : Bool) : Nat := if neg then 2 ^ (f.eb + f.mb) else 0
  let outside (neg : Bool) (fin : Bool) : Conv :=
    if f.tops = .ieee ∧ ¬ sat then ⟨sgn neg + f.maxPat + 1, false, false, { of := fin }⟩
    else ⟨sgn neg + f.maxPat, true, false, { of := fin }⟩
  match v with
  | .nan =>
    match f.nanPat with
    | some p => ⟨p, false, false, {}⟩
    | none => ⟨0, false, true, {}⟩
  | .inf s => outside s false
  | .fin s d =>
    let (p, inexact) := f.roundMag r d.m.natAbs d.e
    if p > f.maxPat then outside s true
    else ⟨sgn s + p, false, false, { uf := inexact && decide (p < 2 ^ f.mb) }⟩

/-- A value rounded into an `n`-bit integer format (R85, R88). -/
def toInt (n : Nat) (r : Rnd) (v : Fval) : Conv :=
  let pat (i : Int) : Nat := (i % 2 ^ n).toNat
  let hi : Int := 2 ^ (n - 1) - 1
  let lo : Int := -(2 ^ (n - 1))
  match v with
  | .nan => ⟨0, false, true, {}⟩
  | .inf s => ⟨pat (if s then lo else hi), true, false, {}⟩
  | .fin s d =>
    let mag : Nat := if 0 ≤ d.e then d.m.natAbs * 2 ^ d.e.toNat else (cut r d.m.natAbs (-d.e).toNat).1
    let i : Int := if s then -(mag : Int) else (mag : Int)
    if i > hi then ⟨pat hi, true, false, { of := true }⟩
    else if i < lo then ⟨pat lo, true, false, { of := true }⟩
    else ⟨pat i, false, false, {}⟩

/-- A value turned into an E8M0 code: the nearest power of two, the midpoint upwards (R89). -/
def toE8m0 (v : Fval) : Conv :=
  match v with
  | .nan => ⟨0xFF, false, false, {}⟩
  | .inf _ => ⟨0xFE, true, false, {}⟩
  | .fin _ d =>
    if d.m = 0 then ⟨0, true, false, {}⟩ else
    let m := d.m.natAbs
    let l := Nat.log2 m
    let k : Int := (l : Int) + d.e + (if 2 * m ≥ 3 * 2 ^ l then 1 else 0)
    if k > 127 then ⟨0xFE, true, false, {}⟩
    else if k < -127 then ⟨0, true, false, {}⟩
    else ⟨(k + 127).toNat, false, false, {}⟩

/-- Conversion of a value to the format of a code (R85 to R89). -/
def toCode (c : Nat) (r : Rnd) (sat : Bool) (v : Fval) : Conv :=
  match fmtOf c with
  | some f => toFmt f r sat v
  | none =>
    match intBits c with
    | some n => toInt n r v
    | none => toE8m0 v

/-- Conversion of a pattern between two formats (R87). -/
def convert (a d : Nat) (r : Rnd) (sat : Bool) (p : Nat) : Conv := toCode d r sat (decodeFmt a p)

/-- The largest finite value of a floating-point format (R81). -/
def Fmt.maxVal (f : Fmt) : Dy :=
  match f.decode f.maxPat with
  | .fin _ d => d
  | _ => ⟨0, 0⟩

/-- A finite FP32 word as an exact value; zero for the others. -/
def dyOf (w : W32) : Dy :=
  match fval w with
  | .fin _ d => d
  | _ => ⟨0, 0⟩

end Sys2Proof.Machine
end

