-- ==== Sys2Proof/Machine/Approx.lean ====
section
/-! DEFINITION. The function approximations of 04 R109. The spec bounds their error and gives no value: the result is the free
value `Config.approx` where that lies within the bound of the exact result, and the exact result rounded to nearest elsewhere.
The exact result is formed to 160 binary places. -/

namespace Sys2Proof.Machine

/-- Binary places of the fixed-point reals below. -/
def fxBits : Nat := 160
def fxOne : Int := 2 ^ fxBits
def fxMul (a b : Int) : Int := a * b / fxOne
def fxDiv (a b : Int) : Int := a * fxOne / b

/-- A value in fixed point, cut toward minus infinity. -/
def Dy.fx (d : Dy) : Int :=
  let k : Int := d.e + fxBits
  if 0 ≤ k then d.m * 2 ^ k.toNat else d.m / 2 ^ (-k).toNat

def fxDy (x : Int) : Dy := ⟨x, -(fxBits : Int)⟩

/-- Σ term_n, where each term is the last times `x / n`: the exponential series from term `n` on. -/
def expSeries (x : Int) : Nat → Nat → Int → Int
  | 0, _, _ => 0
  | fuel + 1, n, term => term + expSeries x fuel (n + 1) (fxMul term x / (n + 1 : Nat))

/-- e^x for fixed-point x of small size. -/
def fxExpSmall (x : Int) : Int := expSeries x 80 0 fxOne

/-- Σ y^(2n+1)/(2n+1): the inverse hyperbolic tangent of small fixed-point y. -/
def atanhSeries (y2 : Int) : Nat → Nat → Int → Int
  | 0, _, _ => 0
  | fuel + 1, n, p => p / (2 * n + 1 : Nat) + atanhSeries y2 fuel (n + 1) (fxMul p y2)

def fxAtanh (y : Int) : Int := atanhSeries (fxMul y y) 60 0 y

/-- Σ (−1)^n y^(2n+1)/(2n+1): the inverse tangent of small fixed-point y. -/
def fxAtan (y : Int) : Int := atanhSeries (-(fxMul y y)) 90 0 y

def fxLn2 : Int := 2 * fxAtanh (fxOne / 3)
/-- π by Machin's formula. -/
def fxPi : Int := 4 * (4 * fxAtan (fxOne / 5) - fxAtan (fxOne / 239))

/-- e^x as an exact value, for a value x whose size is at most a few hundred. -/
def dyExp (x : Dy) : Dy :=
  let f := x.fx
  let k := f / fxLn2
  let r := f - k * fxLn2
  ⟨fxExpSmall r, k - fxBits⟩

/-- ln x in fixed point, for x > 0. -/
def fxLn (x : Dy) : Int :=
  let l := Nat.log2 x.m.natAbs
  let m := (⟨x.m, -(l : Int)⟩ : Dy).fx
  2 * fxAtanh (fxDiv (m - fxOne) (m + fxOne)) + ((l : Int) + x.e) * fxLn2

/-- Alternating series of sine (start n = 1) and cosine (start n = 0) after its first term. -/
def trigSeries (x2 : Int) : Nat → Nat → Int → Int
  | 0, _, _ => 0
  | fuel + 1, n, term => term + trigSeries x2 fuel (n + 2) (-(fxMul term x2) / ((n + 1) * (n + 2) : Nat))

/-- x brought into −π to π. -/
def fxReduce (x : Int) : Int :=
  let t := 2 * fxPi
  let r := x % t
  if r > fxPi then r - t else r

def fxSin (x : Int) : Int := let r := fxReduce x; trigSeries (fxMul r r) 50 1 r
def fxCos (x : Int) : Int := let r := fxReduce x; trigSeries (fxMul r r) 50 0 fxOne

/-- Σ (−1)^n x^(2n+1) / (n! 2^n (2n+1)) from term `n`, where `p` carries x^(2n+1)/(n! 2^n) with its sign. -/
def phiSeries (x2 : Int) : Nat → Nat → Int → Int
  | 0, _, _ => 0
  | fuel + 1, n, p => p / (2 * n + 1 : Nat) + phiSeries x2 fuel (n + 1) (-(fxMul p x2) / (2 * (n + 1) : Nat))

/-- Φ(x) in fixed point; beyond ±8 it is 0 or 1 to far more places than the bound needs. -/
def fxPhi (x : Int) : Int :=
  if x ≥ 8 * fxOne then fxOne else if x ≤ -8 * fxOne then 0 else
  let root : Int := isqrt ((2 * fxPi).toNat * 2 ^ fxBits)
  fxOne / 2 + fxDiv (phiSeries (fxMul x x) 160 0 x) root

/-- 1/(1 + e^(−x)) in fixed point. -/
def fxSigm (x : Int) : Int :=
  if x ≥ 120 * fxOne then fxOne else if x ≤ -120 * fxOne then 0 else
  let e := (dyExp (fxDy (-x))).fx
  fxDiv fxOne (fxOne + e)

/-- tanh of a value: by its own series near zero, where e^(2x) − 1 would lose its leading bits. -/
def dyTanh (x : Dy) : Dy :=
  let f := x.fx
  if f.natAbs < 2 ^ (fxBits - 14) then
    let x2 := fxMul f f
    let x4 := fxMul x2 x2
    x.mul (fxDy (fxOne - x2 / 3 + 2 * x4 / 15 - 17 * fxMul x2 x4 / 315))
  else if f.natAbs ≥ 2 ^ (fxBits + 6) then ⟨if f < 0 then -1 else 1, 0⟩
  else
    let e := (dyExp (fxDy (2 * f))).fx
    fxDy (fxDiv (e - fxOne) (e + fxOne))

/-- The exponent of the unit in the last place of an FP32 result. -/
def ulpExp (w : W32) : Int := (max ((w.toNat / 2 ^ 23) % 256) 1 : Nat) - (150 : Int)

/-- A candidate lies within `bound` of the exact value. -/
def within (cand exact bound : Dy) : Bool := ((cand.sub exact).abs).le bound

/-- The free value where it is a finite word within the bound, and the exact result rounded to nearest elsewhere (R109). -/
def pick (cand : W32) (exact : Dy) (bound : W32 → Dy) : FRes :=
  let r := roundFp32 (decide (exact.m < 0)) exact
  match fval cand with
  | .fin _ c => if within c exact (bound r.v) then ⟨cand, r.f⟩ else r
  | _ => r

def ulps (k : Nat) (w : W32) : Dy := ⟨k, ulpExp w⟩

/-- 2^(−n) · max(1, |x|). -/
def absBound (n : Nat) (x : Dy) : Dy :=
  let a := x.abs
  if Dy.le ⟨1, 0⟩ a then ⟨a.m, a.e - n⟩ else ⟨1, -(n : Int)⟩

/-- VEXP (R109). The bounds 88.7228 and −103.97 are those of the table. -/
def fpExp (cand a : W32) : FRes :=
  match fval a with
  | .nan => ⟨qnan, {}⟩
  | .inf s => ⟨if s then 0 else finf false, {}⟩
  | .fin _ x =>
    if Dy.lt ⟨887228, 0⟩ (x.mul ⟨10000, 0⟩) then ⟨finf false, { of := true }⟩
    else if (x.mul ⟨100, 0⟩).lt ⟨-10397, 0⟩ then ⟨0, { uf := true }⟩
    else pick cand (dyExp x) (ulps 2)

/-- VEXP2 (R109). -/
def fpExp2 (cand a : W32) : FRes :=
  match fval a with
  | .nan => ⟨qnan, {}⟩
  | .inf s => ⟨if s then 0 else finf false, {}⟩
  | .fin _ x =>
    if Dy.le ⟨128, 0⟩ x then ⟨finf false, { of := true }⟩
    else if x.lt ⟨-150, 0⟩ then ⟨0, { uf := true }⟩
    else
      let f := x.fx
      let k := f / fxOne
      let r := f - k * fxOne
      pick cand ⟨fxExpSmall (fxMul r fxLn2), k - fxBits⟩ (ulps 1)

/-- VLOG and VLOG2 (R109): the special cases, then the given logarithm. -/
def fpLogWith (k : Nat) (ln : Dy → Int) (cand a : W32) : FRes :=
  match fval a with
  | .nan => ⟨qnan, {}⟩
  | .inf s => if s then ⟨qnan, { nv := true }⟩ else ⟨finf false, {}⟩
  | .fin s x =>
    if x.m = 0 then ⟨finf true, {}⟩ else if s then ⟨qnan, { nv := true }⟩
    else pick cand (fxDy (ln x)) (ulps k)

def fpLog (cand a : W32) : FRes := fpLogWith 2 fxLn cand a
def fpLog2 (cand a : W32) : FRes := fpLogWith 1 (fun x => fxDiv (fxLn x) fxLn2) cand a

/-- VRCP (R109). -/
def fpRcp (cand a : W32) : FRes :=
  match fval a with
  | .nan => ⟨qnan, {}⟩
  | .inf s => ⟨fzero s, {}⟩
  | .fin s x => if x.m = 0 then ⟨finf s, { dz := true }⟩ else
    let e := dyDiv ⟨1, 0⟩ x
    let r := roundFp32 s e
    if r.f.of then r else pick cand e (ulps 1)

/-- VRSQRT (R109). −0 is taken as x < 0 is not: it gives −∞, the reciprocal of its root (log 11). -/
def fpRsqrt (cand a : W32) : FRes :=
  match fval a with
  | .nan => ⟨qnan, {}⟩
  | .inf s => if s then ⟨qnan, { nv := true }⟩ else ⟨0, {}⟩
  | .fin s x =>
    if x.m = 0 then ⟨finf s, { dz := true }⟩ else if s then ⟨qnan, { nv := true }⟩
    else pick cand (dyDiv ⟨1, 0⟩ (dySqrt x)) (ulps 1)

/-- VTANH (R109). -/
def fpTanh (cand a : W32) : FRes :=
  match fval a with
  | .nan => ⟨qnan, {}⟩
  | .inf s => ⟨if s then 0xBF800000 else 0x3F800000, {}⟩
  | .fin s x => if x.m = 0 then ⟨fzero s, {}⟩ else pick cand (dyTanh x) (ulps 2)

/-- VSIGM (R109). -/
def fpSigm (cand a : W32) : FRes :=
  match fval a with
  | .nan => ⟨qnan, {}⟩
  | .inf s => ⟨if s then 0 else 0x3F800000, {}⟩
  | .fin _ x => pick cand (fxDy (fxSigm x.fx)) (fun _ => ⟨1, -23⟩)

/-- VSILU (R109). -/
def fpSilu (cand a : W32) : FRes :=
  match fval a with
  | .nan => ⟨qnan, {}⟩
  | .inf s => ⟨if s then fzero true else finf false, {}⟩
  | .fin s x => if x.m = 0 then ⟨fzero s, {}⟩ else pick cand (x.mul (fxDy (fxSigm x.fx))) (fun _ => absBound 23 x)

/-- VGELU (R109). -/
def fpGelu (cand a : W32) : FRes :=
  match fval a with
  | .nan => ⟨qnan, {}⟩
  | .inf s => ⟨if s then fzero true else finf false, {}⟩
  | .fin s x => if x.m = 0 then ⟨fzero s, {}⟩ else pick cand (x.mul (fxDy (fxPhi x.fx))) (fun _ => absBound 22 x)

/-- VSIN and VCOS (R109). -/
def fpTrig (fn : Int → Int) (cand a : W32) : FRes :=
  match fval a with
  | .nan => ⟨qnan, {}⟩
  | .inf _ => ⟨qnan, { nv := true }⟩
  | .fin _ x =>
    if Dy.lt ⟨1, 20⟩ x.abs then ⟨qnan, { nv := true }⟩ else pick cand (fxDy (fn x.fx)) (fun _ => ⟨1, -22⟩)

def fpSin (cand a : W32) : FRes := fpTrig fxSin cand a
def fpCos (cand a : W32) : FRes := fpTrig fxCos cand a

/-! ### Sums in an order the spec does not fix (R50, R92) -/

/-- A list without the element at a place. -/
def dropAt {α : Type} : List α → Nat → List α
  | [], _ => []
  | _ :: l, 0 => l
  | x :: l, n + 1 => x :: dropAt l n

/-- The sum of a list in an order the spec leaves open: at each step two places, chosen freely, are combined. -/
def sumFree (k : Nat) : Nat → List W32 → W32
  | 0, l => l.headD 0
  | n + 1, l =>
    match l with
    | [] => 0
    | [x] => x
    | x :: y :: rest =>
      let l := x :: y :: rest
      let i := (Config.sumPick k n).1 % l.length
      let l1 := dropAt l i
      let j := (Config.sumPick k n).2 % l1.length
      sumFree k n ((fpAdd (l.getD i 0) (l1.getD j 0)).v :: dropAt l1 j)

/-- An FP32 sum whose order is the free draw `k`; +0 for no term. -/
def fpSum (k : Nat) (l : List W32) : W32 := sumFree k l.length l

end Sys2Proof.Machine
end

