-- ==== Sys2Proof/Machine/Maps.lean ====
section
/-! DEFINITION. Finite maps and sets over Nat keys, kept in one canonical form: keys strictly rising. The form `Cells` of byte
memory also lists no byte that an unlisted address reads as, so equal memories are equal lists. -/

namespace Sys2Proof.Machine

/-- A map from Nat keys, keys strictly rising. -/
abbrev KMap (α : Type) := List (Nat × α)
/-- A set of Nat, strictly rising. -/
abbrev NSet := List Nat

/-- The value at a key, if the key is listed. -/
def KMap.find {α : Type} : KMap α → Nat → Option α
  | [], _ => none
  | (k', v) :: m, k => if k' = k then some v else KMap.find m k

/-- The value at a key, `d` where the key is not listed. -/
def KMap.getOr {α : Type} (d : α) (m : KMap α) (k : Nat) : α := (KMap.find m k).getD d

/-- The map with key `k` set to `v`. -/
def KMap.put {α : Type} : KMap α → Nat → α → KMap α
  | [], k, v => [(k, v)]
  | (k', w) :: m, k, v =>
    if k < k' then (k, v) :: (k', w) :: m
    else if k = k' then (k, v) :: m
    else (k', w) :: KMap.put m k v

/-- The map without key `k`. -/
def KMap.del {α : Type} (m : KMap α) (k : Nat) : KMap α := m.filter (fun e => e.1 ≠ k)

/-- The map without the keys from `lo` up to, and not including, `hi`. -/
def KMap.delRange {α : Type} (m : KMap α) (lo hi : Nat) : KMap α := m.filter (fun e => ¬ (lo ≤ e.1 ∧ e.1 < hi))

/-- Keys strictly rising. -/
def KMap.sorted {α : Type} : KMap α → Bool
  | [] => true
  | [_] => true
  | (a, _) :: (b, w) :: m => decide (a < b) && KMap.sorted ((b, w) :: m)

/-- The set with `k`. -/
def NSet.add : NSet → Nat → NSet
  | [], k => [k]
  | x :: s, k => if k < x then k :: x :: s else if k = x then x :: s else x :: NSet.add s k

/-- The set without `k`. -/
def NSet.del (s : NSet) (k : Nat) : NSet := s.filter (fun x => x ≠ k)

/-- The set without the members from `lo` up to, and not including, `hi`. -/
def NSet.delRange (s : NSet) (lo hi : Nat) : NSet := s.filter (fun x => ¬ (lo ≤ x ∧ x < hi))

/-- The set with every one of the `n` members from `lo`. -/
def NSet.addRange (s : NSet) (lo : Nat) : Nat → NSet
  | 0 => s
  | n + 1 => NSet.add (NSet.addRange s lo n) (lo + n)

end Sys2Proof.Machine
end

