-- ==== Sys2Proof/Machine/Memory.lean ====
section
/-! DEFINITION. Byte memory: tile SRAM and stack memory as one list of (fabric address, byte) pairs, addresses strictly rising,
no pair holding zero, which is what an unlisted address reads as (log 8). -/

namespace Sys2Proof.Machine

/-- What an unlisted address holds (15 R412: the fill writes zeros; log 8). -/
def Memory.unlisted : Byte := 0

/-- The byte at an address. -/
def Memory.read (m : List Host.Cell) (a : Nat) : Byte := KMap.getOr Memory.unlisted m a

/-- The memory with one byte written, kept in its canonical form. -/
def Memory.write (m : List Host.Cell) (a : Nat) (v : Byte) : List Host.Cell :=
  if v = Memory.unlisted then KMap.del m a else KMap.put m a v

/-- The memory with a run of bytes written from an address upwards. -/
def Memory.writes (m : List Host.Cell) (a : Nat) : Bytes → List Host.Cell
  | [] => m
  | b :: bs => Memory.writes (Memory.write m a b) (a + 1) bs

/-- A run of `n` bytes. -/
def Memory.reads (m : List Host.Cell) (a n : Nat) : Bytes := (List.range n).map (fun i => Memory.read m (a + i))

/-- The memory with `n` bytes from an address on set to zero. -/
def Memory.zero (m : List Host.Cell) (a n : Nat) : List Host.Cell := KMap.delRange m a (a + n)

/-- The canonical form. -/
def Memory.wf (m : List Host.Cell) : Bool := KMap.sorted m && m.all (fun c => c.2 ≠ Memory.unlisted)

end Sys2Proof.Machine
end

