-- ==== Sys2Proof/Machine/State.lean ====
section
/-! DEFINITION. The state of the KZ-64 as plain data: everything the spec gives the module, the queue of commands that wait, and
two fields of the model's own (`free`, `sent`). `State.reset` is the module as power-good has just released it from cold reset,
before the boot ROM runs. -/

namespace Sys2Proof.Machine

/-- The status codes of R8. -/
inductive Status where
  | ok | cancelled | poisoned | degraded | hemDead | stopped | length | refusedFit
  | keyFault | retryExhausted | abortedFault | versionGone | badDescriptor | notReady | accessDenied | rowTooLong
  deriving DecidableEq, Repr

/-! ### The queue macro (04) -/

/-- An instance of the queue macro (R113 to R119): depth and policy, the waiting items oldest first, whether the rest of a lost
packet is being discarded (R118), and its counters. -/
structure Queue where
  depth : Nat
  overwrite : Bool
  items : List QItem := []
  dropping : Bool := false
  lost : Nat := 0
  corrected : Nat := 0
  uncorrected : Nat := 0
  rinses : Nat := 0
  deriving DecidableEq, Repr

/-! ### Tiles (01, 02, 04, 05, 06) -/

/-- A lane of a vector register: 32 bits and a poison bit (R95). -/
structure Lane where
  v : W32 := 0
  p : Bool := false
  deriving DecidableEq, Repr

/-- Power states a tile wakes from (R37). -/
inductive WakeFrom where
  | gated | retention | off
  deriving DecidableEq, Repr

/-- The power state of a tile (R37); `waking` is the wake in progress (R38). -/
inductive TilePower where
  | running | gated | retention | off
  | waking (w : WakeFrom)
  deriving DecidableEq, Repr

/-- An entry of a tile's move queue (R14): the order in which it was issued, the job that issued it (R393), its 32 bytes. -/
structure MoveEntry where
  id : Nat
  job : Nat
  desc : Bytes
  deriving DecidableEq, Repr

/-- What a tile's sequencer waits for (R28, R46, R127, R136, R156, R163, R166, R168, R300). -/
inductive SeqWait where
  | counter (c : Nat) (operand : W32)
  | moveFull (desc : Bytes)
  | passFull (desc : Bytes)
  | selFull (desc : Bytes)
  | gatherFull (desc : Bytes) (host : Option Transfer)
  | vectorFull (c : VCode) (o : VOp)
  | stream (entry : Nat)
  | gather (id : Nat)
  | select (slot : Nat)
  | fence (addr : Nat) (pages : Nat)
  | stepBegin
  | ended
  deriving DecidableEq, Repr

/-- States of an accumulator tile (R57). -/
inductive AccState where
  | free | active | draining
  deriving DecidableEq, Repr

/-- A running pass: its descriptor and the column that enters next (R65). -/
structure PassRun where
  desc : Bytes
  nextCol : Nat
  deriving DecidableEq, Repr

/-- A drain of one accumulator tile (R59, R60): the tile, the pass's tag, the next unit, and whether it is the pass's last tile. -/
structure Drain where
  acc : Nat
  tag : W32
  unit : Nat
  lastOfPass : Bool
  deriving DecidableEq, Repr

/-- An entry of a selection list (R135). -/
structure SelEntry where
  id : W64
  score : W32
  mismatch : Bool
  deriving DecidableEq, Repr

/-- An open list slot (R127, R130, R132, R134). -/
structure SelSlot where
  k : Nat
  int32 : Bool
  asc : Bool
  rowLen : Nat
  req : W32
  entries : List SelEntry := []
  examined : Nat := 0
  received : Nat := 0
  poisonEx : Nat := 0
  invalidEx : Nat := 0
  dupRemoved : Nat := 0
  dupMismatch : Nat := 0
  degraded : Bool := false
  refused : Bool := false
  deriving DecidableEq, Repr

/-- A tile's stream feeder (R160 to R165): where its schedule lies, entries issued and released, entries in flight, entries
arrived and not yet released. -/
structure Stream where
  hdr : Nat
  issued : Nat
  released : Nat
  flight : List Nat
  arrived : List Nat
  deriving DecidableEq, Repr

/-- A line of the sequencer data cache: the granule and the domain whose key decrypted it (R153, R390). -/
structure CacheLine where
  granule : Nat
  domain : Nat
  deriving DecidableEq, Repr

/-- A write-back an SRAM bank owes (R411): the SRAM macro, the fabric address over 8 of its word, and whether a port has written the
word since. -/
structure SramWb where
  unit : Nat
  word : Nat
  double : Bool
  cancelled : Bool := false
  deriving DecidableEq, Repr

/-- A tile (R14) but for its SRAM bytes, which lie in the module's memory by fabric address. -/
structure Tile where
  power : TilePower := .off
  job : Option Nat := none
  gpr : KMap W64 := []
  gprPoison : NSet := []
  vregs : KMap (List Lane) := []
  vl : Nat := 128
  vsr : W32 := 0
  vq : List (VCode × VOp) := []
  vwait : Option (VCode × VOp) := none
  moves : List MoveEntry := []
  moveSeq : Nat := 0
  seqWait : Option SeqWait := none
  passQ : List Bytes := []
  passRun : Option PassRun := none
  passDone : List Bytes := []
  passPrev : Option Bytes := none
  statAddr : Nat := 0
  statIssued : Nat := 0
  accSt : KMap AccState := []
  accOpen : KMap Bytes := []
  accValid : NSet := []
  drains : List Drain := []
  hamper : Queue := { depth := 64, overwrite := false }
  slots : KMap SelSlot := []
  selQ : List Bytes := []
  stream : Option Stream := none
  arrived : NSet := []
  dcache : List CacheLine := []
  sramWb : List SramWb := []
  lintRow : Nat := 0
  deriving DecidableEq, Repr

/-! ### Dies (01, 06, 09, 15, 16) -/

/-- OD 0x3000:01 (R378). -/
inductive DieState where
  | off | soak | ready | held
  deriving DecidableEq, Repr

/-- A request for a granule at a memory-stack controller, and whether it has been held by the bank cap (R148 to R150). -/
structure StackReq where
  granule : Nat
  write : Bool
  requester : Nat
  held : Bool := false
  deriving DecidableEq, Repr

/-- A write-back a controller owes (R409). -/
structure StackWb where
  granule : Nat
  sector : Nat
  poisoned : Bool
  cancelled : Bool
  deriving DecidableEq, Repr

/-- A descriptor held by a gather engine (R166, R170): the issuing tile, its job, its bytes, the next element, whether it is
the next to land, what a host read returned, and whether a host write has been
acknowledged. -/
structure Gather where
  id : Nat
  tile : Nat
  job : Nat
  desc : Bytes
  pos : Nat
  landed : Nat
  host : Option Transfer
  acked : Bool
  deriving DecidableEq, Repr

/-- A remap in force (R420). -/
structure RemapEntry where
  die : Nat
  ch : Nat
  bank : Nat
  spare : Nat
  row : Nat
  deriving DecidableEq, Repr

/-- A repair or retirement that waits (R433): when its threshold was reached. -/
structure Repair where
  die : Nat
  res : Resource
  at_ : Nat
  deriving DecidableEq, Repr

/-- A fault event kept for its window (R432): what it counts against and when. -/
structure FaultEv where
  res : Resource
  at_ : Nat
  deriving DecidableEq, Repr

/-- A sector read Corrected, kept for the row window (R432). -/
structure SectorEv where
  granule : Nat
  sector : Nat
  at_ : Nat
  deriving DecidableEq, Repr

/-- A die (R16): power and bring-up, clock stretch by cause, temperature, signal counters, memory controllers, gather engine,
text engine, lint sweeper, links; whether its stack codes are valid from before a warm reset (R453), and whether a soak fill rebuilds
its stacks after a channel was retired (R436). -/
structure Die where
  state : DieState := .off
  powered : Bool := false
  pll : Bool := false
  phy : Bool := false
  droop : Bool := false
  governor : Bool := false
  throttle : Bool := false
  thermal : Nat := 0
  temp : Int := 0
  tempMax : Int := 0
  sig : KMap W32 := []
  sigHeld : List (Nat × Nat) := []
  slots : KMap (List StackReq) := []
  issueQ : KMap (List StackReq) := []
  slotArb : KMap Nat := []
  wbs : List StackWb := []
  gathers : List Gather := []
  gatherSeq : Nat := 0
  remaps : List RemapEntry := []
  remapRefused : List (Nat × Nat × Nat) := []
  lintPos : Nat := 0
  skipFill : Bool := false
  rebuild : Bool := false
  vcache : KMap (List Nat) := []
  vcacheMiss : List Nat := []
  textQ : List Nat := []
  textArb : Nat := 0
  retraining : NSet := []
  events : List FaultEv := []
  corrected : List SectorEv := []
  deriving DecidableEq, Repr

/-! ### Pages (06) -/

/-- States of a page of an append region that leave a record (R154); a page with no record is FREE or untracked. -/
inductive PageState where
  | open_ | sealed_
  deriving DecidableEq, Repr

/-- A page: its first fabric address, the log2 of its size, its state, whether a recycle has been asked for (R158). -/
structure Page where
  base : Nat
  log2 : Nat
  st : PageState
  recycling : Bool := false
  deriving DecidableEq, Repr

/-! ### Jobs and schedule (11) -/

/-- Job states (R298). -/
inductive JobState where
  | idle | restoring | running | saving | ended
  deriving DecidableEq, Repr

structure TileDecl where
  tile : Nat
  array : Bool
  first : Nat
  count : Nat
  deriving DecidableEq, Repr

/-- A declared region (R293): base fabric address, kind (1 READ, 2 APPEND, 3 SAVE, 4 CODE), log2 of the page size, pages. -/
structure RegionDecl where
  base : Nat
  kind : Nat
  log2 : Nat
  pages : Nat
  deriving DecidableEq, Repr

structure CounterDecl where
  die : Nat
  idx : Nat
  shared : Bool
  producer : Nat
  init : W32
  deriving DecidableEq, Repr

/-- A host window (R337). -/
structure Window where
  base : W64
  length : Nat
  qp : Nat
  read : Bool
  write : Bool
  rkey : W32
  num : Nat
  deriving DecidableEq, Repr

/-- An entry of a CODE or DATA section with its bytes (R293): the tile (0xFFFF for the rest) and the offset. -/
structure Placed where
  tile : Nat
  offset : Nat
  bytes : Bytes
  deriving DecidableEq, Repr

/-- An entry of a CHEAP section (R307): point, tile (0xFFFF for the rest), live ranges, live vector registers. -/
structure CheapEntry where
  point : W32
  tile : Nat
  ranges : List (Nat × Nat)
  live : W32
  deriving DecidableEq, Repr

/-- A saved tile (R305, R308): the tile's engines and registers, its gather descriptors, its SRAM bytes and poison marks by SRAM
offset. -/
structure SaveRec where
  tile : Tile
  gathers : List Gather
  sram : KMap Byte
  poison : NSet
  full : Bool
  deriving DecidableEq, Repr

/-- What a G job's steps are doing (R300, R311, R430). -/
inductive StepState where
  | none_ | asked | running | rerunPending | rerunRunning
  deriving DecidableEq, Repr

/-- An admitted job: what its image declares (R292, R293), its domain (R382), its state (R298) and its counts (R314). -/
structure Job where
  cls : Nat
  cheapSave : Bool
  resident : Bool
  part : Nat
  seed : W64
  wcet : Nat
  gap : Nat
  waitLimit : Nat
  batchUs : Nat
  prio : Nat
  retryEntry : Nat
  tiles : List TileDecl
  regions : List RegionDecl
  rings : List Nat
  counters : List CounterDecl
  windows : List Window
  code : List Placed
  data : List Placed
  streams : List (Nat × Nat)
  cheap : List CheapEntry
  length : Nat
  digest : Bytes
  domain : Nat
  state : JobState
  endStatus : Status := .ok
  ctrSaved : KMap W32 := []
  started : Bool := false
  saved : KMap SaveRec := []
  savePending : List Nat := []
  cheapWait : List Nat := []
  refused : Nat := 0
  urgent : Bool := false
  saves : Nat := 0
  expiries : Nat := 0
  privUsed : Bool := false
  step : StepState := .none_
  asked : Bool := false
  unload : Bool := false
  endedTiles : NSet := []
  deriving DecidableEq, Repr

/-- A slot of a cycle table (R301). -/
structure Slot where
  us : Nat
  cls : Nat
  spare : Bool
  jobs : NSet
  deriving DecidableEq, Repr

/-- A cycle table (R301), with its bytes as written. -/
structure CycleTable where
  bytes : Bytes
  gen : W32
  slots : List Slot
  deriving DecidableEq, Repr

/-- A partition (R290) and what its table is doing (R303, R314). -/
structure Partition where
  row : Nat
  col : Nat
  rows : Nat
  cols : Nat
  table : Option CycleTable := none
  next : Option CycleTable := none
  slot : Nat := 0
  cycles : Nat := 0
  residents : NSet := []
  granted : NSet := []
  placed : Option (Nat × NSet) := none
  deriving DecidableEq, Repr

/-! ### Host link (12) -/

/-- A port (R316 to R319, R342, R349). `pfc` holds, per lossless priority, whether XOFF was sent, whether transmission is
paused, and whether pause is being ignored. -/
structure PfcState where
  xoff : Bool := false
  paused : Bool := false
  ignoring : Bool := false
  deriving DecidableEq, Repr

structure PortState where
  rate : Nat := 0
  lanes : Byte := 0
  downRaised : Bool := false
  iid : Option W64 := none
  dadTries : Nat := 0
  ready : Bool := false
  pfc0 : PfcState := {}
  pfc1 : PfcState := {}
  deriving DecidableEq, Repr

inductive QpState where
  | reset | rts | error
  deriving DecidableEq, Repr

/-- An operation of the module's own that is outstanding on a queue pair (R320, R321): an output WRITE of so many bytes, a completion
with its context, request ring and index, a host transfer of a gather descriptor, an event's SEND, a READ for a request. -/
inductive OutOp where
  | output (req : W32)
  | completion (req : W32)
  | gather (die : Nat) (id : Nat)
  | event
  | read (req : W32)
  deriving DecidableEq, Repr

/-- A queue pair (R322, R323, R348, R319). -/
structure Qp where
  state : QpState := .reset
  cause : Status := .ok
  port : Port := .a
  flags : Byte := 0
  ctx : Nat := 0
  remoteQpn : BitVec 24 := 0
  sendPsn : BitVec 24 := 0
  recvPsn : BitVec 24 := 0
  rkey : W32 := 0
  ip : Bytes := []
  dscp : Byte := 0
  prio : Byte := 0
  retryCnt : Nat := 0
  timeout : Nat := 0
  rnrRetry : Nat := 0
  tries : Nat := 0
  rnrTries : Nat := 0
  retransmissions : Nat := 0
  out : List OutOp := []
  rateKbps : Nat := 0
  lastCnp : Option Nat := none
  deriving DecidableEq, Repr

/-- A request ring (R327 to R333): setup, counts, its slots' bytes, entries marked cancelled, TAIL doorbells accepted (value
and time, oldest first), whether fetching is stopped (R457). -/
structure ReqRing where
  depthLog : Nat
  ctx : Nat
  link : Nat
  key : W64
  head : W32 := 0
  tail : W32 := 0
  keyFaults : Nat := 0
  slots : KMap Bytes := []
  cancelled : List W32 := []
  tails : List (W32 × Nat) := []
  stopped : Bool := false
  deriving DecidableEq, Repr

/-- A completion ring (R328, R330, R334). -/
structure CompRing where
  depthLog : Nat
  ctx : Nat
  qp : Nat
  key : W64
  hostAddr : W64
  hostRkey : W32
  imm : Bool
  immTag : W16
  written : W32 := 0
  reserved : W32 := 0
  hostHead : W32 := 0
  keyFaults : Nat := 0
  deriving DecidableEq, Repr

/-! ### Tenancy (14) -/

structure Domain where
  live : Bool
  gen : Nat
  deriving DecidableEq, Repr

/-- An entry of a domain's region table (R383). -/
structure RegionEntry where
  domain : Nat
  slot : Nat
  own : Bool
  read : Bool
  write : Bool
  owner : Nat
  base : Nat
  length : Nat
  deriving DecidableEq, Repr

/-- The key a granule was written under (R387 to R389): the draw of K_mem, the domain and its generation. -/
structure KeyTag where
  kmem : Nat
  domain : Nat
  gen : Nat
  deriving DecidableEq, Repr

/-- A run of granules, from `lo` up to and not including `hi`, written under one key; the first span of a list that holds a
granule is the one in force for it. -/
structure KeySpan where
  lo : Nat
  hi : Nat
  tag : KeyTag
  deriving DecidableEq, Repr

/-! ### KOP (13) -/

/-- A reply as sent (R356): what a retransmitted request is answered with again (R361). -/
structure KReply where
  port : Port
  dst : BitVec 128
  type : Byte
  status : Status
  sid : W32
  seq : W32
  payload : Bytes
  tag : Bytes
  deriving DecidableEq, Repr

/-- An open session (R355, R359 to R362, R371, R377). -/
structure Session where
  sid : W32
  role : Nat
  port : Port
  src : BitVec 128
  key : Bytes
  nonce : Bytes
  opened : KReply
  high : W32 := 0
  accepted : List W32 := []
  executing : List W32 := []
  replies : List KReply := []
  last : Nat := 0
  timeout : Nat := 60
  mask : W32 := 0
  ringSel : W32 := 0
  qpSel : Nat := 0
  evSel : W32 := 0
  notifySeq : Nat := 0
  dropped : Nat := 0
  notified : List Nat := []
  slot : Nat := 0
  deriving DecidableEq, Repr

/-- An open block transfer (R367 to R370). -/
structure BlockTransfer where
  sid : W32
  write : Bool
  key : Nat
  total : Nat
  segs : KMap Bytes
  snapshot : Bytes
  last : Nat
  deriving DecidableEq, Repr

/-- A message that waits because an earlier one naming the same object is still at work (R366): its message type (R358), and for a write
the value and the type code it carries. -/
structure Waiter where
  r : Requester
  key : Nat
  msg : Byte
  type : Byte
  v : Bytes
  deriving DecidableEq, Repr

/-- A claim probe in progress (R345): the record, who asked, and whether by CLAIM message or by object write. -/
structure Probe where
  record : Bytes
  r : Requester
  message : Bool
  deriving DecidableEq, Repr

/-- KOP and addressing state of the module controller. `blockEnds` names the block-transfer ENDs whose writes are still at work, each
with its object. -/
structure Kop where
  sessions : List Session := []
  nextSid : W32 := 1
  waiters : List Waiter := []
  transfers : List BlockTransfer := []
  claimed : Bool := false
  owner : BitVec 128 := 0
  record : Bytes := []
  probe : Option Probe := none
  identifies : List KMsg := []
  portActive : Nat := 41870
  poolActive : Nat := 512
  losslessArb : Nat := 0
  blockEnds : List (Requester × Nat) := []
  deriving DecidableEq, Repr

/-! ### Fuses, ledger, power, boot (14, 17, 18, 19) -/

/-- A fuse in programming (R401, R473, R498). -/
inductive FuseJob where
  | seal (r : Requester) (second : Bool)
  | rollback (r : Requester) (target : Nat)
  deriving DecidableEq, Repr

/-- A reset that arrived while a fuse was in programming (R498). -/
inductive Deferred where
  | resetN
  | watchdog
  deriving DecidableEq, Repr

structure Fuses where
  grade : Nat := 1
  arraysOff : NSet := []
  serial : Bytes := List.replicate 16 0x30
  boardIssue : Nat := 1
  made : Nat := 20250101
  macA : Bytes := [0x02, 0, 0, 0, 0, 0x01]
  macB : Bytes := [0x02, 0, 0, 0, 0, 0x02]
  vendorDigest : Bytes := List.replicate 32 0
  akPublic : Bytes := List.replicate 32 0
  akCert : Bytes := List.replicate 7904 0
  dus : Bytes := List.replicate 32 0
  rollback : Nat := 0
  seal0 : Bool := false
  seal1 : Bool := false
  blowing : Option FuseJob := none
  deferred : List Deferred := []
  deriving DecidableEq, Repr

/-- The activation record (R474). -/
structure ActRec where
  slotB : Bool := false
  trial : Bool := false
  attempts : Nat := 0
  activations : Nat := 0
  active : Bytes := List.replicate 32 0
  previous : Bytes := List.replicate 32 0
  deriving DecidableEq, Repr

/-- A copy in a ledger bank (R463, R464); `none` for an erased or invalid bank. -/
structure Copy (α : Type) where
  seq : W32
  body : α
  deriving DecidableEq, Repr

/-- A pair of banks (R462, R465): the two copies, which is in force, and whether the other is being erased. -/
structure Banks (α : Type) where
  bank0 : Option (Copy α) := none
  bank1 : Option (Copy α) := none
  inForce : Option Bool := none
  erasing : Bool := false
  deriving DecidableEq, Repr

/-- What a write of the persisted-object banks will reply to (R354, R395). -/
structure LedgerWrite where
  r : Requester
  key : Nat
  v : Bytes
  body : KMap Bytes
  deriving DecidableEq, Repr

/-- What a write of the activation banks belongs to (R478, R481). -/
inductive ActWrite where
  | activate (r : Requester) (value : Nat) (body : ActRec)
  | confirm (r : Requester) (body : ActRec)
  | revert (r : Requester) (body : ActRec)
  deriving DecidableEq, Repr

/-- A retired resource (R445): a channel, lane, link direction, array, tile or die of a die. -/
inductive Retired where
  | channel (die : Nat) (ch : Nat)
  | lane (die : Nat) (dir : Nat) (lane : Nat)
  | array (tile : Nat)
  | tile (tile : Nat)
  | die (die : Nat)
  deriving DecidableEq, Repr

/-- The ledger: the two bank pairs and the writes under way, the remap log with its failed spares (R418, R419), the retired-resource
map, the fault-log summary (R445) and the slots' bytes by flash offset, 0xFF where unlisted. -/
structure Ledger where
  act : Banks ActRec := { bank0 := some ⟨0, {}⟩, inForce := some false }
  obj : Banks (KMap Bytes) := { bank0 := some ⟨0, []⟩, inForce := some false }
  actWrite : Option ActWrite := none
  objWrite : Option LedgerWrite := none
  objQueue : List LedgerWrite := []
  remaps : List RemapEntry := []
  spent : List (Nat × Nat × Nat) := []
  remapRecords : Nat := 0
  retired : List Retired := []
  retiredRecords : Nat := 0
  sumCounts : KMap Nat := []
  sumRecs : List Bytes := []
  sumPending : List Bytes := []
  coldResets : Nat := 0
  flash : KMap Byte := []
  deriving DecidableEq, Repr

/-- Where the 54 V bus stands (R488). -/
inductive BusBand where
  | none_ | under | low | operating | high | over
  deriving DecidableEq, Repr

/-- Why the module is held in cold reset (R450, R452, R455, R488). -/
inductive Hold where
  | power | resetN | reference | clkSel
  deriving DecidableEq, Repr

structure Power where
  good : Bool := true
  charged : Bool := true
  band : BusBand := .operating
  busMv : Nat := 54000
  hold : List Hold := []
  tripAlert : Bool := false
  coolantHold : Bool := false
  coolantOk : Bool := false
  heldDies : NSet := []
  groups : Nat := 0
  bootSel : BitVec 2 := 0
  clkSel : BitVec 2 := 0
  watts : Nat := 0
  peak : Nat := 0
  inlet : Int := 0
  outlet : Int := 0
  flow : Nat := 0
  deriving DecidableEq, Repr

/-- The TAP of the service connector (R500 to R502) and the boundary register. -/
structure Tap where
  ir : Byte := 0x02
  boundary : Option Byte := none
  debugOpen : Bool := false
  deriving DecidableEq, Repr

/-- A module reset that a KOP reply has announced (R456, R478, R481). -/
inductive ResetKind where
  | warm | cold
  deriving DecidableEq, Repr

/-- Boot modes (R484). -/
inductive BootMode where
  | none_ | slot | network | recovery
  deriving DecidableEq, Repr

/-- Staging states (R475). -/
inductive StageState where
  | none_ | erasing | empty | staging | verifying | verified | failed | activating
  deriving DecidableEq, Repr

structure Staging where
  state : StageState := .none_
  reason : Nat := 0
  targetB : Bool := false
  prepared : Nat := 0
  erased : Nat := 0
  programmed : Nat := 0
  bad : W32 := 0xFFFFFFFF
  deriving DecidableEq, Repr

structure Boot where
  mode : BootMode := .none_
  waiting : Bool := false
  slotB : Bool := false
  manifest : Bytes := []
  image : KMap Byte := []
  measure : List Bytes := List.replicate 8 (List.replicate 32 0)
  measured : NSet := []
  optics : Option Bytes := none
  kmem : Nat := 0
  signing : Option Bytes := none
  report : Option Bytes := none
  reportSeq : Nat := 0
  debugOpened : Bool := false
  ready : W32 := 0
  bringupMs : Nat := 0
  releasedAt : Nat := 0
  stage : Staging := {}
  pendingReset : Option ResetKind := none
  lastReset : Nat := 1
  watchdogRecent : Option Nat := none
  dieResets : List (Nat × Requester) := []
  ctxResets : List (Nat × Requester) := []
  deriving DecidableEq, Repr

/-! ### Services (07 to 10) -/

/-- What a hide record hides (R193): item j of a bin of the version, or a side slot by its number. -/
inductive HideTarget where
  | bin (b : Nat) (j : Nat)
  | side (n : Nat)
  deriving DecidableEq, Repr

structure Hide where
  target : HideTarget
  epoch : Nat
  deriving DecidableEq, Repr

/-- A side-list slot (R191 to R193): its number, epoch, operation, id, attribute word, norm word and
vector. It lies in no addressed memory, so it holds no poison marks (log 50). -/
structure SideSlot where
  num : Nat
  epoch : Nat
  insert : Bool
  id : W64
  attr : W64
  norm : W32
  vec : List W32
  deriving DecidableEq, Repr

/-- A version of a collection (R178, R195, R197): its structures, switch epoch, hides, and the requests that pin it. -/
structure CollVersion where
  num : Nat
  binTable : Nat
  idIndex : Nat
  graphMap : Nat
  bins : Nat
  switchEpoch : Nat
  foldEpoch : Nat
  hides : List Hide
  pins : List W32
  deriving DecidableEq, Repr

/-- A collection (R174, R175, R202). -/
structure Coll where
  job : Nat
  metric : Nat
  shape : Nat
  dim : Nat
  centBf16 : Bool
  dieMask : Nat
  sideCap : Nat
  epoch : Nat
  cur : CollVersion
  old : Option CollVersion
  held : Option FoldRequest
  side : List SideSlot
  sideSeq : Nat
  batch : List W32
  deriving DecidableEq, Repr

/-- A serving version of a table (R214). -/
structure TabVersion where
  num : Nat
  baseA : Nat
  baseB : Nat
  hotSel : Bool
  hotA : List Nat
  hotB : List Nat
  hotBuilt : Bool
  pins : List W32
  deriving DecidableEq, Repr

/-- An entry of a staging log (R217, R218). -/
structure StageEntry where
  seq : W64
  add : Bool
  sub : Nat
  src : Nat
  arrival : Nat
  pos : Nat
  row : Nat
  vals : List W32
  deriving DecidableEq, Repr

/-- States of the staging version (R220). -/
inductive TabStaging where
  | none_ | open_ | building
  deriving DecidableEq, Repr

/-- An embedding table (R204, R220); `logCap` is how many entries its staging log holds, as its image declares (R205, R217). -/
structure ETable where
  job : Nat
  composed : Bool
  fmt : Nat
  dim : Nat
  mulshift : Bool
  shardLog : Nat
  dieMask : Nat
  rowsA : Nat
  rowsB : Nat
  mult : W64
  hotCap : Nat
  hotA : Nat
  hotB : Nat
  service : Bool
  cur : TabVersion
  old : Option TabVersion
  held : Option TabVersion
  built : Option TabVersion
  staging : TabStaging
  logCap : Nat
  log : List StageEntry
  arrivals : Nat
  deriving DecidableEq, Repr

/-- A loaded vocabulary (R223, R230). -/
structure Vocab where
  job : Nat
  dieMask : Nat
  base : Nat
  bytes : Nat
  ids : Nat
  merges : Nat
  pins : List W32
  unloading : Bool
  deriving DecidableEq, Repr

/-- A loaded model (R258). -/
structure Model where
  job : Nat
  kind : Nat
  vocab : Nat
  context : Nat
  streamed : Bool
  textDie : Nat
  outDim : Nat
  maxBatch : Nat
  endIds : List W32
  kvSram : Nat
  kvWait : Nat
  kvRegion : Nat
  weightMib : Nat
  logitDies : Nat
  listRegion : Nat
  kvQueue : List W32
  deriving DecidableEq, Repr

structure Store where
  job : Nat
  vocab : Nat
  passages : Nat
  index : Nat
  deriving DecidableEq, Repr

/-- A loaded template with its tokens (R260, R235). -/
structure Template where
  job : Nat
  vocab : Nat
  tokens : List Nat
  deriving DecidableEq, Repr

structure Grammar where
  job : Nat
  vocab : Nat
  dieMask : Nat
  base : Nat
  bytes : Nat
  states : Nat
  start : Nat
  deriving DecidableEq, Repr

structure PatchSet where
  job : Nat
  model : Nat
  blocks : Nat
  index : Nat
  data : Nat
  pins : List W32
  unloading : Bool
  deriving DecidableEq, Repr

/-- The directive of a step (R241). -/
structure Directive where
  step : Nat
  force : Option Nat
  stop : Bool
  bans : List Nat
  deriving DecidableEq, Repr

/-- A text-engine record (R246): the engine's die, the emitted tokens, the forced run (entry and next tail index), the output
released and held, the stop string matched, the hem state, and the directive delivered. -/
structure TextRec where
  die : Nat
  block : Bytes
  emitted : List Nat
  forcing : Option (Nat × Nat)
  out : Bytes
  held : Bytes
  stop : Option (Nat × Nat)
  hem : Option Nat
  count : Nat
  directive : Option Directive
  limitHit : Bool
  deriving DecidableEq, Repr

/-- Where a request stands (R267). -/
inductive ReqState where
  | fetching | checking | tokenising | stageWait | stage | writing
  deriving DecidableEq, Repr

/-- A lookup in progress (R208 to R212). -/
structure Lookup where
  table : Nat
  version : Nat
  raw : Bool
  home : Nat
  indices : List Nat
  weights : List W32
  poisonIdx : Bool
  deriving DecidableEq, Repr

/-- A search in progress (R184, R190, R195). -/
structure Search where
  coll : Nat
  epoch : Nat
  version : Nat
  query : List W32
  queryPoison : Bool
  result : Option Bytes
  deriving DecidableEq, Repr

/-- A request, update or stage batch in flight, from the fetch of its entry to its completion (R251 to R288, R329 to R334). -/
structure Request where
  ring : Nat
  index : W32
  kind : Nat
  tag : W64
  job : Nat
  block : Bytes
  state : ReqState
  window : Nat
  offset : W64
  length : Nat
  desc : Bytes := []
  conds : List Status := []
  cancelled : Bool := false
  atFetch : Bool := false
  stage : Nat := 0
  lastStage : Nat := 0
  segTokens : List (List Nat) := []
  prompt : List Nat := []
  query : List Nat := []
  qvec : List W32 := []
  lookup : Option Lookup := none
  sketch : List W32 := []
  search : Option Search := none
  rerank : Bytes := []
  packedList : List (List Nat) := []
  packed : Nat := 0
  missing : Nat := 0
  skipped : Nat := 0
  truncated : Bool := false
  nanLogits : Nat := 0
  generated : List Nat := []
  forcedCount : Nat := 0
  text : Option TextRec := none
  allowed : Option (List Nat) := none
  draws : Nat := 0
  kv : Option Nat := none
  prefilled : Bool := false
  patch : Option Nat := none
  vocabPin : Option Nat := none
  stageOutput : Bytes := []
  written : Nat := 0
  outstanding : Nat := 0
  outFailed : Bool := false
  outDone : Bool := false
  resultBytes : Bytes := []
  tailAt : Nat := 0
  ctx : Nat := 0
  cring : Nat := 0
  ringHead : Option W32 := none
  listAt : Option Nat := none
  completing : Bool := false
  deriving DecidableEq, Repr

/-- A job load in progress (R295). -/
structure Load where
  r : Requester
  cmd : Bytes
  domain : Nat
  deriving DecidableEq, Repr

/-- What the module sends out, newest first in `State.sent`: KOP messages, RDMA operations, answers on the wire, TAP data. -/
inductive Sent where
  | kop (m : KReply)
  | notify (sid : W32) (seq : Nat) (payload : Bytes)
  | identifyReply (p : Port) (dst : BitVec 128) (seq : W32) (payload : Bytes)
  | identifyProbe (p : Port) (unit : W16)
  | rdmaWrite (qp : Nat) (va : W64) (rkey : W32) (data : Bytes) (imm : Option W32)
  | rdmaRead (qp : Nat) (va : W64) (rkey : W32) (len : Nat)
  | rdmaSend (qp : Nat) (data : Bytes)
  | ack (qp : Nat)
  | nak (qp : Nat) (invalid : Bool)
  | retransmit (qp : Nat) (packets : Nat)
  | cnp (qp : Nat)
  | pfc (p : Port) (prio : Nat) (xoff : Bool)
  | answer (p : Port) (k : FrameKind)
  | item (q : QueueId) (item : QItem) (poisoned : List Nat)
  | tdo (w : W32)
  deriving DecidableEq, Repr

/-- The state of the module. -/
structure State where
  /-- Commands that wait, first in, first out. -/
  pending : List Instr := []
  /-- Model's own: the number of free values drawn. -/
  free : Nat := 0
  /-- Model's own: what the module has sent, newest first. -/
  sent : List Sent := []
  now : Nat := 0
  cnt : KMap Nat := []
  objs : KMap Bytes := []
  fuses : Fuses := {}
  ledger : Ledger := {}
  power : Power := {}
  tap : Tap := {}
  boot : Boot := {}
  kop : Kop := {}
  portA : PortState := {}
  portB : PortState := {}
  qps : KMap Qp := []
  rings : KMap ReqRing := []
  crings : KMap CompRing := []
  windows : KMap Window := []
  events : KMap Queue := []
  modEvents : Queue := { depth := 1024, overwrite := true }
  flog : Queue := { depth := 4096, overwrite := true }
  flogSeq : Nat := 0
  contexts : KMap Nat := [(0, 0)]
  domains : KMap Domain := [(0, ⟨true, 1⟩)]
  regions : List RegionEntry := []
  fills : List (Requester × RegionEntry) := []
  parts : KMap Partition := []
  jobs : KMap Job := []
  load : Option Load := none
  lastLoad : W32 := 0
  arb : KMap Nat := []
  dies : KMap Die := []
  tiles : KMap Tile := []
  mem : List Host.Cell := []
  poison : NSet := []
  keyed : List KeySpan := []
  pages : List Page := []
  repairs : List Repair := []
  routed : NSet := []
  colls : KMap Coll := []
  tables : KMap ETable := []
  vocabs : KMap Vocab := []
  models : KMap Model := []
  stores : KMap Store := []
  templates : KMap Template := []
  grammars : KMap Grammar := []
  patches : KMap PatchSet := []
  reqs : KMap Request := []
  nextHandle : Nat := 0
  deriving DecidableEq, Repr

/-- A fault stops the model. No command of this block raises one: every refusal, job ending and error the spec describes is an
effect on the state. The one constructor names what would be a fault of the model itself, and nothing raises it (safe). -/
inductive Fault where
  | internal
  deriving DecidableEq, Repr

/-- A refusal: the model gives the command no meaning. Raised by no command but one not modelled yet (safe). -/
inductive Refusal where
  /-- Raised by the dispatch for a command that has no meaning yet, with its mnemonic (safe: the model stops). -/
  | notModelled (mnemonic : String)
  deriving DecidableEq, Repr

/-- The outcome of a command. -/
abbrev Out := Host.Outcome State Fault Refusal

/-- The module as power-good has just released it from cold reset, nothing booted and no die powered (17 R459, row 1.0 ms). -/
def State.reset : State := {}

end Sys2Proof.Machine
end

