-- ==== Sys2Proof/Machine/Ops.lean ====
section
/-! DEFINITION. The shared operations on the state: counters, tiles and dies, addresses, memory with poison and keys, the queue
macro, the fault log, NOTIFY, signal counters, stack requests and pages. -/

namespace Sys2Proof.Machine

/-! ### Status codes (R8, R9) -/

/-- The code of a status (R8). -/
def Status.code : Status → Nat
  | .ok => 0 | .cancelled => 1 | .poisoned => 2 | .degraded => 3 | .hemDead => 4 | .stopped => 5 | .length => 6
  | .refusedFit => 7 | .keyFault => 8 | .retryExhausted => 9 | .abortedFault => 10 | .versionGone => 11
  | .badDescriptor => 12 | .notReady => 13 | .accessDenied => 14 | .rowTooLong => 15

/-- The status a code stands for (R8). -/
def Status.ofCode : Nat → Option Status
  | 0 => some .ok | 1 => some .cancelled | 2 => some .poisoned | 3 => some .degraded | 4 => some .hemDead | 5 => some .stopped
  | 6 => some .length | 7 => some .refusedFit | 8 => some .keyFault | 9 => some .retryExhausted | 10 => some .abortedFault
  | 11 => some .versionGone | 12 => some .badDescriptor | 13 => some .notReady | 14 => some .accessDenied
  | 15 => some .rowTooLong | _ => none

/-- The order of R9, first to last. -/
def statusOrder : List Status :=
  [.badDescriptor, .accessDenied, .keyFault, .notReady, .refusedFit, .rowTooLong, .versionGone, .abortedFault, .retryExhausted,
   .cancelled, .poisoned, .hemDead, .stopped, .length, .degraded, .ok]

/-- The status that is reported when several hold (R9). -/
def firstStatus (conds : List Status) : Status := (statusOrder.find? (fun st => conds.contains st)).getD .ok

/-- The status of a failed transfer (R171, R323). -/
def causeStatus : Cause → Status
  | .accessDenied => .accessDenied
  | .retryExhausted => .retryExhausted

/-! ### Objects and counters -/

/-- The key of an object: index and sub-index (R351). -/
def okey (idx sub : Nat) : Nat := idx * 256 + sub

/-- The key of a per-die object: block offset `k` of die `d` (R375). -/
def dkey (d k sub : Nat) : Nat := okey (0x3000 + 16 * d + k) sub

/-- A 64-bit counter read (R379 and its like). -/
def State.count (s : State) (k : Nat) : Nat := KMap.getOr 0 s.cnt k

/-- A 64-bit counter raised by `n`; it wraps from 2^64 − 1 to zero. -/
def State.bump (s : State) (k n : Nat) : State :=
  if n = 0 then s else { s with cnt := s.cnt.put k ((s.count k + n) % 2 ^ 64) }

/-- A high-water counter (R172). -/
def State.raiseTo (s : State) (k n : Nat) : State := if s.count k < n then { s with cnt := s.cnt.put k n } else s

/-- The counters of one object block from one sub-index to another, set to zero. -/
def State.clearCounts (s : State) (idx lo hi : Nat) : State :=
  { s with cnt := s.cnt.delRange (okey idx lo) (okey idx hi + 1) }

/-- One free number, and the state with the draw counted (log 2). -/
def State.draw (s : State) : Nat × State := (Config.freeNat s.free, { s with free := s.free + 1 })

/-- Packets a message of `n` bytes takes at the path MTU of 4,096 bytes (R320). -/
def packets (n : Nat) : Nat := if n = 0 then 1 else ceilDiv n 4096

/-- The index of a port's objects (R349). -/
def portIndex : Port → Nat
  | .a => 0x2401
  | .b => 0x2402

def State.qpPort (s : State) (q : Nat) : Port := ((KMap.find s.qps q).map (·.port)).getD .a

/-- The port a message leaves by, and its frames; none for what goes out on no port. -/
def State.framesOf (s : State) : Sent → Option (Port × Nat)
  | .kop m => some (m.port, 1)
  | .notify sid _ _ => (s.kop.sessions.find? (fun x => x.sid == sid)).map (fun x => (x.port, 1))
  | .identifyReply p _ _ _ => some (p, 1)
  | .identifyProbe p _ => some (p, 1)
  | .rdmaWrite q _ _ bs _ => some (s.qpPort q, packets bs.length)
  | .rdmaRead q _ _ _ => some (s.qpPort q, 1)
  | .rdmaSend q _ => some (s.qpPort q, 1)
  | .ack q => some (s.qpPort q, 1)
  | .nak q _ => some (s.qpPort q, 1)
  | .retransmit q n => some (s.qpPort q, n)
  | .cnp q => some (s.qpPort q, 1)
  | .pfc p _ _ => some (p, 1)
  | .answer p _ => some (p, 1)
  | .item _ _ _ => none
  | .tdo _ => none

/-- The packet sequence numbers an operation takes on its queue pair (R322, R348). -/
def Sent.psns : Sent → Option (Nat × Nat)
  | .rdmaWrite q _ _ bs _ => some (q, packets bs.length)
  | .rdmaRead q _ _ n => some (q, packets n)
  | .rdmaSend q _ => some (q, 1)
  | _ => none

/-- A message sent: its frames are counted (R349), and its queue pair's next PSN moves on. -/
def State.send (s : State) (m : Sent) : State :=
  let qps := match m.psns with
    | some (q, n) => match KMap.find s.qps q with
      | some x => s.qps.put q { x with sendPsn := x.sendPsn + BitVec.ofNat 24 n }
      | none => s.qps
    | none => s.qps
  let t := { s with sent := m :: s.sent, qps := qps }
  match s.framesOf m with
  | some (p, n) => t.bump (okey (portIndex p) 5) n
  | none => t

/-- The value of an RW or RWP object: what was written, or its default (R352). -/
def State.objNat (s : State) (idx sub dflt : Nat) : Nat :=
  match KMap.find s.objs (okey idx sub) with
  | some v => leNat v
  | none => dflt

/-- The value of an I32 object. -/
def State.objInt (s : State) (idx sub : Nat) (dflt : Int) : Int :=
  match KMap.find s.objs (okey idx sub) with
  | some v => (BitVec.ofNat 32 (leNat v)).toInt
  | none => dflt

/-- Watch cycles in a second (R36). -/
def watchHz : Nat := 25000000

/-! ### Dies and tiles -/

def State.die (s : State) (d : Nat) : Die := KMap.getOr {} s.dies d
def State.setDie (s : State) (d : Nat) (x : Die) : State := { s with dies := s.dies.put d x }
def State.modDie (s : State) (d : Nat) (f : Die → Die) : State := s.setDie d (f (s.die d))

def State.tile (s : State) (t : Nat) : Tile := KMap.getOr {} s.tiles t
def State.setTile (s : State) (t : Nat) (x : Tile) : State := { s with tiles := s.tiles.put t x }
def State.modTile (s : State) (t : Nat) (f : Tile → Tile) : State := s.setTile t (f (s.tile t))

/-- The die of a global tile number, and its number within the die. -/
def dieOf (t : Nat) : Nat := t / 144
def tileOf (t : Nat) : Nat := t % 144

/-- A counter of the tile's die. -/
def State.tbump (s : State) (t k sub n : Nat) : State := s.bump (dkey (dieOf t) k sub) n
def State.dbump (s : State) (d k sub n : Nat) : State := s.bump (dkey d k sub) n

def State.isRetired (s : State) (r : Retired) : Bool := s.ledger.retired.contains r

/-- A tile has a live array: enabled at manufacture and not retired (R2, R67). -/
def State.arrayLive (s : State) (t : Nat) : Bool :=
  !(s.fuses.arraysOff.contains t) && !(s.isRetired (.array t)) && !(s.isRetired (.tile t)) && !(s.isRetired (.die (dieOf t)))

/-- The live channels of a die, ascending (R436). -/
def State.liveChannels (s : State) (d : Nat) : List Nat := (List.range 32).filter (fun c => !(s.isRetired (.channel d c)))

/-- The bytes of stack memory a die addresses (R11, R436). -/
def State.stackBytes (s : State) (d : Nat) : Nat := (s.liveChannels d).length * 0x120000000

/-- The clock of a die is stretched by any cause (R39, R442, R443). -/
def Die.stretched (d : Die) : Bool := d.droop || d.governor || d.throttle

/-- A die under a new set of stretch causes; a stretch that begins is counted (R39). -/
def State.stretch (s : State) (d : Nat) (f : Die → Die) : State :=
  let old := s.die d
  let new := f old
  let s := s.setDie d new
  if !old.stretched && new.stretched then s.dbump d 0 8 1 else s

/-! ### Fabric addresses (R10 to R12, R32) -/

def faDie (a : Nat) : Nat := a / 2 ^ 42
def faSpace (a : Nat) : Nat := a / 2 ^ 40 % 4
def faOff (a : Nat) : Nat := a % 2 ^ 40

/-- The fabric address of a byte of a tile's SRAM (R11). -/
def sramFa (t off : Nat) : Nat := dieOf t * 2 ^ 42 + 2 ^ 40 + tileOf t * 2 ^ 21 + off
/-- The fabric address of a byte of a die's stack memory (R11). -/
def stackFa (d off : Nat) : Nat := d * 2 ^ 42 + off
/-- The global tile and the SRAM offset an address of tile-SRAM space names (R11). -/
def faTile (a : Nat) : Nat := 144 * faDie a + faOff a / 2 ^ 21
def faSram (a : Nat) : Nat := a % 2 ^ 21

/-- Where the accumulator file starts in a tile's SRAM, and where SRAM ends (R11). -/
def accBase : Nat := 0x1C0000
def sramEnd : Nat := 0x200000

/-- The windows of die-control space (R32). -/
def dieControlValid (off : Nat) : Bool :=
  decide (off < 0x09000000) || rangeWithin off 1 0x09000000 0x800 || rangeWithin off 1 0x0A000000 0x900000

/-- A valid fabric address (R12, R32; R436 for a die with retired channels). -/
def State.faValid (s : State) (a : Nat) : Bool :=
  decide (a < 2 ^ 48) &&
  match faSpace a with
  | 0 => decide (faOff a < s.stackBytes (faDie a))
  | 1 => decide (faOff a < 144 * 2 ^ 21)
  | 2 => dieControlValid (faOff a)
  | _ => false

/-- A run of bytes lies within the space of its first byte: its die's stack memory, or its tile's SRAM (R26). -/
def State.faRange (s : State) (a n : Nat) : Bool :=
  s.faValid a && (n == 0 ||
  match faSpace a with
  | 0 => decide (faOff a + n ≤ s.stackBytes (faDie a))
  | 1 => decide (faSram a + n ≤ sramEnd)
  | _ => false)

/-! ### Keys of stack memory (R387 to R389) -/

def State.domainGen (s : State) (d : Nat) : Nat := (KMap.getOr ⟨false, 0⟩ s.domains d).gen

/-- The domain whose OWN entry contains an address; domain 0 where none does (R387). -/
def State.ownerOf (s : State) (a : Nat) : Nat :=
  match s.regions.find? (fun e => e.own && decide (e.base ≤ a) && decide (a < e.base + e.length)) with
  | some e => e.domain
  | none => 0

/-- The key a granule is written and read under now (R387, R389). -/
def State.keyNow (s : State) (g : Nat) : KeyTag :=
  let d := s.ownerOf (g * 256)
  ⟨s.boot.kmem, d, s.domainGen d⟩

/-- The key a granule was last written under; none since the fill (R412). -/
def State.keyAt (s : State) (g : Nat) : Option KeyTag :=
  (s.keyed.find? (fun k => decide (k.lo ≤ g) && decide (g < k.hi))).map (·.tag)

/-- The spans after granules `lo` to `hi − 1` are written under `tag`. -/
def setKey (ks : List KeySpan) (lo hi : Nat) (tag : KeyTag) : List KeySpan :=
  ⟨lo, hi, tag⟩ :: ks.filter (fun k => ¬ (lo ≤ k.lo ∧ k.hi ≤ hi))

/-- Granules of a byte run, by fabric address over 256 (R145). -/
def granulesOf (a n : Nat) : List Nat := if n = 0 then [] else (List.range ((a + n - 1) / 256 - a / 256 + 1)).map (· + a / 256)

/-- One granule written under the key in force for it. -/
def State.keyGranule (s : State) (g : Nat) : State :=
  if s.keyAt g = some (s.keyNow g) then s else { s with keyed := setKey s.keyed g (g + 1) (s.keyNow g) }

/-! ### Bytes with poison (R407, R410, R421) -/

/-- The words, by fabric address over 4, that a byte run touches. -/
def wordsOf (a n : Nat) : List Nat := if n = 0 then [] else (List.range ((a + n - 1) / 4 - a / 4 + 1)).map (· + a / 4)

/-- A word carries a poison mark: in memory, or by a poisoned write-back its controller still owes (R407 to R411). -/
def State.poisonedWord (s : State) (w : Nat) : Bool :=
  s.poison.contains w ||
  (faSpace (4 * w) == 0 &&
    (s.die (faDie (4 * w))).wbs.any (fun b => b.poisoned && !b.cancelled && b.granule == w / 64 && b.sector == w % 64 / 8))

/-- Any byte of a run lies in a poisoned word. -/
def State.poisonedRange (s : State) (a n : Nat) : Bool := (wordsOf a n).any s.poisonedWord

/-- A byte as a reader gets it: stack memory held under another key reads as noise (R389, R412). -/
def State.byteAt (s : State) (a : Nat) : Byte :=
  let raw := Memory.read s.mem a
  if faSpace a ≠ 0 then raw else
  let g := a / 256
  if s.keyAt g = some (s.keyNow g) then raw else
  let k := s.keyNow g
  let w := (s.keyAt g).getD ⟨0, 0, 0⟩
  Config.noise [k.kmem, k.domain, k.gen, w.kmem, w.domain, w.gen, leNat (Memory.reads s.mem (g * 256) 256)] a

def State.bytesAt (s : State) (a n : Nat) : Bytes := (List.range n).map (fun i => s.byteAt (a + i))
def State.natAt (s : State) (a n : Nat) : Nat := leNat (s.bytesAt a n)

/-- The marks of the words a run touches, in order. -/
def State.marksAt (s : State) (a n : Nat) : List Bool := (wordsOf a n).map s.poisonedWord

/-- Valid bits of accumulator elements that a write to a tile's SRAM sets (R54). -/
def markValid (vs : NSet) (off n : Nat) : NSet :=
  (wordsOf off n).foldl (fun vs w => if accBase / 4 ≤ w then NSet.add vs (w - accBase / 4) else vs) vs

/-- Poison marks after a write: a word wholly written takes the mark of its data, a word partly written keeps an old mark. -/
def markPoison (ps : NSet) (a n : Nat) (marks : List Bool) : NSet :=
  ((wordsOf a n).zip marks).foldl (fun ps (w, p) =>
    if p then NSet.add ps w else if a ≤ 4 * w ∧ 4 * w + 4 ≤ a + n then NSet.del ps w else ps) ps

/-- The sectors of a run that hold a poisoned word are poisoned whole (R407). -/
def widenSectors (ps : NSet) (a n : Nat) (marks : List Bool) : NSet :=
  ((wordsOf a n).zip marks).foldl (fun ps (w, p) => if p then NSet.addRange ps (w / 8 * 8) 8 else ps) ps

/-- Sectors of a run that hold a marked word (R407). -/
def markedSectors (a n : Nat) (marks : List Bool) : List Nat :=
  ((((wordsOf a n).zip marks).filter (·.2)).map (fun e => e.1 / 8)).dedup

/-- Write-backs an SRAM bank owes, after a port has written a byte run: those of its words are to be discarded (R411). -/
def cancelSram (ws : List SramWb) (a n : Nat) : List SramWb :=
  ws.map (fun w => if w.unit ≠ 32 ∧ rangesMeet (8 * w.word) 8 a n then { w with cancelled := true } else w)

def State.cancelWbs (s : State) (a n : Nat) : State :=
  if (s.tile (faTile a)).sramWb = [] then s else s.modTile (faTile a) (fun x => { x with sramWb := cancelSram x.sramWb a n })

/-- A write of bytes with the marks of their words. A write to stack memory takes the key of its domain, widens poison to whole
sectors and cancels write-backs owed to its granules (R387, R407, R409); a write to an accumulator file sets valid bits (R54). -/
def State.store (s : State) (a : Nat) (bs : Bytes) (marks : List Bool) : State :=
  let n := bs.length
  let s := { s with mem := Memory.writes s.mem a bs, poison := markPoison s.poison a n marks }
  if faSpace a = 0 then
    let s := { s with poison := widenSectors s.poison a n marks }
    let gs := granulesOf a n
    let s := gs.foldl State.keyGranule s
    let d := faDie a
    let s := if (s.die d).wbs.any (fun b => gs.contains b.granule) then
        s.modDie d (fun x => { x with wbs := x.wbs.map (fun b => if gs.contains b.granule then { b with cancelled := true } else b) })
      else s
    (s.dbump d 3 4 (markedSectors a n marks).length).dbump d 9 2 gs.length
  else
    let t := faTile a
    let s := s.cancelWbs a n
    if faSram a + n ≤ accBase then s else
      s.modTile t (fun x => { x with accValid := markValid x.accValid (faSram a) n })

/-- A write of clean bytes. -/
def State.storeClean (s : State) (a : Nat) (bs : Bytes) : State := s.store a bs ((wordsOf a bs.length).map (fun _ => false))

/-- Bytes copied with their marks (R421). -/
def State.copy (s : State) (src dst n : Nat) : State := s.store dst (s.bytesAt src n) (s.marksAt src n)

/-- A run set to clean zeros: bytes and marks (R391, R412). -/
def State.zeroRange (s : State) (a n : Nat) : State :=
  { s with mem := Memory.zero s.mem a n, poison := NSet.delRange s.poison (a / 4) ((a + n) / 4) }

/-! ### The queue macro (R113 to R119) -/

/-- Items of a lost packet are discarded as they reach the head (R118). -/
def Queue.settle (q : Queue) : List QItem → Queue
  | [] => { q with items := [] }
  | i :: r =>
    if q.dropping then Queue.settle { q with lost := q.lost + 1, dropping := !i.last } r else { q with items := i :: r }

/-- A write: refused by a full instance under hold (R117), over the oldest item under overwrite-oldest (R118). -/
def Queue.write (q : Queue) (i : QItem) : Option Queue :=
  if q.items.length < q.depth then some (Queue.settle q (q.items ++ [i]))
  else if q.overwrite then
    match q.items with
    | [] => some q
    | o :: r => some (Queue.settle { q with lost := q.lost + 1, dropping := !o.last } (r ++ [i]))
  else none

/-- The rinse bit (R116). -/
def Queue.rinse (q : Queue) : Queue := { q with items := [], dropping := false, rinses := q.rinses + 1 }

/-- Waiting end-marked items (R114). -/
def Queue.packets (q : Queue) : Nat := (q.items.filter (·.last)).length

/-- An item of 64-bit segments from bytes. -/
def QItem.ofBytes (bs : Bytes) : QItem :=
  ⟨(List.range (bs.length / 8)).map (fun i => BitVec.ofNat 64 (field bs (8 * i) 8)), true⟩
def QItem.bytes (i : QItem) : Bytes := i.segs.flatMap (fun w => leBytes 8 w.toNat)

/-! ### NOTIFY (R371) -/

/-- One NOTIFY to one session, or one more drop beyond 1,000 in a second. -/
def notifySession (s : State) (sn : Session) (cls : Nat) (body : Bytes) : Session × State :=
  let recent := sn.notified.filter (fun t => decide (s.now < t + watchHz))
  if recent.length ≥ 1000 then ({ sn with notified := recent, dropped := sn.dropped + 1 }, s.bump (okey 0x1110 0x0B) 1)
  else
    let sq := sn.notifySeq + 1
    let payload := [BitVec.ofNat 8 cls, 0] ++ leBytes 2 (min sn.dropped 0xFFFF) ++ [0, 0, 0, 0] ++ body
    ({ sn with notified := recent ++ [s.now], dropped := 0, notifySeq := sq }, s.send (.notify sn.sid sq payload))

/-- A NOTIFY of a class to every session subscribed to it, in the order the sessions opened. -/
def notifyAll (s : State) (cls : Nat) (body : Bytes) : List Session → List Session × State
  | [] => ([], s)
  | sn :: r =>
    let (sn, s) := if bit sn.mask.toNat cls then notifySession s sn cls body else (sn, s)
    let (r, s) := notifyAll s cls body r
    (sn :: r, s)

def State.notify (s : State) (cls : Nat) (body : Bytes) : State :=
  let (sns, s) := notifyAll s cls body s.kop.sessions
  { s with kop := { s.kop with sessions := sns } }

/-- A readiness NOTIFY (R371 class 0x01). -/
def State.notifyReady (s : State) (idx sub v : Nat) : State :=
  s.notify 1 (leBytes 2 idx ++ leBytes 1 sub ++ List.replicate 5 0 ++ leBytes 8 v)

/-- A job-state NOTIFY (R371 class 0x03). -/
def State.notifyJob (s : State) (j st endSt : Nat) : State :=
  s.notify 3 (leBytes 1 j ++ leBytes 1 st ++ leBytes 1 endSt ++ List.replicate 5 0)

/-! ### The fault log (R444, R445) -/

/-- A fault-log record's fields (R444). -/
structure LogRec where
  status : Status := .ok
  kind : Nat
  resource : Nat
  die : Nat := 0xFF
  tile : Nat := 0xFFFF
  unit : Nat := 0xFF
  sub : Nat := 0xFF
  row : Nat := 0xFFFFFFFF
  fa : Nat := 0
  job : Nat := 0xFFFF
  req : Nat := 0xFFFFFFFF
  count : Nat := 0
  reason : Nat := 0
  item : Bytes := []

/-- The 64 bytes of a record (R444). -/
def LogRec.bytes (r : LogRec) (sq now : Nat) : Bytes :=
  leBytes 4 sq ++ leBytes 1 r.status.code ++ leBytes 1 r.kind ++ leBytes 1 r.resource ++ leBytes 1 r.die ++ leBytes 8 now ++
  leBytes 2 r.tile ++ leBytes 1 r.unit ++ leBytes 1 r.sub ++ leBytes 4 r.row ++ leBytes 6 r.fa ++ leBytes 2 r.job ++
  leBytes 4 r.req ++ leBytes 4 r.count ++ leBytes 1 r.reason ++ [0, 0, 0] ++ slice r.item 0 16 ++ [0, 0, 0, 0]

/-- The kinds whose records the ledger keeps (R445). -/
def keptKind (k : Nat) : Bool := [5, 6, 9, 0x0A, 0x0B].contains k

/-- One record: into the log, to subscribed sessions, and toward the ledger summary (R371, R444, R445). -/
def State.log (s : State) (r : LogRec) : State :=
  let bs := r.bytes (s.flogSeq + 1) s.now
  let q := (s.flog.write (QItem.ofBytes bs)).getD s.flog
  let s := { s with flog := q, flogSeq := s.flogSeq + 1, ledger := { s.ledger with sumPending := s.ledger.sumPending ++ [bs] } }
  s.notify 2 bs

/-! ### Jobs -/

def State.job? (s : State) (j : Nat) : Option Job := KMap.find s.jobs j
def State.setJob (s : State) (j : Nat) (x : Job) : State := { s with jobs := s.jobs.put j x }
def State.modJob (s : State) (j : Nat) (f : Job → Job) : State :=
  match s.job? j with
  | some x => s.setJob j (f x)
  | none => s

/-- Admitted jobs that hold their resources: every one but the ENDED (R506). -/
def State.holders (s : State) : List (Nat × Job) := s.jobs.filter (fun e => e.2.state ≠ .ended)

/-- A job's declaration of a tile (R293). -/
def Job.tileDecl (j : Job) (t : Nat) : Option TileDecl := j.tiles.find? (fun d => d.tile == t)

/-- A byte run of a tile's SRAM lies within the job's declared SRAM (R293). -/
def Job.ownsSram (j : Job) (t off n : Nat) : Bool :=
  match j.tileDecl t with
  | some d => rangeWithin off n (d.first * 4096) (d.count * 4096)
  | none => false

def RegionDecl.bytes (r : RegionDecl) : Nat := r.pages * 2 ^ r.log2

/-- A byte run of stack memory lies within one declared region of a kind that `ok` accepts (R26). -/
def Job.ownsStack (j : Job) (ok : Nat → Bool) (a n : Nat) : Bool :=
  j.regions.any (fun r => ok r.kind && rangeWithin a n r.base r.bytes)

/-- Every 4 KiB unit of a byte run lies in some declared region of an accepted kind. -/
def Job.ownsRange (j : Job) (ok : Nat → Bool) (a n : Nat) : Bool :=
  (List.range ((a + n - 1) / 4096 - a / 4096 + 1)).all (fun i =>
    let lo := max a ((a / 4096 + i) * 4096)
    j.ownsStack ok lo 1)

/-- The job may read a byte run (R26). -/
def Job.mayRead (j : Job) (a n : Nat) : Bool :=
  match faSpace a with
  | 0 => j.ownsRange (fun _ => true) a n
  | 1 => j.ownsSram (faTile a) (faSram a) n
  | _ => false

/-- The job may write a byte run: its own tiles' SRAM or an append region (R26, R30, R294). -/
def Job.mayWrite (j : Job) (a n : Nat) : Bool :=
  match faSpace a with
  | 0 => j.ownsRange (· == 2) a n
  | 1 => j.ownsSram (faTile a) (faSram a) n
  | _ => false

/-- The job is resident: its tiles run it, or run on to a cheap point (R298, R308). -/
def Job.resident? (j : Job) : Bool := j.state == .running || j.state == .saving

/-- The job whose sequencer on a tile can execute its next instruction: the tile runs, its job runs or runs on to a cheap point,
and the sequencer neither waits nor has ended. -/
def State.seqJob (s : State) (t : Nat) : Option Nat :=
  let x := s.tile t
  match x.power, x.job, x.seqWait with
  | .running, some j, none =>
    match s.job? j with
    | some jb =>
      if jb.endedTiles.contains t then none
      else if jb.state = .running ∨ (jb.state = .saving ∧ jb.cheapWait.contains t) then some j else none
    | none => none
  | _, _, _ => none

/-- A tile works: it is Running, and its job is RUNNING, or runs on there to a cheap point (R298, R304, R308). -/
def State.tileWorks (s : State) (t : Nat) : Bool :=
  let x := s.tile t
  x.power == .running &&
  match x.job.bind s.job? with
  | some jb => jb.state == .running || (jb.state == .saving && jb.cheapWait.contains t)
  | none => false

/-- What a tile's sequencer waits for. -/
def State.await (s : State) (t : Nat) (w : SeqWait) : State := s.modTile t (fun x => { x with seqWait := some w })
/-- A tile's sequencer goes on. -/
def State.resume (s : State) (t : Nat) : State := s.modTile t (fun x => { x with seqWait := none })

/-- A general register read; gpr[0] reads as zero (R95). -/
def Tile.g (x : Tile) (r : Nat) : W64 := if r = 0 then 0 else KMap.getOr 0 x.gpr r
def Tile.gp (x : Tile) (r : Nat) : Bool := r ≠ 0 && x.gprPoison.contains r
/-- A general register written with its poison mark; writes to gpr[0] are discarded (R95). -/
def Tile.setG (x : Tile) (r : Nat) (v : W64) (p : Bool) : Tile :=
  if r = 0 then x else
  { x with gpr := if v = 0 then x.gpr.del r else x.gpr.put r v,
           gprPoison := if p then NSet.add x.gprPoison r else NSet.del x.gprPoison r }

/-! ### Signal counters (R28, R34, R35) -/

def Die.signal (d : Die) (c : Nat) : W32 := KMap.getOr 0 d.sig c

/-- The admitted jobs an issuer's signal on a counter is meant for: the issuer if it declares the counter, and jobs that share it
with the issuer as producer (R294, R35). -/
def State.signalTargets (s : State) (issuer d c : Nat) : List (Nat × Job) :=
  s.holders.filter (fun (h, j) => j.counters.any (fun e =>
    e.die == d && e.idx == c && (h == issuer || (e.shared && e.producer == issuer))))

/-- One increment: applied while a job it is meant for is resident, or where no job declares the counter; else held for each
such job (R28, R35). -/
def State.signal (s : State) (issuer d c : Nat) : State :=
  let ts := s.signalTargets issuer d c
  if ts = [] ∨ ts.any (fun e => e.2.resident?) then
    s.modDie d (fun x => { x with sig := x.sig.put c (x.signal c + 1) })
  else s.modDie d (fun x => { x with sigHeld := x.sigHeld ++ ts.map (fun e => (e.1, c)) })

/-! ### Pages (R154 to R158) -/

/-- The record of the page that holds an address. -/
def State.page? (s : State) (a : Nat) : Option Page :=
  s.pages.find? (fun p => decide (p.base ≤ a) && decide (a < p.base + 2 ^ p.log2))

def State.sealedAt (s : State) (a : Nat) : Bool :=
  match s.page? a with
  | some p => p.st == .sealed_
  | none => false

/-- Every page a byte run touches is SEALED. -/
def State.sealedRange (s : State) (a n : Nat) : Bool :=
  (List.range ((a + n - 1) / 4096 - a / 4096 + 1)).all (fun i => s.sealedAt ((a / 4096 + i) * 4096))

/-- No page a byte run touches is SEALED. -/
def State.writableRange (s : State) (a n : Nat) : Bool :=
  (List.range ((a + n - 1) / 4096 - a / 4096 + 1)).all (fun i => !(s.sealedAt ((a / 4096 + i) * 4096)))

/-- The page, by base and size, that a declared region of a job gives an address. -/
def Job.pageOf (j : Job) (a : Nat) : Option (Nat × Nat) :=
  (j.regions.find? (fun r => r.kind ≠ 1 && decide (r.base ≤ a) && decide (a < r.base + r.bytes))).map (fun r =>
    (r.base + (a - r.base) / 2 ^ r.log2 * 2 ^ r.log2, r.log2))

/-- One page recorded in a state. -/
def setPage (ps : List Page) (base log2 : Nat) (st : PageState) : List Page :=
  ⟨base, log2, st, false⟩ :: ps.filter (fun p => p.base ≠ base)

/-- The first write to a FREE page makes it OPEN (R154). -/
def State.openPage (s : State) (j : Nat) (a : Nat) : State :=
  match (s.job? j).bind (fun jb => jb.pageOf a) with
  | some (b, l) =>
    match s.page? a with
    | some _ => s
    | none => { s with pages := setPage s.pages b l .open_ }
  | none => s

/-- Every page a byte run touches becomes OPEN where it was FREE. -/
def State.openRange (s : State) (j a n : Nat) : State :=
  (List.range ((a + n - 1) / 4096 - a / 4096 + 1)).foldl (fun s i => s.openPage j (max a ((a / 4096 + i) * 4096))) s

/-- Pages of a byte run set SEALED; the count is of pages newly sealed (R156, R172). -/
def State.sealPages (s : State) (bases : List Nat) (log2 : Nat) : State :=
  bases.foldl (fun s b =>
    if s.sealedAt b then s else
      ({ s with pages := setPage s.pages b log2 .sealed_ } : State).dbump (faDie b) 9 0x0B 1) s

/-- Pages of a byte run returned to FREE: no record is left of them. -/
def State.freePages (s : State) (a n : Nat) : State :=
  { s with pages := s.pages.filter (fun p => !(rangesMeet p.base (2 ^ p.log2) a n)) }

/-- A region's pages, by base. -/
def RegionDecl.pageBases (r : RegionDecl) : List Nat := (List.range r.pages).map (fun i => r.base + i * 2 ^ r.log2)

/-! ### Stack requests (R146, R148 to R150) -/

/-- The channel and bank of a stack offset (R146; R436 with retired channels). -/
def State.chanOf (s : State) (d off : Nat) : Nat × Nat :=
  let g := off / 256
  let live := s.liveChannels d
  if live.length = 32 then
    let l := g / 32
    ((g % 32) ^^^ (g / 1024 % 32), (l / 8 % 16) ^^^ (l / 2 ^ 15 % 16))
  else
    let k := g % live.length
    let l := g / live.length
    (live.getD ((k + l / 32) % live.length) 0, (l / 8 % 16) ^^^ (l / 2 ^ 15 % 16))

/-- The row of a stack offset within its bank (R146, R436). -/
def State.rowOf (s : State) (d off : Nat) : Nat :=
  let n := (s.liveChannels d).length
  off / 256 / (if n = 32 then 32 else n) / 128

/-- The requesters of a channel in the order of R313. -/
def reqFeeder (t : Nat) : Nat := tileOf t
def reqMove (t : Nat) : Nat := 144 + tileOf t
def reqCache (t : Nat) : Nat := 288 + tileOf t
def reqGather : Nat := 432
def reqText : Nat := 433
def reqLint : Nat := 434

/-- The link port of a die through which requests from another die arrive: row first, then column (R22, R150). -/
def reqLink (src dst : Nat) : Nat :=
  if src / 8 < dst / 8 then 435 else if dst / 8 < src / 8 then 437
  else if src % 8 < dst % 8 then 438 else 436

/-- Granule requests put into the issue queue of a requester of die `d` (R150). -/
def State.enqueue (s : State) (d requester : Nat) (write : Bool) (gs : List Nat) : State :=
  if gs = [] then s else
  s.modDie d (fun x =>
    let q := KMap.getOr [] x.issueQ requester ++ gs.map (fun g => ({ granule := g, write := write, requester := requester } : StackReq))
    { x with issueQ := KMap.put x.issueQ requester q })

/-- Requests for the granules of a byte run of stack memory, by a unit of die `src`; a run elsewhere asks for none. -/
def State.request (s : State) (src own : Nat) (write : Bool) (a n : Nat) : State :=
  if faSpace a ≠ 0 then s else
  let d := faDie a
  s.enqueue d (if d = src then own else reqLink src d) write (granulesOf a n)

/-- A granule of a byte run still waits in an issue queue or a slot of its die. -/
def State.outstanding (s : State) (write : Bool) (a n : Nat) : Bool :=
  if faSpace a ≠ 0 ∨ n = 0 then false else
  let d := s.die (faDie a)
  let hit := fun (r : StackReq) => r.write == write && decide (a / 256 ≤ r.granule) && decide (r.granule ≤ (a + n - 1) / 256)
  d.issueQ.any (fun e => e.2.any hit) || d.slots.any (fun e => e.2.any hit)

/-! ### Streams: arrival bits (R163) -/

/-- The window of a running schedule: offset and size (R160). -/
def State.window (s : State) (t : Nat) : Option (Nat × Nat) :=
  (s.tile t).stream.map (fun st => (s.natAt (sramFa t (st.hdr + 12)) 3, s.natAt (sramFa t (st.hdr + 16)) 3))

/-- A read of a tile's scratchpad must wait for the feeder (R163). -/
def State.notArrived (s : State) (t off n : Nat) : Bool :=
  match s.window t with
  | some (b, len) =>
    n ≠ 0 && (List.range ((off + n - 1) / 64 - off / 64 + 1)).any (fun i =>
      let u := off / 64 + i
      decide (b ≤ u * 64) && decide (u * 64 < b + len) && !((s.tile t).arrived.contains u))
  | none => false

/-! ### Accumulator tiles (R57, R58) -/

def Tile.accState (x : Tile) (a : Nat) : AccState := KMap.getOr .free x.accSt a

/-- The accumulator tiles a byte run of SRAM touches (R56). -/
def accTilesOf (off n : Nat) : List Nat :=
  if n = 0 ∨ off + n ≤ accBase then [] else
  let lo := (max off accBase - accBase) / 4096
  (List.range ((off + n - 1 - accBase) / 4096 - lo + 1)).map (· + lo)

/-- The accumulator tiles a pass uses: one, or in scan mode ceil(B·q/1,024) from its first (R47, R62). -/
def passTiles (d : Bytes) : List Nat :=
  let acc := field d 11 1 % 64
  if bit (field d 3 1) 2 then
    let q := 64 / 2 ^ (field d 3 1 % 4)
    (List.range (ceilDiv (field d 24 2 * q) 1024)).map (· + acc)
  else [acc]

def passDrains (d : Bytes) : Bool := bit (field d 15 1) 1

/-- How an access to the accumulator file stands (R58): it proceeds, it waits, or it can never proceed. -/
inductive AccAccess where
  | go | wait | dead
  deriving DecidableEq, Repr

def Tile.accAccess (x : Tile) (off n : Nat) : AccAccess :=
  let busy := (accTilesOf off n).filter (fun a => x.accState a ≠ .free)
  if busy = [] then .go
  else
    let passes := x.passQ ++ x.passDone ++ (x.passRun.map (·.desc)).toList
    if busy.all (fun a => x.accState a == .draining || passes.any (fun d => passDrains d && (passTiles d).contains a)) then .wait
    else .dead

end Sys2Proof.Machine
end

