-- ==== Sys2Proof/Machine/Requests.lean ====
section
/-! DEFINITION. What ends a request before its ordinary end: its status is noted and it goes to WRITING (10 R267, R268); and
the release of what it pinned, once its completion is written (10 R285). -/

namespace Sys2Proof.Machine

def State.req? (s : State) (r : W32) : Option Request := KMap.find s.reqs r.toNat
def State.setReq (s : State) (r : W32) (x : Request) : State := { s with reqs := s.reqs.put r.toNat x }
def State.modReq (s : State) (r : W32) (f : Request → Request) : State :=
  match s.req? r with
  | some x => s.setReq r (f x)
  | none => s

/-- A list of pins without one request. -/
def unpin (ps : List W32) (r : W32) : List W32 := ps.filter (· ≠ r)

/-- A version of a collection, and one of a table, without a request's pin. -/
def CollVersion.unpin (v : CollVersion) (r : W32) : CollVersion := { v with pins := Machine.unpin v.pins r }
def TabVersion.unpin (v : TabVersion) (r : W32) : TabVersion := { v with pins := Machine.unpin v.pins r }

/-- Every pin of a request released: those of a version, a vocabulary, a patch set (07 R196, 08 R214, 09 R230, 10 R281, R285). -/
def State.unpinAll (s : State) (r : W32) : State :=
  { s with colls := s.colls.map (fun (h, c) => (h, { c with cur := c.cur.unpin r, old := c.old.map (·.unpin r) })),
           tables := s.tables.map (fun (h, t) => (h, { t with cur := t.cur.unpin r, old := t.old.map (·.unpin r) })),
           vocabs := (s.vocabs.map (fun (h, v) => (h, { v with pins := unpin v.pins r }))).filter (fun e =>
             !(e.2.unloading && e.2.pins.isEmpty)),
           patches := (s.patches.map (fun (h, p) => (h, { p with pins := unpin p.pins r }))).filter (fun e =>
             !(e.2.unloading && e.2.pins.isEmpty)) }

/-- A request taken out of the batch or KV queue it waits in (07 R187, 10 R284). -/
def State.leaveQueues (s : State) (r : W32) : State :=
  { s with colls := s.colls.map (fun (h, c) => (h, { c with batch := unpin c.batch r })),
           models := s.models.map (fun (h, m) => (h, { m with kvQueue := unpin m.kvQueue r })) }

/-- A request that has not ended. -/
def Request.live (x : Request) : Bool := x.state ≠ .writing

/-- A condition noted on a request (R9). -/
def Request.note (x : Request) (st : Status) : Request := if x.conds.contains st then x else { x with conds := x.conds ++ [st] }

/-- A request ended with a status (R267): it goes to WRITING and keeps its pins, record and pages until its completion is written
(R285). One that has already ended keeps its ending. -/
def State.failReq (s : State) (r : W32) (st : Status) : State :=
  match s.req? r with
  | some x =>
    if x.live then (s.leaveQueues r).setReq r { x.note st with state := .writing, lookup := none, lastStage := x.stage } else s
  | none => s

/-- The requests in flight at a job: those whose present stage, update or batch it serves (R299). -/
def State.reqsAt (s : State) (j : Nat) : List W32 :=
  (s.reqs.filter (fun e => e.2.job = j ∧ e.2.live)).map (fun e => BitVec.ofNat 32 e.1)

/-- Every request a job was serving ended with one status (R26, R171). -/
def State.failReqs (s : State) (j : Nat) (st : Status) : State := (s.reqsAt j).foldl (fun s r => s.failReq r st) s

/-- The requests in flight at a job that ends (R299): a search, and every request where the job ended OK, completes VERSION_GONE
(07 R176, R254). -/
def State.endReqs (s : State) (j : Nat) (st : Status) : State :=
  (s.reqsAt j).foldl (fun s r =>
    let search : Bool := match s.req? r with | some x => x.kind == 1 && x.stage == 2 | none => false
    s.failReq r (if st = .ok ∨ search then .versionGone else st)) s

/-! ### Operations in flight on a queue pair (12 R320, R321) -/

/-- The status of a transfer that a queue pair cannot carry: its recorded cause (R171, R323). -/
def State.qpCause (s : State) (q : Nat) : Option Status :=
  match KMap.find s.qps q with
  | some x => match x.state with
    | .rts => none
    | .error => some x.cause
    | .reset => some .retryExhausted
  | none => some .retryExhausted

/-- An operation put in flight on a queue pair (R320, R321). -/
def State.addOut (s : State) (q : Nat) (o : OutOp) : State :=
  match KMap.find s.qps q with
  | some x => { s with qps := s.qps.put q { x with out := x.out ++ [o] } }
  | none => s

/-- An operation of a queue pair that is no longer in flight. -/
def State.dropOut (s : State) (q : Nat) (o : OutOp) : State :=
  match KMap.find s.qps q with
  | some x => { s with qps := s.qps.put q { x with out := x.out.erase o } }
  | none => s

/-- No READ of a request is in flight any more. -/
def State.dropReads (s : State) (r : W32) : State :=
  { s with qps := s.qps.map (fun e => (e.1, { e.2 with out := e.2.out.filter (· ≠ .read r) })) }

end Sys2Proof.Machine
end

