-- ==== Sys2Proof/Machine/Ends.lean ====
section
/-! DEFINITION. Zeroing a tile (14 R391), ending a job (11 R299), and the refusals that end one (01 R26, 04 R100, 15 R422). -/

namespace Sys2Proof.Machine

/-- An array event on a tile (16 R428, R432). -/
def State.arrayEvent (s : State) (t : Nat) : State :=
  let d := dieOf t
  (s.modDie d (fun x => { x with events := x.events ++ [⟨.array ⟨tileOf t, Nat.mod_lt _ (by decide)⟩, s.now⟩] })).dbump d 4 5 1

/-- The known-answer test of a live array: it finds no, one or two mismatches, which only the hardware decides (16 R428). -/
def State.knownAnswer (s : State) (t : Nat) : State :=
  if !(s.arrayLive t) then s else
  let (v, s) := s.draw
  if v % 3 = 0 then s else if v % 3 = 1 then s.arrayEvent t else (s.arrayEvent t).arrayEvent t

/-- A tile zeroed (14 R391; 02 R66; 04 R112, R123; 05 R140): SRAM and its marks, caches, registers, array, vector and selection
state, hamper, move queue, stream and gather descriptors. It stays with its power state and its job. -/
def State.blankTile (s : State) (t : Nat) : State :=
  let x := s.tile t
  let s := s.zeroRange (sramFa t 0) sramEnd
  let s := s.setTile t { power := x.power, job := x.job, hamper := x.hamper.rinse, lintRow := x.lintRow }
  let d := dieOf t
  let mine := fun q => q == reqFeeder t || q == reqMove t || q == reqCache t
  let s := s.modDie d (fun y => { y with
    gathers := y.gathers.filter (fun g => g.tile ≠ t), issueQ := y.issueQ.filter (fun e => !(mine e.1)) })
  (s.tbump t 7 6 1).knownAnswer t

/-- A tile zeroed as it passes from one job to another, which is counted (14 R392, R403). -/
def State.zeroTile (s : State) (t : Nat) : State := (s.blankTile t).bump (okey 0x2320 9) 1

/-- A tile that no admitted job declares goes Off and loses its SRAM (01 R37). -/
def State.powerOffIdle (s : State) (t : Nat) : State :=
  if s.holders.any (fun e => (e.2.tileDecl t).isSome) then s else
    (s.zeroRange (sramFa t 0) sramEnd).setTile t { power := .off, hamper := (s.tile t).hamper, lintRow := 0 }

/-- The pages of a job at its ending: OPEN append pages become untracked, SAVE and CODE regions are recycled (11 R299). -/
def endPages (ps : List Page) (rs : List RegionDecl) : List Page :=
  ps.filter (fun p => !(rs.any (fun r =>
    (r.kind == 2 && p.st == .open_ || r.kind == 3 || r.kind == 4) && rangesMeet p.base (2 ^ p.log2) r.base r.bytes)))

/-- What a job served is no longer loaded (07 R176, 08 R209, 10 R254, 16 R439); a vocabulary or a patch set stays while it is pinned
(09 R230, 10 R281). -/
def State.dropServices (s : State) (j : Nat) : State :=
  { s with colls := s.colls.filter (fun e => e.2.job ≠ j), tables := s.tables.filter (fun e => e.2.job ≠ j),
           models := s.models.filter (fun e => e.2.job ≠ j), stores := s.stores.filter (fun e => e.2.job ≠ j),
           templates := s.templates.filter (fun e => e.2.job ≠ j), grammars := s.grammars.filter (fun e => e.2.job ≠ j),
           vocabs := (s.vocabs.filter (fun e => e.2.job ≠ j || !e.2.pins.isEmpty)).map (fun (h, v) =>
             (h, { v with unloading := v.unloading || v.job == j })),
           patches := (s.patches.filter (fun e => e.2.job ≠ j || !e.2.pins.isEmpty)).map (fun (h, p) =>
             (h, { p with unloading := p.unloading || p.job == j })) }

/-- The bytes landed by feeders of a tile and never released (06 R164, R172): those of the entries arrived and unreleased. -/
def State.unusedStream (s : State) (t : Nat) : Nat :=
  match (s.tile t).stream with
  | some st => (st.arrived.map (fun i =>
      let h := st.hdr
      let n := s.natAt (sramFa t h) 4
      let loop := s.natAt (sramFa t (h + 8)) 4
      let k := if i < n then i else loop + (i - n) % (n - loop)
      s.natAt (sramFa t (h + 32 + 32 * k + 12)) 4)).sum
  | none => 0

/-- Increments held for a job go with it (R35). -/
def State.dropHeld (s : State) (j : Nat) : State :=
  { s with dies := s.dies.map (fun e => (e.1, { e.2 with sigHeld := e.2.sigHeld.filter (fun h => h.1 ≠ j) })) }

/-- A job ends (11 R299, R506): the requests in flight at it complete with the status, its tiles are zeroed and leave it, its
pages and services go, and it is ENDED, or gone where an unload waited for it (R299). An ending that a rule of the manual brings about is logged (log 12). -/
def State.endJob (s : State) (j : Nat) (st : Status) : State :=
  match s.job? j with
  | none => s
  | some jb =>
    if jb.state = .ended then s else
    let s := s.endReqs j st
    let held := (jb.tiles.map (·.tile)).filter (fun t => (s.tile t).job == some j)
    let s := held.foldl (fun s t => s.tbump t 9 6 (s.unusedStream t)) s
    let s := held.foldl State.zeroTile s
    let s := held.foldl (fun s t => s.modTile t (fun x => { x with job := none })) s
    let s := { s with pages := endPages s.pages jb.regions }.dropServices j
    let s := s.setJob j { jb with
      state := .ended, endStatus := st, step := .none_, asked := false, savePending := [], cheapWait := [], saved := [],
      endedTiles := [], urgent := false }
    let s := (jb.tiles.map (·.tile)).foldl State.powerOffIdle s
    let s := s.dropHeld j
    let s := if st = .ok ∨ st = .versionGone then s else s.log { status := st, kind := 8, resource := 0x0C, job := j }
    let s := s.notifyJob j 5 st.code
    if jb.unload then ({ s with jobs := s.jobs.del j } : State).notifyJob j 0 st.code else s

/-- A job ended by a refusal, with the record the refusal leaves (01 R26 and its like). -/
def State.refuseJob (s : State) (j : Nat) (st : Status) (rec : LogRec) : State :=
  (s.log { rec with status := st, kind := 4, job := j }).endJob j st

/-- A descriptor or instruction of tile `t` refused: the job ends (01 R26, 02 R48, 04 R100, 05 R131). -/
def State.refuseItem (s : State) (t j : Nat) (st : Status) (reason entry : Nat) (item : Bytes) : State :=
  s.refuseJob j st { kind := 4, resource := 9, die := dieOf t, tile := tileOf t, unit := entry, reason := reason, item := item }

/-- A job ended for consumed poison (15 R422). -/
def State.poisonJob (s : State) (t j : Nat) (item : Bytes) : State :=
  (s.log { status := .poisoned, kind := 3, resource := 9, die := dieOf t, tile := tileOf t, job := j, item := item }).endJob j .poisoned

/-- A refused access to a page (06 R157): logged, counted, and the job ends. -/
def State.sealViolation (s : State) (j t a : Nat) : State :=
  (s.dbump (faDie a) 9 0x0C 1).refuseJob j .badDescriptor
    { kind := 4, resource := 0x0A, die := faDie a, tile := tileOf t, fa := a, reason := 6 }

/-- Consumption of poison noted in the fault log (15 R422). -/
def State.logPoison (s : State) (t : Nat) (item : Bytes) (fa : Nat) : State :=
  s.log { status := .poisoned, kind := 3, resource := 2, die := dieOf t, tile := tileOf t, fa := fa, item := item,
          job := ((s.tile t).job).getD 0xFFFF }

end Sys2Proof.Machine
end

