-- ==== Sys2Proof/Machine/Array.lean ====
section
/-! DEFINITION. The matrix array: pass descriptors, matrix and scan passes, accumulator tiles and the drain (02 R41 to R66). The
contributions of a pass are formed when its last column enters (log 14). -/

namespace Sys2Proof.Machine

/-! ### The pass descriptor (R47) -/

def psMode (d : Bytes) : Nat := field d 3 1
def psCode (d : Bytes) : Nat := psMode d % 4
def psScan (d : Bytes) : Bool := bit (psMode d) 2
def psStat (d : Bytes) : Nat := field d 0 3
def psWt (d : Bytes) : Nat := field d 4 3
def psFmtS (d : Bytes) : Nat := field d 7 1 % 16
def psFmtW (d : Bytes) : Nat := field d 7 1 / 16
def psStatScale (d : Bytes) : Nat := field d 8 3
def psAcc (d : Bytes) : Nat := field d 11 1 % 64
def psWtScale (d : Bytes) : Nat := field d 12 3
def psFlag (d : Bytes) (i : Nat) : Bool := bit (field d 15 1) i
def psInit (d : Bytes) : Bool := psFlag d 0
def psWiden (d : Bytes) : Bool := psFlag d 2
def psScaled (d : Bytes) : Bool := psFlag d 3
def psKeep (d : Bytes) : Bool := psFlag d 4
def psFilter (d : Bytes) : Bool := psFlag d 5
def psKStride (d : Bytes) : Nat := field d 16 4
def psNStride (d : Bytes) : Nat := field d 20 4
def psCols (d : Bytes) : Nat := field d 24 2
def psRows (d : Bytes) : Nat := field d 26 1
def psTag (d : Bytes) : W32 := BitVec.ofNat 32 (field d 28 4)

/-- The operand class of a pass, as a number: 4, 8 or 16, with 100 added for the INT classes; 32 for scan (R42). -/
def psClass (d : Bytes) : Option Nat :=
  let fp8 := fun c => decide (3 ≤ c) && decide (c ≤ 6)
  let a := psFmtS d
  let b := psFmtW d
  if psScan d then (if a = 0 ∧ b = 0 ∧ ¬ psWiden d then some 32 else none)
  else if psWiden d then
    (if fp8 a ∧ b = 7 then some 8 else if a = 8 ∧ b = 9 then some 108 else none)
  else if a = 7 ∧ b = 7 then some 4
  else if a = 9 ∧ b = 9 then some 104
  else if fp8 a ∧ fp8 b then some 8
  else if a = 8 ∧ b = 8 then some 108
  else if (a = 1 ∧ b = 1) ∨ (a = 2 ∧ b = 2) then some 16
  else none

/-- Rows H and columns C of the shape; in scan mode queries q and elements of a row of an accumulator tile (R43, R61). -/
def psH (d : Bytes) : Nat := (if psScan d then 64 else 32) / 2 ^ psCode d
def psC (d : Bytes) : Nat := 1024 / psH d
/-- Dimensions per chunk of a scan pass (R61). -/
def psDims (d : Bytes) : Nat := 2 * 2 ^ psCode d
/-- Reduction length per column (R43). -/
def psKc (d : Bytes) : Nat := (if psClass d = some 4 ∨ psClass d = some 104 then 64 else 32) * 2 ^ psCode d
/-- Largest n_cols (R43, R61). -/
def psMaxCols (d : Bytes) : Nat := if psScan d then 1024 * 2 ^ psCode d else 32 * 2 ^ psCode d
/-- Bytes of a weight tile (R44). -/
def psTileBytes (d : Bytes) : Nat := 128 * width (psFmtW d)

/-- The weight tiles of a matrix pass, by address (R47). -/
def psWeightTiles (d : Bytes) : List Nat :=
  (List.range (psKc d / 32)).flatMap (fun a => (List.range (ceilDiv (psCols d) 32)).map (fun b =>
    psWt d + a * psKStride d + b * psNStride d))

/-- The stationary block: address, given the kept one, and bytes (R44, R62). -/
def psStatBytes (d : Bytes) : Nat :=
  if psScan d then psRows d * psDims d * 4 else psRows d * psKc d * width (psFmtS d) / 8

/-- The byte runs a pass reads: offset and length of each. -/
def psReads (d : Bytes) (stat : Nat) : List (Nat × Nat) :=
  let st := [(stat, psStatBytes d)]
  if psScan d then
    st ++ [(psWt d, 4 * psDims d * psCols d)] ++ (if psFilter d then [(psStatScale d, ceilDiv (psCols d) 8)] else [])
  else
    st ++ (psWeightTiles d).map (fun a => (a, psTileBytes d)) ++
    (if psScaled d then
      (psStatScale d, psRows d * psKc d / 32) ::
        (psWeightTiles d).map (fun a => (psWtScale d + (a - psWt d) / (4 * width (psFmtW d)), 32))
    else [])

/-- The stationary address a queued pass will use: its own, or that of the latest earlier pass that loaded one (R47, R65). -/
def statOf (prev : Nat) (d : Bytes) : Nat := if psKeep d then prev else psStat d

/-- The check of a pass descriptor at issue (R48): the failing status and its reason of R444. `prev` is the pass issued before it,
`open_` the first pass of each accumulator tile's series. -/
def passCheck (s : State) (t : Nat) (jb : Job) (d : Bytes) : Option (Status × Nat) :=
  let x := s.tile t
  let stat := statOf x.statIssued d
  let bad := fun n => some (Status.badDescriptor, n)
  if psMode d ≥ 8 ∨ field d 11 1 ≥ 64 ∨ field d 15 1 ≥ 64 ∨ field d 27 1 ≠ 0 then bad 1
  else if ¬ psScaled d ∧ psWtScale d ≠ 0 then bad 1
  else if ¬ psScaled d ∧ ¬ (psScan d ∧ psFilter d) ∧ psStatScale d ≠ 0 then bad 1
  else if psScan d ∧ (psKStride d ≠ 0 ∨ psNStride d ≠ 0) then bad 1
  else if psKeep d ∧ psStat d ≠ 0 then bad 1
  else if psFilter d ∧ ¬ psScan d then bad 7
  else
    match psClass d with
    | none => bad 7
    | some c =>
      if psScaled d ∧ ¬ (c = 4 ∨ c = 8) then bad 7
      else if psStat d % 64 ≠ 0 ∨ psWt d % 64 ≠ 0 ∨ psStatScale d % 64 ≠ 0 ∨ psWtScale d % 64 ≠ 0 then bad 3
      else if ¬ psScan d ∧ (psKStride d = 0 ∨ psNStride d = 0 ∨ psKStride d % psTileBytes d ≠ 0 ∨ psNStride d % psTileBytes d ≠ 0)
        then bad 4
      else if psCols d = 0 ∨ psCols d > psMaxCols d ∨ psRows d = 0 ∨ psRows d > psH d then bad 4
      else if psKeep d ∧ ¬ (x.passPrev.any (fun p => psMode p == psMode d && psClass p == psClass d)) then bad 6
      else if (psReads d stat).any (fun (a, n) => decide (a ≥ accBase) || decide (a + n > accBase)) then bad 2
      else if (passTiles d).any (· > 63) then bad 4
      else if (passTiles d).any (fun a =>
          (KMap.find x.accOpen a).any (fun p => !(psMode p == psMode d && psClass p == psClass d))) then bad 6
      else if (psReads d stat).any (fun (a, n) => !(jb.ownsSram t a n)) then some (.accessDenied, 5)
      else none

/-- The series of accumulator tiles after a pass is issued: DRAIN closes a series, another pass opens or continues it (R45). -/
def accSeries (m : KMap Bytes) (d : Bytes) : KMap Bytes :=
  (passTiles d).foldl (fun m a =>
    if passDrains d then KMap.del m a else if (KMap.find m a).isSome then m else KMap.put m a d) m

/-- Entries of the pass queue in use: the waiting passes and the one whose columns still enter (R46). -/
def Tile.passLoad (x : Tile) : Nat := x.passQ.length + (if x.passRun.isSome then 1 else 0)

/-- A checked pass put into the queue. -/
def State.pushPass (s : State) (t : Nat) (d : Bytes) : State :=
  s.modTile t (fun x => { x with
    passQ := x.passQ ++ [d], passPrev := some d, accOpen := accSeries x.accOpen d,
    statIssued := statOf x.statIssued d })

/-- PASS_ISSUE (R46, R48, R67). -/
def execPassIssue (t : TileNo) (d : Bytes) (poisoned : Bool) (s : State) : Out :=
  .next <|
  match s.seqJob t with
  | none => s
  | some j =>
    if poisoned then s.poisonJob t j d else
    if !(s.arrayLive t) then s.endJob j .abortedFault else
    match s.job? j with
    | none => s
    | some jb =>
      match passCheck s t jb d with
      | some (st, reason) => s.refuseItem t j st reason (s.tile t).passLoad d
      | none => if (s.tile t).passLoad < 16 then s.pushPass t d else s.await t (.passFull d)

/-- A sequencer that waited on a full pass queue issues its pass once an entry has freed (R46). -/
def State.retryPass (s : State) (t : Nat) : State :=
  match (s.tile t).seqWait with
  | some (.passFull d) => if (s.tile t).passLoad < 16 then (s.resume t).pushPass t d else s
  | _ => s

/-! ### Starting and ending a pass -/

/-- PASS_START (R41, R45, R57, R60): the pass at the head starts unless its shape must wait for earlier results, an accumulator
tile of its still drains, or its stationary block has not arrived. -/
def execPassStart (t : TileNo) (feedBubbles drainStalls : Nat) (s : State) : Out :=
  .next <|
  let x := s.tile t
  match x.passQ, x.passRun with
  | d :: rest, none =>
    if !(s.tileWorks t) ∨ !(s.arrayLive t) then s
    else if x.passDone.any (fun p => psMode p ≠ psMode d) then s
    else if (passTiles d).any (fun a => x.accState a == .draining) then s
    else if s.notArrived t (psStat d) (if psKeep d then 0 else psStatBytes d) then s
    else
      let s := s.modTile t (fun x => { x with
        passQ := rest, passRun := some ⟨d, 0⟩, statAddr := statOf x.statAddr d,
        accSt := (passTiles d).foldl (fun m a => KMap.put m a .active) x.accSt })
      (s.tbump t 5 5 feedBubbles).tbump t 5 6 drainStalls
  | _, _ => s

/-! ### Arithmetic within a pass (R50 to R55, R62, R63) -/

/-- The element of `w` bits at a bit offset from a byte of a tile's SRAM, and whether a word it lies in is poisoned (R44). -/
def State.elemAt (s : State) (t base bitOff w : Nat) : Nat × Bool :=
  let a := sramFa t (base + bitOff / 8)
  let n := (bitOff % 8 + w + 7) / 8
  (bits (leNat (Memory.reads s.mem a n)) (bitOff % 8) w, s.poisonedRange a n)

/-- The order in which the blocks of a column are added, which the spec leaves open (R50): a free permutation. -/
def freeOrder {α : Type} (k : Nat) : Nat → List α → List α
  | 0, l => l
  | n + 1, l =>
    match l with
    | [] => []
    | x :: r =>
      let l := x :: r
      let i := (Config.sumPick k n).1 % l.length
      (l[i]?).toList ++ freeOrder k n (dropAt l i)

/-- What a pass adds to one accumulator element: a masked bubble, exact block sums in order, or an exact INT32 sum; the mark says
that a source was poisoned. -/
inductive Contrib where
  | masked
  | real (blocks : List Fval) (p : Bool)
  | int (v : Int) (p : Bool)
  deriving DecidableEq, Repr

/-- Products of one block: elements `lo` to `lo + len − 1` of row `m` and column `j` (R44, R47). -/
def blockProducts (s : State) (t : Nat) (d : Bytes) (stat m j lo len : Nat) : List (Fval × Bool) :=
  (List.range len).map (fun i =>
    let k := lo + i
    let ws := width (psFmtS d)
    let ww := width (psFmtW d)
    let a := s.elemAt t stat ((m * psKc d + k) * ws) ws
    let tileAt := psWt d + k / 32 * psKStride d + j / 32 * psNStride d
    let b := s.elemAt t tileAt ((32 * (j % 32) + k % 32) * ww) ww
    (mulVal (decodeFmt (psFmtS d) a.1) (decodeFmt (psFmtW d) b.1), a.2 || b.2))

/-- The two scales of a block, with their marks; 2^0 in an unscaled pass (R44, R77). -/
def blockScales (s : State) (t : Nat) (d : Bytes) (m j k : Nat) : Nat × Nat × Bool :=
  if psScaled d then
    let a := s.elemAt t (psStatScale d + m * (psKc d / 32) + k / 32) 0 8
    let lane := psWtScale d + (k / 32 * psKStride d + j / 32 * psNStride d) / (4 * width (psFmtW d))
    let b := s.elemAt t (lane + j % 32) 0 8
    (a.1, b.1, a.2 || b.2)
  else (127, 127, false)

/-- The integer an exact integer value stands for. -/
def valInt : Fval → Int
  | .fin _ x => x.m * 2 ^ x.e.toNat
  | _ => 0

/-- What a matrix pass adds to element (m, j) (R50, R51, R54). -/
def matrixContrib (s : State) (t : Nat) (d : Bytes) (stat draw m j : Nat) : Contrib :=
  if m ≥ psRows d then .masked else
  let len := if psClass d = some 16 ∧ psCode d = 0 then 16 else 32
  let blocks := (List.range (psKc d / len)).map (fun b =>
    let ps := blockProducts s t d stat m j (b * len) len
    let sc := blockScales s t d m j (b * len)
    let sum := (ps.map (·.1)).foldl plusVal (.fin true ⟨0, 0⟩)
    (scaleVal sc.1 sc.2.1 sum, ps.any (·.2) || sc.2.2))
  let p := blocks.any (·.2)
  if psClass d = some 104 ∨ psClass d = some 108 then .int ((blocks.map (fun b => valInt b.1)).sum) p
  else .real (freeOrder draw blocks.length (blocks.map (·.1))) p

/-- What a scan pass adds to the score of query `i` against vector `v` (R62, R63). -/
def scanContrib (s : State) (t : Nat) (d : Bytes) (stat draw i v : Nat) : Contrib :=
  let keep := !(psFilter d) || (s.elemAt t (psStatScale d) v 1).1 == 1
  if i ≥ psRows d ∨ ¬ keep then .masked else
  let c := psDims d
  let ps := (List.range c).map (fun k =>
    let a := s.elemAt t stat ((i * c + k) * 32) 32
    let b := s.elemAt t (psWt d) ((v * c + k) * 32) 32
    (mulVal (decodeFmt 0 a.1) (decodeFmt 0 b.1), a.2 || b.2))
  .real (freeOrder draw c (ps.map (·.1))) (ps.any (·.2))

/-- The accumulator word, within the file, of row `m` and column `j` of a pass (R56, R62). -/
def accIndex (d : Bytes) (m j : Nat) : Nat := (psAcc d + j / psC d) * 1024 + m * psC d + j % psC d

/-- FP32 contributions into an element: with INIT the first replaces it, each other is added with one rounding (R50, R52). -/
def accFp (init : Bool) (old : W32) (blocks : List Fval) : W32 :=
  match init, blocks with
  | true, b :: r => r.foldl (fun a v => (addVal (fval a) v).v) (roundVal b).v
  | _, bs => bs.foldl (fun a v => (addVal (fval a) v).v) old

/-- An INT32 sum saturated at its bounds, and whether it was (R51). -/
def satInt (v : Int) : W32 × Bool :=
  if v > 2147483647 then (0x7FFFFFFF, true) else if v < -2147483648 then (0x80000000, true) else (BitVec.ofInt 32 v, false)

/-- One element of the accumulator file updated (R52 to R55): value, valid bit and poison bit; saturations and masked bubbles are
counted. -/
def State.accUpdate (s : State) (t : Nat) (d : Bytes) (idx : Nat) (faulty : Bool) (c : Contrib) : State :=
  let a := sramFa t (accBase + 4 * idx)
  let set := fun (s : State) (v : W32) (p : Bool) =>
    let marked := s.poison.contains (a / 4)
    let p := p || faulty || (marked && !(psInit d))
    let s := s.cancelWbs a 4
    let s := { s with mem := Memory.writes s.mem a (leBytes 4 v.toNat),
                      poison := if p then NSet.add s.poison (a / 4) else NSet.del s.poison (a / 4) }
    if psInit d then s.modTile t (fun x => { x with accValid := NSet.add x.accValid idx }) else s
  let old : W32 := BitVec.ofNat 32 (leNat (Memory.reads s.mem a 4))
  match c with
  | .masked => (s.modTile t (fun x => { x with accValid := NSet.del x.accValid idx })).tbump t 5 7 1
  | .real bs p => set s (accFp (psInit d) old bs) p
  | .int v p =>
    let r := satInt (if psInit d then v else old.toInt + v)
    (set s r.1 p).tbump t 5 8 (if r.2 then 1 else 0)

/-- Columns `lo` to `hi − 1` of a pass entered and brought to the accumulator file; `faulty` lists the accumulator words a faulty
path fed (R428). -/
def State.applyCols (s : State) (t : Nat) (d : Bytes) (stat lo hi : Nat) (faulty : List Nat) : State :=
  ((List.range (hi - lo)).flatMap (fun i => (List.range (psH d)).map (fun m => (m, lo + i)))).foldl (fun st e =>
    let (k, st) := st.draw
    let idx := accIndex d e.1 e.2
    let c := if psScan d then scanContrib st t d stat k e.1 e.2 else matrixContrib st t d stat k e.1 e.2
    st.accUpdate t d idx (faulty.contains idx && c ≠ .masked) c) s

/-- The bytes a pass reads hold a poisoned word (R422). -/
def State.passPoison (s : State) (t : Nat) (d : Bytes) (stat : Nat) : Bool :=
  (psReads d stat).any (fun (a, n) => s.poisonedRange (sramFa t a) n)

/-- PASS_LAST_COLUMN (R46, R50 to R55, R428): every column that remains has entered, the queue entry frees. -/
def execPassLastColumn (t : TileNo) (feedBubbles : Nat) (faulty : List Nat) (s : State) : Out :=
  .next <|
  let x := s.tile t
  match x.passRun with
  | none => s
  | some p =>
    let d := p.desc
    let stat := statOf x.statAddr d
    if !(s.tileWorks t) then s
    else if (psReads d stat).any (fun (a, n) => s.notArrived t a n) then s
    else
      let s := if s.passPoison t d stat then s.logPoison t d (sramFa t stat) else s
      let s := s.applyCols t d stat p.nextCol (psCols d) faulty
      let s := s.modTile t (fun x => { x with passRun := none, passDone := x.passDone ++ [d] })
      let s := s.tbump t 5 5 feedBubbles
      let s := if faulty = [] then s else s.arrayEvent t
      s.retryPass t

/-- The drains a DRAIN pass starts: its tiles in ascending order, the last one marked (R59). -/
def drainsOf (d : Bytes) : List Drain :=
  (passTiles d).map (fun a => ⟨a, psTag d, 0, (passTiles d).getLast? == some a⟩)

/-- PASS_RESULTS_DONE (R57, R59, R60). -/
def execPassResultsDone (t : TileNo) (s : State) : Out :=
  .next <|
  match (s.tile t).passDone with
  | [] => s
  | d :: rest =>
    let s := s.modTile t (fun x => { x with passDone := rest })
    let s := if passDrains d then
        s.modTile t (fun x => { x with
          accSt := (passTiles d).foldl (fun m a => KMap.put m a .draining) x.accSt, drains := x.drains ++ drainsOf d })
      else s
    s.tbump t 5 4 1

/-! ### The drain (R59, R60, R120) -/

/-- The hamper item of one drain unit (R120). -/
def drainItem (s : State) (t : Nat) (u : Drain) : QItem :=
  let base := u.acc * 1024 + 32 * u.unit
  let x := s.tile t
  let words := leNat (Memory.reads s.mem (sramFa t (accBase + 4 * base)) 128)
  let flags := fun (f : Nat → Bool) => ((List.range 32).map (fun j => if f (base + j) then 2 ^ j else 0)).sum
  let valid := flags (fun i => x.accValid.contains i)
  let poison := flags (fun i => s.poisonedWord (sramFa t (accBase + 4 * i) / 4))
  let lastTile := u.unit = 31
  let hdr := poison * 2 ^ 32 + valid
  let hdr2 := u.tag.toNat + u.acc * 2 ^ 32 + u.unit * 2 ^ 38 + (if lastTile then 2 ^ 43 else 0) +
    (if lastTile ∧ u.lastOfPass then 2 ^ 44 else 0) + (if lastTile then 2 ^ 45 else 0)
  ⟨(List.range 16).map (fun i => BitVec.ofNat 64 (bits words (64 * i) 64)) ++ [BitVec.ofNat 64 hdr, BitVec.ofNat 64 hdr2], lastTile⟩

/-- The poisoned words an item carries. -/
def itemPoison (i : QItem) : Nat := ((List.range 32).filter (fun j => bit (i.segs.getD 16 0).toNat (32 + j))).length

/-- DRAIN_UNIT (R57, R60): the hamper accepts the next unit of the drain in progress; while it is full the drain is held, which
counts one cycle. -/
def execDrainUnit (t : TileNo) (s : State) : Out :=
  .next <|
  match (s.tile t).drains with
  | [] => s
  | u :: rest =>
    let i := drainItem s t u
    match (s.tile t).hamper.write i with
    | none => s.tbump t 7 3 1
    | some q =>
      let s := s.modTile t (fun x => { x with
        hamper := q, drains := if u.unit = 31 then rest else { u with unit := u.unit + 1 } :: rest,
        accSt := if u.unit = 31 then KMap.del x.accSt u.acc else x.accSt })
      (s.tbump t 7 2 1).tbump t 5 9 (itemPoison i)

end Sys2Proof.Machine
end

