-- ==== Sys2Proof/Machine/Queue.lean ====
section
/-! DEFINITION. The queue macro's commands (04 R113 to R119, R122) and the raising of events (12 R339 to R341). -/

namespace Sys2Proof.Machine

/-! ### Events (12 R339, R340) -/

/-- The 32 bytes of an event item (R339). -/
def eventBytes (st : Status) (source port object value ctx now : Nat) : Bytes :=
  leBytes 1 st.code ++ leBytes 1 source ++ leBytes 1 port ++ [0] ++ leBytes 4 object ++ leBytes 4 value ++ leBytes 4 ctx ++
  leBytes 8 now ++ List.replicate 8 0

/-- A queue pair set up as an administration connection (12 R322, R324). -/
def Qp.admin (q : Qp) : Bool := bit q.flags.toNat 1

/-- The event as a SEND on every ADMIN queue pair in RTS (R341). -/
def State.sendAdmin (s : State) (bs : Bytes) : State :=
  (s.qps.map (·.1)).foldl (fun s q =>
    match KMap.find s.qps q with
    | some x =>
      if x.admin ∧ x.state = .rts then
        ({ s with qps := s.qps.put q { x with out := x.out ++ [.event] } } : State).send (.rdmaSend q bs)
      else s
    | none => s) s

/-- A module event: into the module event queue, to subscribed sessions, and over every ADMIN queue pair (R340, R341, R371). -/
def State.modEvent (s : State) (st : Status) (source port object value ctx : Nat) : State :=
  let bs := eventBytes st source port object value ctx s.now
  let s := { s with modEvents := (s.modEvents.write (QItem.ofBytes bs)).getD s.modEvents }
  (s.notify 0 bs).sendAdmin bs

/-- The event queue of a context (R339). -/
def State.ctxQueue (s : State) (c : Nat) : Queue := KMap.getOr { depth := 64, overwrite := true } s.events c

/-- An event of a context (R340); one that no longer exists has no queue (14 R380). -/
def State.ctxEvent (s : State) (c : Nat) (st : Status) (source port object value : Nat) : State :=
  if (KMap.find s.contexts c).isNone then s else
  let q := s.ctxQueue c
  { s with events := s.events.put c ((q.write (QItem.ofBytes (eventBytes st source port object value c s.now))).getD q) }

/-! ### Instances (R113) -/

/-- An instance; none for a context that does not exist. -/
def State.queue? (s : State) : QueueId → Option Queue
  | .hamper t => some (s.tile t).hamper
  | .context c => if (KMap.find s.contexts c.toNat).isSome then some (s.ctxQueue c.toNat) else none
  | .events => some s.modEvents
  | .faultLog => some s.flog

def State.setQueue (s : State) (i : QueueId) (q : Queue) : State :=
  match i with
  | .hamper t => s.modTile t (fun x => { x with hamper := q })
  | .context c => { s with events := s.events.put c.toNat q }
  | .events => { s with modEvents := q }
  | .faultLog => { s with flog := q }

/-- Data segments of an item of an instance: a header segment follows them (R113, R115; R120 for the hamper). -/
def dataSegs : QueueId → Nat
  | .hamper _ => 16
  | .context _ => 4
  | .events => 4
  | .faultLog => 8

/-- The tile whose die counts an instance's events: the hamper's (R125). -/
def State.hamperCount (s : State) (i : QueueId) (sub n : Nat) : State :=
  match i with
  | .hamper t => s.tbump t 7 sub n
  | _ => s

/-- QUEUE_WRITE (R117, R118): a full instance under hold refuses the write, and its producer stalls; a full instance under
overwrite-oldest loses its oldest item. -/
def execQueueWrite (i : QueueId) (item : QItem) (s : State) : Out :=
  .next <|
  match s.queue? i with
  | none => s
  | some q =>
    match q.write item with
    | some q' => (s.setQueue i q').hamperCount i 2 1
    | none => s.hamperCount i 3 1

/-- The owner of an instance that an uncorrectable header rinsed (R115, R122; R340). -/
def State.headerLost (s : State) (i : QueueId) : State :=
  match i with
  | .hamper t =>
    match (s.tile t).job with
    | none => s
    | some j => (s.log { status := .poisoned, kind := 3, resource := 3, die := dieOf t, tile := tileOf t, job := j }).endJob j .poisoned
  | .context c => s.modEvent .poisoned 6 0xFF 0 0 c.toNat
  | .events => s.modEvent .poisoned 6 0xFF 0 0 0
  | .faultLog => s.modEvent .poisoned 6 0xFF 0 0 0

/-- QUEUE_READ (R115): the oldest item is delivered, single-bit errors corrected, data segments with an uncorrectable error as
poisoned words; an uncorrectable header segment rinses the instance and is reported to its owner. -/
def execQueueRead (i : QueueId) (errs : List SegFault) (s : State) : Out :=
  .next <|
  match s.queue? i with
  | none => s
  | some q =>
    match q.items with
    | [] => s
    | it :: rest =>
      let es := errs.filter (fun e => e.item == 0 && decide (e.seg ≤ it.segs.length))
      let single := (es.filter (fun e => !e.double)).length
      let double := (es.filter (·.double)).length
      let q := { q with corrected := q.corrected + single, uncorrected := q.uncorrected + double }
      let s := (s.hamperCount i 4 single).hamperCount i 5 double
      if es.any (fun e => e.double && decide (e.seg ≥ dataSegs i)) then
        ((s.setQueue i q.rinse).hamperCount i 6 1).headerLost i
      else
        let poisoned := (es.filter (·.double)).map (·.seg)
        (s.setQueue i (Queue.settle q rest)).send (.item i it poisoned)

/-- QUEUE_RINSE (R116). -/
def execQueueRinse (i : QueueId) (s : State) : Out :=
  .next <|
  match s.queue? i with
  | none => s
  | some q => (s.setQueue i q.rinse).hamperCount i 6 1

end Sys2Proof.Machine
end

