-- ==== Sys2Proof/Machine/Objects.lean ====
section
/-! DEFINITION. The object dictionary's shared part: the table of objects (13 R351 to R354, R374, R375), replies (13 R356, R360,
R361), readiness (17 R460, R461), the checks of a write (13 R365, R366) and writes to the ledger's object banks (13 R354; 17 R465). -/

namespace Sys2Proof.Machine

/-! ### The table (R351 to R353, R374) -/

/-- Access kinds (R352). -/
inductive Acc where
  | ro | wo | rw | rwp
  deriving DecidableEq, Repr

/-- A run of objects: first and last index, first and last sub-index, type code (R351), access, least role (R353), fewest and most
bytes of an accepted value. A per-die object stands at die 0's index (R375). -/
structure ObjRow where
  iLo : Nat
  iHi : Nat
  sLo : Nat
  sHi : Nat
  typ : Nat
  acc : Acc
  role : Nat
  vLo : Nat
  vHi : Nat

def objRows0 : List ObjRow :=
  [⟨0x1001, 0x1001, 0x1, 0x1, 1, .ro, 1, 1, 1⟩,
   ⟨0x1001, 0x1001, 0x2, 0x2, 2, .ro, 1, 2, 2⟩,
   ⟨0x1001, 0x1001, 0x3, 0x3, 1, .ro, 1, 1, 1⟩,
   ⟨0x1001, 0x1001, 0x4, 0x4, 2, .ro, 1, 2, 2⟩,
   ⟨0x3005, 0x3005, 0x1, 0x2, 8, .ro, 1, 0, 0⟩,
   ⟨0x3005, 0x3005, 0x3, 0x3, 1, .ro, 1, 1, 1⟩,
   ⟨0x3005, 0x3005, 0x4, 0x9, 4, .ro, 1, 8, 8⟩,
   ⟨0x3005, 0x3005, 0xA, 0xA, 1, .wo, 2, 1, 1⟩,
   ⟨0x3006, 0x3006, 0x1, 0x5, 4, .ro, 1, 8, 8⟩,
   ⟨0x3006, 0x3006, 0x6, 0x6, 1, .wo, 2, 1, 1⟩,
   ⟨0x1008, 0x1008, 0x1, 0x2, 2, .ro, 1, 2, 2⟩,
   ⟨0x1008, 0x1008, 0x3, 0x3, 1, .ro, 1, 1, 1⟩,
   ⟨0x1008, 0x1008, 0x4, 0x4, 2, .ro, 1, 2, 2⟩,
   ⟨0x3007, 0x3007, 0x1, 0x7, 4, .ro, 1, 8, 8⟩,
   ⟨0x3007, 0x3007, 0x8, 0x8, 1, .wo, 2, 1, 1⟩,
   ⟨0x3008, 0x3008, 0x1, 0x8, 4, .ro, 1, 8, 8⟩,
   ⟨0x3008, 0x3008, 0x9, 0x9, 1, .wo, 2, 1, 1⟩,
   ⟨0x3009, 0x3009, 0x1, 0x2, 4, .ro, 1, 8, 8⟩,
   ⟨0x3009, 0x3009, 0x3, 0x3, 2, .ro, 1, 2, 2⟩,
   ⟨0x3009, 0x3009, 0x4, 0xC, 4, .ro, 1, 8, 8⟩,
   ⟨0x3009, 0x3009, 0xD, 0xD, 3, .ro, 1, 4, 4⟩,
   ⟨0x3009, 0x3009, 0xE, 0xE, 1, .wo, 2, 1, 1⟩,
   ⟨0x2500, 0x2500, 0x1, 0x1, 2, .ro, 1, 2, 2⟩,
   ⟨0x2500, 0x2500, 0x2, 0xC, 4, .ro, 1, 8, 8⟩]

def objRows1 : List ObjRow :=
  [⟨0x2500, 0x2500, 0xD, 0xD, 1, .wo, 2, 1, 1⟩,
   ⟨0x2510, 0x2510, 0x1, 0x80, 8, .ro, 1, 0, 0⟩,
   ⟨0x2511, 0x2511, 0x1, 0x80, 8, .ro, 1, 0, 0⟩,
   ⟨0x2520, 0x2520, 0x1, 0x1, 2, .ro, 1, 2, 2⟩,
   ⟨0x2520, 0x2520, 0x2, 0x2, 3, .wo, 2, 4, 4⟩,
   ⟨0x2530, 0x2537, 0x1, 0x80, 8, .ro, 1, 0, 0⟩,
   ⟨0x300A, 0x300A, 0x1, 0x7, 4, .ro, 1, 8, 8⟩,
   ⟨0x300A, 0x300A, 0x8, 0x8, 1, .wo, 2, 1, 1⟩,
   ⟨0x2600, 0x2600, 0x1, 0x1, 1, .ro, 1, 1, 1⟩,
   ⟨0x2600, 0x2600, 0x2, 0x7, 4, .ro, 1, 8, 8⟩,
   ⟨0x2600, 0x2600, 0x8, 0x8, 1, .wo, 2, 1, 1⟩,
   ⟨0x2610, 0x2610, 0x1, 0x40, 8, .ro, 1, 0, 0⟩,
   ⟨0x300B, 0x300B, 0x1, 0x5, 4, .ro, 1, 8, 8⟩,
   ⟨0x300B, 0x300B, 0x6, 0x6, 2, .ro, 1, 2, 2⟩,
   ⟨0x300B, 0x300B, 0x7, 0x7, 1, .wo, 2, 1, 1⟩,
   ⟨0x2700, 0x2700, 0x1, 0x2, 2, .ro, 1, 2, 2⟩,
   ⟨0x2700, 0x2700, 0x3, 0x3, 3, .ro, 1, 4, 4⟩,
   ⟨0x2700, 0x2700, 0x4, 0xA, 4, .ro, 1, 8, 8⟩,
   ⟨0x2700, 0x2700, 0xB, 0xB, 3, .ro, 1, 4, 4⟩,
   ⟨0x2700, 0x2700, 0xC, 0x10, 4, .ro, 1, 8, 8⟩,
   ⟨0x2700, 0x2700, 0x11, 0x11, 1, .wo, 2, 1, 1⟩,
   ⟨0x2710, 0x2711, 0x1, 0x80, 8, .ro, 1, 0, 0⟩,
   ⟨0x2200, 0x2200, 0x1, 0x1, 2, .ro, 1, 2, 2⟩,
   ⟨0x2200, 0x2200, 0x2, 0x2, 8, .wo, 2, 32, 32⟩]

def objRows2 : List ObjRow :=
  [⟨0x2200, 0x2200, 0x3, 0x3, 3, .ro, 1, 4, 4⟩,
   ⟨0x2200, 0x2200, 0x4, 0x4, 1, .wo, 2, 1, 1⟩,
   ⟨0x2200, 0x2200, 0x5, 0x5, 8, .rw, 3, 32, 32⟩,
   ⟨0x2201, 0x2201, 0x1, 0x10, 3, .rw, 2, 4, 4⟩,
   ⟨0x2202, 0x2202, 0x1, 0x10, 8, .ro, 1, 0, 0⟩,
   ⟨0x2203, 0x2203, 0x1, 0x3, 4, .ro, 1, 8, 8⟩,
   ⟨0x2203, 0x2203, 0x4, 0x4, 2, .rw, 2, 2, 2⟩,
   ⟨0x2203, 0x2203, 0x5, 0xA, 4, .ro, 1, 8, 8⟩,
   ⟨0x2203, 0x2203, 0xB, 0xB, 1, .wo, 2, 1, 1⟩,
   ⟨0x2210, 0x2210, 0x1, 0x10, 8, .rw, 2, 16, 3088⟩,
   ⟨0x2220, 0x2220, 0x1, 0x80, 8, .ro, 1, 0, 0⟩,
   ⟨0x2221, 0x2221, 0x1, 0x80, 8, .ro, 1, 0, 0⟩,
   ⟨0x1100, 0x1100, 0x1, 0x1, 1, .ro, 1, 1, 1⟩,
   ⟨0x1100, 0x1100, 0x2, 0x2, 2, .ro, 1, 2, 2⟩,
   ⟨0x1100, 0x1100, 0x3, 0x3, 8, .ro, 1, 0, 0⟩,
   ⟨0x1100, 0x1100, 0x4, 0x4, 8, .wo, 2, 96, 96⟩,
   ⟨0x1100, 0x1100, 0x5, 0x6, 8, .ro, 1, 0, 0⟩,
   ⟨0x1100, 0x1100, 0x7, 0x7, 1, .wo, 3, 1, 1⟩,
   ⟨0x1100, 0x1100, 0x8, 0x8, 2, .rwp, 3, 2, 2⟩,
   ⟨0x1100, 0x1100, 0x9, 0xA, 8, .ro, 1, 0, 0⟩,
   ⟨0x1100, 0x1100, 0xB, 0xB, 2, .ro, 1, 2, 2⟩,
   ⟨0x2300, 0x2300, 0x1, 0x2, 3, .ro, 1, 4, 4⟩,
   ⟨0x2300, 0x2300, 0x3, 0x3, 8, .wo, 2, 48, 48⟩,
   ⟨0x2300, 0x2300, 0x4, 0x4, 3, .wo, 2, 4, 4⟩]

def objRows3 : List ObjRow :=
  [⟨0x2300, 0x2300, 0x5, 0x5, 3, .rw, 2, 4, 4⟩,
   ⟨0x2300, 0x2300, 0x6, 0x6, 8, .ro, 2, 0, 0⟩,
   ⟨0x2300, 0x2300, 0x7, 0x7, 8, .wo, 2, 64, 64⟩,
   ⟨0x2300, 0x2300, 0x8, 0x8, 2, .wo, 2, 2, 2⟩,
   ⟨0x2300, 0x2300, 0x9, 0x9, 2, .rw, 2, 2, 2⟩,
   ⟨0x2300, 0x2300, 0xA, 0xA, 8, .ro, 1, 0, 0⟩,
   ⟨0x2300, 0x2300, 0xB, 0xB, 8, .wo, 2, 36, 36⟩,
   ⟨0x2300, 0x2300, 0xC, 0xC, 3, .rw, 2, 4, 4⟩,
   ⟨0x2300, 0x2300, 0xD, 0xD, 8, .ro, 2, 0, 0⟩,
   ⟨0x2300, 0x2300, 0xE, 0xE, 1, .wo, 2, 1, 1⟩,
   ⟨0x2300, 0x2300, 0xF, 0xF, 8, .ro, 1, 0, 0⟩,
   ⟨0x2300, 0x2300, 0x10, 0x10, 2, .rwp, 3, 2, 2⟩,
   ⟨0x2300, 0x2300, 0x11, 0x16, 4, .ro, 1, 8, 8⟩,
   ⟨0x2300, 0x2300, 0x17, 0x17, 1, .wo, 2, 1, 1⟩,
   ⟨0x2300, 0x2300, 0x18, 0x18, 2, .ro, 1, 2, 2⟩,
   ⟨0x2400, 0x2400, 0x1, 0x2, 2, .rwp, 3, 2, 2⟩,
   ⟨0x2400, 0x2400, 0x3, 0x3, 2, .ro, 1, 2, 2⟩,
   ⟨0x2401, 0x2402, 0x1, 0x1, 1, .rwp, 3, 1, 1⟩,
   ⟨0x2401, 0x2402, 0x2, 0x3, 1, .ro, 1, 1, 1⟩,
   ⟨0x2401, 0x2402, 0x4, 0x10, 4, .ro, 1, 8, 8⟩,
   ⟨0x2401, 0x2402, 0x11, 0x11, 1, .wo, 2, 1, 1⟩,
   ⟨0x1000, 0x1000, 0x1, 0x3, 7, .ro, 1, 0, 0⟩,
   ⟨0x1000, 0x1000, 0x4, 0x4, 2, .ro, 1, 2, 2⟩,
   ⟨0x1000, 0x1000, 0x5, 0x5, 3, .ro, 1, 4, 4⟩]

def objRows4 : List ObjRow :=
  [⟨0x1000, 0x1000, 0x6, 0x6, 1, .ro, 1, 1, 1⟩,
   ⟨0x1000, 0x1000, 0x7, 0x7, 2, .ro, 1, 2, 2⟩,
   ⟨0x1110, 0x1110, 0x1, 0x2, 1, .ro, 1, 1, 1⟩,
   ⟨0x1110, 0x1110, 0x3, 0x3, 3, .rw, 1, 4, 4⟩,
   ⟨0x1110, 0x1110, 0x4, 0x4, 2, .rwp, 3, 2, 2⟩,
   ⟨0x1110, 0x1110, 0x5, 0x5, 1, .wo, 3, 1, 1⟩,
   ⟨0x1110, 0x1110, 0x6, 0xC, 4, .ro, 1, 8, 8⟩,
   ⟨0x1110, 0x1110, 0xD, 0xD, 1, .wo, 2, 1, 1⟩,
   ⟨0x1111, 0x1111, 0x1, 0x10, 8, .ro, 3, 0, 0⟩,
   ⟨0x3000, 0x3000, 0x1, 0x7, 1, .ro, 1, 1, 1⟩,
   ⟨0x3000, 0x3000, 0x8, 0x8, 4, .ro, 1, 8, 8⟩,
   ⟨0x3000, 0x3000, 0x9, 0x9, 1, .wo, 2, 1, 1⟩,
   ⟨0x3001, 0x3001, 0x1, 0x1, 3, .ro, 1, 4, 4⟩,
   ⟨0x3001, 0x3001, 0x2, 0x2, 1, .ro, 1, 1, 1⟩,
   ⟨0x3001, 0x3001, 0x3, 0x4, 4, .ro, 1, 8, 8⟩,
   ⟨0x3001, 0x3001, 0x5, 0x5, 1, .wo, 2, 1, 1⟩,
   ⟨0x2320, 0x2320, 0x1, 0x2, 3, .ro, 1, 4, 4⟩,
   ⟨0x2320, 0x2320, 0x3, 0x3, 8, .wo, 3, 8, 8⟩,
   ⟨0x2320, 0x2320, 0x4, 0x6, 2, .wo, 3, 2, 2⟩,
   ⟨0x2320, 0x2320, 0x7, 0x7, 8, .wo, 3, 32, 32⟩,
   ⟨0x2320, 0x2320, 0x8, 0x8, 2, .ro, 1, 2, 2⟩,
   ⟨0x2320, 0x2320, 0x9, 0xB, 4, .ro, 1, 8, 8⟩,
   ⟨0x2320, 0x2320, 0xC, 0xC, 1, .wo, 2, 1, 1⟩,
   ⟨0x2322, 0x2322, 0x1, 0x80, 2, .rw, 3, 2, 2⟩]

def objRows5 : List ObjRow :=
  [⟨0x2323, 0x2323, 0x1, 0x80, 2, .rw, 3, 2, 2⟩,
   ⟨0x2324, 0x2324, 0x1, 0x1, 8, .ro, 1, 0, 0⟩,
   ⟨0x2325, 0x2325, 0x1, 0x1, 8, .ro, 1, 0, 0⟩,
   ⟨0x2326, 0x2326, 0x1, 0x1, 8, .ro, 3, 0, 0⟩,
   ⟨0x2900, 0x2900, 0x1, 0x1, 8, .wo, 3, 36, 36⟩,
   ⟨0x2900, 0x2900, 0x2, 0x2, 1, .ro, 1, 1, 1⟩,
   ⟨0x2901, 0x2901, 0x1, 0x1, 1, .ro, 1, 1, 1⟩,
   ⟨0x2901, 0x2901, 0x2, 0x2, 3, .wo, 3, 4, 4⟩,
   ⟨0x2901, 0x2901, 0x3, 0x3, 1, .ro, 1, 1, 1⟩,
   ⟨0x2902, 0x2902, 0x1, 0x3, 8, .ro, 1, 0, 0⟩,
   ⟨0x2903, 0x2903, 0x1, 0x8, 8, .ro, 1, 0, 0⟩,
   ⟨0x2910, 0x2910, 0x1, 0x1, 8, .wo, 1, 32, 32⟩,
   ⟨0x2910, 0x2910, 0x2, 0x2, 8, .ro, 1, 0, 0⟩,
   ⟨0x2910, 0x2910, 0x3, 0x3, 4, .ro, 1, 8, 8⟩,
   ⟨0x2100, 0x2100, 0x1, 0x1, 3, .rwp, 3, 4, 4⟩,
   ⟨0x2100, 0x2100, 0x2, 0x2, 3, .ro, 1, 4, 4⟩,
   ⟨0x2100, 0x2100, 0x3, 0x3, 8, .ro, 1, 0, 0⟩,
   ⟨0x2100, 0x2100, 0x4, 0x4, 2, .ro, 1, 2, 2⟩,
   ⟨0x3003, 0x3003, 0x1, 0xB, 4, .ro, 1, 8, 8⟩,
   ⟨0x3003, 0x3003, 0xC, 0xC, 3, .ro, 1, 4, 4⟩,
   ⟨0x3003, 0x3003, 0xD, 0xD, 2, .ro, 1, 2, 2⟩,
   ⟨0x3003, 0x3003, 0xE, 0xF, 4, .ro, 1, 8, 8⟩,
   ⟨0x3003, 0x3003, 0x10, 0x10, 1, .wo, 2, 1, 1⟩,
   ⟨0x6000, 0x6000, 0x1, 0x1, 2, .ro, 1, 2, 2⟩]

def objRows6 : List ObjRow :=
  [⟨0x6000, 0x6000, 0x2, 0x2, 4, .ro, 1, 8, 8⟩,
   ⟨0x6000, 0x6000, 0x3, 0x3, 8, .ro, 1, 0, 0⟩,
   ⟨0x6000, 0x6000, 0x4, 0x4, 1, .wo, 2, 1, 1⟩,
   ⟨0x6000, 0x6000, 0x5, 0x5, 8, .ro, 1, 0, 0⟩,
   ⟨0x6001, 0x6001, 0x1, 0x1, 1, .rwp, 3, 1, 1⟩,
   ⟨0x6001, 0x6001, 0x2, 0x2, 3, .rwp, 3, 4, 4⟩,
   ⟨0x6001, 0x6001, 0x3, 0x3, 2, .rwp, 3, 2, 2⟩,
   ⟨0x6001, 0x6001, 0x4, 0x4, 3, .rwp, 3, 4, 4⟩,
   ⟨0x6001, 0x6001, 0x5, 0x6, 2, .rwp, 3, 2, 2⟩,
   ⟨0x6001, 0x6001, 0x7, 0x7, 1, .rwp, 3, 1, 1⟩,
   ⟨0x6001, 0x6001, 0x8, 0x8, 3, .rwp, 3, 4, 4⟩,
   ⟨0x6001, 0x6001, 0x9, 0x9, 1, .rwp, 3, 1, 1⟩,
   ⟨0x6001, 0x6001, 0xA, 0xA, 3, .rwp, 3, 4, 4⟩,
   ⟨0x2080, 0x2080, 0x1, 0x1, 3, .rwp, 3, 4, 4⟩,
   ⟨0x2080, 0x2080, 0x2, 0x4, 3, .ro, 1, 4, 4⟩,
   ⟨0x2080, 0x2080, 0x5, 0x6, 5, .ro, 1, 4, 4⟩,
   ⟨0x2080, 0x2080, 0x7, 0x7, 3, .ro, 1, 4, 4⟩,
   ⟨0x2080, 0x2080, 0x8, 0x8, 4, .ro, 1, 8, 8⟩,
   ⟨0x2081, 0x2081, 0x1, 0x2, 5, .rwp, 3, 4, 4⟩,
   ⟨0x300C, 0x300C, 0x1, 0x2, 5, .ro, 1, 4, 4⟩,
   ⟨0x300C, 0x300C, 0x3, 0x3, 1, .ro, 1, 1, 1⟩,
   ⟨0x300C, 0x300C, 0x4, 0x5, 4, .ro, 1, 8, 8⟩,
   ⟨0x300C, 0x300C, 0x6, 0x6, 1, .wo, 2, 1, 1⟩,
   ⟨0x3004, 0x3004, 0x1, 0x1, 3, .ro, 1, 4, 4⟩]

def objRows7 : List ObjRow :=
  [⟨0x3004, 0x3004, 0x2, 0x2, 4, .ro, 1, 8, 8⟩,
   ⟨0x3004, 0x3004, 0x3, 0x3, 8, .ro, 1, 0, 0⟩,
   ⟨0x3004, 0x3004, 0x4, 0x4, 3, .ro, 1, 4, 4⟩,
   ⟨0x3004, 0x3004, 0x5, 0x6, 4, .ro, 1, 8, 8⟩,
   ⟨0x3004, 0x3004, 0x7, 0x7, 1, .wo, 2, 1, 1⟩,
   ⟨0x1200, 0x1200, 0x1, 0x2, 1, .wo, 3, 1, 1⟩,
   ⟨0x1200, 0x1200, 0x3, 0x3, 2, .wo, 2, 2, 2⟩,
   ⟨0x1200, 0x1200, 0x4, 0x4, 2, .wo, 3, 2, 2⟩,
   ⟨0x1201, 0x1201, 0x1, 0x1, 1, .ro, 1, 1, 1⟩,
   ⟨0x1202, 0x1202, 0x1, 0x1, 1, .ro, 1, 1, 1⟩,
   ⟨0x1202, 0x1202, 0x2, 0x4, 4, .ro, 1, 8, 8⟩,
   ⟨0x1300, 0x1300, 0x1, 0x1, 3, .ro, 1, 4, 4⟩,
   ⟨0x1300, 0x1300, 0x2, 0x2, 4, .ro, 1, 8, 8⟩,
   ⟨0x1300, 0x1300, 0x3, 0x3, 3, .ro, 1, 4, 4⟩,
   ⟨0x2000, 0x2000, 0x1, 0x1, 1, .ro, 1, 1, 1⟩,
   ⟨0x2000, 0x2000, 0x2, 0x2, 4, .ro, 1, 8, 8⟩,
   ⟨0x2000, 0x2000, 0x3, 0x3, 2, .ro, 1, 2, 2⟩,
   ⟨0x3002, 0x3002, 0x1, 0x3, 4, .ro, 1, 8, 8⟩,
   ⟨0x3002, 0x3002, 0x4, 0x4, 3, .ro, 1, 4, 4⟩,
   ⟨0x3002, 0x3002, 0x5, 0x5, 4, .ro, 1, 8, 8⟩,
   ⟨0x3002, 0x3002, 0x6, 0x6, 1, .wo, 2, 1, 1⟩,
   ⟨0x2800, 0x2800, 0x1, 0x3, 1, .ro, 1, 1, 1⟩,
   ⟨0x2800, 0x2800, 0x4, 0x5, 3, .ro, 1, 4, 4⟩,
   ⟨0x2800, 0x2800, 0x6, 0x6, 1, .ro, 1, 1, 1⟩]

def objRows8 : List ObjRow :=
  [⟨0x2800, 0x2800, 0x7, 0x8, 4, .ro, 1, 8, 8⟩,
   ⟨0x2800, 0x2800, 0x9, 0x9, 1, .wo, 2, 1, 1⟩,
   ⟨0x2801, 0x2801, 0x1, 0x1, 2, .wo, 3, 2, 2⟩,
   ⟨0x2801, 0x2801, 0x2, 0x2, 8, .wo, 3, 458753, 117440512⟩,
   ⟨0x2801, 0x2801, 0x3, 0x3, 8, .ro, 1, 0, 0⟩,
   ⟨0x2801, 0x2801, 0x4, 0x5, 1, .wo, 3, 1, 1⟩,
   ⟨0x2801, 0x2801, 0x6, 0x6, 8, .ro, 1, 0, 0⟩]

/-- The objects of the dictionary (R374). -/
def objTable : List ObjRow := objRows0 ++ objRows1 ++ objRows2 ++ objRows3 ++ objRows4 ++ objRows5 ++ objRows6 ++ objRows7 ++ objRows8

/-- The index an object of a die's block has in die 0's block (R375). -/
def dieIndex (idx : Nat) : Nat := if 0x3000 ≤ idx ∧ idx < 0x3400 then 0x3000 + idx % 16 else idx

/-- The row of an object; none where the index and sub-index name no object (R374). -/
def objRow (idx sub : Nat) : Option ObjRow :=
  let i := dieIndex idx
  objTable.find? (fun r => decide (r.iLo ≤ i) && decide (i ≤ r.iHi) && decide (r.sLo ≤ sub) && decide (sub ≤ r.sHi))

/-! ### Readiness (17 R460, R461) -/

/-- The module serves from the boot ROM alone: recovery mode, or network boot that waits for an image (18 R482, R483). -/
def State.recovery (s : State) : Bool := s.boot.mode == .recovery || (s.boot.mode == .network && s.boot.waiting)

def readyBit (s : State) (b : Nat) : Bool := bit s.boot.ready.toNat b

/-- Dies in state ready, as the mask of OD 0x1300:02. -/
def State.diesReady (s : State) : Nat := ((List.range 64).map (fun d => if (s.die d).state = .ready then 2 ^ d else 0)).sum

/-- Bits of OD 0x1300:01 set and cleared; DIES_ALL follows the dies, and JOBS is set once it may be (R460). Each change is notified
(R461). -/
def State.withReady (s : State) (on off : Nat) : State :=
  let v := (s.boot.ready.toNat ||| on) &&& (0x1FF ^^^ off)
  let all := (List.range 64).all (fun d => s.isRetired (.die d) || (s.die d).state == .ready)
  let jobs := bit v 8 || (bit v 0 && bit v 1 && s.diesReady ≠ 0)
  let v := v % 128 + (if all then 128 else 0) + (if jobs then 256 else 0)
  if v = s.boot.ready.toNat then s else
  let first := all && !(readyBit s 7) && s.boot.bringupMs == 0
  let ms := if first then (s.now - s.boot.releasedAt) / 25000 else s.boot.bringupMs
  ({ s with boot := { s.boot with ready := BitVec.ofNat 32 v, bringupMs := ms } } : State).notifyReady 0x1300 1 v

/-- A die's state of OD 0x3000:01, with the readiness it brings about. -/
def State.setDieState (s : State) (d : Nat) (st : DieState) : State :=
  let old := s.diesReady
  let s := s.modDie d (fun x => { x with state := st })
  let s := if s.diesReady = old then s else s.notifyReady 0x1300 2 s.diesReady
  s.withReady 0 0

/-! ### Sessions and replies (R356, R360, R361) -/

def State.session? (s : State) (sid : W32) : Option Session := s.kop.sessions.find? (fun x => x.sid == sid)

def State.modSession (s : State) (sid : W32) (f : Session → Session) : State :=
  { s with kop := { s.kop with sessions := s.kop.sessions.map (fun x => if x.sid = sid then f x else x) } }

/-- The 16 header bytes of a message (R356). -/
def kopHeader (type flags : Byte) (status : Nat) (sid sq : W32) (len : Nat) : Bytes :=
  [0x01, type, flags, BitVec.ofNat 8 status] ++ leBytes 4 sid.toNat ++ leBytes 4 sq.toNat ++ leBytes 2 len ++ [0, 0]

/-- A reply under a key (R356, R360). -/
def mkReply (key : Bytes) (port : Port) (dst : BitVec 128) (type : Byte) (st : Status) (sid sq : W32) (payload : Bytes) : KReply :=
  ⟨port, dst, type, st, sid, sq, payload, hmac key (kopHeader type 1 st.code sid sq payload.length ++ payload)⟩

/-- The reply to a request of an open session: sent, and kept among the last 16 (R361). -/
def State.answer (s : State) (r : Requester) (type : Byte) (st : Status) (payload : Bytes) : State :=
  match s.session? r.sid with
  | none => s
  | some sn =>
    let m := mkReply sn.key r.port r.src type st r.sid r.seq payload
    (s.modSession r.sid (fun x => { x with
      replies := (x.replies ++ [m]).drop (x.replies.length - 15), executing := x.executing.filter (· ≠ r.seq) })).send (.kop m)

/-- The 8-byte prefix of a value (R364). -/
def valuePrefix (idx sub typ len : Nat) : Bytes :=
  leBytes 2 idx ++ leBytes 1 sub ++ leBytes 1 typ ++ leBytes 2 len ++ [0, 0]

/-- The 16-byte block header (R367). -/
def blockHeader (op idx sub size crc : Nat) : Bytes :=
  [BitVec.ofNat 8 op, 0] ++ leBytes 2 idx ++ leBytes 1 sub ++ [0, 0, 0] ++ leBytes 4 size ++ leBytes 4 crc

/-- The reply to a write: that of the END that carried it (R368), or of a WRITE (R364). -/
def State.replyWrite (s : State) (r : Requester) (key : Nat) (st : Status) : State :=
  let idx := key / 256
  let sub := key % 256
  if s.kop.blockEnds.contains (r, key) then
    ({ s with kop := { s.kop with blockEnds := s.kop.blockEnds.erase (r, key) } } : State).answer r 0x04 st
      (blockHeader 3 idx sub 0xFFFFFFFF 0)
  else
    s.answer r 0x02 st (if st = .ok then valuePrefix idx sub (((objRow idx sub).map (·.typ)).getD 0) 0
      else leBytes 2 idx ++ leBytes 1 sub ++ [0])

/-! ### Checks (R346, R353, R365, R366) -/

/-- A message from a source that is not the owner of a claimed module, on a session below Administrator (R346, R363). -/
def State.notOwner (s : State) (role : Nat) (src : BitVec 128) : Bool := s.kop.claimed && decide (role < 3) && src ≠ s.kop.owner

/-- The objects the boot ROM serves (18 R482). -/
def romServes (idx sub : Nat) : Bool :=
  [0x1000, 0x1001, 0x1110, 0x1300, 0x2800, 0x2801].contains idx || (idx == 0x1100 && (sub == 1 || sub == 2)) || (idx == 0x1200 && sub == 1)

/-- The object belongs to a function that is not ready (R365; 17 R460; 18 R482). -/
def State.notReadyFor (s : State) (idx sub : Nat) (write : Bool) : Bool :=
  let i := dieIndex idx
  (s.recovery && !(romServes idx sub)) ||
  let rwp := match objRow idx sub with | some o => o.acc == .rwp | none => false
  (write && rwp && !(readyBit s 0)) ||
  (decide (0x2800 ≤ i) && decide (i ≤ 0x28FF) && !(readyBit s 0)) ||
  (write && (i == 0x2900 || i == 0x2901) && !(readyBit s 1)) ||
  (i == 0x2910 && !(readyBit s 2)) ||
  (i == 0x2200 && sub == 2 && !(readyBit s 8)) ||
  (decide (0x3000 ≤ idx) && decide (idx < 0x3400) && !(i == 0x3000 && decide (sub ≤ 2)) && (s.die ((idx - 0x3000) / 16)).state ≠ .ready)

/-- A written value has a length its object does not take: it differs from the fixed length, or lies outside the object's range
(R365). A read-only object is held to the fixed length of its type, and to none where it has no fixed length (DEDUCED, log 159). -/
def ObjRow.lengthBad (o : ObjRow) (n : Nat) : Bool :=
  if o.acc = .ro then o.vLo == o.vHi && decide (0 < o.vHi) && n != o.vHi
  else decide (o.vLo ≤ 1152) && (decide (n < o.vLo) || decide (o.vHi < n))

/-- The conditions of R365 that hold for a write of an object by a session's role. -/
def State.writeConds (s : State) (role idx sub typ : Nat) (v : Bytes) : List Status :=
  match objRow idx sub with
  | none => [.badDescriptor]
  | some o =>
    (if typ ≠ o.typ ∨ o.lengthBad v.length then [.badDescriptor] else []) ++
    (if o.acc = .ro ∨ role < o.role then [.accessDenied] else []) ++
    (if s.notReadyFor idx sub true then [.notReady] else [])

/-- Objects an earlier message is still at work on: a load, a claim, a ledger write, a fuse, a fill (R366; 14 R386). Resets of
dies and contexts go on beside one another (17 R457, R458). -/
def State.objBusy (s : State) (key : Nat) : Bool :=
  let tenancy := [okey 0x2320 3, okey 0x2320 4, okey 0x2320 5, okey 0x2320 6, okey 0x2320 7]
  let domainKey := key / 256 == 0x2322 || key / 256 == 0x2323
  (s.load.isSome && key == okey 0x2200 2) ||
  (s.kop.probe.isSome && (key == okey 0x1100 4 || key == okey 0x1100 7)) ||
  (match s.ledger.objWrite with | some w => w.key == key | none => false) ||
  s.ledger.objQueue.any (fun w => w.key == key) ||
  ((tenancy.contains key || domainKey) && s.fills ≠ []) ||
  (match s.fuses.blowing with
    | some (.seal _ _) => key == okey 0x2901 2
    | some (.rollback _ _) => key == okey 0x2801 5
    | none => false) ||
  (match s.ledger.actWrite with
    | some (.activate _ _ _) => key == okey 0x2801 4
    | some (.confirm _ _) => key == okey 0x2801 5
    | some (.revert _ _) => key == okey 0x2801 5
    | none => false)

/-- A write as it begins executing: it waits behind an earlier message on the same object (R366); it is refused with the first
failing status in the order of R9 (R365), `extra` being the object's own conditions; or it acts. -/
def State.objWrite (s : State) (r : Requester) (idx sub : Nat) (v : Bytes) (typ : Nat) (extra : List Status)
    (act : State → State) : State :=
  match s.session? r.sid with
  | none => s
  | some sn =>
    let key := okey idx sub
    if s.notOwner sn.role r.src then (s.bump (okey 0x1110 0x0A) 1).replyWrite r key .accessDenied
    else if s.objBusy key then { s with kop := { s.kop with waiters := s.kop.waiters ++ [⟨r, key, 2, BitVec.ofNat 8 typ, v⟩] } }
    else
      let st := firstStatus (s.writeConds sn.role idx sub typ v ++ extra)
      if st = .ok then act s else s.replyWrite r key st

/-- The type an object has: what a write of it carries. -/
def objType (idx sub : Nat) : Nat := ((objRow idx sub).map (·.typ)).getD 0

/-- A condition that holds, as a list. -/
def cond (b : Bool) (st : Status) : List Status := if b then [st] else []

/-- A write whose effect is done when it is replied to. -/
def State.objWriteNow (s : State) (r : Requester) (idx sub : Nat) (v : Bytes) (extra : List Status) (act : State → State) : State :=
  s.objWrite r idx sub v (objType idx sub) extra (fun s => (act s).replyWrite r (okey idx sub) .ok)

/-- What each counter-clear object clears, by die 0's index: runs of sub-indices (the object tables of the chapters). -/
def clearRuns : List ((Nat × Nat) × List (Nat × Nat)) :=
  [((0x3005, 0xA), [(4, 9)]), ((0x3006, 6), [(1, 5)]), ((0x3007, 8), [(1, 7)]), ((0x3008, 9), [(1, 8)]), ((0x3009, 0xE), [(1, 0xC)]),
   ((0x2500, 0xD), [(2, 0xC)]), ((0x300A, 8), [(1, 7)]), ((0x2600, 8), [(2, 7)]), ((0x300B, 7), [(1, 5)]),
   ((0x2700, 0x11), [(4, 0xA), (0xC, 0x10)]), ((0x2203, 0xB), [(1, 3), (5, 0xA)]), ((0x2300, 0x17), [(0x11, 0x16)])] ++
  [((0x2401, 0x11), [(4, 0x10)]), ((0x2402, 0x11), [(4, 0x10)]), ((0x1110, 0xD), [(6, 0xC)]), ((0x3000, 9), [(8, 8)]),
   ((0x3001, 5), [(3, 4)]), ((0x2320, 0xC), [(9, 0xB)]), ((0x3003, 0x10), [(1, 0xB), (0xE, 0xF)]), ((0x300C, 6), [(4, 5)]),
   ((0x3004, 7), [(5, 6)]), ((0x3002, 6), [(1, 5)]), ((0x2800, 9), [(7, 8)])]

/-- The runs that a counter-clear object clears; none for any other object. -/
def clearsOf (idx sub : Nat) : Option (List (Nat × Nat)) :=
  (clearRuns.find? (fun e => e.1.1 == dieIndex idx && e.1.2 == sub)).map (·.2)

/-- A counter-clear write: 0x01 sets its runs of counters to zero, any other value is refused (R365 and the object's own row). -/
def State.clearWrite (s : State) (r : Requester) (idx sub : Nat) (v : Bytes) : State :=
  s.objWriteNow r idx sub v (cond (v ≠ [0x01]) .badDescriptor)
    (fun s => ((clearsOf idx sub).getD []).foldl (fun s (lo, hi) => s.clearCounts idx lo hi) s)

/-! ### The ledger's object banks (R354; 17 R464, R465) -/

/-- The copy in force of a bank pair. -/
def Banks.current {α : Type} (b : Banks α) : Option (Copy α) :=
  match b.inForce with
  | some false => b.bank0
  | some true => b.bank1
  | none => none

/-- The pair after a copy was programmed into the bank out of force, read back and put in force; the bank now out of force is
erased in the background (17 R465). -/
def Banks.commit {α : Type} (b : Banks α) (body : α) : Banks α :=
  let sq := match b.current with | some c => c.seq + 1 | none => 0
  match b.inForce with
  | some false => { b with bank1 := some ⟨sq, body⟩, inForce := some true, erasing := true }
  | _ => { b with bank0 := some ⟨sq, body⟩, inForce := some false, erasing := true }

/-- The pair after a write that was cut short or failed its read-back: the copy being programmed is not valid, and its bank is erased
again (17 R465). -/
def Banks.torn {α : Type} (b : Banks α) (writing : Bool) : Banks α :=
  if !writing then b else
  match b.inForce with
  | some false => { b with bank1 := none, erasing := true }
  | _ => { b with bank0 := none, erasing := true }

/-- The entries of the persisted objects in force. -/
def State.persisted (s : State) : KMap Bytes := ((s.ledger.obj.current).map (·.body)).getD []

/-- A persisted entry that is no object: a role key (14 R395; 17 R463). -/
def roleKeyAt (role : Nat) : Nat := okey 0x29F0 role

/-- The entries after a write: a role key goes under its role, and an all-zero one is cleared (14 R395). -/
def withEntry (m : KMap Bytes) (key : Nat) (v : Bytes) : KMap Bytes :=
  if key = okey 0x2900 1 then
    (if zeros v 4 32 then m.del (roleKeyAt (field v 0 1)) else m.put (roleKeyAt (field v 0 1)) (slice v 4 32))
  else m.put key v

/-- The next write of the object banks starts once the pair is free (17 R465). -/
def State.nextObjWrite (s : State) : State :=
  match s.ledger.objWrite, s.ledger.objQueue with
  | none, w :: rest =>
    if s.ledger.obj.erasing then s
    else { s with ledger := { s.ledger with objQueue := rest, objWrite := some { w with body := withEntry s.persisted w.key w.v } } }
  | _, _ => s

/-- A value on its way into the object banks; the reply follows it (R354). -/
def State.persist (s : State) (r : Requester) (key : Nat) (v : Bytes) : State :=
  ({ s with ledger := { s.ledger with objQueue := s.ledger.objQueue ++ [⟨r, key, v, []⟩] } } : State).nextObjWrite

end Sys2Proof.Machine
end

