-- ==== Sys2Proof/Machine/Tenancy.lean ====
section
/-! DEFINITION. Contexts, domains and region tables (14 R380 to R387), role keys and sessions' keys (14 R394, R395), attestation
(14 R398, R399) and the write that blows the service seal (14 R401). -/

namespace Sys2Proof.Machine

/-! ### Contexts and domains (R380 to R382) -/

def State.domainLive (s : State) (d : Nat) : Bool := (KMap.getOr ⟨false, 0⟩ s.domains d).live
def State.contextLive (s : State) (c : Nat) : Bool := (KMap.find s.contexts c).isSome
/-- The domain of a context. -/
def State.contextDomain (s : State) (c : Nat) : Nat := KMap.getOr 0 s.contexts c

/-- The domain set for a job handle (R382). -/
def State.jobDomain (s : State) (j : Nat) : Nat := if j < 128 then s.objNat 0x2322 (j + 1) 0 else s.objNat 0x2323 (j - 127) 0

/-- The windows of a context, by number (12 R337). -/
def winKey (c w : Nat) : Nat := c * 256 + w

/-- A context holds a queue pair outside RESET, a ring or a window (R380). -/
def State.contextInUse (s : State) (c : Nat) : Bool :=
  s.qps.any (fun e => e.2.ctx == c && e.2.state ≠ .reset) || s.rings.any (fun e => e.2.ctx == c) ||
  s.crings.any (fun e => e.2.ctx == c) || s.windows.any (fun e => e.1 / 256 == c)

def State.writeContextSetup (s : State) (r : Requester) (v : Bytes) : State :=
  let c := field v 0 2
  let d := field v 2 2
  s.objWriteNow r 0x2320 3 v
    (cond (c == 0 || !(zeros v 4 4) || !(s.domainLive d)) .badDescriptor ++ cond (s.contextLive c) .refusedFit)
    (fun s => { s with contexts := s.contexts.put c d })

/-- CONTEXT_SETUP (R380). -/
def execContextSetup (r : Requester) (v : Bytes) (s : State) : Out := .next <| s.writeContextSetup r v

def State.writeContextDelete (s : State) (r : Requester) (v : Bytes) : State :=
  let c := leNat v
  s.objWriteNow r 0x2320 4 v (cond (c == 0 || !(s.contextLive c)) .badDescriptor ++ cond (s.contextInUse c) .refusedFit)
    (fun s => { s with contexts := s.contexts.del c, events := s.events.del c })

/-- CONTEXT_DELETE (R380). -/
def execContextDelete (r : Requester) (v : Bytes) (s : State) : Out := .next <| s.writeContextDelete r v

def State.writeDomainCreate (s : State) (r : Requester) (v : Bytes) : State :=
  let d := leNat v
  s.objWriteNow r 0x2320 5 v (cond (d == 0) .badDescriptor ++ cond (s.domainLive d) .refusedFit)
    (fun s => { s with domains := s.domains.put d ⟨true, (s.domainGen d + 1) % 2 ^ 32⟩ })

/-- DOMAIN_CREATE (R381). -/
def execDomainCreate (r : Requester) (v : Bytes) (s : State) : Out := .next <| s.writeDomainCreate r v

/-- A domain is named by a context, a region entry or an admitted job that holds its resources (R381, R506). -/
def State.domainInUse (s : State) (d : Nat) : Bool :=
  s.contexts.any (fun e => e.2 == d) || s.regions.any (fun e => e.domain == d || (!e.own && e.owner == d)) ||
  s.holders.any (fun e => e.2.domain == d)

def State.writeDomainDestroy (s : State) (r : Requester) (v : Bytes) : State :=
  let d := leNat v
  s.objWriteNow r 0x2320 6 v (cond (d == 0 || !(s.domainLive d)) .badDescriptor ++ cond (s.domainInUse d) .refusedFit)
    (fun s => { s with domains := s.domains.put d ⟨false, s.domainGen d⟩ })

/-- DOMAIN_DESTROY (R381). -/
def execDomainDestroy (r : Requester) (v : Bytes) (s : State) : Out := .next <| s.writeDomainDestroy r v

/-- The object that holds a job handle's domain (R382). -/
def jobDomainObj (j : Nat) : Nat × Nat := if j < 128 then (0x2322, j + 1) else (0x2323, j - 127)

def State.writeJobDomain (s : State) (j : Nat) (r : Requester) (v : Bytes) : State :=
  let (idx, sub) := jobDomainObj j
  s.objWriteNow r idx sub v (cond (!(s.domainLive (leNat v))) .badDescriptor ++ cond (s.job? j).isSome .refusedFit)
    (fun s => { s with objs := s.objs.put (okey idx sub) v })

/-- JOB_DOMAIN_WRITE (R382). -/
def execJobDomainWrite (j : Fin 256) (r : Requester) (v : Bytes) (s : State) : Out := .next <| s.writeJobDomain j r v

/-! ### Region tables (R383 to R385) -/

def rgDomain (v : Bytes) : Nat := field v 0 2
def rgSlot (v : Bytes) : Nat := field v 2 2
def rgKind (v : Bytes) : Nat := field v 4 1
def rgRights (v : Bytes) : Nat := field v 5 1
def rgOwner (v : Bytes) : Nat := field v 6 2
def rgBase (v : Bytes) : Nat := field v 8 6
def rgLength (v : Bytes) : Nat := field v 16 8

/-- Where a die's ring pool begins, as a stack offset (12 R327). -/
def State.poolStart (s : State) (d : Nat) : Nat := s.stackBytes d - s.kop.poolActive * 2 ^ 20

/-- A byte run of stack memory overlaps its die's ring pool (12 R327). -/
def State.meetsPool (s : State) (a n : Nat) : Bool :=
  rangesMeet a n (stackFa (faDie a) (s.poolStart (faDie a))) (s.kop.poolActive * 2 ^ 20)

/-- A region entry breaks R383. -/
def State.regionBad (s : State) (v : Bytes) : Bool :=
  let shape :=
    match rgKind v with
    | 0 => rgRights v ≠ 0 || rgOwner v ≠ 0 || rgBase v ≠ 0 || rgLength v ≠ 0
    | 1 => rgRights v == 0 || decide (rgRights v ≥ 4) || rgOwner v ≠ 0
    | 2 => rgRights v ≠ 1
    | _ => true
  let range := rgKind v ≠ 0 && (rgBase v % 65536 ≠ 0 || rgLength v == 0 || rgLength v % 65536 ≠ 0 || faSpace (rgBase v) ≠ 0 ||
    !(s.faRange (rgBase v) (rgLength v)))
  shape || range || decide (rgSlot v > 63) || !(zeros v 14 2) || !(zeros v 24 8)

/-- The entry a region write makes. -/
def regionOf (v : Bytes) : RegionEntry :=
  ⟨rgDomain v, rgSlot v, rgKind v == 1, bit (rgRights v) 0, bit (rgRights v) 1, rgOwner v, rgBase v, rgLength v⟩

/-- A job of a domain that holds its resources declares a region overlapping a range. -/
def State.jobOver (s : State) (d base n : Nat) : Bool :=
  s.holders.any (fun e => e.2.domain == d && e.2.regions.any (fun g => rangesMeet g.base g.bytes base n))

/-- An entry cannot be deleted now (R384). -/
def State.regionHeld (s : State) (e : RegionEntry) : Bool :=
  (e.own && s.regions.any (fun i => !i.own && rangesMeet i.base i.length e.base e.length)) || s.jobOver e.domain e.base e.length

/-- Every 64 KiB unit that a range touches lies in an entry that `ok` accepts; entries begin and end at such units (R383). -/
def coveredBy (es : List RegionEntry) (ok : RegionEntry → Bool) (a n : Nat) : Bool :=
  (List.range ((a + n - 1) / 65536 - a / 65536 + 1)).all (fun i =>
    es.any (fun e => ok e && rangeWithin ((a / 65536 + i) * 65536) 65536 e.base e.length))

def State.regionSlot (s : State) (d slot : Nat) : Option RegionEntry := s.regions.find? (fun e => e.domain == d && e.slot == slot)

/-- A region write is refused with REFUSED_FIT (R384). -/
def State.regionRefused (s : State) (v : Bytes) : Bool :=
  let old := s.regionSlot (rgDomain v) (rgSlot v)
  let rest := s.regions.filter (fun e => ¬ (e.domain = rgDomain v ∧ e.slot = rgSlot v))
  (match old with | some e => s.regionHeld e | none => false) ||
  (match rgKind v with
    | 1 => rest.any (fun e => e.own && rangesMeet e.base e.length (rgBase v) (rgLength v)) || s.meetsPool (rgBase v) (rgLength v) ||
        decide (rest.length ≥ 16384)
    | 2 => !(coveredBy rest (fun e => e.own && e.read && e.domain == rgOwner v) (rgBase v) (rgLength v)) ||
        decide (rest.length ≥ 16384)
    | _ => false)

/-- A region write accepted: an OWN range is filled before the reply (R384). -/
def State.applyRegion (s : State) (r : Requester) (v : Bytes) : State :=
  let e := regionOf v
  let rest := s.regions.filter (fun x => ¬ (x.domain = e.domain ∧ x.slot = e.slot))
  if rgKind v = 0 then ({ s with regions := rest } : State).replyWrite r (okey 0x2320 7) .ok
  else if e.own then { s with regions := rest ++ [e], fills := s.fills ++ [(r, e)] }
  else ({ s with regions := rest ++ [e] } : State).replyWrite r (okey 0x2320 7) .ok

def State.writeRegion (s : State) (r : Requester) (v : Bytes) : State :=
  s.objWrite r 0x2320 7 v 8
    (cond (s.regionBad v || !(s.domainLive (rgDomain v)) || (rgKind v == 2 && !(s.domainLive (rgOwner v)))) .badDescriptor ++
     cond (s.regionRefused v) .refusedFit)
    (fun s => s.applyRegion r v)

/-- REGION_WRITE (R383, R384). -/
def execRegionWrite (r : Requester) (v : Bytes) (s : State) : Out := .next <| s.writeRegion r v

/-- A range filled with zeros under the key of its owner (R384). -/
def State.fillRange (s : State) (base n : Nat) : State :=
  let s := s.zeroRange base n
  let s := { s with keyed := setKey s.keyed (base / 256) ((base + n) / 256) (s.keyNow (base / 256)) }
  (s.dbump (faDie base) 9 2 (n / 256)).bump (okey 0x2320 0x0B) n

/-- The oldest OWN fill completes, and its write is replied to (R384). -/
def State.regionFilled (s : State) : State :=
  match s.fills with
  | [] => s
  | (r, e) :: rest => (({ s with fills := rest } : State).fillRange e.base e.length).replyWrite r (okey 0x2320 7) .ok

/-- A job's region fits its domain's table (R385). -/
def State.regionFits (s : State) (d : Nat) (g : RegionDecl) : Bool :=
  if g.kind = 1 then coveredBy s.regions (fun e => e.domain == d && e.read) g.base g.bytes
  else coveredBy s.regions (fun e => e.domain == d && e.own && e.write) g.base g.bytes

/-! ### Role keys (R394, R395) -/

def State.sealBlown (s : State) : Bool := s.fuses.seal0 || s.fuses.seal1

/-- The key of a role: written, or the commissioning or factory key (R394, R395). -/
def State.roleKey (s : State) (role : Nat) : Option Bytes :=
  match role with
  | 3 => some ((KMap.find s.persisted (roleKeyAt 3)).getD (hmac s.fuses.dus (ascii "KZCM")))
  | 4 => some (hmac s.fuses.dus (ascii "KZFA"))
  | n => KMap.find s.persisted (roleKeyAt n)

/-- Block transfers of a session that closes are aborted (13 R370). -/
def State.closeSession (s : State) (sid : W32) : State :=
  let n := (s.kop.transfers.filter (fun t => t.sid == sid)).length
  ({ s with kop := { s.kop with sessions := s.kop.sessions.filter (fun x => x.sid ≠ sid),
                                transfers := s.kop.transfers.filter (fun t => t.sid ≠ sid) } } : State).bump (okey 0x1110 0x0C) n

/-- Sessions that `which` picks are closed, but for one. -/
def State.closeSessions (s : State) (keep : W32) (which : Session → Bool) : State :=
  ((s.kop.sessions.filter (fun x => x.sid ≠ keep && which x)).map (·.sid)).foldl State.closeSession s

def State.writeRoleKey (s : State) (r : Requester) (v : Bytes) : State :=
  let role := field v 0 1
  s.objWrite r 0x2900 1 v 8
    (cond (role == 0 || decide (role > 3) || !(zeros v 1 3) || (role == 3 && zeros v 4 32)) .badDescriptor)
    (fun s => s.persist r (okey 0x2900 1) v)

/-- ROLE_KEY_WRITE (R395): accepted, it goes to the ledger, and the reply and the closing of sessions follow. -/
def execRoleKeyWrite (r : Requester) (v : Bytes) (s : State) : Out := .next <| s.writeRoleKey r v

/-! ### Attestation (R398, R399) -/

/-- The code of a job's state in the job BLOB (11 R314). -/
def JobState.code : JobState → Nat
  | .idle => 1 | .restoring => 2 | .running => 3 | .saving => 4 | .ended => 5

/-- A job's 48 bytes of a report (R399). -/
def reportJob (j : Nat) (jb : Job) : Bytes :=
  leBytes 2 j ++ leBytes 2 jb.domain ++ leBytes 1 jb.cls ++ leBytes 1 jb.state.code ++ [0, 0] ++ leBytes 4 jb.length ++
  [0, 0, 0, 0] ++ slice jb.digest 0 32

/-- The unit number in force; zero while unclaimed (12 R347). -/
def State.unit (s : State) : Nat := if s.kop.claimed then field s.kop.record 0 2 else 0

/-- The signed part of a report over a nonce (R399). -/
def State.reportBody (s : State) (nonce : Bytes) : Bytes :=
  let n := s.jobs.length
  ascii "KZAR" ++ [0x01, if s.sealBlown then 1 else 0, if s.boot.debugOpened then 1 else 0] ++ leBytes 1 s.fuses.grade ++
  slice s.fuses.serial 0 16 ++ leBytes 4 (s.boot.reportSeq + 1) ++ leBytes 4 (384 + 48 * n) ++ slice nonce 0 32 ++ leBytes 8 s.now ++
  leBytes 4 s.fuses.rollback ++ [if (s.ledger.act.current.map (·.body.slotB)).getD false then 1 else 0,
    if s.kop.claimed then 1 else 0] ++ leBytes 2 s.unit ++ slice s.fuses.akPublic 0 32 ++
  s.boot.measure.flatten ++ leBytes 4 n ++ List.replicate 12 0 ++ s.jobs.flatMap (fun e => reportJob e.1 e.2)

def State.writeNonce (s : State) (r : Requester) (v : Bytes) : State :=
  s.objWriteNow r 0x2910 1 v (cond s.boot.signing.isSome .refusedFit)
    (fun s => { s with boot := { s.boot with signing := some (s.reportBody v), report := none } })

/-- ATTEST_NONCE (R398). -/
def execAttestNonce (r : Requester) (v : Bytes) (s : State) : Out := .next <| s.writeNonce r v

/-- ATTEST_SIGNED (R398, R399): the report becomes readable. -/
def execAttestSigned (s : State) : Out :=
  .next <|
  match s.boot.signing with
  | none => s
  | some b =>
    ({ s with boot := { s.boot with signing := none, report := some (b ++ Config.slhSign s.fuses.dus b),
                                    reportSeq := s.boot.reportSeq + 1 } } : State).bump (okey 0x2910 3) 1

/-! ### The service seal (R401) -/

def State.writeSeal (s : State) (r : Requester) (v : Bytes) : State :=
  s.objWrite r 0x2901 2 v 3
    (cond (leNat v ≠ (crc32c s.fuses.serial).toNat) .badDescriptor ++ cond s.tap.debugOpen .refusedFit)
    (fun s => { s with fuses := { s.fuses with blowing := some (.seal r false) } })

/-- SEAL_BLOW (R401): the programming of the first of the two fuses begins (19 R498). -/
def execSealBlow (r : Requester) (v : Bytes) (s : State) : Out := .next <| s.writeSeal r v

end Sys2Proof.Machine
end

