-- ==== Sys2Proof/Machine/Ports.lean ====
section
/-! DEFINITION. The two host ports: training and fallback, pause, received frames and congestion (12 R316 to R319). -/

namespace Sys2Proof.Machine

def State.port (s : State) : Port → PortState
  | .a => s.portA
  | .b => s.portB
def State.setPort (s : State) (p : Port) (x : PortState) : State :=
  match p with
  | .a => { s with portA := x }
  | .b => { s with portB := x }

/-- A counter of a port (R349). -/
def State.pbump (s : State) (p : Port) (sub n : Nat) : State := s.bump (okey (portIndex p) sub) n

/-- The LINK bit and the KOP bit of a port, as masks of OD 0x1300:01 (17 R460). -/
def linkBit (p : Port) : Nat := 32 * 2 ^ p.code
def kopBit (p : Port) : Nat := 8 * 2 ^ p.code

/-- An event of a port (R340): source 5. -/
def State.portEvent (s : State) (p : Port) (st : Status) : State := s.modEvent st 5 p.code 0 0 0

/-! ### Training (R317) -/

/-- The mode of a port (R317): 400 Gbit/s on lanes 0 to 3 while the boot ROM alone serves (18 R482). -/
def State.portMode (s : State) (p : Port) : Nat := if s.recovery then 2 else s.objNat (portIndex p) 1 0

/-- The LINK bit of a port as a mask; the boot ROM sets none (18 R482). -/
def State.linkMask (s : State) (p : Port) : Nat := if s.recovery then 0 else linkBit p

/-- A port may train: out of cold reset with an optical engine that runs; port B stays down while the boot ROM alone serves (17 R459;
18 R482). -/
def State.mayTrain (s : State) (p : Port) : Bool :=
  s.power.hold == [] && s.power.good && s.boot.mode ≠ .none_ && (p == .a || !s.recovery)

def lowHalf : Byte := 0x0F
def highHalf : Byte := 0xF0

/-- Every lane of a set trains. -/
def lanesTrain (need lanes : Byte) : Bool := (lanes &&& need) == need

/-- The rate and the lanes a port trains at under a mode, given the lanes that train; none where no rate does. -/
def trainRate (mode : Nat) (lanes : Byte) : Option (Nat × Byte) :=
  if mode ≤ 1 ∧ lanesTrain 0xFF lanes then some (800, 0xFF)
  else if mode ≠ 1 ∧ lanesTrain lowHalf lanes then some (400, lowHalf)
  else if mode = 0 ∧ lanesTrain highHalf lanes then some (400, highHalf)
  else none

/-- A port whose link is down tries to train (R317, R340). -/
def State.train (s : State) (p : Port) (lanes : Byte) : State :=
  match trainRate (s.portMode p) lanes with
  | some (rate, l) =>
    ((s.setPort p { s.port p with rate := rate, lanes := l, downRaised := false }).withReady (s.linkMask p) 0).portEvent p .ok
  | none =>
    if (s.port p).downRaised then s
    else (s.setPort p { s.port p with downRaised := true }).portEvent p .notReady

/-- PORT_LINK_UP (R317): `lanes` are those that train. -/
def execPortLinkUp (p : Port) (lanes : Byte) (s : State) : Out :=
  .next <| if (s.port p).rate = 0 ∧ s.mayTrain p then s.train p lanes else s

/-- PORT_RETRY (R317): a port that stays down tries again. -/
def execPortRetry (p : Port) (lanes : Byte) (s : State) : Out :=
  .next <| if (s.port p).rate = 0 ∧ (s.port p).downRaised ∧ s.mayTrain p then s.train p lanes else s

/-- The half a port falls back to: from 800 Gbit/s the first half that trains, from a half the other one; none where the mode allows
no fallback or no half trains (R317). -/
def fallbackTo (mode rate : Nat) (used lanes : Byte) : Option Byte :=
  if mode ≠ 0 then none
  else if rate = 800 then (if lanesTrain lowHalf lanes then some lowHalf else if lanesTrain highHalf lanes then some highHalf else none)
  else
    let other := if used = lowHalf then highHalf else lowHalf
    if lanesTrain other lanes then some other else none

/-- LANE_FAIL_FALLBACK (R317): `lanes` are those that still hold lock or train. -/
def execLaneFailFallback (p : Port) (lanes : Byte) (s : State) : Out :=
  .next <|
  let x := s.port p
  if x.rate = 0 ∨ lanesTrain x.lanes lanes then s
  else
    match fallbackTo (s.portMode p) x.rate x.lanes lanes with
    | some half => ((s.setPort p { x with rate := 400, lanes := half }).pbump p 0x10 1).portEvent p .degraded
    | none =>
      (((s.setPort p { x with rate := 0, lanes := 0, downRaised := true }).pbump p 0x10 1).withReady 0 (linkBit p)).portEvent p .notReady

/-- A port's link restarts under a mode just written; it trains again by PORT_LINK_UP (R317). -/
def State.restartPort (s : State) (p : Port) : State :=
  ((s.setPort p { s.port p with rate := 0, lanes := 0 }).pbump p 0x10 1).withReady 0 (linkBit p)

def State.writePortMode (s : State) (p : Port) (r : Requester) (v : Bytes) : State :=
  s.objWrite r (portIndex p) 1 v 1 (cond (decide (leNat v > 2)) .badDescriptor) (fun s => s.persist r (okey (portIndex p) 1) v)

/-- PORT_MODE_WRITE (R317): the accepted mode goes to the ledger, and the link restarts once it is in force (13 R354). -/
def execPortModeWrite (p : Port) (r : Requester) (v : Bytes) (s : State) : Out := .next <| s.writePortMode p r v

/-! ### Pause (R318) -/

/-- The two lossless priorities (R318). -/
def State.losslessPrio (s : State) (second : Bool) : Nat :=
  let v := s.objNat 0x2400 1 0x0403
  if second then v / 256 % 256 else v % 256

/-- Which lossless priority a priority is. -/
def State.lossless (s : State) (prio : Nat) : Option Bool :=
  if prio = s.losslessPrio false then some false else if prio = s.losslessPrio true then some true else none

def PortState.pfc (x : PortState) (second : Bool) : PfcState := if second then x.pfc1 else x.pfc0
def PortState.setPfc (x : PortState) (second : Bool) (f : PfcState) : PortState :=
  if second then { x with pfc1 := f } else { x with pfc0 := f }
def State.setPfc (s : State) (p : Port) (second : Bool) (f : PfcState) : State := s.setPort p ((s.port p).setPfc second f)

/-- XOFF goes out once the receive buffer of a lossless priority holds 640 KiB (R318). -/
def State.xoff (s : State) (p : Port) (prio held : Nat) : State :=
  match s.lossless prio with
  | none => s
  | some second =>
    let f := (s.port p).pfc second
    if held < 655360 ∨ f.xoff then s
    else ((s.setPfc p second { f with xoff := true }).send (.pfc p prio true)).pbump p 0x0A 1

/-- PFC_XON (R318): the buffer has fallen to `held` bytes. -/
def execPfcXon (p : Port) (second : Bool) (held : Nat) (s : State) : Out :=
  .next <|
  let f := (s.port p).pfc second
  if held > 393216 ∨ !f.xoff then s
  else ((s.setPfc p second { f with xoff := false }).send (.pfc p (s.losslessPrio second) false)).pbump p 0x0A 1

/-- PFC_RECEIVE (R318): honoured for the lossless priorities, but not while pause is being ignored after a storm. -/
def execPfcReceive (p : Port) (prio : Fin 8) (pause : Bool) (s : State) : Out :=
  .next <|
  if (s.port p).rate = 0 then s else
  let s := s.pbump p 9 1
  match s.lossless prio with
  | none => s
  | some second =>
    let f := (s.port p).pfc second
    if f.ignoring then s else s.setPfc p second { f with paused := pause }

/-- PAUSE_STORM (R318). -/
def execPauseStorm (p : Port) (second : Bool) (s : State) : Out :=
  .next <|
  let f := (s.port p).pfc second
  if !f.paused ∨ f.ignoring then s
  else ((s.setPfc p second { f with paused := false, ignoring := true }).pbump p 0x0B 1).portEvent p .degraded

/-- PAUSE_HONOUR_RESUME (R318). -/
def execPauseHonourResume (p : Port) (second : Bool) (s : State) : Out :=
  .next <|
  let f := (s.port p).pfc second
  if f.ignoring then s.setPfc p second { f with ignoring := false } else s

/-! ### Queue pairs by number (R322, R323) -/

def State.qp? (s : State) (q : Nat) : Option Qp := KMap.find s.qps q
def State.setQp (s : State) (q : Nat) (x : Qp) : State := { s with qps := s.qps.put q x }

/-- A queue pair in RTS; packets for any other are dropped (R511). -/
def State.rts (s : State) (q : Nat) : Option Qp :=
  match s.qp? q with
  | some x => if x.state = .rts then some x else none
  | none => none

/-- The queue pair a QPN names (R322). -/
def qpOfQpn (qpn : Nat) : Option Nat := if 0x10000 ≤ qpn ∧ qpn < 0x14000 then some (qpn - 0x10000) else none

/-! ### Congestion (R319) -/

/-- A port's line rate in kbit/s. -/
def State.lineRate (s : State) (p : Port) : Nat := (s.port p).rate * 1000000

/-- A CNP goes back for a packet marked CE, at most one per queue pair every 50 µs, which is 1,250 watch cycles (R319). -/
def State.returnCnp (s : State) (q : Nat) (x : Qp) : State :=
  let due := match x.lastCnp with | some t => decide (s.now ≥ t + 1250) | none => true
  if due then ((s.setQp q { x with lastCnp := some s.now }).send (.cnp q)).pbump x.port 0x0E 1 else s

/-- CNP_RECEIVE (R319, R511). -/
def execCnpReceive (qp : Fin 16384) (s : State) : Out :=
  .next <|
  match s.qp? qp with
  | none => s
  | some x =>
    if s.lineRate x.port = 0 then s
    else if x.state ≠ .rts then s.pbump x.port 8 1
    else (s.setQp qp { x with rateKbps := max (min x.rateKbps (s.lineRate x.port) / 2) 1000000 }).pbump x.port 0x0F 1

/-- RATE_RECOVER (R319): 55 µs have passed without a CNP. -/
def execRateRecover (qp : Fin 16384) (s : State) : Out :=
  .next <|
  match s.rts qp with
  | none => s
  | some x =>
    let line := s.lineRate x.port
    if line = 0 then s else s.setQp qp { x with rateKbps := min (x.rateKbps + line / 20) line }

/-! ### Frames (R316, R318, R343, R345, R511) -/

/-- The priority of a received frame (R318). -/
def framePrio (f : Frame) : Nat := match f.pcp with | some c => c.toNat | none => f.dscp.toNat / 8

/-- A frame never reaches its receive buffer: an uncorrectable codeword, too long, or a VLAN's (R316). -/
def frameCut (f : Frame) : Bool :=
  decide (f.fecUncorrected > 0) || decide (f.length > 4352) || (match f.vid with | some v => v ≠ 0 | none => false)

/-- What an uncut frame does. -/
def State.frameKind (s : State) (p : Port) (f : Frame) : State :=
  let drop := s.pbump p 8 1
  match f.kind with
  | .arp => s.send (.answer p f.kind)
  | .neighbour => s.send (.answer p f.kind)
  | .echo => s.send (.answer p f.kind)
  | .otherIcmp => s
  | .globalPause => s
  | .fragment => drop
  | .ipOptions => drop
  | .ipv6Extension => drop
  | .roce qpn =>
    (match (qpOfQpn qpn.toNat).bind (fun q => (s.rts q).map (fun x => (q, x))) with
      | none => drop
      | some (q, x) => if f.ce then s.returnCnp q x else s)
  | .roceOther => drop
  | .kop port => if port.toNat = s.kop.portActive then s else drop
  | .otherUdp => drop
  | .tcp => drop
  | .identifyReply unit serial =>
    if s.kop.claimed ∧ unit.toNat = s.unit ∧ serial ≠ s.fuses.serial then s.modEvent .refusedFit 7 p.code 0 0 0 else s

/-- FRAME_RECEIVE (R316, R318, R319, R345, R511). -/
def execFrameReceive (p : Port) (f : Frame) (s : State) : Out :=
  .next <|
  if (s.port p).rate = 0 then s else
  let s := ((s.pbump p 4 1).pbump p 6 f.fecCorrected).pbump p 7 f.fecUncorrected
  if frameCut f then s.pbump p 8 1 else (s.xoff p (framePrio f) f.buffered).frameKind p f

/-- PORT_COUNTERS_CLEAR (R349). -/
def execPortCountersClear (p : Port) (r : Requester) (v : Bytes) (s : State) : Out :=
  .next <| s.clearWrite r (portIndex p) 0x11 v

end Sys2Proof.Machine
end

