-- ==== Sys2Proof/Machine/Gather.lean ====
section
/-! DEFINITION. The gather engine (06 R166 to R168) and transfers to and from host windows (06 R170, R171; 12 R338). -/

namespace Sys2Proof.Machine

/-! ### Descriptors (R166, R170) -/

def gdOp (d : Bytes) : Nat := field d 0 1
def gdSignal (d : Bytes) : Bool := bit (field d 1 1) 0
def gdCounter (d : Bytes) : Nat := field d 2 2
def gdList (d : Bytes) : Nat := field d 4 3
def gdCount (d : Bytes) : Nat := field d 8 4
def gdElem (d : Bytes) : Nat := field d 12 4
def gdBase (d : Bytes) : Nat := field d 16 6
def gdDst (d : Bytes) : Nat := field d 22 3
def gdStride (d : Bytes) : Nat := field d 26 4
def hdLocal (d : Bytes) : Nat := field d 8 6
def hdWindow (d : Bytes) : Nat := field d 14 2
def hdOffset (d : Bytes) : Nat := field d 16 8
def hdBytes (d : Bytes) : Nat := field d 24 4
/-- Bytes of one list entry: an address or an index. -/
def gdEntry (d : Bytes) : Nat := if gdOp d = 1 then 8 else 4
def gdIsHost (d : Bytes) : Bool := gdOp d == 3 || gdOp d == 4

/-- The check of an ADDR or INDEX descriptor (R166, R167). -/
def gatherCheck (s : State) (jb : Job) (t : Nat) (d : Bytes) : Option (Status × Nat) :=
  let bad := fun n => some (Status.badDescriptor, n)
  if field d 1 1 ≥ 2 ∨ ¬ zeros d 7 1 ∨ ¬ zeros d 25 1 ∨ ¬ zeros d 30 2 ∨ (¬ gdSignal d ∧ gdCounter d ≠ 0) ∨
      (gdOp d = 1 ∧ (gdBase d ≠ 0 ∨ gdStride d ≠ 0)) then bad 1
  else if gdOp d = 2 ∧ (!(s.faValid (gdBase d)) || faSpace (gdBase d) ≠ 0) then bad 2
  else if gdList d % 8 ≠ 0 ∨ gdBase d % 4 ≠ 0 ∨ gdDst d % 4 ≠ 0 ∨ gdElem d % 4 ≠ 0 ∨ gdStride d % 4 ≠ 0 then bad 3
  else if gdCounter d > 255 ∨ gdCount d = 0 ∨ gdCount d > 65536 ∨ gdElem d < 4 ∨ gdElem d > 16384 ∨
      (gdOp d = 2 ∧ gdStride d < gdElem d) ∨ gdList d + gdEntry d * gdCount d > accBase ∨
      gdDst d + gdElem d * gdCount d > accBase then bad 4
  else if !(jb.ownsSram t (gdList d) (gdEntry d * gdCount d)) || !(jb.ownsSram t (gdDst d) (gdElem d * gdCount d)) then
    some (.accessDenied, 5)
  else none

/-- The device end of a host transfer lies where R170 allows it. -/
def hostLocal (s : State) (jb : Job) (t : Nat) (d : Bytes) : Option (Status × Nat) :=
  let a := hdLocal d
  if !(s.faRange a (hdBytes d)) || faSpace a == 2 then some (.badDescriptor, 2)
  else if faSpace a = 1 then
    if faTile a ≠ t ∨ !(jb.ownsSram t (faSram a) (hdBytes d)) then some (.accessDenied, 5)
    else if faSram a + hdBytes d > accBase then some (.badDescriptor, 4) else none
  else if jb.ownsRange (· == 2) a (hdBytes d) then none else some (.accessDenied, 5)

/-- The check of a HOST_READ or HOST_WRITE descriptor (R170, R338). -/
def hostCheck (s : State) (jb : Job) (t : Nat) (d : Bytes) : Option (Status × Nat) :=
  let bad := fun n => some (Status.badDescriptor, n)
  if field d 1 1 ≥ 2 ∨ ¬ zeros d 4 4 ∨ ¬ zeros d 28 4 ∨ (¬ gdSignal d ∧ gdCounter d ≠ 0) then bad 1
  else if hdLocal d % 64 ≠ 0 ∨ hdOffset d % 64 ≠ 0 ∨ hdBytes d % 64 ≠ 0 then bad 3
  else if gdCounter d > 255 ∨ hdBytes d < 64 ∨ hdBytes d > 16777216 ∨ hdWindow d > 255 then bad 4
  else
    match hostLocal s jb t d with
    | some e => some e
    | none =>
      match jb.windows.find? (fun w => w.num == hdWindow d) with
      | none => bad 4
      | some w =>
        if hdOffset d + hdBytes d > w.length then bad 4
        else if (gdOp d = 3 ∧ ¬ w.read) ∨ (gdOp d = 4 ∧ ¬ w.write) then some (.accessDenied, 5)
        else none

/-! ### Ends of host transfers (R171) -/

/-- The window a host descriptor names in its job's image. -/
def Job.windowOf (jb : Job) (d : Bytes) : Option Window := jb.windows.find? (fun w => w.num == hdWindow d)

/-- Bytes of a HOST_WRITE's source with poisoned words as zeros (15 R422). -/
def State.hostBytes (s : State) (a n : Nat) : Bytes :=
  (List.range n).map (fun i => if s.poisonedWord ((a + i) / 4) then 0 else s.byteAt (a + i))

/-- A host transfer begins: a READ or a WRITE goes out on the window's queue pair. -/
def State.startHost (s : State) (t j : Nat) (id : Nat) (d : Bytes) (w : Window) : State :=
  let va := w.base + BitVec.ofNat 64 (hdOffset d)
  let s := s.addOut w.qp (.gather (dieOf t) id)
  if gdOp d = 3 then s.send (.rdmaRead w.qp va w.rkey (hdBytes d))
  else
    let dirty := s.poisonedRange (hdLocal d) (hdBytes d)
    let s := (s.send (.rdmaWrite w.qp va w.rkey (s.hostBytes (hdLocal d) (hdBytes d)) none)).tbump t 9 0x0A (hdBytes d)
    if dirty then (s.logPoison t d (hdLocal d)).failReqs j .poisoned else s

/-! ### Issue (R166, R167, R170) -/

/-- Descriptors of a tile, and of its die. -/
def State.gathersFull (s : State) (t : Nat) : Bool :=
  let gs := (s.die (dieOf t)).gathers
  decide (gs.length ≥ 256) || decide ((gs.filter (fun g => g.tile == t)).length ≥ 16)

/-- A checked descriptor taken by the gather engine. A host transfer on a queue pair that is not in RTS ends at once (R321). -/
def State.pushGather (s : State) (t j : Nat) (d : Bytes) (host : Option Transfer) : State :=
  let id := (s.die (dieOf t)).gatherSeq
  let add := fun (s : State) => s.modDie (dieOf t) (fun x =>
    { x with gathers := x.gathers ++ [{ id := id, tile := t, job := j, desc := d, pos := 0, landed := 0, host := host, acked := false }],
             gatherSeq := id + 1 })
  if !(gdIsHost d) then add s else
  match (s.job? j).bind (fun jb => jb.windowOf d) with
  | none => s
  | some w =>
    match s.qpCause w.qp with
    | some st => s.failReqs j st
    | none => (add s).startHost t j id d w

/-- A gather descriptor issued (R166, R167, R170, R157; 15 R422). -/
def State.issueGather (s : State) (t : Nat) (d : Bytes) (poisoned : Bool) (host : Option Transfer) : State :=
  match s.seqJob t with
  | none => s
  | some j =>
    if poisoned then s.poisonJob t j d else
    match s.job? j with
    | none => s
    | some jb =>
      let refuse := fun (e : Status × Nat) => s.refuseItem t j e.1 e.2 0xFF d
      let go := fun (_ : Unit) => if s.gathersFull t then s.await t (.gatherFull d host) else s.pushGather t j d host
      if gdOp d = 1 ∨ gdOp d = 2 then
        match gatherCheck s jb t d with
        | some e => refuse e
        | none => go ()
      else if gdIsHost d then
        match hostCheck s jb t d with
        | some e => refuse e
        | none =>
          if faSpace (hdLocal d) = 0 ∧ ((gdOp d = 4 ∧ ¬ s.sealedRange (hdLocal d) (hdBytes d)) ∨
              (gdOp d = 3 ∧ ¬ s.writableRange (hdLocal d) (hdBytes d))) then s.sealViolation j t (hdLocal d)
          else go ()
      else refuse (.badDescriptor, 1)

/-- GATHER_ADDR (R166, R167). -/
def execGatherAddr (t : TileNo) (d : Bytes) (poisoned : Bool) (s : State) : Out := .next <| s.issueGather t d poisoned none

/-- GATHER_INDEX (R166, R167). -/
def execGatherIndex (t : TileNo) (d : Bytes) (poisoned : Bool) (s : State) : Out := .next <| s.issueGather t d poisoned none

/-- GATHER_HOST_READ (R170). What the READ returned lands when the descriptor completes. -/
def execGatherHostRead (t : TileNo) (d : Bytes) (poisoned : Bool) (data : Transfer) (s : State) : Out :=
  .next <| s.issueGather t d poisoned (some data)

/-- GATHER_HOST_WRITE (R170; 15 R422). -/
def execGatherHostWrite (t : TileNo) (d : Bytes) (poisoned : Bool) (s : State) : Out := .next <| s.issueGather t d poisoned none

/-! ### Elements (R166 to R168) -/

/-- Where the list entry of element `i` lies. -/
def gdEntryAt (t : Nat) (d : Bytes) (i : Nat) : Nat := sramFa t (gdList d + gdEntry d * i)

/-- The address of element `i`; none where an ADDR entry has bits above its address set (R166). -/
def State.elemAddr (s : State) (t : Nat) (d : Bytes) (i : Nat) : Option Nat :=
  let v := leNat (Memory.reads s.mem (gdEntryAt t d i) (gdEntry d))
  if gdOp d = 1 then (if v < 2 ^ 48 ∧ v % 4 = 0 then some v else none) else some (gdBase d + v * gdStride d)

/-- The elements issued and not yet written are written, in list order (R168). -/
def State.landElements (s : State) (g : Gather) : State :=
  let s := (List.range (g.pos - g.landed)).foldl (fun s k =>
    match s.elemAddr g.tile g.desc (g.landed + k) with
    | some a => s.copy a (sramFa g.tile (gdDst g.desc + gdElem g.desc * (g.landed + k))) (gdElem g.desc)
    | none => s) s
  s.tbump g.tile 9 7 (g.pos - g.landed)

/-- A gather descriptor of a die changed. -/
def State.modGather (s : State) (d id : Nat) (f : Gather → Gather) : State :=
  s.modDie d (fun x => { x with gathers := x.gathers.map (fun g => if g.id = id then f g else g) })

/-- Granule reads of the gather engine outstanding on its own die (R166). -/
def Die.gatherReads (x : Die) : Nat :=
  (KMap.getOr [] x.issueQ reqGather).length + (x.slots.map (fun e => (e.2.filter (fun r => r.requester == reqGather)).length)).sum

/-- The oldest descriptor of a die with an element to issue: its job and its tile run (R168). -/
def State.nextGather (s : State) (d : Nat) : Option Gather :=
  (s.die d).gathers.find? (fun g => !(gdIsHost g.desc) && decide (g.pos < gdCount g.desc) && s.tileWorks g.tile &&
    (s.tile g.tile).job == some g.job)

/-- GATHER_ELEMENT_ISSUE (R166 to R168, R157). -/
def execGatherElementIssue (d : DieNo) (s : State) : Out :=
  .next <|
  match s.nextGather d with
  | none => s
  | some g =>
    let n := gdElem g.desc
    let entry := gdEntryAt g.tile g.desc g.pos
    match s.job? g.job with
    | none => s
    | some jb =>
      if s.notArrived g.tile (faSram entry) (gdEntry g.desc) then s
      else if s.poisonedRange entry (gdEntry g.desc) then s.poisonJob g.tile g.job g.desc
      else
        match s.elemAddr g.tile g.desc g.pos with
        | none => s.refuseItem g.tile g.job .badDescriptor 2 0xFF g.desc
        | some a =>
          if faSpace a ≠ 0 ∨ !(s.faRange a n) then s.refuseItem g.tile g.job .badDescriptor 2 0xFF g.desc
          else if !(jb.mayRead a n) then s.refuseItem g.tile g.job .accessDenied 5 0xFF g.desc
          else if !(s.sealedRange a n) then s.sealViolation g.job g.tile a
          else if (s.die d).gatherReads + (granulesOf a n).length > 2048 then s
          else (s.modGather d g.id (fun g => { g with pos := g.pos + 1 })).request d reqGather false a n

/-! ### Completion and waiting (R168, R170, R171) -/

/-- Sequencers of a die that waited for room in the gather engine issue once there is some (R166). -/
def State.retryGathers (s : State) (d : Nat) : State :=
  (List.range 144).foldl (fun s i =>
    let t := 144 * d + i
    match (s.tile t).seqWait, (s.tile t).job with
    | some (.gatherFull desc host), some j => if s.gathersFull t then s else (s.resume t).pushGather t j desc host
    | _, _ => s) s

/-- A descriptor leaves the engine. -/
def State.dropGather (s : State) (d : Nat) (g : Gather) : State :=
  s.modDie d (fun x => { x with gathers := x.gathers.filter (fun y => y.id ≠ g.id) })

/-- A descriptor completes: it leaves the engine, its counter is signalled, waiting sequencers go on (R168). -/
def State.endGather (s : State) (d : Nat) (g : Gather) : State :=
  let s := s.dropGather d g
  let s := if gdSignal g.desc then s.signal g.job d (gdCounter g.desc) else s
  s.retryGathers d

/-- The elements issued and not yet written have no granule outstanding. -/
def State.elementsBack (s : State) (g : Gather) : Bool :=
  (List.range (g.pos - g.landed)).all (fun k =>
    match s.elemAddr g.tile g.desc (g.landed + k) with
    | some a => !(s.outstanding false a (gdElem g.desc))
    | none => true)

/-- The bytes and marks that a HOST_READ brings, as its transfer answered; none where the transfer failed. -/
def landing (n : Nat) : Transfer → Option (Bytes × Bool)
  | .data bs => some (slice bs 0 n, false)
  | .poisoned => some (List.replicate n 0, true)
  | .failed _ => none

/-- A HOST_READ's bytes written at its device end (R157, R170). -/
def State.landHost (s : State) (d : Nat) (g : Gather) (w : Window) (bs : Bytes) (p : Bool) : State :=
  let a := hdLocal g.desc
  if faSpace a = 0 ∧ ¬ s.writableRange a bs.length then s.sealViolation g.job g.tile a
  else
    let s := if faSpace a = 0 then s.openRange g.job a bs.length else s
    let s := s.store a bs ((wordsOf a bs.length).map (fun _ => p))
    ((s.dropOut w.qp (.gather d g.id)).tbump g.tile 9 9 bs.length).endGather d g

/-- GATHER_COMPLETE (R168, R170). -/
def execGatherComplete (d : DieNo) (id : Nat) (s : State) : Out :=
  .next <|
  match (s.die d).gathers.find? (fun g => g.id == id) with
  | none => s
  | some g =>
    if (s.tile g.tile).power ≠ .running ∨ (s.tile g.tile).job ≠ some g.job then s
    else if gdIsHost g.desc then
      match (s.job? g.job).bind (fun jb => jb.windowOf g.desc) with
      | none => s
      | some w =>
        if gdOp g.desc = 4 then (if g.acked then s.endGather d g else s)
        else
          match g.host.bind (landing (hdBytes g.desc)) with
          | some (bs, p) => s.landHost d g w bs p
          | none => s
    else if g.pos < gdCount g.desc ∨ !(s.elementsBack g) then s
    else (s.landElements g).endGather d g

/-- GATHER_WAIT (R168): a descriptor that has completed holds nothing up. -/
def execGatherWait (t : TileNo) (id : Nat) (s : State) : Out :=
  .next <|
  match s.seqJob t with
  | none => s
  | some _ => if (s.die (dieOf t)).gathers.any (fun g => g.id == id && g.tile == t) then s.await t (.gather id) else s

/-- GATHER_WAIT_RESUME (R168). -/
def execGatherWaitResume (t : TileNo) (s : State) : Out :=
  .next <|
  match (s.tile t).seqWait with
  | some (.gather id) => if (s.die (dieOf t)).gathers.any (fun g => g.id == id && g.tile == t) then s else s.resume t
  | _ => s

/-- HOST_TRANSFER_FAIL (R171): the requests the job was serving end with the queue pair's cause, and the job goes on. -/
def execHostTransferFail (t : TileNo) (id : Nat) (s : State) : Out :=
  .next <|
  let d := dieOf t.val
  match (s.die d).gathers.find? (fun g => g.id == id && g.tile == t.val) with
  | none => s
  | some g =>
    match (s.job? g.job).bind (fun jb => jb.windowOf g.desc) with
    | none => s
    | some w =>
      if !(gdIsHost g.desc) then s else
      let st := match g.host with
        | some (.failed c) => some (causeStatus c)
        | _ => s.qpCause w.qp
      match st with
      | none => s
      | some st => ((((s.dropOut w.qp (.gather d g.id)).dropGather d g).failReqs g.job st)).retryGathers d

end Sys2Proof.Machine
end

