-- ==== Sys2Proof/Machine/Links.lean ====
section
/-! DEFINITION. The die grid's links: neighbours and routes (01 R18, R22), the width of a direction (01 R21), retired links and
unreachable dies (16 R434, R435). Directions are numbered as OD 0x3001:01 does: 0 north, 1 east, 2 south, 3 west. -/

namespace Sys2Proof.Machine

/-- The die a link leads to (R18). -/
def neighbour (d dir : Nat) : Option Nat :=
  match dir with
  | 0 => if d / 8 > 0 then some (d - 8) else none
  | 1 => if d % 8 < 7 then some (d + 1) else none
  | 2 => if d / 8 < 7 then some (d + 8) else none
  | 3 => if d % 8 > 0 then some (d - 1) else none
  | _ => none

/-- The direction opposite to one. -/
def opposite (dir : Nat) : Nat := (dir + 2) % 4

/-- Retired lanes of an outbound direction. -/
def State.lanesRetired (s : State) (d dir : Nat) : Nat :=
  (s.ledger.retired.filter (fun r => match r with | .lane e x _ => e == d && x == dir | _ => false)).length

/-- The lanes a direction keeps after so many retirements (R21): two spares, then 16, then 8, then none. -/
def lanesKept (retired : Nat) : Nat := if retired ≤ 2 then 32 else if retired = 3 then 16 else if retired = 4 then 8 else 0

/-- A link is retired: one of its two directions has fallen below 8 lanes (R434). -/
def State.linkRetired (s : State) (d dir : Nat) : Bool :=
  match neighbour d dir with
  | none => true
  | some e => lanesKept (s.lanesRetired d dir) == 0 || lanesKept (s.lanesRetired e (opposite dir)) == 0

/-- Outbound lanes in use: 0 where the link is retired, 0xFF where there is none (R434; 13 R378). -/
def State.linkWidth (s : State) (d dir : Nat) : Nat :=
  if (neighbour d dir).isNone then 0xFF else if s.linkRetired d dir then 0 else lanesKept (s.lanesRetired d dir)

/-- The hops along a row from one column to another, as (die, direction). -/
def rowHops (row a b : Nat) : List (Nat × Nat) :=
  if a ≤ b then (List.range (b - a)).map (fun i => (8 * row + a + i, 1)) else (List.range (a - b)).map (fun i => (8 * row + a - i, 3))
/-- The hops along a column from one row to another. -/
def colHops (col a b : Nat) : List (Nat × Nat) :=
  if a ≤ b then (List.range (b - a)).map (fun i => (8 * (a + i) + col, 2)) else (List.range (a - b)).map (fun i => (8 * (a - i) + col, 0))

/-- The row-first route between two dies (R22), and the column-first one (R435). -/
def rowFirst (a b : Nat) : List (Nat × Nat) := rowHops (a / 8) (a % 8) (b % 8) ++ colHops (b % 8) (a / 8) (b / 8)
def colFirst (a b : Nat) : List (Nat × Nat) := colHops (a % 8) (a / 8) (b / 8) ++ rowHops (b / 8) (a % 8) (b % 8)

/-- Neither route from one die to another avoids the retired links (R435). -/
def State.unreachable (s : State) (a b : Nat) : Bool :=
  (rowFirst a b).any (fun (d, dir) => s.linkRetired d dir) && (colFirst a b).any (fun (d, dir) => s.linkRetired d dir)

/-- Some two of a list of dies cannot reach one another (R435). -/
def State.anyUnreachable (s : State) (ds : List Nat) : Bool := ds.any (fun a => ds.any (fun b => s.unreachable a b))

/-- The dies a job has tiles or regions on. -/
def Job.dies (jb : Job) : List Nat := (jb.tiles.map (fun t => dieOf t.tile) ++ jb.regions.map (fun g => faDie g.base)).dedup

end Sys2Proof.Machine
end

