-- ==== Sys2Proof/Machine/Stack.lean ====
section
/-! DEFINITION. Stack memory: the sector code (15 R406 to R409), request slots (06 R148 to R150), the sequencer's data cache
(06 R153), commit fences and page recycles (06 R154 to R158). -/

namespace Sys2Proof.Machine

/-! ### The sector code (15 R406 to R408) -/

/-- Multiplication by x in GF(2^8) with x^8 + x^4 + x^3 + x^2 + 1. -/
def gfTwice (a : Nat) : Nat := if a < 128 then 2 * a else (2 * a - 256) ^^^ 0x1D

/-- Multiplication, `n` bits of `b` taken from the top. -/
def gfMulBits (a b : Nat) : Nat → Nat
  | 0 => 0
  | n + 1 => gfTwice (gfMulBits a (b / 2) n) ^^^ (if b % 2 = 1 then a else 0)

def gfMul (a b : Nat) : Nat := gfMulBits a b 8

/-- α^n with α = 0x02. -/
def gfPow : Nat → Nat
  | 0 => 1
  | n + 1 => gfTwice (gfPow n)

/-- The value of a 36-symbol word, data first, at α^i: syndrome i (R406). -/
def syndrome (w : Bytes) (i : Nat) : Nat := (slice w 0 36).foldl (fun acc b => gfMul acc (gfPow i) ^^^ b.toNat) 0

/-- Every syndrome is zero. -/
def synZero (w : Bytes) : Bool := (List.range 4).all (fun i => syndrome w i == 0)

/-- The syndromes are those of one symbol in error (R408). -/
def synOne (w : Bytes) : Bool :=
  let s := (List.range 4).map (syndrome w)
  s.getD 0 0 ≠ 0 && (List.range 36).any (fun e =>
    (List.range 3).all (fun i => s.getD (i + 1) 0 == gfMul (s.getD i 0) (gfPow e)))

/-- The four check bytes inverted (R407). -/
def invertChecks (w : Bytes) : Bytes := (slice w 0 32) ++ (slice w 32 4).map (· ^^^ 0xFF)

/-- The outcomes of a sector read (R408). -/
inductive SectorOutcome where
  | clean | corrected | poisoned | uncorrectable
  deriving DecidableEq, Repr

/-- The outcome of a sector from the error pattern it was read with. The code is linear, so the stored data do not matter; a sector
stored poisoned has its check bytes inverted (R407, R408). -/
def sectorOutcome (err : Bytes) (stored : Bool) : SectorOutcome :=
  let e := if stored then invertChecks (slice err 0 36) else slice err 0 36
  if synZero e then .clean
  else if synOne e then .corrected
  else if synZero (invertChecks e) || synOne (invertChecks e) then .poisoned
  else .uncorrectable

/-- A sector of a granule is stored poisoned. -/
def State.sectorPoisoned (s : State) (g sec : Nat) : Bool := s.poison.contains (g * 64 + sec * 8)

/-- The outcomes of the eight sectors of a granule read with some error patterns. -/
def State.readOutcomes (s : State) (g : Nat) (faults : List SectorFault) : List SectorOutcome :=
  (List.range 8).map (fun sec =>
    sectorOutcome (((faults.find? (fun f => f.sector.val == sec)).map (·.err)).getD []) (s.sectorPoisoned g sec))

/-- Re-reads of a granule while a sector stays Uncorrectable, at most two (16 R429): the outcomes delivered, every read's outcomes. -/
def retryReads (first : List SectorOutcome) : List (List SectorOutcome) → List SectorOutcome × List (List SectorOutcome)
  | [] => (first, [first])
  | r :: rest =>
    if first.contains .uncorrectable then
      let (d, all) := retryReads r rest
      (d, first :: all)
    else (first, [first])

/-- Faults of the rows, as events and records of corrected sectors (15 R408; 16 R427, R432). -/
def State.sectorEvents (s : State) (d g : Nat) (out : List SectorOutcome) : State :=
  let off := g * 256 % 2 ^ 40
  let (ch, bank) := s.chanOf d off
  let row := s.rowOf d off
  let res := Resource.row ⟨ch % 32, Nat.mod_lt _ (by decide)⟩ ⟨bank % 16, Nat.mod_lt _ (by decide)⟩ row
  let win := s.objNat 0x6001 2 86400 * watchHz
  out.zipIdx.foldl (fun s (o, sec) =>
    match o with
    | .uncorrectable => s.modDie d (fun x => { x with events := x.events ++ [⟨res, s.now⟩] })
    | .corrected =>
      let again := (s.die d).corrected.any (fun e => e.granule == g && e.sector == sec && decide (s.now ≤ e.at_ + win))
      s.modDie d (fun x => { x with corrected := x.corrected ++ [⟨g, sec, s.now⟩],
                                    events := if again then x.events ++ [⟨res, s.now⟩] else x.events })
    | _ => s) s

/-- A write-back the controller owes, merged with one owed already (R409). -/
def addWb (ws : List StackWb) (g sec : Nat) (poisoned : Bool) : List StackWb :=
  if ws.any (fun w => w.granule == g && w.sector == sec && !w.cancelled) then
    ws.map (fun w => if w.granule == g && w.sector == sec && !w.cancelled then { w with poisoned := w.poisoned || poisoned } else w)
  else ws ++ [⟨g, sec, poisoned, false⟩]

/-- The write-backs owed after a granule was delivered with some outcomes (R408, R409). -/
def owed (g : Nat) (out : List SectorOutcome) (ws : List StackWb) : List StackWb :=
  out.zipIdx.foldl (fun ws (o, sec) =>
    match o with
    | .corrected => addWb ws g sec false
    | .uncorrectable => addWb ws g sec true
    | _ => ws) ws

/-- The delivered outcomes of a granule: counters, fault log, row events and write-backs (15 R408, R409, R425; 16 R429). -/
def State.deliver (s : State) (d g : Nat) (first : List SectorOutcome) (out : List SectorOutcome)
    (all : List (List SectorOutcome)) : State :=
  let n := fun (o : SectorOutcome) (l : List SectorOutcome) => (l.filter (· = o)).length
  let off := g * 256 % 2 ^ 40
  let (ch, bank) := s.chanOf d off
  let row := s.rowOf d off
  let s := s.dbump d 3 1 ((all.map (n .corrected)).sum)
  let s := s.dbump d 3 2 (n .uncorrectable out)
  let s := s.dbump d 3 3 (n .poisoned out)
  let s := all.foldl (fun s o => s.sectorEvents d g o) s
  let rec0 : LogRec := { kind := 1, resource := 1, die := d, unit := ch, sub := bank, row := row, fa := g * 256 }
  let s := if first.contains .uncorrectable && !(out.contains .uncorrectable) then s.log rec0 else s
  let s := if out.contains .uncorrectable then s.log { rec0 with kind := 2, status := .poisoned } else s
  s.modDie d (fun x => { x with wbs := owed g out x.wbs })

/-- STACK_READ_RETURN (R147, R148; 15 R408, R409; 16 R429). `reads` are the error patterns of the read and of its re-reads. -/
def execStackReadReturn (d : DieNo) (ch : Fin 32) (slot : Nat) (reads : List (List SectorFault)) (s : State) : Out :=
  .next <|
  let sl := KMap.getOr [] (s.die d).slots ch
  match sl[slot]? with
  | some r =>
    if r.write then s else
    let outs := (List.range 3).map (fun i => s.readOutcomes r.granule (reads.getD i []))
    let first := outs.getD 0 []
    let (out, all) := retryReads first (outs.drop 1)
    let s := s.modDie d (fun x => { x with slots := KMap.put x.slots ch (sl.take slot ++ sl.drop (slot + 1)) })
    let s := s.dbump d 9 1 all.length
    let s := if r.requester = reqGather then s.dbump d 9 8 1 else s
    s.deliver d r.granule first out all
  | none => s

/-- STACK_WRITE_DONE (R148). -/
def execStackWriteDone (d : DieNo) (ch : Fin 32) (slot : Nat) (s : State) : Out :=
  .next <|
  let sl := KMap.getOr [] (s.die d).slots ch
  match sl[slot]? with
  | some r =>
    if r.write then s.modDie d (fun x => { x with slots := KMap.put x.slots ch (sl.take slot ++ sl.drop (slot + 1)) }) else s
  | none => s

/-- STACK_WRITEBACK (15 R407, R409): the oldest write-back owed is made, or discarded for a newer write. -/
def execStackWriteback (d : DieNo) (s : State) : Out :=
  .next <|
  match (s.die d).wbs with
  | [] => s
  | w :: rest =>
    let s := s.modDie d (fun x => { x with wbs := rest })
    if w.cancelled then s.dbump d 3 8 1
    else
      let s := if w.poisoned then { s with poison := NSet.addRange s.poison (w.granule * 64 + w.sector * 8) 8 } else s
      (s.dbump d 3 7 1).dbump d 3 4 (if w.poisoned then 1 else 0)

/-! ### Granting slots (R148 to R150) -/

/-- Slots of a channel that hold requests for one bank (R149). -/
def State.bankLoad (s : State) (d ch bank : Nat) : Nat :=
  ((KMap.getOr [] (s.die d).slots ch).filter (fun r => (s.chanOf d (r.granule * 256 % 2 ^ 40)).2 == bank)).length

/-- The first of the 64 requests at the head of an issue queue that channel `ch` can take: its place in the queue (R149, R150). -/
def State.offer (s : State) (d ch : Nat) (q : List StackReq) : Option Nat :=
  (q.take 64).findIdx? (fun r =>
    let (c, b) := s.chanOf d (r.granule * 256 % 2 ^ 40)
    c == ch && decide (s.bankLoad d ch b < 32))

/-- Requests of an issue queue that the bank cap holds for the first time are marked; the number of them (R149). -/
def State.markHeld (s : State) (d ch : Nat) (q : List StackReq) : List StackReq × Nat :=
  let hit := fun (i : Nat) (r : StackReq) =>
    let (c, b) := s.chanOf d (r.granule * 256 % 2 ^ 40)
    decide (i < 64) && c == ch && !r.held && decide (32 ≤ s.bankLoad d ch b)
  let q' := q.zipIdx.map (fun (r, i) => if hit i r then { r with held := true } else r)
  (q', (q.zipIdx.filter (fun (r, i) => hit i r)).length)

/-- The tile of a die whose unit a requester number names (R313); none for the uncore and the links. -/
def requesterTile (d q : Nat) : Option Nat := if q < 432 then some (144 * d + q % 144) else none

/-- A request accepted: a read of a page that is not SEALED, or a write to one that is, ends the job of a tile's unit (R157); a
write opens a FREE page and cancels write-backs owed to its granule (R154, R409). -/
def State.accept (s : State) (d ch : Nat) (r : StackReq) : State :=
  let a := r.granule * 256
  let put := fun (s : State) => s.modDie d (fun x =>
    { x with slots := KMap.put x.slots ch (KMap.getOr [] x.slots ch ++ [r]) })
  match (requesterTile d r.requester).bind (fun t => ((s.tile t).job).map (fun j => (t, j))) with
  | some (t, j) =>
    if r.write then
      if s.sealedAt a then s.sealViolation j t a
      else put ((s.openPage j a).modDie d (fun x => { x with
        wbs := x.wbs.map (fun w => if w.granule = r.granule then { w with cancelled := true } else w) }))
    else if s.sealedAt a then put s else s.sealViolation j t a
  | none =>
    let s := if r.write then s.modDie d (fun x => { x with
        wbs := x.wbs.map (fun w => if w.granule = r.granule then { w with cancelled := true } else w) }) else s
    put s

/-- Grants to requesters in cyclic order from the arbiter's pointer, one each, while slots are free (R150, R313). -/
def State.grantLoop (s : State) (d ch : Nat) : List Nat → State
  | [] => s
  | q :: rest =>
    let used := (KMap.getOr [] (s.die d).slots ch).length
    let s :=
      if used ≥ 256 ∨ (q = reqLint ∧ used > 192) then s else
      let (iq, held) := s.markHeld d ch (KMap.getOr [] (s.die d).issueQ q)
      let s := if held = 0 then s else
        (s.modDie d (fun x => { x with issueQ := KMap.put x.issueQ q iq })).dbump d 9 4 held
      match s.offer d ch iq with
      | none => s
      | some i =>
        match iq[i]? with
        | none => s
        | some r =>
          let s := s.modDie d (fun x => { x with
            issueQ := KMap.put x.issueQ q (iq.take i ++ iq.drop (i + 1)), slotArb := KMap.put x.slotArb ch ((q + 1) % 439) })
          s.accept d ch r
    State.grantLoop s d ch rest

/-- The requesters of a channel in cyclic order from a pointer (R313). -/
def cyclic (n p : Nat) : List Nat := (List.range n).map (fun i => (p + i) % n)

/-- STACK_REQUEST_GRANT (R148 to R150, R157). -/
def execStackRequestGrant (d : DieNo) (ch : Fin 32) (s : State) : Out :=
  .next <|
  if (s.die d).state ≠ .ready then s else
  let s := s.grantLoop d ch (cyclic 439 (KMap.getOr 0 (s.die d).slotArb ch))
  s.raiseTo (dkey d 9 3) (((s.die d).slots.map (fun e => e.2.length)).sum)

/-! ### The sequencer's data cache (R153, R390) -/

/-- SEQ_TIER1_LOAD (R153, R157). A hit needs no check; a miss on a SEALED page of a declared region fills the granule's lines. -/
def execSeqTier1Load (t : TileNo) (addr : Fa) (s : State) : Out :=
  .next <|
  match s.seqJob t with
  | none => s
  | some j =>
    match s.job? j with
    | none => s
    | some jb =>
      let a := addr.toNat
      if !(s.faValid a) || faSpace a ≠ 0 then s.refuseItem t j .badDescriptor 2 0xFF []
      else if !(jb.mayRead a 1) then s.refuseItem t j .accessDenied 5 0xFF []
      else
        let line : CacheLine := ⟨a / 256, s.ownerOf a⟩
        if (s.tile t).dcache.contains line then s
        else if !(s.sealedAt a) then s.sealViolation j t a
        else
          let s := s.modTile t (fun x => { x with dcache := line :: x.dcache.filter (fun l => l.granule ≠ a / 256) })
          s.request (dieOf t) (reqCache t) false (a / 256 * 256) 256

/-- SEQ_TIER1_STORE (R153): refused, and the job ends. -/
def execSeqTier1Store (t : TileNo) (addr : Fa) (s : State) : Out :=
  .next <|
  match s.seqJob t with
  | none => s
  | some j => s.refuseJob j .badDescriptor { kind := 4, resource := 9, die := dieOf t, tile := tileOf t, reason := 5, fa := addr.toNat }

/-! ### Commit fences and recycles (R154 to R158) -/

/-- The append region of a job that holds a page range from an address: its page size and the pages' bases (R156). -/
def Job.fenceRange (jb : Job) (a pages : Nat) : Option (Nat × List Nat) :=
  (jb.regions.find? (fun r => r.kind == 2 && decide (r.base ≤ a) && decide (a < r.base + r.bytes))).bind (fun r =>
    let first := r.base + (a - r.base) / 2 ^ r.log2 * 2 ^ r.log2
    if pages = 0 ∨ first + pages * 2 ^ r.log2 > r.base + r.bytes then none
    else some (r.log2, (List.range pages).map (fun i => first + i * 2 ^ r.log2)))

/-- COMMIT_FENCE (R156): on a range outside the job's append regions it is refused; on a sealed range it completes at once. -/
def execCommitFence (t : TileNo) (addr : Fa) (pages : Nat) (s : State) : Out :=
  .next <|
  match s.seqJob t with
  | none => s
  | some j =>
    match (s.job? j).bind (fun jb => jb.fenceRange addr.toNat pages) with
    | none => s.refuseJob j .accessDenied { kind := 4, resource := 0x0A, die := dieOf t, tile := tileOf t, reason := 5, fa := addr.toNat }
    | some (_, bases) => if bases.all s.sealedAt then s else s.await t (.fence addr.toNat pages)

/-- Writes that a fence still waits for: those its controller has accepted or holds, and those of the issuing tile's move queue
(R156). -/
def State.fencePending (s : State) (t a n : Nat) : Bool :=
  s.outstanding true a n || (s.tile t).moves.any (fun e =>
    (List.range (field e.desc 20 2 + 1)).any (fun i =>
      rangesMeet (field e.desc 8 6 + i * field e.desc 28 4) (field e.desc 16 4) a n))

/-- COMMIT_FENCE_DONE (R154, R156): the range's pages become SEALED, and the sequencer goes on. -/
def execCommitFenceDone (t : TileNo) (s : State) : Out :=
  .next <|
  match (s.tile t).seqWait, (s.tile t).job with
  | some (.fence a pages), some j =>
    match (s.job? j).bind (fun jb => jb.fenceRange a pages) with
    | none => s.resume t
    | some (log2, bases) =>
      if s.fencePending t (bases.headD a) (bases.length * 2 ^ log2) then s
      else (s.sealPages bases log2).resume t
  | _, _ => s

/-- PAGE_RECYCLE (R158): a SEALED page of one of the job's append regions is to be recycled. -/
def execPageRecycle (t : TileNo) (addr : Fa) (s : State) : Out :=
  .next <|
  match s.seqJob t with
  | none => s
  | some j =>
    match (s.job? j).bind (fun jb => jb.fenceRange addr.toNat 1) with
    | none => s.refuseJob j .accessDenied { kind := 4, resource := 0x0A, die := dieOf t, tile := tileOf t, reason := 5, fa := addr.toNat }
    | some (_, bases) =>
      if s.sealedAt addr.toNat then
        { s with pages := s.pages.map (fun p => if bases.contains p.base then { p with recycling := true } else p) }
      else s

/-- PAGE_RECYCLE_DONE (R158): every accepted read has returned; the page becomes FREE and every cached copy goes. -/
def execPageRecycleDone (d : DieNo) (addr : Fa) (s : State) : Out :=
  .next <|
  match s.page? addr.toNat with
  | none => s
  | some p =>
    if !p.recycling ∨ faDie p.base ≠ d.val ∨ s.outstanding false p.base (2 ^ p.log2) then s
    else
      let gone := fun (l : CacheLine) => decide (p.base / 256 ≤ l.granule) && decide (l.granule < (p.base + 2 ^ p.log2) / 256)
      { s with pages := s.pages.filter (fun q => q.base ≠ p.base),
               tiles := s.tiles.map (fun e => (e.1, { e.2 with dcache := e.2.dcache.filter (fun l => !(gone l)) })) }

end Sys2Proof.Machine
end

