-- ==== Sys2Proof/Machine/Descriptor.lean ====
section
/-! DEFINITION. The request descriptor (10 R251, R252, R256), a request's windows (10 R251), and how a stage goes on and ends
(10 R267, R268). -/

namespace Sys2Proof.Machine

/-! ### The header (R251) -/

/-- A stage is set: 1 EMBED, 2 SEARCH, 3 RERANK, 4 PACK, 5 GENERATE. -/
def rdStage (d : Bytes) (k : Nat) : Bool := bit (field d 1 1) (k - 1)
def rdFlag (d : Bytes) (i : Nat) : Bool := bit (field d 2 1) i
def rdVocab (d : Bytes) : Nat := field d 3 1
def rdLength (d : Bytes) : Nat := 64 * field d 4 2
def rdOutWindow (d : Bytes) : Nat := field d 8 2
def rdOutOffset (d : Bytes) : Nat := field d 16 8
def rdOutCap (d : Bytes) : Nat := field d 24 4
/-- Where a block lies: 0 segments, 1 EMBED, 2 sketch lookup, 3 SEARCH, 4 RERANK, 5 PACK, 6 GENERATE, 7 text block. -/
def rdOff (d : Bytes) (k : Nat) : Nat := 64 * field d (32 + 2 * k) 2
def rdHas (d : Bytes) (k : Nat) : Bool := rdOff d k ≠ 0
/-- The bytes of a block; a text block is read whole, to the descriptor's end. -/
def rdBlock (d : Bytes) (k n : Nat) : Bytes := slice d (rdOff d k) n

/-! ### Segments (R256) -/

/-- A segment of the prompt (R256). -/
structure Segment where
  kind : Nat
  query : Bool
  a : Nat
  b : Nat
  c : Nat
  bytes : Bytes
  deriving DecidableEq, Repr

def rdSegCount (d : Bytes) : Nat := if rdHas d 0 then field d (rdOff d 0) 2 else 0

def rdSegment (d : Bytes) (i : Nat) : Segment :=
  let b := slice d (rdOff d 0 + 16 + 16 * i) 16
  ⟨field b 0 1, bit (field b 1 1) 0, field b 2 2, field b 4 4, field b 8 8, b⟩

def rdSegments (d : Bytes) : List Segment := (List.range (rdSegCount d)).map (rdSegment d)

/-- The ids of a CONTROL segment (R256). -/
def Segment.ids (g : Segment) : List Nat := [g.b, g.c % 2 ^ 32, g.c / 2 ^ 32].take g.a

/-! ### Windows (R251) -/

/-- The context of a request: that of its ring. -/
def State.reqContext (_ : State) (x : Request) : Nat := x.ctx

/-- A host window of a context (12 R337). -/
def State.window? (s : State) (ctx num : Nat) : Option Window := KMap.find s.windows (winKey ctx num)

/-- A use of a window breaks R251: the window is absent or too short, or lacks the flag that the use needs. -/
def State.windowConds (s : State) (ctx num off n : Nat) (writing : Bool) : List Status :=
  match s.window? ctx num with
  | none => [.badDescriptor]
  | some w => cond (off + n > w.length) .badDescriptor ++ cond (if writing then !w.write else !w.read) .accessDenied

/-! ### Stages (R267, R268) -/

/-- The conditions a request has noted that a stage may end with and go on (R268). -/
def goesOn (st : Status) : Bool := st == .ok || st == .degraded

/-- The request whose given stage is under way. -/
def State.atStage (s : State) (r : W32) (k : Nat) : Option Request :=
  match s.req? r with
  | some x => if x.kind = 1 ∧ x.state = .stage ∧ x.stage = k then some x else none
  | none => none

/-- FP32 words of a run of bytes. -/
def wordsOfBytes (bs : Bytes) (n : Nat) : List W32 := (List.range n).map (fun i => BitVec.ofNat 32 (field bs (4 * i) 4))

def bytesOfWords (ws : List W32) : Bytes := ws.flatMap (fun w => leBytes 4 w.toNat)

end Sys2Proof.Machine
end

