-- ==== Sys2Proof/Machine/Selection.lean ====
section
/-! DEFINITION. The selection unit: descriptors, the order of entries, building and merging lists (05 R127 to R140). -/

namespace Sys2Proof.Machine

/-! ### Descriptors (R130) -/

def slOp (d : Bytes) : Nat := field d 0 1
def slSlot (d : Bytes) : Nat := field d 1 1 % 8
def slK (d : Bytes) : Nat := field d 2 2
def slFmt (d : Bytes) : Nat := field d 4 1
def slRowLen (d : Bytes) : Nat := field d 8 4
def slAddr (d : Bytes) : Nat := field d 2 3
def slExplicit (d : Bytes) : Bool := bit (field d 5 1) 0
def slCount (d : Bytes) : Nat := field d 8 4
def slIds (d : Bytes) : Nat := field d 12 3
def slBase (d : Bytes) : Nat := field d 16 8

/-- The longest row (R132). -/
def maxRow : Nat := 16777216

/-- The length of the list a slot holds once the queued descriptors have run; none where it is then closed. -/
def Tile.slotAfter (x : Tile) (slot : Nat) : Option Nat :=
  x.selQ.foldl (fun st d =>
    if slSlot d ≠ slot then st else if slOp d = 1 then some (slK d) else if slOp d = 4 then none else st)
    ((KMap.find x.slots slot).map (·.k))

/-- The check of a selection descriptor at issue (R131): the failing status and its reason of R444. -/
def selCheck (x : Tile) (t : Nat) (jb : Job) (d : Bytes) : Option (Status × Nat) :=
  let bad := fun n => some (Status.badDescriptor, n)
  let open_ := x.slotAfter (slSlot d)
  if field d 1 1 ≥ 8 then bad 1
  else
    match slOp d with
    | 1 =>
      if slFmt d ≥ 16 ∨ field d 5 1 ≥ 2 ∨ ¬ zeros d 6 2 ∨ ¬ zeros d 16 16 then bad 1
      else if open_.isSome then bad 6
      else if slK d = 0 ∨ slK d > 256 ∨ slRowLen d = 0 then bad 4
      else if slFmt d ≠ 0 ∧ slFmt d ≠ 10 then bad 7
      else none
    | 2 =>
      let a := slAddr d
      let n := slCount d
      if field d 5 1 ≥ 2 ∨ ¬ zeros d 6 2 ∨ ¬ zeros d 15 1 ∨ ¬ zeros d 24 8 ∨ (¬ slExplicit d ∧ slIds d ≠ 0) ∨
          (slExplicit d ∧ slBase d ≠ 0) then bad 1
      else if open_.isNone then bad 6
      else if a % 4 ≠ 0 ∨ slIds d % 8 ≠ 0 then bad 3
      else if n = 0 ∨ (¬ slExplicit d ∧ slBase d + n - 1 ≥ 2 ^ 64 - 1) then bad 4
      else if a + 4 * n > sramEnd ∨ (a < accBase ∧ a + 4 * n > accBase) then bad 2
      else if slExplicit d ∧ slIds d + 8 * n > accBase then bad 2
      else if !(jb.ownsSram t a (4 * n)) || (slExplicit d && !(jb.ownsSram t (slIds d) (8 * n))) then some (.accessDenied, 5)
      else none
    | 3 =>
      if ¬ zeros d 5 27 then bad 1
      else if open_.isNone then bad 6
      else if slAddr d % 16 ≠ 0 then bad 3
      else if slAddr d + 32 > accBase then bad 2
      else if !(jb.ownsSram t (slAddr d) 32) then some (.accessDenied, 5)
      else none
    | 4 =>
      if field d 5 1 ≥ 2 ∨ ¬ zeros d 8 24 ∨ (field d 5 1 = 0 ∧ field d 6 2 ≠ 0) then bad 1
      else
        match open_ with
        | none => bad 6
        | some k =>
          if slAddr d % 16 ≠ 0 then bad 3
          else if field d 6 2 > 255 then bad 4
          else if slAddr d + 32 + 16 * k > accBase then bad 2
          else if !(jb.ownsSram t (slAddr d) (32 + 16 * k)) then some (.accessDenied, 5)
          else none
    | _ => bad 1

/-- A checked descriptor put into the selection queue; an OPEN for too long a row is counted as refused (R132). -/
def State.pushSel (s : State) (t : Nat) (d : Bytes) : State :=
  (s.modTile t (fun x => { x with selQ := x.selQ ++ [d] })).tbump t 8 8 (if slOp d = 1 ∧ slRowLen d > maxRow then 1 else 0)

/-- SEL_ISSUE (R127, R131). -/
def execSelIssue (t : TileNo) (d : Bytes) (poisoned : Bool) (s : State) : Out :=
  .next <|
  match s.seqJob t with
  | none => s
  | some j =>
    if poisoned then s.poisonJob t j d else
    match s.job? j with
    | none => s
    | some jb =>
      match selCheck (s.tile t) t jb d with
      | some (st, reason) => s.refuseItem t j st reason (s.tile t).selQ.length d
      | none => if (s.tile t).selQ.length < 8 then s.pushSel t d else s.await t (.selFull d)

/-- The descriptor at the head of the queue has finished (R127); a sequencer that waited on the full queue issues. -/
def State.popSel (s : State) (t : Nat) : State :=
  let s := s.modTile t (fun x => { x with selQ := x.selQ.drop 1 })
  match (s.tile t).seqWait with
  | some (.selFull d) => (s.resume t).pushSel t d
  | _ => s

/-- The unit can work on a tile: it runs, its job is running, and the head of the queue has the operation. -/
def State.selHead (s : State) (t op : Nat) : Option (Bytes × Nat × Job) :=
  let x := s.tile t
  match x.power, x.job, x.selQ with
  | .running, some j, d :: _ =>
    match s.job? j with
    | some jb => if slOp d = op ∧ s.tileWorks t then some (d, j, jb) else none
    | none => none
  | _, _, _ => none

/-! ### Ordering and entry (R128, R129, R133) -/

/-- Two scores are equal (R128). -/
def SelSlot.scoreEq (sl : SelSlot) (a b : W32) : Bool := if sl.int32 then a == b else fpEq a b
/-- One score is better than another (R128). -/
def SelSlot.better (sl : SelSlot) (a b : W32) : Bool :=
  let lt := fun (a b : W32) => if sl.int32 then a.slt b else fpLt a b
  if sl.asc then lt a b else lt b a
/-- One entry precedes another (R128). -/
def SelSlot.precedes (sl : SelSlot) (a b : SelEntry) : Bool :=
  sl.better a.score b.score || (sl.scoreEq a.score b.score && decide (a.id < b.id))

/-- An entry put in its place. -/
def SelSlot.place (sl : SelSlot) (e : SelEntry) : List SelEntry → List SelEntry
  | [] => [e]
  | x :: r => if sl.precedes e x then e :: x :: r else x :: SelSlot.place sl e r

/-- An element that passed R129 entered into the list (R133): the slot, and insertions, removed and mismatched duplicates. -/
def SelSlot.enter (sl : SelSlot) (e : SelEntry) : SelSlot × Nat × Nat × Nat :=
  match sl.entries.find? (fun x => x.id == e.id) with
  | some x =>
    if sl.scoreEq x.score e.score then
      let es := if e.mismatch then sl.entries.map (fun y => if y.id == e.id then { y with mismatch := true } else y) else sl.entries
      ({ sl with entries := es, dupRemoved := sl.dupRemoved + 1 }, 0, 1, 0)
    else
      let others := sl.entries.filter (fun y => y.id ≠ e.id)
      let new := sl.precedes e x
      let kept := { (if new then e else x) with mismatch := true }
      ({ sl with entries := sl.place kept others, dupMismatch := sl.dupMismatch + 1 }, (if new then 1 else 0), 0, 1)
  | none =>
    if sl.entries.length < sl.k then ({ sl with entries := sl.place e sl.entries }, 1, 0, 0)
    else
      match sl.entries.getLast? with
      | some z => if sl.precedes e z then ({ sl with entries := (sl.place e sl.entries).take sl.k }, 1, 0, 0) else (sl, 0, 0, 0)
      | none => (sl, 0, 0, 0)

/-- An element as it reaches the unit: its entry, validity and poison (R129), and where its score lies. -/
structure SelElem where
  e : SelEntry
  valid : Bool
  poison : Bool
  fa : Nat
  deriving DecidableEq, Repr

/-- One element examined (R129, R133), with the die's counters (R142) and a record of one excluded for poison. -/
def State.selElem (s : State) (t slot : Nat) (el : SelElem) : State :=
  match KMap.find (s.tile t).slots slot with
  | none => s
  | some sl =>
    let put := fun (s : State) (sl : SelSlot) => s.modTile t (fun x => { x with slots := KMap.put x.slots slot sl })
    if el.poison then
      let s := put s { sl with poisonEx := sl.poisonEx + 1, degraded := true }
      (s.tbump t 8 4 1).log { status := .poisoned, kind := 3, resource := 2, die := dieOf t, tile := tileOf t, fa := el.fa,
                              job := ((s.tile t).job).getD 0xFFFF, req := sl.req.toNat }
    else if !el.valid || (!sl.int32 && isNan el.e.score) || el.e.id == 0xFFFFFFFFFFFFFFFF then
      (put s { sl with invalidEx := sl.invalidEx + 1 }).tbump t 8 5 1
    else
      let (sl, ins, rem, mis) := sl.enter el.e
      (((put s sl).tbump t 8 3 ins).tbump t 8 6 rem).tbump t 8 7 mis

/-- A slot refused for its row length: the list will be empty, and the request it serves ends ROW_TOO_LONG with its stage (R132). -/
def State.refuseRow (s : State) (t slot : Nat) (count : Nat) : State :=
  match KMap.find (s.tile t).slots slot with
  | none => s
  | some sl =>
    let s := s.modTile t (fun x => { x with slots := KMap.put x.slots slot { sl with refused := true } })
    (s.modReq sl.req (fun x => x.note .rowTooLong)).tbump t 8 8 count

/-- SEL_OPEN (R130, R132). -/
def execSelOpen (t : TileNo) (s : State) : Out :=
  .next <|
  match s.selHead t 1 with
  | none => s
  | some (d, _, _) =>
    let sl : SelSlot := { k := slK d, int32 := slFmt d == 10, asc := bit (field d 5 1) 0, rowLen := slRowLen d,
                          req := BitVec.ofNat 32 (field d 12 4) }
    let s := s.modTile t (fun x => { x with slots := KMap.put x.slots (slSlot d) sl })
    (if slRowLen d > maxRow then s.refuseRow t (slSlot d) 0 else s).popSel t

/-- The elements a FEED reads, in order (R129, R130): accumulator scores with their valid bits. -/
def State.feedElems (s : State) (t : Nat) (d : Bytes) : List SelElem :=
  let x := s.tile t
  (List.range (slCount d)).map (fun j =>
    let off := slAddr d + 4 * j
    let l : W32 := BitVec.ofNat 32 (leNat (Memory.reads s.mem (sramFa t off) 4))
    let idOff := slIds d + 8 * j
    let id := if slExplicit d then leNat (Memory.reads s.mem (sramFa t idOff) 8) else slBase d + j
    let p := s.poisonedWord (sramFa t off / 4) || (slExplicit d && s.poisonedRange (sramFa t idOff) 8)
    ⟨⟨BitVec.ofNat 64 id, l, false⟩, off < accBase || x.accValid.contains ((off - accBase) / 4), p, sramFa t off⟩)

/-- Elements received by a slot (R132, R134). -/
def State.receive (s : State) (t slot n : Nat) : State :=
  (s.modTile t (fun x => { x with slots := x.slots.map (fun e =>
    if e.1 = slot then (e.1, { e.2 with received := e.2.received + n, examined := e.2.examined + n }) else e) })).tbump t 8 2 n

/-- SEL_FEED (R58, R129, R132, R133, R163). -/
def execSelFeed (t : TileNo) (s : State) : Out :=
  .next <|
  match s.selHead t 2 with
  | none => s
  | some (d, j, _) =>
    let slot := slSlot d
    match KMap.find (s.tile t).slots slot with
    | none => s
    | some sl =>
      let n := slCount d
      if sl.refused then s.popSel t
      else if sl.received + n > sl.rowLen then (s.refuseRow t slot 1).popSel t
      else
        match (s.tile t).accAccess (slAddr d) (4 * n) with
        | .dead => s.refuseItem t j .badDescriptor 6 0 d
        | .wait => s
        | .go =>
          if s.notArrived t (slAddr d) (4 * n) || (slExplicit d && s.notArrived t (slIds d) (8 * n)) then s
          else ((s.feedElems t d).foldl (fun s el => s.selElem t slot el) (s.receive t slot n)).popSel t

/-! ### Merging (R137) -/

/-- The state a list header must be in for a MERGE (R137). -/
def headerOk (h : Bytes) (sl : SelSlot) : Bool :=
  decide (field h 5 1 < 32) && zeros h 6 2 && decide (1 ≤ field h 2 2) && decide (field h 2 2 ≤ 256) &&
  decide (field h 0 2 ≤ field h 2 2) && [0, 3, 15].contains (field h 4 1) &&
  field h 5 1 % 16 == (if sl.int32 then 10 else 0) && (bit (field h 5 1) 4 == sl.asc)

/-- The entries 0 to n − 1 of a stored list as elements (R135, R137). -/
def State.listElems (s : State) (t addr n : Nat) : List SelElem :=
  (List.range n).map (fun i =>
    let off := addr + 32 + 16 * i
    let e := Memory.reads s.mem (sramFa t off) 16
    ⟨⟨BitVec.ofNat 64 (field e 0 8), BitVec.ofNat 32 (field e 8 4), bit (field e 12 4) 1⟩, bit (field e 12 4) 0,
     s.poisonedRange (sramFa t off) 16, sramFa t off⟩)

/-- A merged header's counts taken into the slot (R137). -/
def SelSlot.absorb (sl : SelSlot) (h : Bytes) : SelSlot :=
  { sl with poisonEx := sl.poisonEx + field h 12 4, invalidEx := sl.invalidEx + field h 16 4,
            dupRemoved := sl.dupRemoved + field h 20 4, dupMismatch := sl.dupMismatch + field h 24 4,
            degraded := sl.degraded || field h 4 1 == 3 }

/-- SEL_MERGE (R132, R133, R137). -/
def execSelMerge (t : TileNo) (s : State) : Out :=
  .next <|
  match s.selHead t 3 with
  | none => s
  | some (d, j, jb) =>
    let slot := slSlot d
    match KMap.find (s.tile t).slots slot with
    | none => s
    | some sl =>
      let a := slAddr d
      let put := fun (s : State) (sl : SelSlot) => s.modTile t (fun x => { x with slots := KMap.put x.slots slot sl })
      if sl.refused then s.popSel t
      else if s.notArrived t a 32 then s
      else if s.poisonedRange (sramFa t a) 32 then
        let s := (put s { sl with poisonEx := sl.poisonEx + 1, degraded := true }).tbump t 8 4 1
        (s.logPoison t d (sramFa t a)).popSel t
      else
        let h := Memory.reads s.mem (sramFa t a) 32
        let n := field h 0 2
        if !(headerOk h sl) then s.refuseItem t j .badDescriptor 7 0 d
        else if a + 32 + 16 * n > accBase then s.refuseItem t j .badDescriptor 2 0 d
        else if !(jb.ownsSram t a (32 + 16 * n)) then s.refuseItem t j .accessDenied 5 0 d
        else if sl.received + n > sl.rowLen then (s.refuseRow t slot 1).popSel t
        else if s.notArrived t (a + 32) (16 * n) then s
        else
          let s := (put s (sl.absorb h)).receive t slot n
          let s := (s.listElems t a n).foldl (fun s el => s.selElem t slot el) s
          (if field h 4 1 = 15 then s.refuseRow t slot 0 else s).popSel t

/-! ### Closing (R134 to R136) -/

/-- The status a closed list carries (R134, R136). -/
def SelSlot.status (sl : SelSlot) : Nat := if sl.refused then 15 else if sl.degraded then 3 else 0

/-- The bytes of a closed list: its header and k entries, the empty ones marked (R134, R135). -/
def SelSlot.bytes (sl : SelSlot) : Bytes :=
  let es := if sl.refused then [] else sl.entries
  let entry := fun (e : SelEntry) => leBytes 8 e.id.toNat ++ leBytes 4 e.score.toNat ++ leBytes 4 (1 + if e.mismatch then 2 else 0)
  let empty : Bytes := leBytes 8 (2 ^ 64 - 1) ++ leBytes 4 (2 ^ 32 - 1) ++ leBytes 4 0
  leBytes 2 es.length ++ leBytes 2 sl.k ++ leBytes 1 sl.status ++
  leBytes 1 ((if sl.int32 then 10 else 0) + if sl.asc then 16 else 0) ++ [0, 0] ++
  leBytes 4 sl.examined ++ leBytes 4 sl.poisonEx ++ leBytes 4 sl.invalidEx ++ leBytes 4 sl.dupRemoved ++
  leBytes 4 sl.dupMismatch ++ leBytes 4 sl.req.toNat ++
  es.flatMap entry ++ (List.replicate (sl.k - es.length) empty).flatten

/-- SEL_CLOSE (R134 to R136): the list is written, the slot closes, and a counter is signalled where the descriptor asks. -/
def execSelClose (t : TileNo) (s : State) : Out :=
  .next <|
  match s.selHead t 4 with
  | none => s
  | some (d, j, _) =>
    match KMap.find (s.tile t).slots (slSlot d) with
    | none => s
    | some sl =>
      let s := s.storeClean (sramFa t (slAddr d)) sl.bytes
      let s := s.modTile t (fun x => { x with slots := KMap.del x.slots (slSlot d) })
      let s := if sl.degraded && !sl.refused then s.modReq sl.req (fun x => x.note .degraded) else s
      let s := if bit (field d 5 1) 0 then s.signal j (dieOf t) (field d 6 2) else s
      (s.tbump t 8 1 1).popSel t

/-- A list slot is still open, or will be by a queued descriptor (R136). -/
def Tile.slotBusy (x : Tile) (slot : Nat) : Bool :=
  (KMap.find x.slots slot).isSome || x.selQ.any (fun d => slSlot d == slot)

/-- SELECT_WAIT (R136). -/
def execSelectWait (t : TileNo) (slot : Fin 8) (s : State) : Out :=
  .next <|
  match s.seqJob t with
  | none => s
  | some _ => if (s.tile t).slotBusy slot then s.await t (.select slot) else s

/-- SELECT_WAIT_RESUME (R136). -/
def execSelectWaitResume (t : TileNo) (s : State) : Out :=
  .next <|
  match (s.tile t).seqWait with
  | some (.select slot) => if (s.tile t).slotBusy slot then s else s.resume t
  | _ => s

end Sys2Proof.Machine
end

