-- ==== Sys2Proof/Machine/Search.lean ====
section
/-! DEFINITION. Vector similarity search: scores, the bin-graph walk, filters, batches and results, updates and folds
(07 R174 to R203). A job of the search runtime does this work; the model computes what it stores. -/

namespace Sys2Proof.Machine

/-! ### Scores (R177) -/

/-- A raw dot product in FP32: each exact product is added with one rounding, in a free order (02 R62, R92). -/
def dotFree (k : Nat) (q v : List W32) : W32 :=
  accFp true 0 (freeOrder k q.length (List.zipWith (fun a b => mulVal (fval a) (fval b)) q v))

/-- The norm word of a vector under a metric: |v|² or 1/|v|, the reciprocal root within the bound of R109. -/
def normWord (metric k : Nat) (v : List W32) : W32 :=
  let n := dotFree k v v
  match metric with
  | 1 => n
  | 2 => if fval n == .fin false ⟨0, 0⟩ ∨ n = 0 then 0 else (fpRsqrt (Config.approx 0xF0 n) n).v
  | _ => 0

/-- The score of an item: its norm word `vn`, the query's `qn` (R177). -/
def itemScore (metric k : Nat) (q v : List W32) (qn vn : W32) : W32 :=
  let p := dotFree k q v
  match metric with
  | 1 => fpSum k [qn, vn, fpNeg (fpMul 0x40000000 p).v]
  | 2 => (fpMul (fpMul p qn).v vn).v
  | _ => p

/-- An empty list of a search (R189): ASC for squared L2. -/
def Coll.slot (c : Coll) (k : Nat) (req : W32) : SelSlot :=
  { k := k, int32 := false, asc := c.metric == 1, rowLen := maxRow, req := req }

/-- An element taken into a list (05 R129, R133). -/
def SelSlot.take (sl : SelSlot) (el : SelElem) : SelSlot :=
  if el.poison then { sl with poisonEx := sl.poisonEx + 1, degraded := true }
  else if !el.valid || (!sl.int32 && isNan el.e.score) || el.e.id == 0xFFFFFFFFFFFFFFFF then { sl with invalidEx := sl.invalidEx + 1 }
  else (sl.enter el.e).1

/-! ### Stored structures (R178 to R181) -/

/-- Queries scanned together, and dimensions per chunk, by shape (02 R61). -/
def shapeQ (shape : Nat) : Nat := 64 / 2 ^ shape
def shapeC (shape : Nat) : Nat := 2 * 2 ^ shape
/-- Items of a block (R179). -/
def nBlk (shape : Nat) : Nat := 512 * 2 ^ shape

/-- Where bin `b`'s entry of the bin table lies (R178). -/
def binAt (v : CollVersion) (b : Nat) : Nat := v.binTable + 64 * b

/-- A bin as its entry gives it (R178). -/
structure Bin where
  vec : Nat
  live : Bool
  ids : Nat
  attrs : Nat
  norms : Nat
  count : Nat
  fold : Nat
  deriving DecidableEq, Repr

def State.bin (s : State) (v : CollVersion) (b : Nat) : Bin :=
  let e := s.bytesAt (binAt v b) 64
  let live := bit (field e 6 2) 0
  ⟨field e 0 6, live, field e 8 6, field e 16 6, field e 24 6, if live then min (field e 32 4) 1048576 else 0, field e 40 6⟩

/-- A bin-table entry is poisoned (R200). -/
def State.binPoisoned (s : State) (v : CollVersion) (b : Nat) : Bool := s.poisonedRange (binAt v b) 64

/-- The address of dimension `k` of item `j` of a bin (R179). -/
def itemAt (c : Coll) (b : Bin) (j k : Nat) : Nat :=
  let n := nBlk c.shape
  let w := shapeC c.shape
  let i := j / n
  let m := min n (b.count - i * n)
  b.vec + 4 * c.dim * n * i + 4 * m * w * (k / w) + 4 * w * (j % n) + 4 * (k % w)

def State.word (s : State) (a : Nat) : W32 := BitVec.ofNat 32 (s.natAt a 4)

def State.itemVec (s : State) (c : Coll) (b : Bin) (j : Nat) : List W32 := (List.range c.dim).map (fun k => s.word (itemAt c b j k))
def State.itemPoison (s : State) (c : Coll) (b : Bin) (j : Nat) : Bool :=
  (List.range c.dim).any (fun k => s.poisonedRange (itemAt c b j k) 4) || s.poisonedRange (b.norms + 4 * j) 4 ||
  s.poisonedRange (b.ids + 8 * j) 8

/-- The entry points of a graph map, in order (R181). -/
def State.entryPoints (s : State) (v : CollVersion) : List Nat :=
  (List.range (min (s.natAt v.graphMap 2) 64)).map (fun i => s.natAt (v.graphMap + 16 + 4 * i) 4)

/-- Bytes of a graph map (R181). -/
def State.mapBytes (s : State) (v : CollVersion) : Nat := 272 + 16 * s.natAt (v.graphMap + 2) 2

/-- Where the node of a bin lies (R180, R181). -/
def State.nodeAt (s : State) (v : CollVersion) (b : Nat) : Option Nat :=
  let stride := s.natAt (v.graphMap + 4) 4
  ((List.range (min (s.natAt (v.graphMap + 2) 2) 9216)).map (fun i => s.bytesAt (v.graphMap + 272 + 16 * i) 16)).findSome? (fun r =>
    let first := field r 4 4
    if first ≤ b ∧ b < first + field r 8 4 then some (sramFa (field r 0 2) (field r 12 4 + stride * (b - first))) else none)

/-- The centroid at a node (R180). -/
def State.centroid (s : State) (c : Coll) (node : Nat) : List W32 :=
  (List.range c.dim).map (fun k =>
    if c.centBf16 then BitVec.ofNat 32 (s.natAt (node + 144 + 2 * k) 2 * 65536) else s.word (node + 144 + 4 * k))

def centroidBytes (c : Coll) : Nat := c.dim * (if c.centBf16 then 2 else 4)

/-! ### The walk (R182, R183, R200) -/

/-- A walk in progress: the ordered list of bins, the bins seen and expanded, and its counts. `k` is the next free draw. -/
structure Walk where
  k : Nat
  list : List SelEntry := []
  seen : NSet := []
  expanded : NSet := []
  rounds : Nat := 0
  dangling : Nat := 0
  fallbacks : Nat := 0
  poison : Nat := 0
  deriving DecidableEq, Repr

/-- What a walk is asked: the collection, its version and order, the query and its norm word. -/
structure WalkArgs where
  coll : Coll
  v : CollVersion
  q : List W32
  qn : W32

/-- A bin scored by its centroid and put into the list; a poisoned or NaN centroid leaves it out (R182, R200). -/
def Walk.score (s : State) (a : WalkArgs) (w : Walk) (b node : Nat) : Walk :=
  if s.poisonedRange (node + 144) (centroidBytes a.coll) then { w with poison := w.poison + 1 } else
  let cv := s.centroid a.coll node
  let z := itemScore a.coll.metric w.k a.q cv a.qn (normWord a.coll.metric w.k cv)
  let w := { w with k := w.k + 1 }
  if isNan z then w else { w with list := (a.coll.slot 1 0).place ⟨BitVec.ofNat 64 b, z, false⟩ w.list }

/-- The entry points, until `n` are taken (R182, R183). -/
def Walk.enter (s : State) (a : WalkArgs) (w : Walk) : Nat → List Nat → Walk
  | 0, _ => w
  | _, [] => w
  | n + 1, e :: es =>
    if e = 0xFFFFFFFF then w else
    let w := { w with seen := NSet.add w.seen e }
    match s.nodeAt a.v e with
    | none => Walk.enter s a w (n + 1) es
    | some node =>
      if bit (s.natAt (node + 5) 1) 0 then Walk.enter s a { w with fallbacks := w.fallbacks + 1 } (n + 1) es
      else Walk.enter s a (w.score s a e node) n es

/-- The edges of one node (R182, R183, R200). -/
def Walk.expand (s : State) (a : WalkArgs) (w : Walk) (b : Nat) : Walk :=
  let w := { w with expanded := NSet.add w.expanded b }
  match s.nodeAt a.v b with
  | none => w
  | some node =>
    (List.range (min (s.natAt (node + 4) 1) 32)).foldl (fun w i =>
      if s.poisonedRange (node + 16 + 4 * i) 4 then { w with poison := w.poison + 1 } else
      let t := s.natAt (node + 16 + 4 * i) 4
      if w.seen.contains t then w else
      let w := { w with seen := NSet.add w.seen t }
      match s.nodeAt a.v t with
      | none => w
      | some n => if bit (s.natAt (n + 5) 1) 0 then { w with dangling := w.dangling + 1 } else w.score s a t n) w

/-- The rounds, while any remain and a bin is left to expand (R182). -/
def Walk.run (s : State) (a : WalkArgs) (p width : Nat) : Nat → Walk → Walk
  | 0, w => w
  | n + 1, w =>
    let x := ((((w.list.take p).map (·.id.toNat)).filter (fun b => !(w.expanded.contains b)))).take width
    if x = [] then w else
      Walk.run s a p width n (let w := x.foldl (fun w b => w.expand s a b) w; { w with rounds := w.rounds + 1 })

/-! ### The search stage block and its filter (R184 to R186) -/

def sbColl (b : Bytes) : Nat := field b 2 2
def sbK (b : Bytes) : Nat := field b 4 2
def sbProbe (b : Bytes) : Nat := field b 6 2
def sbHost (b : Bytes) : Bool := bit (field b 1 1) 0
def sbTerms (b : Bytes) : Nat := field b 10 1
def sbMinEpoch (b : Bytes) : Nat := field b 16 6
def sbTerm (b : Bytes) (t : Nat) : Bytes := slice b (64 + 24 * t) 24

/-- The result of a filter term on an attribute word, after NOT (R185). -/
def termKeeps (t : Bytes) (a : Nat) : Bool :=
  let mask := field t 8 8
  let f := (a >>> field t 3 1) &&& mask
  let v := field t 16 8
  let r :=
    match field t 0 1 with
    | 1 => (a &&& mask) ≠ 0
    | 2 => (a &&& mask) == mask
    | 3 => match field t 2 1 with
      | 0 => f == v
      | 1 => f ≠ v
      | 2 => decide (f < v)
      | 3 => decide (f ≤ v)
      | 4 => decide (f > v)
      | _ => decide (f ≥ v)
    | _ => decide (v % 2 ^ 32 ≤ f) && decide (f ≤ v / 2 ^ 32)
  r != bit (field t 1 1) 0

/-- The filter program (R185). -/
def filterKeeps (b : Bytes) (a : Nat) : Bool :=
  (List.range (sbTerms b)).foldl (fun keep i =>
    let t := sbTerm b i
    let r := termKeeps t a
    if i = 0 then r else if bit (field t 1 1) 1 then keep || r else keep && r) true

/-- A used filter term breaks R185. -/
def termBad (first : Bool) (t : Bytes) : Bool :=
  let op := field t 0 1
  op == 0 || decide (op > 4) || decide (field t 1 1 ≥ 4) || (first && bit (field t 1 1) 1) || !(zeros t 4 4) ||
  (if op = 3 then decide (field t 2 1 > 5) else field t 2 1 ≠ 0) ||
  (if op ≥ 3 then decide (field t 3 1 > 63) else field t 3 1 ≠ 0 || !(zeros t 16 8)) ||
  (op == 4 && decide (field t 16 4 > field t 20 4))

/-- The block breaks R184 or R185 (R186). -/
def searchBlockBad (b : Bytes) : Bool :=
  field b 0 1 ≠ 1 || decide (field b 1 1 ≥ 2) || decide (sbColl b > 255) || sbK b == 0 || decide (sbK b > 256) ||
  sbProbe b == 0 || decide (sbProbe b > 4096) || field b 8 1 == 0 || decide (field b 8 1 > 64) || field b 9 1 == 0 ||
  decide (field b 9 1 > 64) || decide (sbTerms b > 8) || !(zeros b 11 1) || field b 12 2 == 0 || !(zeros b 14 2) ||
  !(zeros b 22 2) || !(zeros b 26 6) || decide (field b 32 8 % 64 ≠ 0) || !(zeros b 40 24) ||
  (!(sbHost b) && (field b 24 2 ≠ 0 || field b 32 8 ≠ 0)) ||
  (List.range 8).any (fun t => if t < sbTerms b then termBad (t == 0) (sbTerm b t) else !(zeros (sbTerm b t) 0 24))

/-! ### Admission (R176, R186, R195) -/

/-- The collection a handle names. -/
def State.coll? (s : State) (h : Nat) : Option Coll := KMap.find s.colls h

/-- A SEARCH stage that ends here, counted as completed (R201). -/
def State.failSearch (s : State) (r : W32) (st : Status) : State := (s.bump (okey 0x2500 2) 1).failReq r st

/-- A query admitted under an epoch and a version joins the batch (R187, R195). -/
def State.pinSearch (s : State) (r : W32) (x : Request) (h : Nat) (c : Coll) (q : List W32) (poison : Bool) : State :=
  let s := { s with colls := s.colls.put h { c with cur := { c.cur with pins := c.cur.pins ++ [r] }, batch := c.batch ++ [r] } }
  s.setReq r { x with search := some { coll := h, epoch := c.epoch, version := c.cur.num, query := q, queryPoison := poison, result := none } }

/-- The query vector: the host's bytes or EMBED's output (R184). -/
def queryOf (x : Request) (c : Coll) (host : Bool) (t : Transfer) : Except Status (List W32) :=
  if !host then .ok x.qvec else
  match t with
  | .data bs => .ok (wordsOfBytes bs c.dim)
  | .poisoned => .error .poisoned
  | .failed e => .error (causeStatus e)

/-- SEARCH_ADMIT (R176, R186, R195). -/
def execSearchAdmit (req : W32) (query : Transfer) (s : State) : Out :=
  .next <|
  match s.atStage req 2 with
  | none => s
  | some x =>
    let b := rdBlock x.desc 3 256
    match s.coll? (sbColl b) with
    | none => s.failSearch req .versionGone
    | some c =>
      if x.search.isSome then s
      else if searchBlockBad b || (!(sbHost b) && x.qvec.length ≠ c.dim) then s.failSearch req .badDescriptor
      else
        match queryOf x c (sbHost b) query with
        | .error .poisoned =>
          if sbMinEpoch b ≠ 0 ∧ c.epoch < sbMinEpoch b then (s.bump (okey 0x2500 0x0A) 1).failSearch req .notReady
          else s.pinSearch req x (sbColl b) c [] true
        | .error st => s.failSearch req st
        | .ok q =>
          if sbMinEpoch b ≠ 0 ∧ c.epoch < sbMinEpoch b then (s.bump (okey 0x2500 0x0A) 1).failSearch req .notReady
          else s.pinSearch req x (sbColl b) c q false

/-! ### The scan of a batch (R187 to R190, R195, R200) -/

/-- A target hidden at an epoch (R193, R195). -/
def CollVersion.hiddenAt (v : CollVersion) (t : HideTarget) (e : Nat) : Bool := v.hides.any (fun h => h.target = t && decide (h.epoch ≤ e))

/-- The version a query pinned. -/
def Coll.version (c : Coll) (n : Nat) : CollVersion :=
  match c.old with
  | some v => if v.num = n then v else c.cur
  | none => c.cur

/-- A query of a batch with its walk: its request, block, epoch, vector and norm word, its probe set, and its list as it grows with the
counts of the header (R190). -/
structure Query where
  r : W32
  blk : Bytes
  epoch : Nat
  q : List W32
  qn : W32
  walk : Walk
  probe : NSet
  mapBad : Bool
  sl : SelSlot
  items : Nat := 0
  side : Nat := 0
  hidden : Nat := 0
  filtered : Nat := 0
  poison : Nat := 0
  deriving DecidableEq, Repr

/-- The walk of one query (R182). -/
def State.walkQuery (s : State) (c : Coll) (v : CollVersion) (r : W32) (k : Nat) : Option Query :=
  match s.req? r with
  | none => none
  | some x =>
    match x.search with
    | none => none
    | some se =>
      let b := rdBlock x.desc 3 256
      let qn := normWord c.metric k se.query
      let a : WalkArgs := ⟨c, v, se.query, qn⟩
      let bad := se.queryPoison || s.poisonedRange v.graphMap (s.mapBytes v)
      let w : Walk := { k := k + 1 }
      let w := if bad then w else Walk.run s a (sbProbe b) (field b 8 1) (field b 12 2) (w.enter s a (field b 9 1) (s.entryPoints v))
      some { r := r, blk := b, epoch := se.epoch, q := se.query, qn := qn, walk := w, mapBad := bad,
             probe := ((w.list.take (sbProbe b)).map (·.id.toNat)).foldl NSet.add [], sl := c.slot (sbK b) r, poison := w.poison }

/-- The walks of a batch, with draws counted on. -/
def State.walkAll (s : State) (c : Coll) (v : CollVersion) : List W32 → Nat → List Query × Nat
  | [], k => ([], k)
  | r :: rs, k =>
    match s.walkQuery c v r k with
    | none => s.walkAll c v rs k
    | some q => let (qs, k') := s.walkAll c v rs q.walk.k; (q :: qs, k')

/-- An attribute word met by a query: read only where it has filter terms (R185, R200). -/
def State.attrOk (s : State) (q : Query) (a : Nat) : Bool × Bool :=
  if sbTerms q.blk = 0 then (true, false) else (filterKeeps q.blk (s.natAt a 8), s.poisonedRange a 8)

/-- One bin item met by one query (R188, R195, R200). -/
def Query.item (s : State) (c : Coll) (v : CollVersion) (bn : Nat) (b : Bin) (j k : Nat) (q : Query) : Query :=
  let id := BitVec.ofNat 64 (s.natAt (b.ids + 8 * j) 8)
  let out := fun (q : Query) => { q with sl := q.sl.take ⟨⟨id, qnan, false⟩, false, false, 0⟩ }
  if !(q.probe.contains bn) then out q else
  let q := { q with items := q.items + 1 }
  let hid := v.hiddenAt (.bin bn j) q.epoch
  let (keep, attrBad) := s.attrOk q (b.attrs + 8 * j)
  let q := { q with hidden := q.hidden + (if hid then 1 else 0), filtered := q.filtered + (if keep then 0 else 1) }
  if attrBad then out { q with poison := q.poison + 1, sl := { q.sl with degraded := true } }
  else if hid || !keep then out q
  else
    let p := s.itemPoison c b j
    let z := itemScore c.metric k q.q (s.itemVec c b j) q.qn (s.word (b.norms + 4 * j))
    { q with sl := q.sl.take ⟨⟨id, z, false⟩, true, p, 0⟩, poison := q.poison + (if p then 1 else 0) }

/-- One side slot met by one query (R188, R195). -/
def Query.sideSlot (c : Coll) (v : CollVersion) (sd : SideSlot) (k : Nat) (q : Query) : Query :=
  let vis := decide (sd.epoch ≤ q.epoch) && !(v.hiddenAt (.side sd.num) q.epoch)
  let keep := sbTerms q.blk == 0 || filterKeeps q.blk sd.attr.toNat
  let z := if vis && keep then itemScore c.metric k q.q sd.vec q.qn sd.norm else qnan
  { q with side := q.side + 1, hidden := q.hidden + (if vis then 0 else 1), filtered := q.filtered + (if keep then 0 else 1),
           sl := q.sl.take ⟨⟨sd.id, z, false⟩, vis && keep, false, 0⟩ }

/-- The union of the probe sets (R188). -/
def unionOf (qs : List Query) : NSet := qs.foldl (fun u q => q.probe.foldl NSet.add u) []

/-- One bin scanned for every query of the batch; a poisoned entry leaves it out (R188, R200). -/
def scanBin (s : State) (c : Coll) (v : CollVersion) (bn : Nat) (acc : List Query × Nat × Nat × Nat) : List Query × Nat × Nat × Nat :=
  let (qs, k, bins, items) := acc
  if s.binPoisoned v bn then
    (qs.map (fun q => if q.probe.contains bn then { q with poison := q.poison + 1, sl := { q.sl with degraded := true } } else q),
     k, bins, items)
  else
    let b := s.bin v bn
    let qs := (List.range b.count).foldl (fun qs j => qs.mapIdx (fun i q => q.item s c v bn b j (k + j * 64 + i))) qs
    (qs, k + b.count * 64, bins + 1, items + b.count)

/-- A field that stops at its largest value (R190). -/
def stop32 (n : Nat) : Nat := min n 0xFFFFFFFF

/-- The output of a query: the search header and the root list; no list where the query or the graph map was poisoned. The list's
examined and duplicate counts depend on the tree of merges and are free (R138, R190, R200). -/
def Query.bytes (v : CollVersion) (free : Nat) (q : Query) : Bytes :=
  let sl := { q.sl with examined := Config.freeNat free % 2 ^ 32, dupRemoved := Config.freeNat (free + 1) % 2 ^ 32,
                        dupMismatch := Config.freeNat (free + 2) % 2 ^ 32,
                        degraded := q.sl.degraded || decide (q.walk.poison > 0) }
  let st := if q.mapBad then 2 else sl.status
  leBytes 6 q.epoch ++ leBytes 1 st ++ [0] ++ leBytes 4 v.num ++ leBytes 4 q.probe.length ++ leBytes 4 q.walk.rounds ++
  leBytes 4 (stop32 q.walk.dangling) ++ leBytes 4 (stop32 q.walk.fallbacks) ++ leBytes 4 (stop32 q.side) ++ leBytes 8 q.items ++
  leBytes 4 (stop32 q.hidden) ++ leBytes 4 (stop32 q.filtered) ++ leBytes 4 (stop32 q.poison) ++ List.replicate 12 0 ++
  (if q.mapBad then [] else sl.bytes)

/-- The queries of the batch that closes: those at the front of the list that pin one version, at most q (R187). -/
def State.batchOf (s : State) (c : Coll) : List W32 :=
  let ver := fun r => ((s.req? r).bind (fun x => x.search.map (·.version)))
  match c.batch with
  | [] => []
  | r :: _ => (c.batch.takeWhile (fun x => ver x = ver r)).take (shapeQ c.shape)

/-- One query's result stored, and its own counts (R201). -/
def State.putResult (s : State) (v : CollVersion) (q : Query) : State :=
  let bs := q.bytes v s.free
  let s := ({ s with free := s.free + 3 } : State).modReq q.r (fun x =>
    { x with search := x.search.map (fun se => { se with result := some bs }) })
  (((s.bump (okey 0x2500 6) q.walk.dangling).bump (okey 0x2500 7) q.walk.fallbacks).bump (okey 0x2500 8) q.filtered).bump
    (okey 0x2500 9) q.poison

/-- BATCH_CLOSE (R187 to R190): the batch is walked and scanned. -/
def execBatchClose (coll : Fin 256) (s : State) : Out :=
  .next <|
  match s.coll? coll with
  | none => s
  | some c =>
    let rs := s.batchOf c
    match rs with
    | [] => s
    | r :: _ =>
      let v := c.version (((s.req? r).bind (fun x => x.search.map (·.version))).getD c.cur.num)
      let (qs, k) := s.walkAll c v rs s.free
      let (qs, k, bins, items) := (unionOf qs).foldl (fun acc b => scanBin s c v b acc) (qs, k, 0, 0)
      let sides := c.side.filter (·.insert)
      let scan := fun qs (e : SideSlot × Nat) => qs.mapIdx (fun i q => q.sideSlot c v e.1 (k + 64 * e.2 + i))
      let qs := sides.zipIdx.foldl scan qs
      let s := { s with free := k + 64 * sides.length, colls := s.colls.put coll { c with batch := c.batch.filter (fun x => !(rs.contains x)) } }
      let s := ((s.bump (okey 0x2500 3) bins).bump (okey 0x2500 4) items).bump (okey 0x2500 5) sides.length
      qs.foldl (fun s q => s.putResult v q) s

/-- SEARCH_RESULT (R190, R200): the header and root list become the stage's output. -/
def execSearchResult (req : W32) (s : State) : Out :=
  .next <|
  match s.atStage req 2 with
  | none => s
  | some x =>
    match x.search.bind (·.result) with
    | none => s
    | some bs =>
      if x.stageOutput = bs then s else
      let st := field bs 6 1
      let x := if st = 2 then x.note .poisoned else if st = 3 then x.note .degraded else x
      (s.bump (okey 0x2500 2) 1).setReq req { x with stageOutput := bs }

/-! ### Updates (R191 to R194) -/

/-- The update block (R191). -/
def ubColl (b : Bytes) : Nat := field b 2 2
def ubCount (b : Bytes) : Nat := field b 4 4
def updateBlockBad (b : Bytes) : Bool :=
  field b 0 1 ≠ 1 || !(zeros b 1 1) || decide (ubColl b > 255) || ubCount b == 0 || decide (ubCount b > 65536) || !(zeros b 10 6) ||
  decide (field b 16 8 % 64 ≠ 0) || !(zeros b 24 40)

/-- An entry of an update breaks R191. -/
def updateEntryBad (dim : Nat) (e : Bytes) : Bool :=
  let op := field e 16 1
  field e 0 8 == 2 ^ 64 - 1 || (op ≠ 1 && op ≠ 2) || !(zeros e 17 15) || (op == 2 && (field e 8 8 ≠ 0 || !(zeros e 32 (4 * dim))))

/-- An item of a bin by id: the copy the id index leads to (R193). -/
def State.binCopy (s : State) (v : CollVersion) (id : W64) : Option HideTarget :=
  (List.range v.bins).findSome? (fun bn =>
    if s.binPoisoned v bn then none else
    let b := s.bin v bn
    (List.range b.count).findSome? (fun j =>
      if s.natAt (b.ids + 8 * j) 8 = id.toNat ∧ !(s.poisonedRange (b.ids + 8 * j) 8) ∧ !(v.hiddenAt (.bin bn j) (2 ^ 48)) then
        some (.bin bn j) else none))

/-- An id's present copy in the side list (R193). -/
def sideCopy (side : List SideSlot) (v : CollVersion) (id : W64) : Option HideTarget :=
  (side.find? (fun sd => sd.insert && sd.id == id && !(v.hiddenAt (.side sd.num) (2 ^ 48)))).map (fun sd => .side sd.num)

/-- One entry of an update: its hide record and its slot (R192, R193). -/
def State.sideEntry (s : State) (epoch : Nat) (c : Coll) (e : Bytes) : Coll :=
  let id : W64 := BitVec.ofNat 64 (field e 0 8)
  let v := c.cur
  let copy := match sideCopy c.side v id with
    | some t => some t
    | none => s.binCopy v id
  let hides := match copy with
    | some t => v.hides ++ [⟨t, epoch⟩]
    | none => v.hides
  let vec := wordsOfBytes (slice e 32 (4 * c.dim)) c.dim
  let ins := field e 16 1 == 1
  let slot : SideSlot := ⟨c.sideSeq, epoch, ins, id, BitVec.ofNat 64 (field e 8 8),
    if ins then normWord c.metric (s.free + c.sideSeq) vec else 0, vec⟩
  { c with cur := { v with hides := hides }, side := c.side ++ [slot], sideSeq := c.sideSeq + 1 }

/-- The oldest update of a collection that waits for its commit. -/
def State.updateOf (s : State) (h : Nat) : Option (W32 × Request) :=
  (s.reqs.find? (fun e => e.2.kind == 2 && e.2.state == .stage && ubColl e.2.block == h)).map (fun e => (BitVec.ofNat 32 e.1, e.2))

/-- Where the commit arbiter of a collection keeps its pointer (11 R313). -/
def commitArb (coll : Nat) : Nat := 512 + coll

/-- UPDATE_COMMIT (R191 to R194). The commit tile takes updates one at a time, in the order they reach it. -/
def execUpdateCommit (coll : Fin 256) (src : DieNo) (entries : Transfer) (s : State) : Out :=
  .next <|
  match s.updateOf coll, s.coll? coll with
  | some (r, x), some c =>
    let n := ubCount x.block
    let len := 32 + 4 * c.dim
    if updateBlockBad x.block then s.failReq r .badDescriptor else
    match s.windowConds (s.reqContext x) (field x.block 8 2) (field x.block 16 8) (n * len) false with
    | st :: _ => s.failReq r st
    | [] =>
      match entries with
      | .failed e => s.failReq r (causeStatus e)
      | .poisoned => s.failReq r .poisoned
      | .data bs =>
        let es := (List.range n).map (fun i => slice bs (i * len) len)
        if es.any (updateEntryBad c.dim) then s.failReq r .badDescriptor
        else if c.side.length + n > c.sideCap ∨ c.epoch + 1 > 0xFFFFFFFFFFFF then s.failReq r .refusedFit
        else
          let epoch := c.epoch + 1
          let c := { es.foldl (fun c e => s.sideEntry epoch c e) c with epoch := epoch }
          let s := ({ s with colls := s.colls.put coll c, free := s.free + c.sideSeq + 1,
                             arb := s.arb.put (commitArb coll) ((src.val + 1) % 64) } : State).bump (okey 0x2500 0x0B) 1
          (s.modReq r (fun x => { x with resultBytes := leBytes 6 epoch ++ [0, 0] ++ leBytes 4 n ++ [0, 0, 0, 0] })).failReq r .ok
  | some (r, _), none => s.failReq r .versionGone
  | none, _ => s

/-! ### The fold (R197 to R199) -/

/-- The ranges of a graph map (R181). -/
def State.graphRanges (s : State) (v : CollVersion) : List Bytes :=
  (List.range (s.natAt (v.graphMap + 2) 2)).map (fun i => s.bytesAt (v.graphMap + 272 + 16 * i) 16)

/-- A graph map stands as R181 requires: counts in range, and the ranges cover every bin once. -/
def State.graphOk (s : State) (v : CollVersion) : Bool :=
  let m := v.graphMap
  let ranges := s.graphRanges v
  decide (1 ≤ s.natAt m 2) && decide (s.natAt m 2 ≤ 64) && decide (1 ≤ ranges.length) && decide (ranges.length ≤ 9216) &&
  s.natAt (m + 8) 8 == 0 && decide (1 ≤ v.bins) && decide (v.bins ≤ 1048576) &&
  ranges.all (fun r => decide (field r 0 2 < 9216) && zeros r 2 2 && field r 12 4 % 64 == 0) &&
  (List.range v.bins).all (fun b => (ranges.filter (fun r => decide (field r 4 4 ≤ b) && decide (b < field r 4 4 + field r 8 4))).length == 1) &&
  ranges.all (fun r => decide (field r 4 4 + field r 8 4 ≤ v.bins))

/-- A bin-table entry is LIVE with items or RETIRED with none, and its reserved fields are zero (R178). -/
def binEntryOk (e : Bytes) : Bool :=
  (field e 6 2 == 1 && decide (1 ≤ field e 32 4) && decide (field e 32 4 ≤ 1048576) || field e 6 2 == 2 && field e 32 4 == 0) &&
  zeros e 14 2 && zeros e 22 2 && zeros e 30 2 && zeros e 36 4 && zeros e 46 18

/-- A graph map and bin table stand as R178, R181 and R197 require, and some listed entry point is live. -/
def State.foldOk (s : State) (v : CollVersion) : Bool :=
  let entry := fun b => s.bytesAt (binAt v b) 64
  s.graphOk v && (List.range v.bins).all (fun b => binEntryOk (entry b)) &&
  (s.entryPoints v).any (fun b => decide (b < v.bins) && field (entry b) 6 2 == 1)

/-- The side entries committed after the fold's epoch act on the new version's bins, as a commit of each would (R193, R197). -/
def State.carryHides (s : State) (c : Coll) (v : CollVersion) : CollVersion :=
  (c.side.filter (fun sd => decide (sd.epoch > v.foldEpoch))).foldl (fun v sd =>
    let earlier := c.side.filter (fun y => decide (y.epoch > v.foldEpoch) && decide (y.num < sd.num) && y.insert && y.id == sd.id)
    if earlier.any (fun y => !(v.hiddenAt (.side y.num) (sd.epoch - 1))) then v else
    match s.binCopy v sd.id with
    | some t => { v with hides := v.hides ++ [⟨t, sd.epoch⟩] }
    | none => v) v

/-- A hide record of a side slot. -/
def Hide.ofSide (h : Hide) : Bool := match h.target with | .side _ => true | .bin _ _ => false

/-- The version a fold asks for (R197). -/
def State.foldVersion (s : State) (c : Coll) (f : FoldRequest) : CollVersion :=
  s.carryHides c { num := c.cur.num + 1, binTable := f.binTable.toNat, idIndex := f.idIndex.toNat, graphMap := f.graphMap.toNat, bins := f.bins,
                   switchEpoch := c.epoch + 1, foldEpoch := f.foldEpoch, hides := c.cur.hides.filter Hide.ofSide, pins := [] }

/-- The switch (R197): checked, then published; the version replaced stays until its pins reach zero. -/
def State.doFold (s : State) (h : Nat) (c : Coll) (f : FoldRequest) : State :=
  let v := s.foldVersion c f
  if !(s.foldOk v) ∨ c.epoch + 1 > 0xFFFFFFFFFFFF ∨ f.foldEpoch > c.epoch then { s with colls := s.colls.put h { c with held := none } }
  else
    ({ s with colls := s.colls.put h { c with cur := v, old := some c.cur, held := none, epoch := c.epoch + 1 } } : State).bump (okey 0x2500 0x0C) 1

/-- Pages of a byte run are to be recycled once their reads have returned (06 R158). -/
def State.askRecycle (s : State) (a n : Nat) : State :=
  { s with pages := s.pages.map (fun p =>
      if p.st = .sealed_ ∧ rangesMeet p.base (2 ^ p.log2) a n then { p with recycling := true } else p) }

/-- An older version that no query pins goes, with the side slots folded into the current one; the pages of its bin table and id index
are recycled where the current version does not use them (R198). -/
def State.releaseVersion (s : State) (h : Nat) (c : Coll) : State :=
  match c.old with
  | none => s
  | some v =>
    if v.pins ≠ [] then s else
    let gone := c.side.filter (fun sd => decide (sd.epoch ≤ c.cur.foldEpoch))
    let keepHide := fun (h : Hide) => !(gone.any (fun sd => h.target == .side sd.num))
    let c' := { c with old := none, side := c.side.filter (fun sd => decide (sd.epoch > c.cur.foldEpoch)),
                       cur := { c.cur with hides := c.cur.hides.filter keepHide } }
    let s := { s with colls := s.colls.put h c' }
    let s := if v.binTable = c.cur.binTable then s else s.askRecycle v.binTable (64 * v.bins)
    if v.idIndex = c.cur.idIndex then s else s.askRecycle v.idIndex 1

/-- A switch is performed, or held while an older version is still pinned (R197). -/
def State.trySwitch (s : State) (h : Nat) (f : FoldRequest) : State :=
  match s.coll? h with
  | none => s
  | some c =>
    if c.old.any (fun v => !v.pins.isEmpty) then { s with colls := s.colls.put h { c with held := some f } }
    else
      let s := s.releaseVersion h c
      match s.coll? h with
      | none => s
      | some c => s.doFold h c f

/-- FOLD_SWITCH (R197). -/
def execFoldSwitch (coll : Fin 256) (f : FoldRequest) (s : State) : Out :=
  .next <|
  match s.coll? coll, s.job? f.job with
  | some c, some jb => if jb.state = .ended ∨ c.held.isSome then s else s.trySwitch coll f
  | _, _ => s

/-- FOLD_SWITCH_RELEASE (R197). -/
def execFoldSwitchRelease (coll : Fin 256) (s : State) : Out :=
  .next <|
  match (s.coll? coll).bind (·.held) with
  | some f => s.trySwitch coll f
  | none => s

/-- VERSION_RELEASE (R198). -/
def execVersionRelease (coll : Fin 256) (s : State) : Out :=
  .next <|
  match s.coll? coll with
  | some c => s.releaseVersion coll c
  | none => s

/-! ### Objects (R201, R202) -/

/-- The 64 bytes of a collection (R202). -/
def State.collBlob (s : State) (h : Nat) : Bytes :=
  match s.coll? h with
  | none => List.replicate 64 0
  | some c =>
    let flags := (List.range c.cur.bins).map (fun b => field (s.bytesAt (binAt c.cur b) 64) 6 2)
    [if c.held.isSome then 2 else 1, BitVec.ofNat 8 c.metric, BitVec.ofNat 8 c.shape, 0] ++ leBytes 2 c.dim ++ [0, 0] ++
    leBytes 6 c.epoch ++ [0, 0] ++ leBytes 4 c.cur.num ++ leBytes 4 ((c.old.map (·.num)).getD 0xFFFFFFFF) ++
    leBytes 4 c.cur.pins.length ++ leBytes 4 ((c.old.map (·.pins.length)).getD 0) ++ leBytes 4 c.side.length ++
    leBytes 4 c.sideCap ++ leBytes 4 (flags.filter (· == 1)).length ++ leBytes 4 (flags.filter (· == 2)).length ++
    leBytes 4 ((s.entryPoints c.cur).filter (fun b => decide (b < c.cur.bins) && flags.getD b 0 == 1)).length ++ List.replicate 12 0

/-- SEARCH_COUNTERS_CLEAR (R201). -/
def execSearchCountersClear (r : Requester) (v : Bytes) (s : State) : Out := .next <| s.clearWrite r 0x2500 0x0D v

end Sys2Proof.Machine
end

