-- ==== Sys2Proof/Machine/Tables.lean ====
section
/-! DEFINITION. Embedding tables: rows, lookups and pooling, staging, builds and switches (08 R204 to R222). -/

namespace Sys2Proof.Machine

/-! ### Rows (R206, R207) -/

def State.table? (s : State) (h : Nat) : Option ETable := KMap.find s.tables h
def State.setTable (s : State) (h : Nat) (t : ETable) : State := { s with tables := s.tables.put h t }

/-- Bytes between rows (R206). -/
def ETable.stride (t : ETable) : Nat := roundUp (t.dim * width t.fmt / 8) 64
/-- The die that owns a row (R206). -/
def ETable.owner (t : ETable) (r : Nat) : Nat :=
  let ds := maskMembers t.dieMask 64
  ds.getD (r / 2 ^ t.shardLog % ds.length) 0
/-- The address of a row of a version whose base is given (R206). -/
def ETable.rowAt (t : ETable) (base r : Nat) : Nat :=
  let n := (maskMembers t.dieMask 64).length
  stackFa (t.owner r) (faOff base + (r / 2 ^ t.shardLog / n * 2 ^ t.shardLog + r % 2 ^ t.shardLog) * t.stride)
def ETable.rowBytes (t : ETable) : Nat := t.dim * width t.fmt / 8
def ETable.rows (t : ETable) (sub : Nat) : Nat := if sub = 0 then t.rowsA else t.rowsB

/-- An IDENTITY index lies in range (R207). -/
def ETable.indexOk (t : ETable) (x : Nat) : Bool := t.composed || t.mulshift || decide (x < t.rowsA)

/-- The rows an index names: sub-table and row (R207). -/
def ETable.rowsOf (t : ETable) (x : Nat) : List (Nat × Nat) :=
  if t.composed then [(0, x % t.rowsA), (1, x / t.rowsA % t.rowsB)]
  else if t.mulshift then [(0, (x * t.mult.toNat % 2 ^ 64 / 2 ^ 32 * t.rowsA) / 2 ^ 32)]
  else [(0, x)]

def TabVersion.base (v : TabVersion) (sub : Nat) : Nat := if sub = 0 then v.baseA else v.baseB
def TabVersion.hot (v : TabVersion) (sub : Nat) : List Nat := if sub = 0 then v.hotA else v.hotB

/-- The values of a row in FP32, exactly (R210, R218). -/
def State.rowVals (s : State) (t : ETable) (base r : Nat) : List W32 :=
  let a := t.rowAt base r
  let w := width t.fmt / 8
  (List.range t.dim).map (fun k => (roundVal (decodeFmt t.fmt (s.natAt (a + w * k) w))).v)

def State.rowPoison (s : State) (t : ETable) (base r : Nat) : Bool := s.poisonedRange (t.rowAt base r) t.rowBytes

/-! ### The lookup block (R208, R209) -/

def lbPool (b : Bytes) : Nat := field b 1 1
def lbTable (b : Bytes) : Nat := field b 2 2
def lbCount (b : Bytes) : Nat := field b 4 4
def lbFlag (b : Bytes) (i : Nat) : Bool := bit (field b 8 1) i
def lbWidth (b : Bytes) : Nat := field b 9 1
def lbScale (b : Bytes) : W32 := BitVec.ofNat 32 (field b 12 4)

/-- Bytes of a host index list with its weights (R208). -/
def lbHostBytes (b : Bytes) : Nat :=
  if lbFlag b 0 then roundUp (lbCount b * lbWidth b) 8 + 4 * lbCount b else lbCount b * lbWidth b

/-- The block breaks R208 (R209). -/
def lookupBlockBad (b : Bytes) : Bool :=
  field b 0 1 ≠ 1 || decide (lbPool b > 2) || decide (lbTable b > 1023) || decide (lbCount b > 65536) || (lbPool b == 0 && lbCount b == 0) ||
  decide (field b 8 1 ≥ 16) || (lbWidth b ≠ 4 && lbWidth b ≠ 8) || (field b 10 1 ≠ 0 && field b 10 1 ≠ 2) || !(zeros b 11 1) ||
  !(zeros b 18 6) || !(zeros b 32 32) || (lbPool b == 0 && (lbFlag b 1 || lbFlag b 2)) ||
  (if lbFlag b 3 then field b 24 8 % 64 ≠ 0 else field b 16 2 ≠ 0 || field b 24 8 ≠ 0)

/-- The indices and weights of a lookup, with the mark of a poisoned read; weights without a list are 1.0. The indices are the query
tokens where they do not come from the host, and weights they would need are free (R208, R262). -/
def lookupInput (b : Bytes) (tokens : List Nat) (free : Nat) (t : Transfer) : Except Status (List Nat × List W32 × Bool) :=
  let n := lbCount b
  if !(lbFlag b 3) then
    let xs := tokens.take n
    .ok (xs, xs.mapIdx (fun i _ => if lbFlag b 0 then BitVec.ofNat 32 (Config.freeNat (free + i)) else 0x3F800000), false)
  else
    match t with
    | .failed c => .error (causeStatus c)
    | .poisoned => .ok (List.replicate n 0, List.replicate n 0x3F800000, true)
    | .data bs =>
      let at_ := roundUp (n * lbWidth b) 8
      .ok ((List.range n).map (fun i => field bs (i * lbWidth b) (lbWidth b)),
           (List.range n).map (fun i => if lbFlag b 0 then BitVec.ofNat 32 (field bs (at_ + 4 * i) 4) else 0x3F800000), false)

/-- The home die of a request: that of its ring (12 R327). -/
def Request.home (x : Request) : Nat := x.ring / 4096 % 64

/-- LOOKUP_ADMIT (R209, R212, R215): the sketch lookup of an EMBED stage. -/
def execLookupAdmit (req : W32) (indices : Transfer) (s : State) : Out :=
  .next <|
  match s.atStage req 1 with
  | none => s
  | some x =>
    if !(rdHas x.desc 2) ∨ x.lookup.isSome ∨ x.sketch ≠ [] then s else
    let b := rdBlock x.desc 2 64
    match s.table? (lbTable b) with
    | none => s.failReq req .versionGone
    | some t =>
      if lookupBlockBad b then s.failReq req .badDescriptor else
      match lookupInput b x.query s.free indices with
      | .error st => s.failReq req st
      | .ok (xs, ws, p) =>
        if !p && !(xs.all t.indexOk) then s.failReq req .badDescriptor
        else
          let s := s.setTable (lbTable b) { t with cur := { t.cur with pins := t.cur.pins ++ [req] } }
          let l : Lookup := { table := lbTable b, version := t.cur.num, raw := !t.service, home := x.home, indices := xs, weights := ws, poisonIdx := p }
          ({ s with free := s.free + lbCount b } : State).setReq req { x with lookup := some l }

/-! ### Pooling (R210 to R212, R219) -/

/-- The version a lookup pinned. -/
def ETable.version (t : ETable) (n : Nat) : TabVersion :=
  match t.old with
  | some v => if v.num = n then v else t.cur
  | none => t.cur

/-- An index with its weight, after equal rows are merged and their weights summed (R212). -/
def mergeIndex (t : ETable) (k : Nat) (acc : List (Nat × W32)) (e : Nat × W32) : List (Nat × W32) :=
  if acc.any (fun a => t.rowsOf a.1 == t.rowsOf e.1) then
    acc.map (fun a => if t.rowsOf a.1 == t.rowsOf e.1 then (a.1, fpSum k [a.2, e.2]) else a)
  else acc ++ [e]

/-- The vector of an index in FP32, and whether a row of it is poisoned (R207, R211). -/
def State.vecOf (s : State) (t : ETable) (v : TabVersion) (x : Nat) : List W32 × Bool :=
  let rs := t.rowsOf x
  let p := rs.any (fun r => s.rowPoison t (v.base r.1) r.2)
  match rs with
  | [a, b] => (List.zipWith (fun x y => (fpAdd x y).v) (s.rowVals t v.baseA a.2) (s.rowVals t v.baseB b.2), p)
  | [a] => (s.rowVals t v.baseA a.2, p)
  | _ => ([], p)

/-- A vector divided by its Euclidean norm; a zero vector stays (R210). -/
def l2norm (k : Nat) (v : List W32) : List W32 :=
  let n := fpSum k (v.map (fun x => (fpMul x x).v))
  if fpEq n 0 then v else v.map (fun x => (fpDiv x (fpSqrt n).v).v)

/-- The pooled vector of SUM or MEAN (R210). -/
def poolVec (k dim : Nat) (mean : Bool) (es : List (W32 × List W32)) : List W32 :=
  let sum := (List.range dim).map (fun i => fpSum k (es.map (fun e => (fpMul e.1 (e.2.getD i 0)).v)))
  if !mean then sum else
  let u := fpSum k (es.map (·.1))
  if es = [] ∨ fpEq u 0 then List.replicate dim 0 else sum.map (fun x => (fpDiv x u).v)

/-- The rows a lookup reads, counted on their dies: from hot areas in SERVICE where listed, else from the stacks (R212, R221). -/
def State.countRows (s : State) (t : ETable) (v : TabVersion) (service : Bool) (xs : List Nat) : State :=
  (xs.flatMap t.rowsOf).foldl (fun s r =>
    if service && (v.hot r.1).contains r.2 then s.dbump (faDie (if v.hotSel then t.hotB else t.hotA)) 0xA 4 1
    else s.dbump (t.owner r.2) 0xA 3 1) s

/-- A lookup's output in FP32, whether it is poisoned, and the indices left out for poison (R210, R211). -/
def State.pooled (s : State) (t : ETable) (v : TabVersion) (b : Bytes) (k : Nat) (es : List (Nat × W32)) : List W32 × Bool × List Nat :=
  let drop := lbPool b ≠ 0 && lbFlag b 2
  let vs := es.map (fun e => (e.1, e.2, s.vecOf t v e.1))
  let gone := if drop then vs.filter (fun e => e.2.2.2) else []
  let kept := if drop then vs.filter (fun e => !e.2.2.2) else vs
  let p := kept.any (fun e => e.2.2.2)
  let out :=
    if lbPool b = 0 then kept.flatMap (fun e => e.2.2.1.map (fun y => (fpMul e.2.1 y).v))
    else
      let y := poolVec k t.dim (lbPool b == 2) (kept.map (fun e => (e.2.1, e.2.2.1)))
      if lbFlag b 1 then l2norm k y else y
  (out.map (fun y => (fpMul y (lbScale b)).v), p, gone.map (·.1))

/-- The output rounded to its format (R210). -/
def outRound (b : Bytes) (ys : List W32) : List W32 :=
  if field b 10 1 = 2 then ys.map (fun y => BitVec.ofNat 32 (toCode 2 .nearest false (fval y)).p) else ys

/-- LOOKUP_DONE (R210 to R212, R219, R221). -/
def execLookupDone (req : W32) (s : State) : Out :=
  .next <|
  match s.atStage req 1 with
  | none => s
  | some x =>
    match x.lookup with
    | none => s
    | some l =>
      match s.table? l.table with
      | none => s.failReq req .versionGone
      | some t =>
        let b := rdBlock x.desc 2 64
        let v := t.version l.version
        let es := List.zip l.indices l.weights
        let merged := if l.raw then es else es.foldl (mergeIndex t s.free) []
        let (out, p, gone) := s.pooled t v b s.free (if lbPool b = 0 then es else merged)
        let s := { s with free := s.free + 1 }
        let s := (s.dbump l.home 0xA 1 1).dbump l.home 0xA 2 (if l.raw then 1 else 0)
        let s := s.dbump l.home 0xA 5 (es.length - merged.length)
        let s := if l.poisonIdx then s else s.countRows t v (!l.raw) (merged.map (·.1))
        let s := gone.foldl (fun s i => s.dbump (t.owner ((t.rowsOf i).headD (0, 0)).2) 0xA 6 1) s
        let bad := l.poisonIdx || p
        let ys := if l.poisonIdx then List.replicate t.dim 0 else outRound b out
        let x := { x with lookup := none, sketch := ys }
        let x := if bad then x.note .poisoned else if gone ≠ [] then x.note .degraded else x
        (s.setTable l.table { t with cur := t.cur.unpin req, old := t.old.map (·.unpin req) }).setReq req x

/-! ### Serving modes (R213, R220) -/

/-- A tile's retirement or abort sets RAW the tables whose hot area lies on it (R213). -/
def State.rawTables (s : State) (tile : Nat) : State :=
  { s with tables := s.tables.map (fun (h, t) =>
      if t.hotCap > 0 ∧ (faTile t.hotA = tile ∨ faTile t.hotB = tile) then (h, { t with service := false }) else (h, t)) }

def State.writeTableMode (s : State) (r : Requester) (v : Bytes) : State :=
  let n := leNat v
  let h := n % 1024
  let mode := n / 2 ^ 16
  let t := s.table? h
  s.objWriteNow r 0x2520 2 v
    (cond (bits n 10 6 ≠ 0 || (mode ≠ 1 && mode ≠ 2)) .badDescriptor ++ cond t.isNone .versionGone ++
     cond (mode == 2 && (t.map (fun t => !t.cur.hotBuilt)).getD false) .notReady)
    (fun s => match t with
      | some t => s.setTable h { t with service := mode == 2 }
      | none => s)

/-- TABLE_MODE_WRITE (R213, R220). -/
def execTableModeWrite (r : Requester) (v : Bytes) (s : State) : Out := .next <| s.writeTableMode r v

/-! ### Staging (R216, R217) -/

def tbTable (b : Bytes) : Nat := field b 2 2
def tbCount (b : Bytes) : Nat := field b 16 4
def stageBlockBad (b : Bytes) : Bool :=
  field b 0 1 ≠ 1 || (field b 1 1 ≠ 1 && field b 1 1 ≠ 2) || decide (tbTable b > 1023) || decide (field b 4 1 > 1) || !(zeros b 5 3) ||
  tbCount b == 0 || decide (tbCount b > 65536) || !(zeros b 22 2) || decide (field b 24 8 % 64 ≠ 0) || !(zeros b 32 32)

/-- The oldest stage batch of a table that waits. -/
def State.stageOf (s : State) (h : Nat) : Option (W32 × Request) :=
  (s.reqs.find? (fun e => e.2.kind == 3 && e.2.state == .stage && tbTable e.2.block == h)).map (fun e => (BitVec.ofNat 32 e.1, e.2))

/-- An entry of a stage batch as the owner's log holds it (R217). -/
def stageEntry (b : Bytes) (src arrival dim i : Nat) (e : Bytes) : StageEntry :=
  ⟨BitVec.ofNat 64 (field b 8 8), field b 1 1 == 2, field b 4 1, src, arrival, i, field e 0 4, wordsOfBytes (e.drop 8) dim⟩

/-- STAGE_BATCH (R216, R217): accepted whole, routed to owner logs, or refused. -/
def execStageBatch (table : Fin 1024) (entries : Transfer) (s : State) : Out :=
  .next <|
  match s.stageOf table, s.table? table with
  | some (r, _), none => s.failReq r .versionGone
  | some (r, x), some t =>
    let b := x.block
    let n := tbCount b
    let sub := field b 4 1
    let len := 8 + 4 * t.dim
    if stageBlockBad b || (sub == 1 && !t.composed) then s.failReq r .badDescriptor else
    match s.windowConds (s.reqContext x) (field b 20 2) (field b 24 8) (n * len) false with
    | st :: _ => s.failReq r st
    | [] =>
      match entries with
      | .failed c => s.failReq r (causeStatus c)
      | .poisoned => s.failReq r .poisoned
      | .data bs =>
        let es := (List.range n).map (fun i => slice bs (i * len) len)
        if es.any (fun e => !(zeros e 4 4) || decide (field e 0 4 ≥ t.rows sub)) then s.failReq r .badDescriptor
        else if t.staging = .none_ then s.failReq r .notReady
        else if t.log.length + n > t.logCap then s.failReq r .refusedFit
        else
          let new := es.mapIdx (fun i e => stageEntry b x.home t.arrivals t.dim i e)
          let s := s.setTable table { t with log := t.log ++ new, arrivals := t.arrivals + 1 }
          (new.foldl (fun s e => s.dbump (t.owner e.row) 0xA 7 1) s).failReq r .ok
  | none, _ => s

/-! ### Builds and switches (R214, R215, R218) -/

/-- One entry comes before another (R218). -/
def StageEntry.before (a b : StageEntry) : Bool :=
  if a.seq ≠ b.seq then decide (a.seq.toNat < b.seq.toNat)
  else if a.src ≠ b.src then decide (a.src < b.src)
  else if a.arrival ≠ b.arrival then decide (a.arrival < b.arrival)
  else decide (a.pos < b.pos)

/-- An entry put in its place. -/
def StageEntry.insert (e : StageEntry) : List StageEntry → List StageEntry
  | [] => [e]
  | x :: r => if e.before x then e :: x :: r else x :: StageEntry.insert e r

/-- The entries of a cut for one row, in order (R218). -/
def cutFor (log : List StageEntry) (sub row : Nat) : List StageEntry :=
  (log.filter (fun e => e.sub == sub && e.row == row)).foldl (fun acc e => e.insert acc) []

/-- A row's new values in FP32 (R218). -/
def applyEntries (old : List W32) (es : List StageEntry) : List W32 :=
  es.foldl (fun v e => if e.add then List.zipWith (fun a b => (fpAdd a b).v) v e.vals else e.vals) old

/-- The page, by base and size, that the declared regions of a job that holds its resources give an address. -/
def State.anyPage (s : State) (a : Nat) : Option (Nat × Nat) := s.holders.findSome? (fun e => e.2.pageOf a)

/-- One row of the next version written and its page sealed (R218). -/
def State.buildRow (s : State) (t : ETable) (sub oldBase newBase r : Nat) : State :=
  let es := cutFor t.log sub r
  let src := t.rowAt oldBase r
  let dst := t.rowAt newBase r
  let s :=
    if es = [] then s.copy src dst t.rowBytes
    else
      let cs := (applyEntries (s.rowVals t oldBase r) es).map (fun w => toCode t.fmt .nearest true (fval w))
      let p := s.rowPoison t oldBase r && es.all (·.add)
      let bs := cs.flatMap (fun c => leBytes (width t.fmt / 8) c.p)
      (s.store dst bs ((wordsOf dst bs.length).map (fun _ => p))).dbump (faDie dst) 6 1 (cs.filter (·.sat)).length
  match s.anyPage dst with
  | some (b, l) => s.sealPages [b] l
  | none => s

/-- The hot rows of the next version copied into the hot area the current one does not use, one row to a stride (R218). -/
def State.fillHot (s : State) (t : ETable) (v : TabVersion) : State :=
  let area := if v.hotSel then t.hotB else t.hotA
  let rows := v.hotA.map (fun r => t.rowAt v.baseA r) ++ v.hotB.map (fun r => t.rowAt v.baseB r)
  rows.zipIdx.foldl (fun s (a, i) => s.copy a (area + i * t.stride) t.rowBytes) s

/-- TABLE_BUILD (R218): the cut is applied to a copy of the current version, and the switch is asked for. -/
def execTableBuild (table : Fin 1024) (b : BuildRequest) (s : State) : Out :=
  .next <|
  match s.table? table with
  | none => s
  | some t =>
    if t.staging ≠ .open_ ∨ t.built.isSome ∨ t.held.isSome then s else
    let a := b.hotA.take t.hotCap
    let v : TabVersion := { num := t.cur.num + 1, baseA := b.baseA.toNat, baseB := b.baseB.toNat, hotSel := !t.cur.hotSel,
                            hotA := a, hotB := b.hotB.take (t.hotCap - a.length), hotBuilt := true, pins := [] }
    let s := (List.range t.rowsA).foldl (fun s r => s.buildRow t 0 t.cur.baseA v.baseA r) s
    let s := if t.composed then (List.range t.rowsB).foldl (fun s r => s.buildRow t 1 t.cur.baseB v.baseB r) s else s
    (s.fillHot t v).setTable table { t with staging := .building, log := [], built := some v }

/-- An older version without pins goes: its pages are recycled and its hot area is free (R215). -/
def State.releaseTable (s : State) (h : Nat) (t : ETable) : State :=
  match t.old with
  | none => s
  | some v =>
    if v.pins ≠ [] then s else
    let s := (List.range t.rowsA).foldl (fun s r => s.askRecycle (t.rowAt v.baseA r) t.rowBytes) s
    let s := if t.composed then (List.range t.rowsB).foldl (fun s r => s.askRecycle (t.rowAt v.baseB r) t.rowBytes) s else s
    s.setTable h { t with old := none }

/-- A switch performed in one write, or held while an older version is still pinned (R214, R215). -/
def State.switchTable (s : State) (h : Nat) (t : ETable) (v : TabVersion) : State :=
  if t.old.any (fun o => !o.pins.isEmpty) then s.setTable h { t with built := none, held := some v }
  else
    (s.releaseTable h t).setTable h { t with old := some t.cur, cur := v, built := none, held := none, staging := .open_ }

/-- TABLE_SWITCH (R214, R215). -/
def execTableSwitch (table : Fin 1024) (s : State) : Out :=
  .next <|
  match s.table? table with
  | none => s
  | some t => match t.built with
    | some v => s.switchTable table t v
    | none => s

/-- TABLE_SWITCH_RELEASE (R215). -/
def execTableSwitchRelease (table : Fin 1024) (s : State) : Out :=
  .next <|
  match s.table? table with
  | none => s
  | some t => match t.held with
    | some v => s.switchTable table t v
    | none => s

/-- TABLE_VERSION_RELEASE (R215). -/
def execTableVersionRelease (table : Fin 1024) (s : State) : Out :=
  .next <|
  match s.table? table with
  | none => s
  | some t => s.releaseTable table t

/-! ### Objects (R220, R221) -/

/-- The 32 bytes of a table (R220). -/
def State.tableBlob (s : State) (h : Nat) : Bytes :=
  match s.table? h with
  | none => List.replicate 32 0
  | some t =>
    [if t.held.isSome then 2 else 1, if t.service then 2 else 1, if t.composed then 2 else 1, BitVec.ofNat 8 t.fmt] ++ leBytes 2 t.dim ++
    [match t.staging with | .none_ => 0 | .open_ => 1 | .building => 2, 0] ++ leBytes 4 t.cur.num ++
    leBytes 4 ((t.old.map (·.num)).getD 0xFFFFFFFF) ++ leBytes 4 t.cur.pins.length ++ leBytes 4 ((t.old.map (·.pins.length)).getD 0) ++
    leBytes 4 t.log.length ++ leBytes 4 (t.cur.hotA.length + t.cur.hotB.length)

/-- The block of a die's object: die 0's index raised by 16 for each die (13 R375). -/
def dieObj (d k : Nat) : Nat := 0x3000 + 16 * d + k

/-- TABLE_COUNTERS_CLEAR (R221). -/
def execTableCountersClear (d : DieNo) (r : Requester) (v : Bytes) (s : State) : Out := .next <| s.clearWrite r (dieObj d 0xA) 8 v

end Sys2Proof.Machine
end

