-- ==== Sys2Proof/Machine/Text.lean ====
section
/-! DEFINITION. The text engine: vocabularies, tokenisation and the seam guard, detokenisation, banned and forced sequences, stop
strings and request records (09 R223 to R250), and the hem automaton (10 R274, R275). -/

namespace Sys2Proof.Machine

/-! ### Vocabularies in stack memory (R223 to R227) -/

def State.vocab? (s : State) (h : Nat) : Option Vocab := KMap.find s.vocabs h
def State.model? (s : State) (h : Nat) : Option Model := KMap.find s.models h
def State.store? (s : State) (h : Nat) : Option Store := KMap.find s.stores h

/-- The copy of a vocabulary on a die (R223). -/
def Vocab.copy (v : Vocab) (d : Nat) : Nat := stackFa d (faOff v.base)

/-- The die that tokenises a request's text (R230). -/
def Vocab.worker (v : Vocab) (home : Nat) : Nat := if bit v.dieMask home then home else (maskMembers v.dieMask 64).headD 0

/-- A header word of a copy (R224). -/
def State.vhdr (s : State) (b off : Nat) : Nat := s.natAt (b + off) 4

/-- Where the id table describes an id (R225). -/
def State.idAt (s : State) (b id : Nat) : Nat := b + s.vhdr b 16 + 8 * id
def State.idFlags (s : State) (b id : Nat) : Nat := s.natAt (s.idAt b id + 6) 1
def State.isControl (s : State) (b id : Nat) : Bool := bit (s.idFlags b id) 0
def State.isUnused (s : State) (b id : Nat) : Bool := bit (s.idFlags b id) 1
/-- Where an id's spelling lies, and its length (R225). -/
def State.spellAt (s : State) (b id : Nat) : Nat × Nat :=
  (b + s.vhdr b 20 + s.natAt (s.idAt b id) 4, s.natAt (s.idAt b id + 4) 2)
def State.spelling (s : State) (b id : Nat) : Bytes := let (a, n) := s.spellAt b id; s.bytesAt a n

/-- The id of a one-byte token (R227). -/
def State.byteId (s : State) (b : Nat) (c : Byte) : Nat := s.natAt (b + s.vhdr b 40 + 4 * c.toNat) 4

/-- The hash a pair of ids starts its probe at (R226). -/
def mergeHash (l r slotsLog : Nat) : Nat :=
  (((l * 0x9E3779B1) % 2 ^ 32 ^^^ r) * 0x85EBCA6B) % 2 ^ 32 / 2 ^ (32 - slotsLog)

/-- The probe of R226 from a slot: the result and rank, if the pair has a slot, and the addresses read. -/
def State.probe (s : State) (table slots l r : Nat) : Nat → Nat → Option (Nat × Nat) × List Nat
  | 0, _ => (none, [])
  | n + 1, slot =>
    let a := table + 16 * slot
    if s.natAt a 4 = 0xFFFFFFFF then (none, [a])
    else if s.natAt a 4 = l ∧ s.natAt (a + 4) 4 = r then (some (s.natAt (a + 8) 4, s.natAt (a + 12) 4), [a])
    else let (m, as) := s.probe table slots l r n ((slot + 1) % slots); (m, a :: as)

def State.mergeOf (s : State) (b l r : Nat) : Option (Nat × Nat) × List Nat :=
  let k := s.natAt (b + 12) 1
  s.probe (b + s.vhdr b 24) (2 ^ k) l r (2 ^ k) (mergeHash l r k)

/-- The class of a code point, and the addresses read (R227). -/
def State.classOf (s : State) (b c : Nat) : Nat × List Nat :=
  let a := b + s.vhdr b 28 + 2 * (c / 256)
  let e := b + s.vhdr b 32 + 128 * s.natAt a 2 + c % 256 / 2
  (bits (s.natAt e 1) (if c % 2 = 0 then 0 else 4) 4, [a, e])

/-- The split table's bit for three classes (R227). -/
def State.splitBit (s : State) (b x y z : Nat) : Bool :=
  let i := x * 256 + y * 16 + z
  bit (s.natAt (b + s.vhdr b 36 + i / 8) 1) (i % 8)

/-! ### UTF-8 and pieces (R227, R231) -/

/-- A code point of a lane: its bytes and its class. -/
structure CodePt where
  bytes : Bytes
  cls : Nat
  deriving DecidableEq, Repr

/-- A valid UTF-8 sequence at the front of a run: the code point and its length. -/
def utf8Front (bs : Bytes) : Option (Nat × Nat) :=
  let g := fun i => (bs.getD i 0).toNat
  let cont := fun i => i < bs.length ∧ g i / 64 = 2
  match bs with
  | [] => none
  | c :: _ =>
    let a := c.toNat
    if a < 0x80 then some (a, 1)
    else if 0xC2 ≤ a ∧ a < 0xE0 ∧ cont 1 then some (a % 32 * 64 + g 1 % 64, 2)
    else if 0xE0 ≤ a ∧ a < 0xF0 ∧ cont 1 ∧ cont 2 then
      let v := a % 16 * 4096 + g 1 % 64 * 64 + g 2 % 64
      if v < 0x800 ∨ (0xD800 ≤ v ∧ v < 0xE000) then none else some (v, 3)
    else if 0xF0 ≤ a ∧ a < 0xF5 ∧ cont 1 ∧ cont 2 ∧ cont 3 then
      let v := a % 8 * 262144 + g 1 % 64 * 4096 + g 2 % 64 * 64 + g 3 % 64
      if v < 0x10000 ∨ v > 0x10FFFF then none else some (v, 4)
    else none

/-- The code points of a lane with their classes, and the addresses read (R227, R231). -/
def State.codePoints (s : State) (b : Nat) : Nat → Bytes → List CodePt × List Nat
  | 0, _ => ([], [])
  | n + 1, bs =>
    match bs with
    | [] => ([], [])
    | c :: rest =>
      match utf8Front bs with
      | some (v, k) =>
        let (cl, as) := s.classOf b v
        let (cs, as') := s.codePoints b n (bs.drop k)
        (⟨bs.take k, cl⟩ :: cs, as ++ as')
      | none => let (cs, as) := s.codePoints b n rest; (⟨[c], 14⟩ :: cs, as)

/-- The pieces of a lane: the piece being formed, its run of one class, the class before (R231). -/
def State.pieces (s : State) (b : Nat) : List CodePt → Bytes → Nat → Option Nat → List Bytes
  | [], piece, _, _ => if piece = [] then [] else [piece]
  | c :: rest, piece, run, prev =>
    match prev with
    | none => s.pieces b rest c.bytes 1 (some c.cls)
    | some p =>
      let next := match rest with
        | [] => 15
        | d :: _ => d.cls
      let run' := if c.cls = p then run + 1 else 1
      let limit := if c.cls < 14 then s.natAt (b + 44 + c.cls) 1 else 0
      if s.splitBit b p c.cls next || (limit ≠ 0 && decide (run' > limit)) || decide (piece.length + c.bytes.length > 256) then
        piece :: s.pieces b rest c.bytes 1 (some c.cls)
      else s.pieces b rest (piece ++ c.bytes) run' (some c.cls)

/-! ### Merging (R232) -/

/-- The best merge of a token list: place, result, rank; and the addresses read. -/
def State.bestMerge (s : State) (b : Nat) : Nat → List Nat → Option (Nat × Nat × Nat) × List Nat
  | i, x :: y :: rest =>
    let (m, as) := s.mergeOf b x y
    let (best, as') := s.bestMerge b (i + 1) (y :: rest)
    let here := m.map (fun (res, rank) => (i, res, rank))
    ((match here, best with
      | some h, some t => if t.2.2 < h.2.2 then some t else some h
      | some h, none => some h
      | none, t => t), as ++ as')
  | _, _ => (none, [])

/-- A piece's tokens merged until no pair merges; each merge shortens the list by one. -/
def State.mergeAll (s : State) (b : Nat) : Nat → List Nat → List Nat × List Nat
  | 0, t => (t, [])
  | n + 1, t =>
    match s.bestMerge b 0 t with
    | (none, as) => (t, as)
    | (some (i, res, _), as) =>
      let (t', as') := s.mergeAll b n (t.take i ++ [res] ++ t.drop (i + 2))
      (t', as ++ as')

/-- A piece's tokens, and the addresses read (R232). -/
def State.pieceTokens (s : State) (b : Nat) (piece : Bytes) : List Nat × List Nat :=
  let (t, as) := s.mergeAll b piece.length (piece.map (s.byteId b))
  (t, piece.map (fun c => b + s.vhdr b 40 + 4 * c.toNat) ++ as)

/-- A lane's tokens, and the addresses of the vocabulary read (R231, R232). -/
def State.laneTokens (s : State) (b : Nat) (lane : Bytes) : List Nat × List Nat :=
  let (cs, as) := s.codePoints b lane.length lane
  let ts := (s.pieces b cs [] 0 none).map (s.pieceTokens b)
  (ts.flatMap (·.1), as ++ ts.flatMap (·.2) ++ (if lane = [] then [] else [b + s.vhdr b 36]))

/-! ### The seam guard and templates (R233, R235) -/

/-- The control spellings of a vocabulary, by ascending id; those of length 0 match nothing (R235). -/
def State.controls (s : State) (b : Nat) : List (Bytes × Nat) :=
  ((List.range (s.vhdr b 4)).filter (fun i => s.isControl b i && (s.spellAt b i).2 ≠ 0)).map (fun i => (s.spelling b i, i))

/-- The longest control spelling at the front of a run, of the lowest id (R235). -/
def controlFront (cs : List (Bytes × Nat)) (bs : Bytes) : Option (Bytes × Nat) :=
  cs.foldl (fun best c =>
    if c.1.isPrefixOf bs then
      match best with
      | some x => if c.1.length > x.1.length then some c else best
      | none => some c
    else best) none

/-- A text cut at its control spellings: runs of bytes, and ids between them (R235). -/
def cutControls (cs : List (Bytes × Nat)) : Nat → Bytes → Bytes → List (Bytes × Option Nat)
  | 0, run, _ => [(run, none)]
  | n + 1, run, bs =>
    match bs with
    | [] => [(run, none)]
    | c :: rest =>
      match controlFront cs bs with
      | some (sp, id) => (run, some id) :: cutControls cs n [] (bs.drop sp.length)
      | none => cutControls cs n (run ++ [c]) rest

/-- Control spellings met in a text lane (R233). -/
def seamCount (cs : List (Bytes × Nat)) (lane : Bytes) : Nat :=
  ((cutControls cs (lane.length + 1) [] lane).filter (fun e => e.2.isSome)).length

/-- A template's tokens, recognition on, and the addresses of the vocabulary read (R235). -/
def State.templateTokens (s : State) (b : Nat) (text : Bytes) : List Nat × List Nat :=
  let runs := (cutControls (s.controls b) (text.length + 1) [] text).map (fun e => (s.laneTokens b e.1, e.2.toList))
  (runs.flatMap (fun e => e.1.1 ++ e.2), runs.flatMap (fun e => e.1.2))

/-! ### The vocabulary cache (R229) -/

/-- A granule's set of the cache. -/
def vset (g : Nat) : Nat := g % 2048

/-- One granule the engine reads: a hit, or a miss that asks for it (R229, R249). -/
def State.vtouch (s : State) (d g : Nat) : State :=
  let x := s.die d
  let ways := KMap.getOr [] x.vcache (vset g)
  if ways.contains g then
    (s.setDie d { x with vcache := KMap.put x.vcache (vset g) (g :: ways.filter (· ≠ g)) }).dbump d 0xB 4 1
  else if x.vcacheMiss.contains g then s.dbump d 0xB 4 1
  else ((s.setDie d { x with vcacheMiss := x.vcacheMiss ++ [g] }).enqueue d reqText false [g]).dbump d 0xB 5 1

/-- The granules of a list of addresses, each once, ascending. -/
def granuleSet (as : List Nat) : NSet := as.foldl (fun g a => NSet.add g (a / 256)) []

/-- VCACHE_FILL (R229): the granule takes the place of the least recently used of its set. -/
def execVcacheFill (d : DieNo) (addr : Fa) (s : State) : Out :=
  .next <|
  let g := addr.toNat / 256
  let x := s.die d
  if !(x.vcacheMiss.contains g) || s.outstanding false (g * 256) 256 then s
  else
    let ways := (g :: (KMap.getOr [] x.vcache (vset g)).filter (· ≠ g)).take 16
    s.setDie d { x with vcacheMiss := x.vcacheMiss.filter (· ≠ g), vcache := KMap.put x.vcache (vset g) ways }

/-- TEXT_INPUT (R247, 11 R313): same-cycle arrivals enter the queue by rotation while it has room. -/
def execTextInput (d : DieNo) (requesters : List Nat) (s : State) : Out :=
  .next <|
  (cyclic 148 (s.die d).textArb).foldl (fun s q =>
    if requesters.contains q ∧ (s.die d).textQ.length < 64 then
      s.modDie d (fun x => { x with textQ := x.textQ ++ [q], textArb := (q + 1) % 148 })
    else s) s

/-! ### Tokenising a request (R230 to R234, R247; 10 R257) -/

/-- What the text lanes of a request give: a failed or poisoned read ends it, else the bytes. -/
def laneBytes : List Transfer → Except Status (List Bytes)
  | [] => .ok []
  | .failed c :: _ => .error (causeStatus c)
  | .poisoned :: _ => .error .poisoned
  | .data b :: r => match laneBytes r with
    | .ok bs => .ok (b :: bs)
    | .error e => .error e

/-- Lanes shared out among the TEXT segments, in order. -/
def shareLanes : List Segment → List Bytes → List (Segment × Bytes)
  | [], _ => []
  | g :: gs, ls =>
    if g.kind = 1 then
      match ls with
      | l :: r => (g, slice l 0 g.b) :: shareLanes gs r
      | [] => (g, []) :: shareLanes gs []
    else (g, []) :: shareLanes gs ls

/-- A segment's tokens; PASSAGES has none before packing (10 R257). -/
def State.segTokens (s : State) (b : Nat) (g : Segment × Bytes) : List Nat × List Nat :=
  match g.1.kind with
  | 1 => s.laneTokens b g.2
  | 2 => (g.1.ids, [])
  | 3 => (((KMap.find s.templates g.1.a).map (·.tokens)).getD [], [])
  | _ => ([], [])

/-- A request whose tokens are formed (10 R257, R267). -/
def Request.tokenised (x : Request) (toks : List (List Nat)) (segs : List Segment) : Request :=
  { x with segTokens := toks, prompt := toks.flatten, query := ((List.zip segs toks).filter (fun e => e.1.query)).flatMap (·.2) }

/-! ### The stages a request waits for (10 R251, R267) -/

def embModel (d : Bytes) : Nat := field (rdBlock d 1 64) 2 2
def rrModel (d : Bytes) : Nat := field (rdBlock d 4 64) 2 2
def genModel (d : Bytes) : Nat := field (rdBlock d 6 64) 4 2

/-- The stage after the present one, if any is set (10 R267). -/
def nextStage (x : Request) : Option Nat := ((List.range 6).filter (fun k => decide (x.stage < k) && rdStage x.desc k)).head?

/-- The job that serves a stage (10 R251). -/
def State.stageJob (s : State) (d : Bytes) (k : Nat) : Option Nat :=
  match k with
  | 1 => (s.model? (embModel d)).map (·.job)
  | 2 => (s.coll? (sbColl (rdBlock d 3 256))).map (·.job)
  | 3 => (s.model? (rrModel d)).map (·.job)
  | 4 => (s.store? (field (rdBlock d 5 64) 2 2)).map (·.job)
  | _ => (s.model? (genModel d)).map (·.job)

/-- A request waiting for its next stage at the job that serves it (10 R267; 11 R300). -/
def State.toStage (s : State) (x : Request) : Request :=
  match nextStage x with
  | some k => { x with state := .stageWait, stage := k, job := (s.stageJob x.desc k).getD 0xFFFF }
  | none => { x with state := .stageWait, job := 0xFFFF }

/-- TOKENISE (R230 to R234, R247). -/
def execTokenise (req : W32) (lanes : List Transfer) (s : State) : Out :=
  .next <|
  match s.req? req with
  | none => s
  | some x =>
    let segs := rdSegments x.desc
    if x.state ≠ .tokenising ∨ lanes.length < (segs.filter (fun g => g.kind == 1)).length then s else
    let s := s.dropReads req
    match laneBytes lanes, x.vocabPin.bind s.vocab? with
    | .error st, _ => s.failReq req st
    | .ok _, none => s.failReq req .versionGone
    | .ok ls, some v =>
      if segs.any (fun g => g.kind == 3 && (KMap.find s.templates g.a).isNone) then s.failReq req .versionGone else
      let d := v.worker x.home
      let b := v.copy d
      let shared := shareLanes segs ls
      let toks := shared.map (s.segTokens b)
      let gs := granuleSet (toks.flatMap (·.2))
      let s := gs.foldl (fun s g => s.vtouch d g) s
      if gs.any (fun g => s.poisonedRange (g * 256) 256) then s.failReq req .poisoned
      else
        let texts := shared.filter (fun e => e.1.kind == 1)
        let seams := (texts.map (fun e => seamCount (s.controls b) e.2)).sum
        let made := ((shared.zip toks).filter (fun e => e.1.1.kind == 1)).map (fun e => e.2.1.length)
        let s := (s.bump (okey 0x2600 2) seams).dbump d 0xB 1 ((texts.map (fun e => e.2.length)).sum)
        let s := s.dbump d 0xB 2 made.sum
        s.setReq req (s.toStage (x.tokenised (toks.map (·.1)) segs))

/-! ### The text block (R237, R238) -/

def xbStops (b : Bytes) : Nat := field b 2 1
def xbBans (b : Bytes) : Nat := field b 3 1
def xbForces (b : Bytes) : Nat := field b 4 1
def xbPool (b : Bytes) : Nat := field b 8 2
/-- Stop string `j`. -/
def xbStop (b : Bytes) (j : Nat) : Bytes := slice b (64 + 72 * j + 8) (field b (64 + 72 * j) 1)
/-- Directory entry `i`. -/
def xbDir (b : Bytes) (i : Nat) : Bytes := slice b (640 + 8 * i) 8
/-- The ids of a directory entry. -/
def xbSeq (b : Bytes) (i : Nat) : List Nat :=
  let e := xbDir b i
  (List.range (field e 2 1)).map (fun k => field b (1280 + 4 * (field e 0 2 + k)) 4)

/-- A text block breaks R237 or R238 under a vocabulary's copy. -/
def State.textBlockBad (s : State) (vb : Nat) (b : Bytes) : Bool :=
  let ids := s.vhdr vb 4
  let stopBad := fun j =>
    let e := slice b (64 + 72 * j) 72
    let n := field e 0 1
    if j < xbStops b then n == 0 || decide (n > 64) || !(zeros e 1 7) || !(zeros e (8 + n) (64 - n)) else !(zeros e 0 72)
  let dirBad := fun i =>
    let e := xbDir b i
    let len := field e 2 1
    if i < xbBans b + xbForces b then
      len == 0 || decide (len > 16) || decide (field e 0 2 + len > xbPool b) || !(zeros e 5 3) ||
      (if i < xbBans b then field e 3 1 ≠ 1 || field e 4 1 ≠ 0
       else field e 3 1 ≠ 2 || field e 4 1 == 0 || decide (field e 4 1 ≥ len)) ||
      (xbSeq b i).any (fun x => decide (x ≥ ids) || s.isUnused vb x)
    else !(zeros e 0 8)
  field b 0 1 ≠ 1 || decide (field b 1 1 ≥ 2) || decide (xbStops b > 8) || decide (xbBans b > 64) || decide (xbForces b > 16) ||
  !(zeros b 5 3) || decide (xbPool b > 256) || !(zeros b 10 54) || (List.range 8).any stopBad || (List.range 80).any dirBad ||
  !(zeros b (1280 + 4 * xbPool b) (4 * (256 - xbPool b)))

/-! ### The hem automaton (10 R274, R275) -/

def State.grammar? (s : State) (h : Nat) : Option Grammar := KMap.find s.grammars h

/-- The entry of a state (10 R275). -/
def State.hemEntry (s : State) (g : Grammar) (q : Nat) : Bytes := s.bytesAt (g.base + s.natAt (g.base + 16) 4 + 16 * q) 16
/-- The edges of a state: id and next state. -/
def State.hemEdges (s : State) (g : Grammar) (q : Nat) : List (Nat × Nat) :=
  let e := s.hemEntry g q
  let a := g.base + s.natAt (g.base + 20) 4
  (List.range (field e 4 4)).map (fun i => (s.natAt (a + 8 * (field e 0 4 + i)) 4, s.natAt (a + 8 * (field e 0 4 + i) + 4) 4))
/-- A shared bitmap's bit for an id (10 R274, R275). -/
def State.hemBit (s : State) (g : Grammar) (ids j id : Nat) : Bool :=
  let a := g.base + s.natAt (g.base + 24) 4 + j * roundUp (ceilDiv ids 8) 256
  bit (s.natAt (a + id / 8) 1) (id % 8)
/-- The next state after an id; none where the state does not allow it (10 R275). -/
def State.hemNext (s : State) (g : Grammar) (ids q id : Nat) : Option Nat :=
  let e := s.hemEntry g q
  match (s.hemEdges g q).find? (fun x => x.1 == id) with
  | some x => some x.2
  | none => if field e 8 4 ≠ 0xFFFFFFFF ∧ s.hemBit g ids (field e 8 4) id then some (field e 12 4) else none

/-! ### Banned and forced sequences, directives (R239 to R241) -/

/-- A list ends in another. -/
def endsIn (l suf : List Nat) : Bool := suf.isSuffixOf l

/-- The ban set of the next step over a stream (R239). -/
def banSet (b : Bytes) (stream : List Nat) : NSet :=
  (List.range (xbBans b)).foldl (fun acc i =>
    let q := xbSeq b i
    match q.getLast? with
    | some last => if endsIn stream (q.take (q.length - 1)) then NSet.add acc last else acc
    | none => acc) []

/-- The first FORCE entry whose trigger the emitted tokens complete (R240). -/
def triggered (b : Bytes) (emitted : List Nat) : Option Nat :=
  (List.range (xbForces b)).findSome? (fun i =>
    let e := xbBans b + i
    if endsIn emitted ((xbSeq b e).take (field (xbDir b e) 4 1)) then some e else none)

/-- The tail of a FORCE entry (R240). -/
def forceTail (b : Bytes) (e : Nat) : List Nat := (xbSeq b e).drop (field (xbDir b e) 4 1)

/-- The ids a step may emit before the ban set is taken out: used, in the hem mask (R241; 10 R271, R274). -/
def State.idAllowed (s : State) (x : Request) (vb : Nat) (id : Nat) : Bool :=
  decide (id < s.vhdr vb 4) && !(s.isUnused vb id) &&
  (match x.allowed with | some l => l.contains id | none => true) &&
  (match x.text with
    | some t => match t.hem with
      | some q =>
        let b := rdBlock x.desc 6 64
        match s.grammar? (field b 6 2) with
        | some g => (s.hemNext g (s.vhdr vb 4) q id).isSome
        | none => true
      | none => true
    | none => true)

/-- The text-engine copy of a request's vocabulary on its model's text die (R236; 10 R261). -/
def State.genCopy (s : State) (x : Request) : Option Nat :=
  match s.model? (genModel x.desc), x.vocabPin.bind s.vocab? with
  | some m, some v => some (v.copy m.textDie)
  | _, _ => none

/-- The text-engine copy a request's output is spelled from: that of its text die (R236). -/
def State.textCopy (s : State) (x : Request) : Option (Nat × Nat) :=
  match x.text, x.vocabPin.bind s.vocab? with
  | some t, some v => some (t.die, v.copy t.die)
  | _, _ => none

/-- The prompt of a request is known: packed, where it packs (R241). -/
def Request.promptKnown (x : Request) : Bool :=
  (x.state == .stageWait || x.state == .stage) &&
  (!(rdStage x.desc 4) || decide (x.stage > 4) || (x.stage == 4 && x.stageOutput ≠ []))

/-- A directive delivered and its ban set counted (R241, R248). -/
def State.deliverDirective (s : State) (r : W32) (x : Request) (t : TextRec) (d : Directive) : State :=
  (s.bump (okey 0x2600 5) (if d.bans ≠ [] ∧ ¬ d.stop then 1 else 0)).setReq r { x with text := some { t with directive := some d } }

/-- DIRECTIVE_STEP0 (R241). -/
def execDirectiveStep0 (req : W32) (s : State) : Out :=
  .next <|
  match s.req? req with
  | none => s
  | some x =>
    match x.text with
    | none => s
    | some t =>
      if t.directive.isSome ∨ t.emitted ≠ [] ∨ !(x.promptKnown) then s
      else s.deliverDirective req x t { step := 0, force := none, stop := false, bans := banSet t.block x.prompt }

/-! ### Stop strings and detokenisation (R236, R242 to R245) -/

/-- The lowest stop string that an output ends in (R242). -/
def stopAt (b : Bytes) (out : Bytes) : Option Nat := (List.range (xbStops b)).find? (fun j => (xbStop b j).isSuffixOf out)

/-- Output bytes entered one by one, until one completes a stop string (R242). -/
def watchBytes (b : Bytes) : Bytes → Bytes → Bytes × Option Nat
  | out, [] => (out, none)
  | out, c :: r =>
    match stopAt b (out ++ [c]) with
    | some j => (out ++ [c], some j)
    | none => watchBytes b (out ++ [c]) r

/-- How many bytes at the end of an output a stop string can still claim (R244). -/
def heldLength (b : Bytes) (out : Bytes) : Nat :=
  let can := fun n => (List.range (xbStops b)).any (fun j =>
    let p := xbStop b j
    decide (n < p.length) && (p.take n).isSuffixOf out)
  ((List.range 64).filter (fun n => can n)).foldl max 0

/-- Bytes of the text section at most (10 R287). -/
def textLimit (x : Request) (textOff : Nat) : Nat :=
  rdOutCap x.desc - textOff - (if rdFlag x.desc 0 then roundUp (4 * field (rdBlock x.desc 6 64) 12 4) 64 else 0)

/-- Bytes of the candidate and vector sections (10 R287). -/
def Request.candBytes (x : Request) : Bytes :=
  if !(rdFlag x.desc 1) then [] else if rdStage x.desc 3 then x.rerank else (x.search.bind (·.result)).getD []
def Request.vecBytes (x : Request) : Bytes := if rdFlag x.desc 2 && rdStage x.desc 1 then bytesOfWords x.qvec else []

/-- Sizes of the candidate and vector sections as the descriptor fixes them, whole lines of 64 bytes (10 R287). -/
def candSize (d : Bytes) : Nat :=
  if !(rdFlag d 1) then 0
  else if rdStage d 3 then 32 + 16 * field (rdBlock d 4 64) 8 2
  else if rdStage d 2 then 64 + 32 + 16 * sbK (rdBlock d 3 256) else 0

/-- Where the text section lies (10 R287). -/
def Request.textOff (x : Request) : Nat := 128 + roundUp (candSize x.desc) 64 + roundUp (4 * (if rdFlag x.desc 2 then x.qvec.length else 0)) 64

/-- An output's bytes split into those released and those held back (R244). -/
def TextRec.withOutput (t : TextRec) (out : Bytes) : TextRec :=
  let n := heldLength t.block out
  { t with out := out.take (out.length - n), held := out.drop (out.length - n) }

/-- The bytes of one id taken into the output (R236, R242, R243; 10 R273): those beyond the limit are dropped first. -/
def TextRec.spell (t : TextRec) (limit : Nat) (bs : Bytes) : TextRec :=
  let all := t.out ++ t.held
  let room := limit - all.length
  let (out, hit) := watchBytes t.block all (bs.take room)
  match hit with
  | some j =>
    let off := out.length - (xbStop t.block j).length
    { t with out := if bit (field t.block 1 1) 0 then out else out.take off, held := [], stop := some (j, off), count := t.count + 1 }
  | none => { (t.withOutput out) with count := t.count + 1, limitHit := t.limitHit || decide (bs.length > room) }

/-- DETOKENISE (R236, R242 to R244, R247): the id emitted last. -/
def execDetokenise (req : W32) (id : W32) (s : State) : Out :=
  .next <|
  match s.atStage req 5 with
  | none => s
  | some x =>
    match x.text, s.textCopy x with
    | some t, some (d, vb) =>
      if t.emitted.getLast? ≠ some id.toNat ∨ t.count + 1 ≠ t.emitted.length then s else
      let bad := decide (id.toNat ≥ s.vhdr vb 4) || s.isUnused vb id.toNat
      let (a, n) := s.spellAt vb id.toNat
      let s := (granuleSet ([s.idAt vb id.toNat] ++ (if bad then [] else (granulesOf a n).map (256 * ·)))).foldl (fun s g => s.vtouch d g) s
      let s := s.modDie d (fun y => { y with textQ := y.textQ.drop 1 })
      if !bad && (s.poisonedRange (s.idAt vb id.toNat) 8 || s.poisonedRange a n) then s.failReq req .poisoned
      else
        let bs := if bad || s.isControl vb id.toNat then [] else s.spelling vb id.toNat
        let t := t.spell (textLimit x x.textOff) bs
        ((s.bump (okey 0x2600 7) (if bad then 1 else 0)).dbump d 0xB 3 1).setReq req { x with text := some t }
    | _, _ => s

/-! ### The directive after a token, and the ends of generation (R240, R241; 10 R273) -/

/-- The conditions of 10 R273 that hold at the token just emitted, but for HEM_DEAD. -/
def State.endConds (s : State) (x : Request) (t : TextRec) : List Status :=
  let b := rdBlock x.desc 6 64
  let ends := ((KMap.find s.models (field b 4 2)).map (·.endIds)).getD []
  (match t.emitted.getLast? with | some i => cond (ends.any (fun e => e.toNat == i && e ≠ 0xFFFFFFFF)) .ok | none => []) ++
  cond (decide (x.generated.length ≥ field b 12 4) || t.limitHit) .length ++ cond t.stop.isSome .stopped

/-- The step after a token has no allowed id, or its forced id is excluded (10 R273). -/
def State.hemDead (s : State) (x : Request) (vb : Nat) (bans : List Nat) (force : Option Nat) : Bool :=
  match force with
  | some f => bans.contains f || !(s.idAllowed x vb f)
  | none => !((List.range (s.vhdr vb 4)).any (fun i => s.idAllowed x vb i && !(bans.contains i)))

/-- DIRECTIVE (R239 to R243; 10 R273): delivered once the token is spelled; the conditions that end the request are noted. -/
def execDirective (req : W32) (s : State) : Out :=
  .next <|
  match s.atStage req 5 with
  | none => s
  | some x =>
    match x.text, s.textCopy x with
    | some t, some (_, vb) =>
      if t.directive.isSome ∨ t.emitted = [] ∨ t.count ≠ t.emitted.length then s else
      let start := if t.forcing.isSome then none else triggered t.block t.emitted
      let forcing := match start with
        | some e => some (e, 0)
        | none => t.forcing
      let force := forcing.bind (fun f => (forceTail t.block f.1)[f.2]?)
      let stop := t.stop.isSome
      let bans := if stop then [] else banSet t.block (x.prompt ++ t.emitted)
      let cs := s.endConds x t
      let cs := if cs = [] ∧ s.hemDead x vb bans force then [.hemDead] else cs
      let t := { t with forcing := forcing }
      let t := if cs = [] then t else { t with out := t.out ++ t.held, held := [] }
      let s := (s.bump (okey 0x2600 4) (if start.isSome then 1 else 0)).bump (okey 0x2600 3) (if stop then 1 else 0)
      s.deliverDirective req (cs.foldl Request.note x) t
        { step := t.emitted.length, force := if stop then none else force, stop := stop, bans := bans }
    | _, _ => s

/-- The second byte of a UTF-8 sequence may follow its first (R231, R236). -/
def utf8Second (a b : Nat) : Bool :=
  if a = 0xE0 then decide (0xA0 ≤ b) else if a = 0xED then decide (b < 0xA0) else if a = 0xF0 then decide (0x90 ≤ b)
  else if a = 0xF4 then decide (b < 0x90) else true

/-- Bytes at the end of an output that begin a UTF-8 sequence and do not finish it, 0 to 3 (R236, R245). -/
def utf8Tail (out : Bytes) : Nat :=
  let starts := fun k =>
    let c := (out.getD (out.length - k) 0).toNat
    let cont := (List.range (k - 1)).all (fun i => (out.getD (out.length - k + 1 + i) 0).toNat / 64 == 2)
    decide (k ≤ out.length) && cont && (k == 1 || utf8Second c (out.getD (out.length - k + 1) 0).toNat) && ((k < 2 && decide (0xC2 ≤ c ∧ c < 0xE0)) || (k < 3 && decide (0xE0 ≤ c ∧ c < 0xF0)) ||
      (k < 4 && decide (0xF0 ≤ c ∧ c < 0xF5)))
  if starts 1 then 1 else if starts 2 then 2 else if starts 3 then 3 else 0

/-- The text trailer (R245): the output delivered takes in what was held back to the request's end (R244). -/
def trailerOf (t : Option TextRec) : Bytes :=
  match t with
  | none => leBytes 4 0 ++ leBytes 4 0xFFFFFFFF ++ [0xFF, 0, 0, 0] ++ leBytes 4 0
  | some t =>
    let out := t.out ++ t.held
    leBytes 4 out.length ++ leBytes 4 ((t.stop.map (·.2)).getD 0xFFFFFFFF) ++ leBytes 1 ((t.stop.map (·.1)).getD 0xFF) ++
    leBytes 1 (utf8Tail out) ++ leBytes 1 ((if t.stop.isSome then 1 else 0) + if t.forcing.isSome then 2 else 0) ++ [0] ++ leBytes 4 t.count

/-! ### Objects (R246, R248, R249) -/

/-- Request records of a die's engine held now (R246). -/
def State.recordsOf (s : State) (d : Nat) : Nat := (s.reqs.filter (fun e => (e.2.text.map (·.die)) == some d)).length

/-- The 32 bytes of a vocabulary (R248). -/
def State.vocabBlob (s : State) (h : Nat) : Bytes :=
  match s.vocab? h with
  | none => List.replicate 32 0
  | some v =>
    [if v.unloading then 2 else 1] ++ List.replicate 7 0 ++ leBytes 8 v.dieMask ++ leBytes 4 v.ids ++ leBytes 4 v.merges ++
    leBytes 4 v.pins.length ++ [0, 0, 0, 0]

/-- TEXT_COUNTERS_CLEAR (R248). -/
def execTextCountersClear (r : Requester) (v : Bytes) (s : State) : Out := .next <| s.clearWrite r 0x2600 8 v

/-- TEXTDIE_COUNTERS_CLEAR (R249). -/
def execTextdieCountersClear (d : DieNo) (r : Requester) (v : Bytes) (s : State) : Out :=
  .next <| s.clearWrite r (dieObj d 0xB) 7 v

end Sys2Proof.Machine
end

