-- ==== Sys2Proof/Machine/Serve.lean ====
section
/-! DEFINITION. The course of a request: the descriptor's checks, stages, packing, generation, the sampler, KV pages and the output
(10 R251 to R289, R509, R510, R512). -/

namespace Sys2Proof.Machine

/-! ### Handles -/

def State.template? (s : State) (h : Nat) : Option Template := KMap.find s.templates h

def genMaxNew (d : Bytes) : Nat := field (rdBlock d 6 64) 12 4
def genFlag (d : Bytes) (i : Nat) : Bool := bit (field (rdBlock d 6 64) 2 1) i
def genSample (d : Bytes) : Bool := field (rdBlock d 6 64) 1 1 == 1

/-! ### The checks of R254 -/

/-- The header breaks R251. -/
def headerBad (x : Request) (d : Bytes) : Bool :=
  field d 0 1 ≠ 1 || field d 1 1 == 0 || decide (field d 1 1 ≥ 32) || decide (field d 2 1 ≥ 8) || decide (rdVocab d > 63) ||
  field d 4 2 == 0 || decide (field d 4 2 > 256) || rdLength d ≠ x.length || !(zeros d 6 2) || !(zeros d 10 6) || rdOutOffset d % 64 ≠ 0 ||
  rdOutCap d % 64 ≠ 0 || decide (rdOutCap d < 128) || decide (rdOutCap d > 16777216) || !(zeros d 28 4) || !(zeros d 48 16)

/-- Bytes of a block (R251, R252). -/
def blockSize (d : Bytes) (k : Nat) : Nat :=
  match k with
  | 0 => 16 + 16 * rdSegCount d
  | 3 => 256
  | 7 => 2304
  | _ => 64

/-- The stage whose bit a block needs (R252). -/
def blockStage (k : Nat) : Option Nat :=
  match k with
  | 1 => some 1 | 3 => some 2 | 4 => some 3 | 5 => some 4 | 6 => some 5 | _ => none

/-- The blocks lie within the descriptor and apart from one another (R252). -/
def blocksPlaced (d : Bytes) : Bool :=
  let has := (List.range 8).filter (rdHas d)
  !(has.any (fun k => decide (rdOff d k < 64) || decide (rdOff d k + blockSize d k > rdLength d))) &&
  !(has.any (fun k => has.any (fun j => decide (j < k) && rangesMeet (rdOff d k) (blockSize d k) (rdOff d j) (blockSize d j))))

/-- Presence and placing of the blocks break R252. -/
def blocksBad (d : Bytes) : Bool :=
  let st := rdStage d
  let segs := (rdSegments d).filter (fun g => g.kind == 4)
  (List.range 8).any (fun k => match blockStage k with | some n => rdHas d k != st n | none => false) ||
  (rdHas d 0 != (st 1 || st 3 || st 4 || st 5)) || (rdHas d 2 && !(st 1)) || (rdHas d 7 && !(st 5)) ||
  !(blocksPlaced d) || (st 2 && (sbHost (rdBlock d 3 256) == st 1)) || (st 3 && !(st 2)) || (segs.length ≠ if st 4 && st 2 then 1 else 0)

/-- A segment breaks R256, or its ids R234. -/
def State.segmentBad (s : State) (vb : Option Nat) (g : Segment) : Bool :=
  decide (field g.bytes 1 1 ≥ 2) || (g.query && decide (g.kind > 2)) ||
  match g.kind with
  | 1 => g.b == 0
  | 2 => g.a == 0 || decide (g.a > 3) || (decide (g.a < 2) && g.c % 2 ^ 32 ≠ 0) || (decide (g.a < 3) && g.c / 2 ^ 32 ≠ 0) ||
    (match vb with | some b => g.ids.any (fun i => decide (i ≥ s.vhdr b 4) || !(s.isControl b i)) | none => false)
  | 3 => decide (g.a > 255) || g.b ≠ 0 || g.c ≠ 0
  | 4 => g.a ≠ 0 || g.b ≠ 0 || g.c ≠ 0
  | _ => true

/-- A named handle: not loaded, or loaded for another vocabulary or kind (R253, R254). -/
def handleConds {α : Type} (h : Option α) (ok : α → Bool) : List Status :=
  match h with
  | none => [.versionGone]
  | some x => cond (!(ok x)) .badDescriptor

/-- The template handles a segment or PACK names (R253). -/
def State.templateConds (s : State) (voc h : Nat) : List Status := handleConds (s.template? h) (fun t => t.vocab == voc)

/-- The segments' conditions (R230, R251, R253, R256, R257). -/
def State.segmentConds (s : State) (ctx : Nat) (vb : Option Nat) (d : Bytes) : List Status :=
  if !(rdHas d 0) then [] else
  let segs := rdSegments d
  cond (rdSegCount d == 0 || decide (rdSegCount d > 256) || !(zeros d (rdOff d 0 + 2) 14) || segs.any (s.segmentBad vb) ||
    ((rdStage d 1 || rdStage d 3) && !(segs.any (·.query))) ||
    decide (((segs.filter (fun g => g.kind == 1)).map (·.b)).sum > 16777216)) .badDescriptor ++
  segs.flatMap (fun g =>
    match g.kind with
    | 1 => s.windowConds ctx g.a g.c g.b false
    | 3 => s.templateConds (rdVocab d) g.a
    | _ => [])

/-- The dimension of a sketch lookup's table; zero without one. -/
def State.sketchDim (s : State) (d : Bytes) : Nat := if rdHas d 2 then ((s.table? (lbTable (rdBlock d 2 64))).map (·.dim)).getD 0 else 0

/-- The dimension EMBED gives (R262). -/
def State.embedDim (s : State) (d : Bytes) : Nat := ((s.model? (embModel d)).map (·.outDim)).getD 0 + s.sketchDim d

/-- EMBED's conditions, with its sketch lookup's (R208, R209, R262). -/
def State.embedConds (s : State) (ctx : Nat) (d : Bytes) : List Status :=
  let b := rdBlock d 1 64
  let l := rdBlock d 2 64
  cond (field b 0 1 ≠ 1 || decide (field b 1 1 ≥ 2) || !(zeros b 4 60) || (bit (field b 1 1) 0 != rdHas d 2) || decide (embModel d > 255))
    .badDescriptor ++
  handleConds (s.model? (embModel d)) (fun m => m.kind == 1 && m.vocab == rdVocab d) ++
  (if !(rdHas d 2) then [] else
    cond (lookupBlockBad l || field l 10 1 ≠ 0 || lbPool l == 0 || (!(lbFlag l 3) && lbWidth l ≠ 4)) .badDescriptor ++
    handleConds (s.table? (lbTable l)) (fun _ => true) ++
    (if lbFlag l 3 then s.windowConds ctx (field l 16 2) (field l 24 8) (lbHostBytes l) false else []))

/-- SEARCH's conditions (R186). -/
def State.searchConds (s : State) (ctx : Nat) (d : Bytes) : List Status :=
  let b := rdBlock d 3 256
  cond (searchBlockBad b) .badDescriptor ++
  handleConds (s.coll? (sbColl b)) (fun c => !(rdStage d 1) || s.embedDim d == c.dim) ++
  (if sbHost b then
    s.windowConds ctx (field b 24 2) (field b 32 8) (4 * ((s.coll? (sbColl b)).map (·.dim)).getD 0) false else [])

/-- RERANK's conditions (R263). -/
def State.rerankConds (s : State) (d : Bytes) : List Status :=
  let b := rdBlock d 4 64
  cond (field b 0 1 ≠ 1 || !(zeros b 1 1) || decide (rrModel d > 255) || decide (field b 4 2 > 255) || field b 6 2 == 0 ||
    decide (field b 6 2 > 256) || field b 8 2 == 0 || decide (field b 8 2 > 256) || !(zeros b 10 2) || field b 12 4 == 0 ||
    decide (field b 12 4 > 65535) || !(zeros b 16 48)) .badDescriptor ++
  handleConds (s.model? (rrModel d)) (fun m => m.kind == 2 && m.vocab == rdVocab d) ++
  handleConds (s.store? (field b 4 2)) (fun st => st.vocab == rdVocab d)

/-- PACK's conditions (R264). -/
def State.packConds (s : State) (d : Bytes) : List Status :=
  let b := rdBlock d 5 64
  let most := if rdStage d 5 then ((s.model? (genModel d)).map (fun m => m.context - genMaxNew d)).getD (2 ^ 32) else 2 ^ 32
  cond (field b 0 1 ≠ 1 || decide (field b 1 1 ≥ 4) || decide (field b 2 2 > 255) || field b 8 4 == 0 || decide (field b 8 4 > most) ||
    field b 12 2 == 0 || decide (field b 12 2 > 256) || ((field b 14 2 == 0) == bit (field b 1 1) 0) || !(zeros b 16 48)) .badDescriptor ++
  handleConds (s.store? (field b 2 2)) (fun st => st.vocab == rdVocab d) ++
  (if field b 4 2 = 0xFFFF then [] else s.templateConds (rdVocab d) (field b 4 2)) ++
  (if field b 6 2 = 0xFFFF then [] else s.templateConds (rdVocab d) (field b 6 2))

/-- An FP32 field lies in a range given by exact bounds. -/
def fpIn (w : Nat) (ok : Dy → Bool) : Bool :=
  match fval (BitVec.ofNat 32 w) with
  | .fin _ x => ok x
  | _ => false

/-- The GENERATE block breaks R269. -/
def generateBad (d : Bytes) (context : Nat) : Bool :=
  let b := rdBlock d 6 64
  let one : Dy := ⟨1, 0⟩
  field b 0 1 ≠ 1 || decide (field b 1 1 > 1) || decide (field b 2 1 ≥ 8) || !(zeros b 3 1) || decide (genModel d > 255) ||
  (if genFlag d 0 then decide (field b 6 2 > 4095) else field b 6 2 ≠ 0) ||
  (if genFlag d 2 then decide (field b 8 4 > 65535) else field b 8 4 ≠ 0) ||
  genMaxNew d == 0 || decide (genMaxNew d > context - 1) || !(zeros b 22 2) || !(zeros b 42 2) || !(zeros b 56 8) ||
  (if genSample d then
    !(fpIn (field b 16 4) (fun x => decide (x.m > 0) && x.le ⟨100, 0⟩)) || decide (field b 20 2 > 256) ||
    !(fpIn (field b 24 4) (fun x => decide (x.m > 0) && x.le one)) || !(fpIn (field b 28 4) (fun x => decide (0 ≤ x.m) && x.lt one))
   else !(zeros b 16 6) || !(zeros b 24 16)) ||
  (if genFlag d 1 then field b 44 4 == 0 || decide (field b 44 4 > 65536) || field b 48 8 % 64 ≠ 0
   else field b 40 2 ≠ 0 || field b 44 4 ≠ 0 || field b 48 8 ≠ 0)

/-- Whether a mask contains another. -/
def maskWithin (a b : Nat) : Bool := (a &&& b) == a

/-- GENERATE's conditions (R253, R254, R269, R276, R277, R281). -/
def State.generateConds (s : State) (ctx : Nat) (d : Bytes) : List Status :=
  let b := rdBlock d 6 64
  let m := s.model? (genModel d)
  let logits := (m.map (·.logitDies)).getD 0
  cond (generateBad d ((m.map (·.context)).getD (2 ^ 20))) .badDescriptor ++
  handleConds m (fun m => m.kind == 3 && m.vocab == rdVocab d) ++
  (if genFlag d 0 then handleConds (s.grammar? (field b 6 2)) (fun g => g.vocab == rdVocab d && maskWithin logits g.dieMask) else []) ++
  (if genFlag d 2 then
    cond ((m.map (fun m => !m.streamed)).getD false) .badDescriptor ++
    handleConds ((KMap.find s.patches (field b 8 4)).filter (fun p => !p.unloading)) (fun p => p.model == genModel d) else []) ++
  (if genFlag d 1 then
    s.windowConds ctx (field b 40 2) (field b 48 8) (4 * field b 44 4) false ++ cond ((m.map (fun m => m.listRegion == 0)).getD false) .badDescriptor
   else [])

/-- The sections before the text, or the token section, do not fit (R287). -/
def State.sectionsBad (s : State) (d : Bytes) : Bool :=
  let vec := if rdFlag d 2 && rdStage d 1 then 4 * s.embedDim d else 0
  let toks := if rdFlag d 0 && rdStage d 5 then roundUp (4 * genMaxNew d) 64 else 0
  decide (128 + roundUp (candSize d) 64 + roundUp vec 64 + toks > rdOutCap d)

/-- Every condition a descriptor is refused for (R254). What a block holds is judged where the blocks are present and placed (DEDUCED, log 165). -/
def State.requestConds (s : State) (x : Request) (d : Bytes) : List Status :=
  let ctx := s.reqContext x
  let v := (s.vocab? (rdVocab d)).filter (fun v => !v.unloading)
  let vb := v.map (fun v => v.copy ((maskMembers v.dieMask 64).headD 0))
  let shape := headerBad x d || blocksBad d
  let reads := fun (k b : Nat) => rdStage d k && rdHas d b && blocksPlaced d
  cond shape .badDescriptor ++ cond v.isNone .versionGone ++ s.windowConds ctx (rdOutWindow d) (rdOutOffset d) (rdOutCap d) true ++
  (if blocksPlaced d then s.segmentConds ctx vb d else []) ++ (if reads 1 1 then s.embedConds ctx d else []) ++
  (if reads 2 3 then s.searchConds ctx d else []) ++ (if reads 3 4 then s.rerankConds d else []) ++
  (if reads 4 5 then s.packConds d else []) ++ (if reads 5 6 then s.generateConds ctx d else []) ++
  cond (rdHas d 7 && blocksPlaced d && (match vb with | some b => s.textBlockBad b (rdBlock d 7 2304) | none => false)) .badDescriptor ++
  cond (s.sectionsBad d) .badDescriptor

/-! ### DESCRIPTOR_READ (R251, R254, R267) -/

/-- An RDMA READ of a context's window put in flight (R251; 12 R321). -/
def State.readWindow (s : State) (r : W32) (ctx num : Nat) (off : Nat) (n : Nat) : State :=
  match s.window? ctx num with
  | some w => (s.send (.rdmaRead w.qp (w.base + BitVec.ofNat 64 off) w.rkey n)).addOut w.qp (.read r)
  | none => s

/-- A new text record (09 R246). -/
def newRecord (die : Nat) (block : Bytes) : TextRec :=
  { die := die, block := block, emitted := [], forcing := none, out := [], held := [], stop := none, hem := none, count := 0,
    directive := none, limitHit := false }

/-- A descriptor accepted: the vocabulary is pinned, the lanes read (R254, R267; 09 R230). -/
def State.acceptDescriptor (s : State) (r : W32) (x : Request) (d : Bytes) : State :=
  let ctx := s.reqContext x
  let h := rdVocab d
  let s := match s.vocab? h with
    | some v => { s with vocabs := s.vocabs.put h { v with pins := v.pins ++ [r] } }
    | none => s
  let x := { x with desc := d, vocabPin := some h }
  let x := if rdHas d 0 then { x with state := .tokenising } else s.toStage x
  ((rdSegments d).filter (fun g => g.kind == 1)).foldl (fun s g => s.readWindow r ctx g.a g.c g.b) (s.setReq r x)

/-- DESCRIPTOR_READ (R251 to R254, R267). -/
def execDescriptorRead (req : W32) (data : Transfer) (s : State) : Out :=
  .next <|
  match s.req? req with
  | none => s
  | some x =>
    if x.kind ≠ 1 ∨ x.state ≠ .fetching then s else
    let s := s.dropReads req
    match data with
    | .failed c => s.failReq req (causeStatus c)
    | .poisoned => s.failReq req .poisoned
    | .data bs =>
      let d := slice bs 0 x.length
      let x := { x with state := .checking }
      match s.requestConds x d with
      | [] => s.acceptDescriptor req x d
      | cs =>
        let st := firstStatus cs
        (s.setReq req (cs.foldl Request.note x)).failReq req st

/-! ### Stages (R267, R268, R300) -/

/-- A job takes the requests that wait for its stages: a Q job only in its slots, any other at once (11 R300; DEDUCED, log 160). -/
def Job.takesRequests (jb : Job) : Bool := jb.state = .running || (jb.cls ≠ 1 && jb.state ≠ .ended)

/-- STAGE_ADMIT (R254, R267; 11 R300). -/
def execStageAdmit (req : W32) (s : State) : Out :=
  .next <|
  match s.req? req with
  | none => s
  | some x =>
    if x.kind ≠ 1 ∨ x.state ≠ .stageWait then s else
    match s.stageJob x.desc x.stage with
    | none => s.failReq req .versionGone
    | some j =>
      match s.job? j with
      | none => s
      | some jb => if jb.takesRequests then s.setReq req { x with state := .stage, job := j, stageOutput := [] } else s

/-- STAGE_HANDOFF (R268). -/
def execStageHandoff (req : W32) (status : Byte) (s : State) : Out :=
  .next <|
  match s.req? req, Status.ofCode status.toNat with
  | some x, some st =>
    if x.kind ≠ 1 ∨ x.state ≠ .stage then s
    else if !(goesOn st) then s.failReq req st
    else
      match x.conds.find? (fun c => c ≠ .degraded) with
      | some c => s.failReq req c
      | none =>
        if x.stageOutput = [] ∨ x.stage = 5 then s else
        let x := if st = .degraded then x.note .degraded else x
        match nextStage x with
        | some _ => s.setReq req (s.toStage x)
        | none => (s.setReq req x).failReq req .ok
  | _, _ => s

/-- EMBED_STAGE (R262; 08 R219). -/
def execEmbedStage (req : W32) (dense : List W32) (s : State) : Out :=
  .next <|
  match s.atStage req 1 with
  | none => s
  | some x =>
    match s.model? (embModel x.desc) with
    | none => s.failReq req .versionGone
    | some m =>
      if x.query.length > m.context then s.failReq req .length
      else if dense.length ≠ m.outDim ∨ (rdHas x.desc 2 ∧ x.sketch = []) then s
      else
        let q := dense ++ x.sketch
        s.setReq req { x with qvec := q, stageOutput := bytesOfWords q }

/-! ### Passages (R259, R263) -/

/-- An id's passage in a store: where its tokens lie and how many, and whether what was read is poisoned (R259). -/
def State.passage (s : State) (st : Store) (id : Nat) : Option (Nat × Nat × Bool) :=
  ((List.range st.passages).find? (fun i => s.natAt (st.index + 16 * i) 8 == id)).map (fun i =>
    let e := st.index + 16 * i
    let a := s.natAt (e + 8) 6
    let n := s.natAt (e + 14) 2
    (a, n, s.poisonedRange e 16 || s.poisonedRange a (4 * n)))

def State.tokensAt (s : State) (a n : Nat) : List Nat := (List.range n).map (fun i => s.natAt (a + 4 * i) 4)

/-- The valid ids of a stored list, in order (05 R134, R135). -/
def listIds (l : Bytes) : List Nat := (List.range (field l 0 2)).map (fun i => field l (32 + 16 * i) 8)

/-- The list a search gave (07 R190). -/
def Request.searchList (x : Request) : Bytes := ((x.search.bind (·.result)).getD []).drop 64

/-- RERANK_STAGE (R259, R263): `scores` gives each candidate's score, in list order. -/
def execRerankStage (req : W32) (scores : List W32) (s : State) : Out :=
  .next <|
  match s.atStage req 3 with
  | none => s
  | some x =>
    let b := rdBlock x.desc 4 64
    match s.model? (rrModel x.desc), s.store? (field b 4 2) with
    | some m, some st =>
      if x.query.length ≥ m.context then s.failReq req .length else
      let cands := (listIds x.searchList).take (field b 6 2)
      if scores.length < cands.length ∨ x.stageOutput ≠ [] then s else
      let found := cands.zipIdx.map (fun (id, i) => (id, i, s.passage st id))
      let missing := (found.filter (fun e => e.2.2.isNone)).length
      let els := found.filterMap (fun (id, i, p) => p.map (fun (a, _, bad) =>
        (⟨⟨BitVec.ofNat 64 id, scores.getD i 0, false⟩, true, bad, a⟩ : SelElem)))
      let sl : SelSlot := { k := field b 8 2, int32 := false, asc := false, rowLen := maxRow, req := req, examined := els.length }
      let sl := els.foldl SelSlot.take sl
      let x := if sl.degraded then x.note .degraded else x
      (s.bump (okey 0x2700 0x0D) missing).setReq req { x with rerank := sl.bytes, stageOutput := sl.bytes, missing := x.missing + missing }
    | _, _ => s.failReq req .versionGone

/-! ### Packing (R264, R265) -/

/-- What packing has done so far. -/
structure Packing where
  avail : Nat
  taken : List (List Nat) := []
  missing : Nat := 0
  skipped : Nat := 0
  poisoned : List Nat := []
  truncated : Bool := false
  deriving DecidableEq, Repr

/-- One candidate (R265). -/
def State.packOne (s : State) (st : Store) (b : Bytes) (wrap sep : Nat) (p : Packing) (id : Nat) : Packing :=
  if p.truncated ∨ p.taken.length ≥ field b 12 2 then p else
  match s.passage st id with
  | none => { p with missing := p.missing + 1 }
  | some (a, n, bad) =>
    if bad then { p with poisoned := p.poisoned ++ [a] }
    else if wrap + n + sep ≤ p.avail then { p with taken := p.taken ++ [s.tokensAt a n], avail := p.avail - (wrap + n + sep) }
    else if bit (field b 1 1) 0 ∧ p.avail ≥ wrap + sep + field b 14 2 then
      { p with taken := p.taken ++ [s.tokensAt a (p.avail - wrap - sep)], avail := 0, truncated := true }
    else { p with skipped := p.skipped + 1 }

/-- The prompt with the packed passages in the place of PASSAGES (R257, R265). -/
def packedPrompt (segs : List Segment) (toks : List (List Nat)) (body : List Nat) : List Nat :=
  (List.zip segs toks).flatMap (fun e => if e.1.kind = 4 then body else e.2)

/-- PACK_STAGE (R265). -/
def execPackStage (req : W32) (s : State) : Out :=
  .next <|
  match s.atStage req 4 with
  | none => s
  | some x =>
    if x.stageOutput ≠ [] then s else
    let b := rdBlock x.desc 5 64
    let tmpl := fun h => if h = 0xFFFF then some [] else (s.template? h).map (·.tokens)
    match s.store? (field b 2 2), tmpl (field b 4 2), tmpl (field b 6 2) with
    | some st, some wrap, some sep =>
      let fixed := (x.segTokens.map (·.length)).sum
      if fixed > field b 8 4 then s.failReq req .length else
      let cands := if rdStage x.desc 3 then listIds x.rerank else if rdStage x.desc 2 then listIds x.searchList else []
      let p := cands.foldl (s.packOne st b wrap.length sep.length) { avail := field b 8 4 - fixed }
      let order := if bit (field b 1 1) 1 then p.taken.reverse else p.taken
      let prompt := packedPrompt (rdSegments x.desc) x.segTokens (order.flatMap (fun t => wrap ++ t ++ sep))
      let s := s.bump (okey 0x2700 0x0D) p.missing
      let s := p.poisoned.foldl (fun s a => s.dbump (faDie a) 0xA 6 1) s
      let x := if p.poisoned ≠ [] then x.note .degraded else x
      s.setReq req { x with
        prompt := prompt, packedList := p.taken, packed := p.taken.length, missing := x.missing + p.missing, skipped := p.skipped,
        truncated := p.truncated, stageOutput := leBytes 4 prompt.length }
    | _, _, _ => s.failReq req .versionGone

/-! ### Admission to GENERATE and the KV cache (R266, R272, R277, R282 to R284, R510) -/

/-- The KV regions of a model: die and pages of each (R510). -/
def State.kvRegions (s : State) (m : Model) : List (Nat × Nat) :=
  if m.kvRegion = 0 ∧ m.kvSram = m.context then [] else
  match s.job? m.job with
  | none => []
  | some jb => (jb.regions.filter (fun g => g.kind == 2 && faOff g.base == faOff m.kvRegion)).map (fun g => (faDie g.base, g.pages))

/-- The requests that hold a slot and pages of a model, with the pages each holds on every die. -/
def State.kvHeld (s : State) (h : Nat) : List Nat :=
  (s.reqs.filter (fun e => e.2.kind == 1 && rdStage e.2.desc 5 && genModel e.2.desc == h)).filterMap (fun e => e.2.kv)

/-- Pages a request needs on each die (R284). -/
def kvNeed (m : Model) (x : Request) : Nat := ceilDiv (x.prompt.length + genMaxNew x.desc - m.kvSram) 64

/-- A slot and the pages can be given (R284). -/
def State.kvFits (s : State) (h : Nat) (m : Model) (x : Request) : Bool :=
  let held := s.kvHeld h
  decide (held.length < m.maxBatch) && (s.kvRegions m).all (fun e => decide (held.sum + kvNeed m x ≤ e.2))

/-- The allowed list breaks R277. -/
def State.listBad (s : State) (vb : Nat) (ids : List Nat) : Bool :=
  ids.any (fun i => decide (i ≥ s.vhdr vb 4) || s.isUnused vb i) || !(List.zip ids (ids.drop 1)).all (fun e => decide (e.1 < e.2))

/-- The allowed list of a request that has one (R277). -/
def State.allowedList (s : State) (x : Request) (t : Transfer) : Except Status (Option (List Nat)) :=
  if !(genFlag x.desc 1) then .ok none else
  match t with
  | .failed c => .error (causeStatus c)
  | .poisoned => .error .poisoned
  | .data bs =>
    let ids := (List.range (field (rdBlock x.desc 6 64) 44 4)).map (fun i => field bs (4 * i) 4)
    match s.genCopy x with
    | some vb => if s.listBad vb ids then .error .badDescriptor else .ok (some ids)
    | none => .error .versionGone

/-- Where an admitted request's list is kept: the first 256 KiB of its model's list area that no other request's list has (R277; DESIGN
CHOICE, log 166). -/
def State.listCell (s : State) (h : Nat) (m : Model) : Nat :=
  let used := (s.reqs.filter (fun e => e.2.kind == 1 && genModel e.2.desc == h)).filterMap (fun e => e.2.listAt)
  (((List.range (used.length + 1)).map (fun i => m.listRegion + i * 2 ^ 18)).find? (fun a => !(used.contains a))).getD m.listRegion

/-- The pages a byte run uses in the region of a job that has a base, sealed (R277). -/
def State.sealUsed (s : State) (jb : Job) (base a n : Nat) : State :=
  match jb.regions.find? (fun g => g.kind == 2 && g.base == base) with
  | some g => s.sealPages (g.pageBases.filter (fun b => rangesMeet b (2 ^ g.log2) a n)) g.log2
  | none => s

/-- A request given its slot and its pages, its allowed list kept in the list area and sealed (R277, R284). -/
def State.enterBatch (s : State) (h : Nat) (m : Model) (r : W32) (x : Request) : State :=
  let x := { x with kv := some (kvNeed m x) }
  match x.allowed with
  | none => s.setReq r x
  | some ids =>
    let a := s.listCell h m
    let s := s.storeClean a (ids.flatMap (leBytes 4))
    let s := match s.job? m.job with
      | some jb => s.sealUsed jb m.listRegion a (4 * ids.length)
      | none => s
    s.setReq r { x with listAt := some a }

/-- A patch set pinned by a request (R281). -/
def State.pinPatch (s : State) (patch : Option Nat) (r : W32) : State :=
  match patch.bind (fun p => (KMap.find s.patches p).map (fun y => (p, y))) with
  | some (p, y) => { s with patches := s.patches.put p { y with pins := y.pins ++ [r] } }
  | none => s

/-- The text block of a request, zeros without one (09 R237). -/
def Request.textBlock (x : Request) : Bytes := if rdHas x.desc 7 then rdBlock x.desc 7 2304 else List.replicate 2304 0

/-- GENERATE_ADMIT (R266, R268, R272, R275, R277, R281, R284; 09 R246): the record taken at the text die, then the slot and the pages, and
the list kept. -/
def execGenerateAdmit (req : W32) (list : Transfer) (s : State) : Out :=
  .next <|
  match s.atStage req 5 with
  | none => s
  | some x =>
    let h := genModel x.desc
    let b := rdBlock x.desc 6 64
    match s.model? h with
    | none => s.failReq req .versionGone
    | some m =>
      if x.kv.isSome ∨ m.kvQueue.contains req then s
      else if x.prompt.length + genMaxNew x.desc > m.context then s.failReq req .length
      else
        let patch := if genFlag x.desc 2 then some (field b 8 4) else none
        let grammar := if genFlag x.desc 0 then s.grammar? (field b 6 2) else none
        if (patch.map (fun p => (KMap.find s.patches p).isNone)).getD false || (genFlag x.desc 0 && grammar.isNone) then
          s.failReq req .versionGone else
        match s.allowedList x list with
        | .error st => s.failReq req st
        | .ok allowed =>
          if s.recordsOf m.textDie ≥ 2048 then (s.bump (okey 0x2600 6) 1).failReq req .refusedFit else
          let s := s.pinPatch patch req
          let x := { x with allowed := allowed, patch := patch, text := some { newRecord m.textDie x.textBlock with hem := grammar.map (·.start) } }
          if m.kvQueue = [] ∧ s.kvFits h m x then s.enterBatch h m req x
          else
            (({ s with models := s.models.put h { m with kvQueue := m.kvQueue ++ [req] } } : State).bump (okey 0x2700 0x0C) 1).setReq req x

/-- KV_RESERVE_GRANT (R277, R284): the first of the queue is given its slot and pages once they are free. -/
def execKvReserveGrant (model : Fin 256) (s : State) : Out :=
  .next <|
  match s.model? model with
  | none => s
  | some m =>
    match m.kvQueue with
    | [] => s
    | r :: rest =>
      match s.req? r with
      | none => { s with models := s.models.put model { m with kvQueue := rest } }
      | some x =>
        if s.kvFits model m x then
          ({ s with models := s.models.put model { m with kvQueue := rest } } : State).enterBatch model m r x
        else s

/-- KV_WAIT_EXPIRY (R284). -/
def execKvWaitExpiry (req : W32) (s : State) : Out :=
  .next <|
  match s.atStage req 5 with
  | none => s
  | some x =>
    match s.model? (genModel x.desc) with
    | some m => if m.kvQueue.contains req then s.failReq req .refusedFit else s
    | none => s

/-- PREFILL_DONE (R270, R283). -/
def execPrefillDone (req : W32) (s : State) : Out :=
  .next <|
  match s.atStage req 5 with
  | none => s
  | some x =>
    if x.kv.isNone ∨ x.prefilled then s
    else (s.bump (okey 0x2700 7) x.prompt.length).setReq req { x with prefilled := true }

/-! ### Decoding (R271 to R273, R512) -/

/-- The candidate ids, best first, lower ids first among equals (R271; 05 R128). -/
def bestIds (k : Nat) (z : List Logit) (allowed : List Nat) : List Nat :=
  let sl : SelSlot := { k := k, int32 := false, asc := false, rowLen := maxRow, req := 0 }
  let es := allowed.foldl (fun (sl : SelSlot) i => (sl.enter ⟨BitVec.ofNat 64 i, (z.getD i ⟨0, false⟩).z, false⟩).1) sl
  es.entries.map (·.id.toNat)

/-- A weight of R271: an exponential within its bound; 1 or 0 where the best logit is +∞. -/
def weight (t z0 z : W32) : W32 :=
  if fval z0 = .inf false then (if fval z = .inf false then 0x3F800000 else 0)
  else let x := (fpDiv (fpSub z z0).v t).v; (fpExp (Config.sampleExp x) x).v

/-- The first kept ids whose sum of w/Z reaches top_p; all where no prefix does (R271). -/
def topPrefix (k : Nat) (z p : W32) (kept : List (Nat × W32)) : List (Nat × W32) :=
  match (List.range kept.length).find? (fun n =>
      !(fpLt (fpSum k ((kept.take (n + 1)).map (fun e => (fpDiv e.2 z).v))) p)) with
  | some n => kept.take (n + 1)
  | none => kept

/-- The id a draw picks of the kept ones (R271, R512). -/
def drawId (k : Nat) (u : W32) (kept : List (Nat × W32)) : Nat :=
  let bound := (fpMul u (fpSum k (kept.map (·.2)))).v
  match (List.range kept.length).find? (fun n => !(fpLt (fpSum k ((kept.take (n + 1)).map (·.2))) bound)) with
  | some n => ((kept.map (·.1)).getD n 0)
  | none => ((kept.map (·.1)).getLast?).getD 0

/-- The draw of 24 bits over 2^24, in FP32 (R272). -/
def drawFp (n : Nat) : W32 := (roundFp32 false ⟨(n % 2 ^ 24 : Nat), -24⟩).v

/-- The id SAMPLE emits of the candidates `c` (R271, R512); `k` is the next free draw. -/
def sampleId (k : Nat) (b : Bytes) (z : List Logit) (allowed c : List Nat) : Nat :=
  let zOf := fun i => (z.getD i ⟨0, false⟩).z
  let c0 := c.headD 0
  if fval (zOf c0) = .inf true then c0 else
  let t : W32 := BitVec.ofNat 32 (field b 16 4)
  let w := fun i => weight t (zOf c0) (zOf i)
  let zz := fpSum k (allowed.map w)
  let low := (fpMul (BitVec.ofNat 32 (field b 28 4)) (w c0)).v
  let kept := (c.map (fun i => (i, w i))).filter (fun e => !(fpLt e.2 low))
  drawId k (drawFp (Config.freeNat k)) (topPrefix k zz (BitVec.ofNat 32 (field b 24 4)) kept)

/-- A request is generating and has not met an end (R268, R273). -/
def Request.generating (x : Request) : Bool := x.kv.isSome && x.prefilled && x.conds.all (· == .degraded)

/-- A token emitted: the hem automaton and a forced run go on, the directive is spent (R271, R275; 09 R240). -/
def State.emit (s : State) (r : W32) (x : Request) (t : TextRec) (vb id : Nat) (forced : Bool) : State :=
  let g := s.grammar? (field (rdBlock x.desc 6 64) 6 2)
  let hem := t.hem.bind (fun q => match g with | some g => s.hemNext g (s.vhdr vb 4) q id | none => some q)
  let forcing := t.forcing.bind (fun f => if !forced then some f else if f.2 + 1 < (forceTail t.block f.1).length then some (f.1, f.2 + 1) else none)
  let t := { t with emitted := t.emitted ++ [id], hem := hem, forcing := forcing, directive := none }
  let s := (s.bump (okey 0x2700 5) 1).bump (okey 0x2700 6) (if forced then 1 else 0)
  s.setReq r { x with text := some t, generated := x.generated ++ [id], forcedCount := x.forcedCount + if forced then 1 else 0 }

/-- DECODE_STEP (R271, R272, R275, R512): `z` gives the logits of ids 0 upwards. -/
def execDecodeStep (req : W32) (z : List Logit) (s : State) : Out :=
  .next <|
  match s.atStage req 5 with
  | none => s
  | some x =>
    match x.text, s.textCopy x with
    | some t, some (_, vb) =>
      match t.directive with
      | none => s
      | some d =>
        if !(x.generating) ∨ d.step ≠ t.emitted.length ∨ z.length ≠ s.vhdr vb 4 ∨ d.stop then s else
        let b := rdBlock x.desc 6 64
        let allowed := (List.range z.length).filter (fun i => s.idAllowed x vb i && !(d.bans.contains i))
        let dead := match d.force with
          | some f => !(allowed.contains f)
          | none => allowed.isEmpty
        if dead then s.setReq req (x.note .hemDead)
        else if allowed.any (fun i => (z.getD i ⟨0, false⟩).poison) then s.setReq req (x.note .poisoned)
        else
          match d.force with
          | some f => s.emit req x t vb f true
          | none =>
            let num := allowed.filter (fun i => !(isNan (z.getD i ⟨0, false⟩).z))
            let nans := allowed.length - num.length
            let k := if genSample x.desc then (if field b 20 2 = 0 then 256 else field b 20 2) else 1
            let c := bestIds k z num
            let s := s.bump (okey 0x2700 0x10) nans
            let x := { x with nanLogits := x.nanLogits + nans }
            match c with
            | [] => s.setReq req (x.note .hemDead)
            | c0 :: _ =>
              if genSample x.desc then
                ({ s with free := s.free + 1 } : State).emit req { x with draws := x.draws + 1 } t vb (sampleId s.free b z num c) false
              else s.emit req x t vb c0 false
    | _, _ => s

/-! ### Output (R285 to R287, R509) -/

/-- Every condition of a request, a cancel among them (R9, R285). -/
def Request.allConds (x : Request) : List Status := if x.cancelled then x.conds ++ [.cancelled] else x.conds
def Request.status (x : Request) : Status := firstStatus x.allConds

/-- The request passed its checks (R254). -/
def Request.checked (x : Request) : Bool := x.vocabPin.isSome

/-- No output is written (R285, R287). -/
def Request.noOutput (x : Request) : Bool := x.kind ≠ 1 || !x.checked || x.cancelled || x.status == .badDescriptor

/-- The bytes of the candidate section the request reached (R287). -/
def Request.candSection (x : Request) : Bytes :=
  if !(rdFlag x.desc 1) then [] else if x.rerank ≠ [] then x.rerank else (x.search.bind (·.result)).getD []

/-- Zeros to the next multiple of 64. -/
def pad64 (bs : Bytes) : Bytes := bs ++ List.replicate (roundUp bs.length 64 - bs.length) 0

/-- The output header (R286). -/
def Request.header (x : Request) (r : W32) (cand vec text toks : Nat) : Bytes :=
  leBytes 4 r.toNat ++ leBytes 1 x.status.code ++ leBytes 1 x.lastStage ++ leBytes 2 x.packed ++ leBytes 4 x.prompt.length ++
  leBytes 4 x.generated.length ++ leBytes 4 x.forcedCount ++ leBytes 4 x.missing ++ leBytes 4 x.skipped ++
  leBytes 4 (x.nanLogits % 2 ^ 32) ++ leBytes 4 cand ++ leBytes 4 vec ++ leBytes 4 text ++ leBytes 4 toks ++
  leBytes 1 (if x.truncated then 1 else 0) ++ List.replicate 15 0

/-- The output of a request (R286, R287). -/
def Request.output (x : Request) (r : W32) : Bytes :=
  if x.status = .poisoned then x.header r 0 0 0 0 else
  let cand := x.candSection
  let vec := x.vecBytes
  let reached := x.text.isSome && x.stage == 5
  let text := if reached then (x.text.map (fun t => t.out ++ t.held)).getD [] else []
  let hasToks := reached && rdFlag x.desc 0
  let toks := x.generated.flatMap (leBytes 4)
  let candOff := 128
  let vecOff := candOff + roundUp cand.length 64
  let textOff := vecOff + roundUp vec.length 64
  let tokOff := textOff + roundUp text.length 64
  let head := x.header r (if cand = [] then 0 else candOff) (if vec = [] then 0 else vecOff) (if reached then textOff else 0)
    (if hasToks then tokOff else 0)
  let body := head ++ pad64 (trailerOf (if reached then x.text else none))
  if hasToks then body ++ pad64 cand ++ pad64 vec ++ pad64 text ++ toks
  else if text ≠ [] then body ++ pad64 cand ++ pad64 vec ++ text
  else if vec ≠ [] then body ++ pad64 cand ++ vec
  else body ++ cand

/-- An output WRITE has failed (R509): its status joins the conditions, and nothing more is written. -/
def State.outputFailed (s : State) (r : W32) (st : Status) : State :=
  s.modReq r (fun x => { x.note st with outFailed := true, outDone := true, written := 0, outstanding := x.outstanding - 1 })

/-- OUTPUT_WRITE (R285 to R287, R509). -/
def execOutputWrite (req : W32) (s : State) : Out :=
  .next <|
  match s.req? req with
  | none => s
  | some x =>
    if x.state ≠ .writing ∨ x.outDone then s
    else if x.noOutput then s.setReq req { x with outDone := true, written := 0 }
    else
      match s.window? (s.reqContext x) (rdOutWindow x.desc) with
      | none => s.setReq req { x.note .retryExhausted with outDone := true, outFailed := true, written := 0 }
      | some w =>
        match s.qpCause w.qp with
        | some st => s.setReq req { x.note st with outDone := true, outFailed := true, written := 0 }
        | none =>
          let bs := x.output req
          let s := (s.send (.rdmaWrite w.qp (w.base + BitVec.ofNat 64 (rdOutOffset x.desc)) w.rkey bs none)).addOut w.qp (.output req)
          s.setReq req { x with outDone := true, written := bs.length, outstanding := x.outstanding + 1 }

/-- OUTPUT_WRITE_FAIL (R509). -/
def execOutputWriteFail (req : W32) (cause : Cause) (s : State) : Out :=
  .next <|
  match s.req? req with
  | none => s
  | some x =>
    if x.state ≠ .writing ∨ x.outstanding = 0 then s else
    let q := ((s.window? (s.reqContext x) (rdOutWindow x.desc)).map (·.qp)).getD 0
    (s.dropOut q (.output req)).outputFailed req (causeStatus cause)

/-! ### Objects (R288) -/

/-- KV pages reserved now, over every die (R288). -/
def State.kvPages (s : State) : Nat :=
  (s.models.map (fun e => (s.kvHeld e.1).sum * (s.kvRegions e.2).length)).sum

/-- Requests in flight at a model (R288): those that have reached the stage it serves and have not completed (DEDUCED, log 161). -/
def State.modelLoad (s : State) (h : Nat) (m : Model) : Nat :=
  (s.reqs.filter (fun e => e.2.kind == 1 && e.2.checked &&
    (match m.kind with
      | 1 => e.2.stage == 1 && embModel e.2.desc == h
      | 2 => e.2.stage == 3 && rrModel e.2.desc == h
      | _ => e.2.stage == 5 && genModel e.2.desc == h))).length

/-- The 32 bytes of a model (R288). -/
def State.modelBlob (s : State) (h : Nat) : Bytes :=
  match s.model? h with
  | none => List.replicate 32 0
  | some m =>
    [1, BitVec.ofNat 8 m.kind, if m.streamed then 2 else 1, BitVec.ofNat 8 m.vocab] ++ leBytes 4 m.context ++ leBytes 4 (s.modelLoad h m) ++
    leBytes 4 ((s.kvHeld h).sum * (s.kvRegions m).length) ++ leBytes 4 ((s.patches.filter (fun e => e.2.model == h)).length) ++
    List.replicate 12 0

/-- GEN_COUNTERS_CLEAR (R288). -/
def execGenCountersClear (r : Requester) (v : Bytes) (s : State) : Out :=
  .next <| s.clearWrite r 0x2700 0x11 v

end Sys2Proof.Machine
end

