-- ==== Sys2Proof/Machine/Records.lean ====
section
/-! DEFINITION. The load checks of the records of a job image (11 R505; 07 R175, R176; 08 R204, R205; 09 R223 to R228; 10 R258 to R261,
R274 to R276, R279 to R281, R510), and what each record loads. -/

namespace Sys2Proof.Machine

/-- A byte run lies in the image's READ regions. -/
def Job.inRead (jb : Job) (a n : Nat) : Bool := faSpace a == 0 && decide (1 ≤ n) && jb.ownsRange (· == 1) a n
/-- A byte run of stack memory lies in regions the image declares. -/
def Job.inRegions (jb : Job) (a n : Nat) : Bool := faSpace a == 0 && decide (1 ≤ n) && jb.ownsRange (fun _ => true) a n
/-- A byte run of tile SRAM lies in SRAM the image declares. -/
def Job.inSram (jb : Job) (a n : Nat) : Bool := faSpace a == 1 && decide (1 ≤ n) && jb.ownsSram (faTile a) (faSram a) n

/-- Tile SRAM as the image's DATA will set it: declared SRAM zero but for its bytes (11 R293). -/
def State.withData (s : State) (jb : Job) : State :=
  let s := jb.tiles.foldl (fun s d => s.zeroRange (sramFa d.tile (d.first * 4096)) (d.count * 4096)) s
  { s with mem := jb.data.foldl (fun m p => Memory.writes m (sramFa p.tile p.offset) p.bytes) s.mem }

/-! ### Collections (07 R175, R176) -/

/-- The version 0 a collection record gives; its switch epoch is 1, the first epoch (log 15). -/
def collVersion0 (r : Bytes) : CollVersion :=
  { num := 0, binTable := field r 24 6, idIndex := field r 32 6, graphMap := field r 40 6, bins := field r 16 4, switchEpoch := 1,
    foldEpoch := 1, hides := [], pins := [] }

def collOf (j : Nat) (r : Bytes) : Coll :=
  { job := j, metric := field r 2 1, shape := field r 3 1, dim := field r 4 2, centBf16 := field r 6 1 == 2, dieMask := field r 8 8,
    sideCap := field r 20 4, epoch := 1, cur := collVersion0 r, old := none, held := none, side := [], sideSeq := 0, batch := [] }

/-- The fields of a collection record (R175). -/
def collFieldsOk (r : Bytes) : Bool :=
  decide (field r 0 2 ≤ 255) && decide (field r 2 1 ≤ 2) && decide (field r 3 1 ≤ 3) && decide (64 ≤ field r 4 2) &&
  decide (field r 4 2 ≤ 4096) && field r 4 2 % 16 == 0 && (field r 6 1 == 0 || field r 6 1 == 2) && zeros r 7 1 &&
  decide (1 ≤ field r 16 4) && decide (field r 16 4 ≤ 1048576) && decide (field r 20 4 ≤ 16777216) && field r 24 6 % 64 == 0 &&
  zeros r 30 2 && field r 32 6 % 64 == 0 && zeros r 38 2 && zeros r 46 18

/-- Bytes of the vectors of a bin (R179). -/
def binVecBytes (c : Coll) (n : Nat) : Nat := 4 * c.dim * n

/-- The structures of a collection lie in what the image declares (R176, R178, R181): bin table, bins, id index, graph map and nodes. -/
def State.collPlaced (s g : State) (jb : Job) (c : Coll) : Bool :=
  let v := c.cur
  let node := 144 + centroidBytes c
  jb.inRegions v.binTable (64 * v.bins) && jb.inRegions v.idIndex 64 &&
  (List.range v.bins).all (fun b =>
    let e := s.bytesAt (binAt v b) 64
    let n := field e 32 4
    binEntryOk e && (n == 0 || (jb.inRegions (field e 0 6) (binVecBytes c n) && jb.inRegions (field e 8 6) (8 * n) &&
      jb.inRegions (field e 16 6) (8 * n) && jb.inRegions (field e 24 6) (4 * n)))) &&
  jb.inSram v.graphMap 272 && jb.inSram v.graphMap (g.mapBytes v) && g.graphOk v &&
  decide (roundUp node 64 ≤ g.natAt (v.graphMap + 4) 4) &&
  (g.graphRanges v).all (fun r =>
    field r 8 4 == 0 || jb.ownsSram (field r 0 2) (field r 12 4) (g.natAt (v.graphMap + 4) 4 * (field r 8 4 - 1) + node))

def State.loadColl (s g : State) (j : Nat) (jb : Job) (r : Bytes) : Option State :=
  if collFieldsOk r ∧ (s.coll? (field r 0 2)).isNone ∧ s.collPlaced g jb (collOf j r) then
    some { s with colls := s.colls.put (field r 0 2) (collOf j r) }
  else none

/-! ### Embedding tables (08 R204, R205) -/

def tableOf (j h : Nat) (r : Bytes) : ETable :=
  { job := j, composed := field r 2 1 == 2, fmt := field r 3 1, dim := field r 4 2, mulshift := field r 2 1 == 1 && field r 6 1 == 1,
    shardLog := field r 7 1, dieMask := field r 8 8, rowsA := field r 16 4 + 1, rowsB := if field r 2 1 = 2 then field r 20 4 + 1 else 0,
    mult := BitVec.ofNat 64 (field r 24 8), hotCap := field r 48 4, hotA := field r 52 6, hotB := field r 58 6, service := false,
    cur := { num := 0, baseA := field r 32 6, baseB := field r 40 6, hotSel := false, hotA := [], hotB := [], hotBuilt := field r 48 4 == 0,
             pins := [] },
    old := none, held := none, built := none, staging := if Config.stagingCapacity h > 0 then .open_ else .none_,
    logCap := Config.stagingCapacity h, log := [], arrivals := 0 }

/-- The fields of a table record (R204, R205). -/
def tableFieldsOk (r : Bytes) : Bool :=
  let composed := field r 2 1 == 2
  let shift := !composed && field r 6 1 == 1
  let mask := field r 8 8
  let baseOk := fun (a : Nat) => a % 256 == 0 && faSpace a == 0 && (maskMembers mask 64).head? == some (faDie a)
  let hotOk := fun (a : Nat) => if field r 48 4 = 0 then a == 0 else faSpace a == 1
  decide (field r 0 2 ≤ 1023) && (field r 2 1 == 1 || composed) && decide (field r 3 1 ≤ 2) && decide (16 ≤ field r 4 2) &&
  decide (field r 4 2 ≤ 4096) && field r 4 2 % 16 == 0 && decide (field r 6 1 ≤ (if composed then 0 else 1)) &&
  decide (10 ≤ field r 7 1) && decide (field r 7 1 ≤ 24) && (composed || zeros r 20 4) &&
  (if shift then field r 24 8 % 2 == 1 else zeros r 24 8) && baseOk (field r 32 6) && zeros r 38 2 &&
  (if composed then baseOk (field r 40 6) else zeros r 40 6) && zeros r 46 2 && decide (field r 48 4 ≤ 1048576) &&
  hotOk (field r 52 6) && hotOk (field r 58 6)

/-- The rows the `k`-th of `dies` dies holds of `rows`, as the local row after its last (R206). -/
def localRows (shardLog dies rows k : Nat) : Nat :=
  let shards := ceilDiv rows (2 ^ shardLog)
  if shards ≤ k then 0 else
    let last := (shards - 1 - k) / dies
    let shard := last * dies + k
    last * 2 ^ shardLog + min (2 ^ shardLog) (rows - shard * 2 ^ shardLog)

/-- The shards of a sub-table, and the hot areas, lie in what the image declares (R205, R206). -/
def tablePlaced (jb : Job) (t : ETable) : Bool :=
  let dies := maskMembers t.dieMask 64
  let shards := fun (base rows : Nat) => (dies.zipIdx).all (fun (d, k) =>
    let n := localRows t.shardLog dies.length rows k
    n == 0 || jb.inRegions (stackFa d (faOff base)) (n * t.stride))
  shards t.cur.baseA t.rowsA && (!t.composed || shards t.cur.baseB t.rowsB) &&
  (t.hotCap == 0 || (jb.inSram t.hotA (t.hotCap * t.stride) && jb.inSram t.hotB (t.hotCap * t.stride)))

def State.loadTable (s : State) (j : Nat) (jb : Job) (r : Bytes) : Option State :=
  let h := field r 0 2
  if tableFieldsOk r ∧ (s.table? h).isNone ∧ tablePlaced jb (tableOf j h r) then some (s.setTable h (tableOf j h r)) else none

/-! ### Vocabularies (09 R223 to R228) -/

/-- A section at an offset of a region header: 256-byte aligned and within the region (R224, R228). -/
def sectionIn (off n size : Nat) : Bool := off % 256 == 0 && decide (off + n ≤ size)

/-- The header of a vocabulary region (R224, R228). -/
def State.vocabHeaderOk (s : State) (b size : Nat) : Bool :=
  let ids := s.vhdr b 4
  let merges := s.vhdr b 8
  let k := s.natAt (b + 12) 1
  decide (64 ≤ size) && s.natAt b 1 == 1 && s.natAt (b + 1) 3 == 0 && decide (256 ≤ ids) && decide (ids ≤ 1048576) &&
  decide (merges ≤ ids - 256) && decide (10 ≤ k) && decide (k ≤ 24) && s.natAt (b + 13) 3 == 0 && decide (merges ≤ 2 ^ (k - 1)) &&
  sectionIn (s.vhdr b 16) (8 * ids) size && sectionIn (s.vhdr b 20) 0 size && sectionIn (s.vhdr b 24) (16 * 2 ^ k) size &&
  sectionIn (s.vhdr b 28) 8704 size && sectionIn (s.vhdr b 32) 0 size && sectionIn (s.vhdr b 36) 512 size &&
  sectionIn (s.vhdr b 40) 1024 size && s.natAt (b + 58) 6 == 0

/-- The entries of the id table, class blocks and byte table (R225, R227, R228). -/
def State.vocabTablesOk (s : State) (b size : Nat) : Bool :=
  let ids := s.vhdr b 4
  (List.range ids).all (fun i =>
    let e := s.bytesAt (s.idAt b i) 8
    decide (field e 4 2 ≤ 256) && decide (field e 6 1 ≤ 3) && zeros e 7 1 && decide (s.vhdr b 20 + field e 0 4 + field e 4 2 ≤ size)) &&
  (List.range 4352).all (fun p => decide (s.vhdr b 32 + 128 * s.natAt (b + s.vhdr b 28 + 2 * p) 2 + 128 ≤ size)) &&
  (List.range 0x110000).all (fun c => decide ((s.classOf b c).1 ≤ 13)) &&
  (List.range 256).all (fun c =>
    let id := s.byteId b (BitVec.ofNat 8 c)
    decide (id < ids) && !(s.isControl b id) && !(s.isUnused b id))

/-- The used slots of the merge table (R226). -/
def State.mergeSlots (s : State) (b : Nat) : List Bytes :=
  ((List.range (2 ^ s.natAt (b + 12) 1)).map (fun i => s.bytesAt (b + s.vhdr b 24 + 16 * i) 16)).filter (fun e => field e 0 4 ≠ 0xFFFFFFFF)

/-- The merges (R228). -/
def State.vocabMergesOk (s : State) (b : Nat) : Bool :=
  let ids := s.vhdr b 4
  let ms := s.mergeSlots b
  ms.all (fun e => decide (field e 0 4 < ids) && decide (field e 4 4 < ids) && decide (field e 8 4 < ids) &&
    !(s.isControl b (field e 8 4)) && !(s.isUnused b (field e 8 4)) &&
    (ms.filter (fun x => field x 8 4 == field e 8 4)).length == 1) &&
  ms.length == s.vhdr b 8 && (List.range (s.vhdr b 8)).all (fun k => (ms.filter (fun e => field e 12 4 == k)).length == 1)

/-- A region record laid out as R223: its mask and its copies, each a read region of the job. -/
def copiesOk (jb : Job) (r : Bytes) : Bool :=
  let base := field r 16 6
  base % 256 == 0 && faSpace base == 0 && (maskMembers (field r 8 8) 64).head? == some (faDie base) && zeros r 22 2 && zeros r 28 4 &&
  (maskMembers (field r 8 8) 64).all (fun d => jb.inRead (stackFa d (faOff base)) (field r 24 4))

def State.loadVocab (s : State) (j : Nat) (jb : Job) (r : Bytes) : Option State :=
  let h := field r 0 1
  let b := field r 16 6
  if h ≤ 63 ∧ zeros r 1 7 ∧ copiesOk jb r ∧ (s.vocab? h).isNone ∧ s.vocabHeaderOk b (field r 24 4) ∧ s.vocabTablesOk b (field r 24 4) ∧
      s.vocabMergesOk b then
    some { s with vocabs := s.vocabs.put h { job := j, dieMask := field r 8 8, base := b, bytes := field r 24 4, ids := s.vhdr b 4,
                                             merges := s.vhdr b 8, pins := [], unloading := false } }
  else none

/-- A vocabulary that is loaded or declared in the same image, and not being unloaded (10 R261; 09 R230). -/
def State.vocabNow (s : State) (h : Nat) : Option Vocab := (s.vocab? h).filter (fun v => !v.unloading)

/-! ### Models (10 R258, R261, R510) -/

/-- The fields of a model record (R258, R261). -/
def modelFieldsOk (r : Bytes) : Bool :=
  let kind := field r 2 1
  let gen := kind == 3
  let ctx := field r 4 4
  let outDim := field r 10 2
  decide (field r 0 2 ≤ 255) && decide (1 ≤ kind) && decide (kind ≤ 3) && decide (16 ≤ ctx) && decide (ctx ≤ 1048576) &&
  (if kind = 1 then outDim % 16 == 0 && decide (64 ≤ outDim) && decide (outDim ≤ 4096) else outDim == 0) &&
  (if field r 8 1 = 1 then decide (1 ≤ field r 46 2) && decide (field r 46 2 ≤ 18432) else field r 8 1 == 2 && zeros r 46 2) &&
  zeros r 62 2 &&
  (if gen then
    decide (field r 9 1 < 64) && decide (1 ≤ field r 12 4) && decide (field r 12 4 ≤ 256) && !((slice r 16 16).all (· == 0xFF)) &&
    field r 32 4 % 64 == 0 && decide (field r 32 4 ≤ ctx) && decide (field r 36 4 ≤ 1000000) && field r 48 8 ≠ 0 &&
    (field r 32 4 ≠ ctx || zeros r 40 6)
   else zeros r 9 1 && zeros r 12 34 && zeros r 48 14)

/-- The model's vocabulary, weights, list area and KV regions (R261, R510). -/
def State.modelPlaced (s : State) (jb : Job) (r : Bytes) : Bool :=
  let gen := field r 2 1 == 3
  let append := fun (a n : Nat) => jb.regions.any (fun g => g.kind == 2 && g.base == a && decide (n ≤ g.bytes))
  (match s.vocabNow (field r 3 1) with
    | none => false
    | some v => !gen || (bit v.dieMask (field r 9 1) && maskWithin (field r 48 8) v.dieMask)) &&
  (field r 8 1 ≠ 1 || decide (field r 46 2 * 2 ^ 20 ≤ (jb.tiles.map (fun d => d.count * 4096)).sum)) &&
  (!gen || field r 56 6 == 0 || append (field r 56 6) (field r 12 4 * 2 ^ 18)) &&
  (!gen || field r 32 4 == field r 4 4 || append (field r 40 6) 1)

def modelOf (j : Nat) (r : Bytes) : Model :=
  { job := j, kind := field r 2 1, vocab := field r 3 1, context := field r 4 4, streamed := field r 8 1 == 2, textDie := field r 9 1,
    outDim := field r 10 2, maxBatch := field r 12 4, endIds := wordsOfBytes (slice r 16 16) 4, kvSram := field r 32 4, kvWait := field r 36 4,
    kvRegion := field r 40 6, weightMib := field r 46 2, logitDies := field r 48 8, listRegion := field r 56 6, kvQueue := [] }

def State.loadModel (s : State) (j : Nat) (jb : Job) (r : Bytes) : Option State :=
  let h := field r 0 2
  if modelFieldsOk r ∧ (s.model? h).isNone ∧ s.modelPlaced jb r then some { s with models := s.models.put h (modelOf j r) } else none

/-! ### Passage stores and templates (10 R259 to R261) -/

/-- The index of a store: within the read regions, in order, each passage in the read regions (R259, R261). -/
def State.storeIndexOk (s : State) (jb : Job) (a n : Nat) : Bool :=
  jb.inRead a (16 * n) &&
  (List.range n).all (fun i =>
    let e := s.bytesAt (a + 16 * i) 16
    decide (1 ≤ field e 14 2) && field e 8 6 % 4 == 0 && jb.inRead (field e 8 6) (4 * field e 14 2) &&
    (i == 0 || decide (s.natAt (a + 16 * (i - 1)) 8 < field e 0 8)))

def State.loadStore (s : State) (j : Nat) (jb : Job) (r : Bytes) : Option State :=
  let h := field r 0 2
  if h ≤ 255 ∧ zeros r 3 1 ∧ 1 ≤ field r 4 4 ∧ field r 8 6 % 16 = 0 ∧ zeros r 14 18 ∧ (s.store? h).isNone ∧
      (s.vocabNow (field r 2 1)).isSome ∧ s.storeIndexOk jb (field r 8 6) (field r 4 4) then
    some { s with stores := s.stores.put h { job := j, vocab := field r 2 1, passages := field r 4 4, index := field r 8 6 } }
  else none

/-- A template's granules read through the cache, its bytes and ids counted (09 R229, R249). -/
def State.countTemplate (s : State) (d : Nat) (reads : List Nat) (bytes ids : Nat) : State :=
  (((granuleSet reads).foldl (fun s g => s.vtouch d g) s).dbump d 0xB 1 bytes).dbump d 0xB 2 ids

/-- A template admitted, tokenised by the engine of the die its text lies on, or of the lowest die with a copy (R260; 09 R235;
DEDUCED, log 164). -/
def State.loadTemplate (s : State) (j : Nat) (jb : Job) (r : Bytes) : Option State :=
  let h := field r 0 2
  let n := field r 4 4
  match s.vocabNow (field r 2 1) with
  | none => none
  | some v =>
    if h ≤ 255 ∧ zeros r 3 1 ∧ 1 ≤ n ∧ n ≤ 65536 ∧ zeros r 14 18 ∧ (s.template? h).isNone ∧ jb.inRead (field r 8 6) n then
      let d := v.worker (faDie (field r 8 6))
      let toks := s.templateTokens (v.copy d) (s.bytesAt (field r 8 6) n)
      let s := s.countTemplate d toks.2 n toks.1.length
      some { s with templates := s.templates.put h ⟨j, field r 2 1, toks.1⟩ }
    else none

/-! ### Grammars (10 R274 to R276) -/

/-- The states, edges and bitmaps of a grammar (R275, R276). -/
def State.grammarOk (s : State) (b size : Nat) (v : Vocab) : Bool :=
  let states := s.natAt (b + 4) 4
  let maps := s.natAt (b + 12) 4
  let edges := s.natAt (b + 28) 4
  let mapBytes := roundUp (ceilDiv v.ids 8) 256
  let g : Grammar := { job := 0, vocab := 0, dieMask := 0, base := b, bytes := size, states := states, start := 0 }
  let idOk := fun (i : Nat) => decide (i < v.ids) && !(s.isUnused v.base i)
  decide (64 ≤ size) && s.natAt b 1 == 1 && s.natAt (b + 2) 2 == 0 && decide (1 ≤ states) && decide (states ≤ 1048576) &&
  decide (s.natAt (b + 8) 4 < states) && decide (maps ≤ 65536) && sectionIn (s.natAt (b + 16) 4) (16 * states) size &&
  sectionIn (s.natAt (b + 20) 4) (8 * edges) size && sectionIn (s.natAt (b + 24) 4) (maps * mapBytes) size && s.natAt (b + 32) 32 == 0 &&
  (List.range states).all (fun q =>
    let e := s.hemEntry g q
    let es := s.hemEdges g q
    let none_ := field e 8 4 == 0xFFFFFFFF
    decide (field e 4 4 ≤ 1048576) && decide (field e 0 4 + field e 4 4 ≤ edges) &&
    (if none_ then field e 12 4 == 0xFFFFFFFF else decide (field e 8 4 < maps) && decide (field e 12 4 < states)) &&
    es.all (fun x => idOk x.1 && decide (x.2 < states)) &&
    (es.zip (es.drop 1)).all (fun (x, y) => decide (x.1 < y.1))) &&
  (List.range maps).all (fun k => (List.range (mapBytes * 8)).all (fun i => !(s.hemBit g v.ids k i) || idOk i))

def State.loadGrammar (s : State) (j : Nat) (jb : Job) (r : Bytes) : Option State :=
  let h := field r 0 2
  let b := field r 16 6
  if h ≤ 4095 ∧ zeros r 2 6 ∧ copiesOk jb r ∧ (s.grammar? h).isNone then
    match s.vocabNow (s.natAt (b + 1) 1) with
    | none => none
    | some v =>
      if s.grammarOk b (field r 24 4) v then
        some { s with grammars := s.grammars.put h { job := j, vocab := s.natAt (b + 1) 1, dieMask := field r 8 8, base := b,
                                                     bytes := field r 24 4, states := s.natAt (b + 4) 4, start := s.natAt (b + 8) 4 } }
      else none
  else none

/-! ### Patch sets (10 R279 to R281) -/

/-- The index and data of a patch set: in order, in its model's weight regions, with scales and deltas that stand (R279, R281). -/
def State.patchOk (s : State) (jb : Job) (owner : Job) (r : Bytes) : Bool :=
  let n := field r 4 4
  let index := field r 8 6
  let data := field r 16 6
  jb.inRegions index (8 * n) && jb.inRegions data (1024 * n) &&
  (List.range n).all (fun i =>
    let e := s.bytesAt (index + 8 * i) 8
    owner.inRead (field e 0 6) 1 && field e 6 1 ≠ 0xFF && zeros e 7 1 &&
    (i == 0 || decide (s.natAt (index + 8 * (i - 1)) 6 < field e 0 6))) &&
  (s.bytesAt data (1024 * n)).all (fun b => b ≠ 0x7F && b ≠ 0xFF)

def State.loadPatch (s : State) (j : Nat) (jb : Job) (r : Bytes) : Option State :=
  let h := field r 0 2
  match s.model? (field r 2 1) with
  | none => none
  | some m =>
    let owner := if m.job = j then jb else (s.job? m.job).getD jb
    if m.streamed ∧ zeros r 3 1 ∧ 1 ≤ field r 4 4 ∧ field r 4 4 ≤ 16777216 ∧ field r 8 6 % 8 = 0 ∧ zeros r 14 2 ∧ field r 16 6 % 256 = 0 ∧
        zeros r 22 10 ∧ (KMap.find s.patches h).isNone ∧ s.patchOk jb owner r then
      some { s with patches := s.patches.put h { job := j, model := field r 2 1, blocks := field r 4 4, index := field r 8 6,
                                                 data := field r 16 6, pins := [], unloading := false } }
    else none

/-! ### All the records of an image -/

/-- The length of each record kind (11 R505); none for a reserved kind. -/
def recordLength (kind : Nat) : Option Nat :=
  if kind = 1 ∨ kind = 2 ∨ kind = 4 then some 64 else if 3 ≤ kind ∧ kind ≤ 8 then some 32 else none

/-- One record checked and loaded; none where its chapter refuses it. `g` is the state with the image's DATA in tile SRAM. -/
def State.loadRecord (s g : State) (j : Nat) (jb : Job) (kind : Nat) (r : Bytes) : Option State :=
  match kind with
  | 1 => s.loadColl g j jb r
  | 2 => s.loadTable j jb r
  | 3 => s.loadVocab j jb r
  | 4 => s.loadModel j jb r
  | 5 => s.loadStore j jb r
  | 6 => s.loadTemplate j jb r
  | 7 => s.loadGrammar j jb r
  | 8 => s.loadPatch j jb r
  | _ => none

/-- Every record of an image, vocabularies first, then models, then the rest, so that a record finds what the same image declares
(10 R261, R279). -/
def State.loadRecords (s : State) (j : Nat) (jb : Job) (rs : List (Nat × Bytes)) : Option State :=
  let g := s.withData jb
  let ordered := rs.filter (·.1 == 3) ++ rs.filter (·.1 == 4) ++ rs.filter (fun e => e.1 ≠ 3 && e.1 ≠ 4)
  ordered.foldl (fun acc e => acc.bind (fun s => s.loadRecord g j jb e.1 e.2)) (some s)

end Sys2Proof.Machine
end

