-- ==== Sys2Proof/Machine/Image.lean ====
section
/-! DEFINITION. The job image: its header, section table and sections (11 R292, R293, R504, R505, R307), and the admission checks of
11 R296. -/

namespace Sys2Proof.Machine

/-! ### Reading the image (R292, R293) -/

/-- A section of an image: its kind, its count and its bytes. -/
structure Section where
  kind : Nat
  count : Nat
  off : Nat
  len : Nat
  deriving DecidableEq, Repr

/-- Entry `i` of the section table (R292). -/
def sectionEntry (img : Bytes) (i : Nat) : Bytes := slice img (64 + 16 * i) 16

def imgSection (img : Bytes) (i : Nat) : Section :=
  let e := sectionEntry img i
  ⟨field e 0 1, field e 4 4, field e 8 4, field e 12 4⟩

def imgSections (img : Bytes) : List Section := (List.range (field img 6 2)).map (imgSection img)

/-- The index of the section of a kind; 0xFF where the image has none. -/
def sectionIndex (img : Bytes) (kind : Nat) : Nat := (((imgSections img).findIdx? (fun e => e.kind == kind))).getD 0xFF

/-- The bytes of an image section. -/
def Section.body (e : Section) (img : Bytes) : Bytes := (img.drop e.off).take e.len

/-- The count and bytes of the section of a kind; none of either where the image has none. -/
def sectionOf (img : Bytes) (kind : Nat) : Nat × Bytes :=
  match (imgSections img).find? (fun e => e.kind == kind) with
  | some e => (e.count, e.body img)
  | none => (0, [])

/-- The entries of `w` bytes of a run. -/
def chunks (w : Nat) (bs : Bytes) : List Bytes := (List.range (bs.length / w)).map (fun i => slice bs (w * i) w)

def entriesOf (img : Bytes) (kind w : Nat) : List Bytes := chunks w (sectionOf img kind).2

/-- The records of a RECORDS section (R505); none where heads and lengths do not fit. -/
def splitRecords : Nat → Bytes → Option (List (Nat × Bytes))
  | 0, bs => if bs = [] then some [] else none
  | n + 1, bs =>
    match recordLength (field bs 0 1) with
    | none => none
    | some l =>
      if bs.length < 4 + l ∨ ¬ zeros bs 1 1 ∨ field bs 2 2 ≠ l then none
      else (splitRecords n (bs.drop (4 + l))).map (fun r => (field bs 0 1, slice bs 4 l) :: r)

def imgRecords (img : Bytes) : Option (List (Nat × Bytes)) := splitRecords (sectionOf img 6).1 (sectionOf img 6).2

/-- An entry of a CHEAP section with its ranges (R307). -/
def cheapEntry (n : Nat) (bs e : Bytes) : CheapEntry :=
  { point := BitVec.ofNat 32 (field e 0 4), tile := field e 4 2,
    ranges := (List.range (field e 6 2)).map (fun i =>
      (field bs (16 * n + 8 * (field e 8 4 + i)) 4, field bs (16 * n + 8 * (field e 8 4 + i) + 4) 4)),
    live := BitVec.ofNat 32 (field e 12 4) }

def imgCheap (img : Bytes) : List CheapEntry :=
  let (n, bs) := sectionOf img 10
  (List.range n).map (fun i => cheapEntry n bs (slice bs (16 * i) 16))

def tileDeclOf (e : Bytes) : TileDecl := ⟨field e 0 2, bit (field e 2 1) 0, field e 4 2, field e 6 2⟩
def regionDeclOf (e : Bytes) : RegionDecl := ⟨field e 0 6, field e 6 1, field e 7 1, field e 8 4⟩
def counterDeclOf (e : Bytes) : CounterDecl :=
  ⟨field e 0 1, field e 1 1, bit (field e 2 1) 0, field e 3 1, BitVec.ofNat 32 (field e 4 4)⟩
/-- A window entry (12 R337). -/
def windowOfBytes (e : Bytes) : Window :=
  ⟨BitVec.ofNat 64 (field e 0 8), field e 8 8, field e 16 2, bit (field e 18 1) 0, bit (field e 18 1) 1, BitVec.ofNat 32 (field e 20 4),
   field e 24 2⟩

/-- The job an image declares, for a handle's domain. -/
def jobOf (img : Bytes) (domain : Nat) : Job :=
  let bytesAt := fun (off n : Nat) => (img.drop off).take n
  { cls := field img 1 1, cheapSave := bit (field img 2 1) 0, resident := bit (field img 2 1) 1, part := field img 3 1,
    seed := BitVec.ofNat 64 (field img 8 8), wcet := field img 16 4, gap := field img 20 4,
    waitLimit := if field img 24 4 = 0 then 17500000 else field img 24 4, batchUs := field img 28 2, prio := field img 30 1,
    retryEntry := field img 32 4,
    tiles := (entriesOf img 1 8).map tileDeclOf, regions := (entriesOf img 2 16).map regionDeclOf,
    rings := (entriesOf img 3 4).map (fun e => field e 0 4), counters := (entriesOf img 4 8).map counterDeclOf,
    windows := (entriesOf img 5 32).map windowOfBytes,
    code := (entriesOf img 7 16).map (fun e => ⟨field e 0 2, field e 12 4, bytesAt (field e 4 4) (field e 8 4)⟩),
    data := (entriesOf img 8 16).map (fun e => ⟨field e 0 2, field e 4 4, bytesAt (field e 12 4) (field e 8 4)⟩),
    streams := (entriesOf img 9 8).map (fun e => (field e 0 2, field e 4 4)), cheap := imgCheap img, length := img.length,
    digest := sha256 img, domain := domain, state := .idle }

/-! ### Reason 0x01: the format (R292, R293, R504, R505, R307) -/

def maxStepCycles : Nat := 140000000

def imgHeaderOk (img : Bytes) : Bool :=
  decide (64 ≤ img.length) && field img 0 1 == 1 && decide (1 ≤ field img 1 1) && decide (field img 1 1 ≤ 3) && decide (field img 2 1 ≤ 3) &&
  decide (field img 3 1 ≤ 15) && decide (2 ≤ field img 6 2) && decide (field img 6 2 ≤ 10) && decide (field img 16 4 ≤ maxStepCycles) &&
  decide (field img 20 4 ≤ maxStepCycles) && decide (field img 28 2 ≤ 1000) && zeros img 31 1 && zeros img 36 28 &&
  decide (64 + 16 * field img 6 2 ≤ img.length)

/-- The bytes of an entry, for the kinds whose entries have one size (R293). -/
def entrySize (kind : Nat) : Option Nat :=
  match kind with
  | 1 => some 8 | 2 => some 16 | 3 => some 4 | 4 => some 8 | 5 => some 32 | 7 => some 16 | 8 => some 16 | 9 => some 8 | _ => none

/-- A section-table entry (R292). -/
def sectionOk (img : Bytes) (i : Nat) : Bool :=
  let e := imgSection img i
  zeros (sectionEntry img i) 1 3 && decide (1 ≤ e.kind) && decide (e.kind ≤ 10) && decide (e.off + e.len ≤ img.length) &&
  sectionIndex img e.kind == i && (match entrySize e.kind with | some w => e.len == e.count * w | none => true)

def tileEntryOk (e : Bytes) : Bool :=
  decide (field e 0 2 < 9216) && decide (field e 2 1 ≤ 1) && zeros e 3 1 && decide (1 ≤ field e 6 2) && decide (field e 4 2 + field e 6 2 ≤ 512)

def regionEntryOk (e : Bytes) : Bool :=
  decide (1 ≤ field e 6 1) && decide (field e 6 1 ≤ 4) && decide (12 ≤ field e 7 1) && decide (field e 7 1 ≤ 26) &&
  decide (1 ≤ field e 8 4) && zeros e 12 4

def counterEntryOk (e : Bytes) : Bool :=
  decide (field e 0 1 ≤ 63) && decide (field e 2 1 ≤ 1) && (field e 2 1 == 1 || zeros e 3 1)

/-- A CHEAP section (R307): every range lies in the declared SRAM of the tiles its entry stands for. -/
def cheapOk (img : Bytes) (jb : Job) : Bool :=
  let (n, bs) := sectionOf img 10
  decide (16 * n ≤ bs.length) && (bs.length - 16 * n) % 8 == 0 &&
  (List.range n).all (fun i =>
    let e := slice bs (16 * i) 16
    decide (field e 6 2 ≤ 1024) && decide (16 * n + 8 * (field e 8 4 + field e 6 2) ≤ bs.length)) &&
  jb.cheap.all (fun e =>
    let owners := if e.tile ≠ 0xFFFF then [e.tile] else
      (jb.tiles.map (·.tile)).filter (fun t => !(jb.cheap.any (fun x => x.tile == t && x.point == e.point)))
    (e.tile == 0xFFFF || (jb.tileDecl e.tile).isSome) &&
    e.ranges.all (fun (o, l) => o % 64 == 0 && l ≠ 0 && l % 64 == 0 && owners.all (fun t => jb.ownsSram t o l)))

/-- The content of the section of a kind (R293, R504, R505). -/
def sectionBodyOk (img : Bytes) (jb : Job) (kind : Nat) : Bool :=
  let es := (entrySize kind).elim [] (entriesOf img kind)
  let tileOk := fun (e : Bytes) => (jb.tileDecl (field e 0 2)).isSome
  match kind with
  | 1 => es.all tileEntryOk && decide (jb.tiles.map (·.tile)).Nodup
  | 2 => es.all regionEntryOk
  | 3 => decide jb.rings.Nodup
  | 4 => es.all counterEntryOk
  | 6 => (imgRecords img).isSome
  | 7 => es.all (fun e => (field e 0 2 == 0xFFFF || tileOk e) && zeros e 2 2 && decide (field e 4 4 + field e 8 4 ≤ img.length))
  | 8 => es.all (fun e => tileOk e && zeros e 2 2 && jb.ownsSram (field e 0 2) (field e 4 4) (field e 8 4) &&
      decide (field e 12 4 + field e 8 4 ≤ img.length))
  | 9 => es.all (fun e => tileOk e && zeros e 2 2 && jb.ownsSram (field e 0 2) (field e 4 4) 32)
  | 10 => cheapOk img jb
  | _ => true

/-- The section at fault where the image breaks its format, 0xFF for its header; none where it stands. -/
def formatFault (img : Bytes) (jb : Job) : Option Nat :=
  if !(imgHeaderOk img) then some 0xFF
  else
    match (List.range (field img 6 2)).find? (fun i => !(sectionOk img i)) with
    | some i => some i
    | none =>
      if sectionIndex img 1 = 0xFF ∨ sectionIndex img 2 = 0xFF then some 0xFF
      else (List.range (field img 6 2)).find? (fun i => !(sectionBodyOk img jb (imgSection img i).kind))

/-! ### Reasons 0x02 to 0x0E (R296) -/

/-- A partition as its 4-byte value gives it (R290). -/
def Partition.holds (p : Partition) (d : Nat) : Bool :=
  decide (p.row ≤ d / 8) && decide (d / 8 < p.row + p.rows) && decide (p.col ≤ d % 8) && decide (d % 8 < p.col + p.cols)

/-- The bytes of the save record of one tile (R305). -/
def TileDecl.saveBytes (d : TileDecl) : Nat := d.count * 4096 + 65536

/-- The bytes of the save records a job has on a die (R305). -/
def Job.saveOn (jb : Job) (d : Nat) : Nat :=
  if jb.resident then 0 else ((jb.tiles.filter (fun t => dieOf t.tile == d)).map TileDecl.saveBytes).sum

/-- The largest total of a job's save records on one die (R302). -/
def Job.saveMost (jb : Job) : Nat := ((jb.tiles.map (fun t => jb.saveOn (dieOf t.tile)))).foldl max 0

/-- The dies that hold a tile of a job. -/
def Job.tileDies (jb : Job) : List Nat := (jb.tiles.map (fun t => dieOf t.tile)).dedup

/-- Two jobs declare one tile. -/
def Job.tilesMeet (a b : Job) : Bool := a.tiles.any (fun t => (b.tileDecl t.tile).isSome)
/-- Two jobs declare one signal counter of one die (R507). -/
def Job.countersMeet (a b : Job) : Bool := a.counters.any (fun c => b.counters.any (fun e => e.die == c.die && e.idx == c.idx))
/-- Two regions overlap. -/
def RegionDecl.meets (a b : RegionDecl) : Bool := rangesMeet a.base a.bytes b.base b.bytes

/-- The regions of some kind that a job has on a die. -/
def Job.regionsOn (jb : Job) (kind d : Nat) : List RegionDecl := jb.regions.filter (fun g => g.kind == kind && faDie g.base == d)

/-- The dies on which a CODE entry is placed (R293). -/
def Job.codeDies (jb : Job) (c : Placed) : List Nat :=
  if c.tile ≠ 0xFFFF then [dieOf c.tile] else
    ((jb.tiles.filter (fun t => !(jb.code.any (fun e => e.tile == t.tile)))).map (fun t => dieOf t.tile)).dedup

/-- A region stands (R293, R155, R294, R296, R385; 12 R327; 16 R438): its place in the list is `i`. -/
def State.regionOk (s : State) (jb : Job) (i : Nat) (g : RegionDecl) : Bool :=
  faSpace g.base == 0 && s.faRange g.base g.bytes && g.base % 2 ^ g.log2 == 0 && !(s.isRetired (.die (faDie g.base))) &&
  !(s.meetsPool g.base g.bytes) && s.regionFits jb.domain g &&
  (if g.kind = 1 then s.sealedRange g.base g.bytes
   else !((jb.regions.zipIdx).any (fun (h, k) => k ≠ i && h.meets g)) &&
     !(s.holders.any (fun e => e.2.regions.any (fun h => h.kind ≠ 1 && h.meets g))))

/-- The append pages that jobs which hold their resources declare on a die (R155, R296). -/
def State.appendPages (s : State) (d : Nat) : Nat :=
  (s.holders.map (fun e => ((e.2.regions.filter (fun g => g.kind ≠ 1 && faDie g.base == d)).map (·.pages)).sum)).sum

/-- A window's fields (12 R337). -/
def windowFieldsOk (e : Bytes) : Bool :=
  field e 0 8 % 64 == 0 && field e 8 8 % 64 == 0 && decide (64 ≤ field e 8 8) && decide (field e 8 8 ≤ 2 ^ 48) && decide (field e 16 2 < 16384) &&
  decide (1 ≤ field e 18 1) && decide (field e 18 1 ≤ 3) && zeros e 19 1 && decide (field e 24 2 ≤ 255) && zeros e 26 6

/-- A queue pair's state; one never set up is in RESET (12 R322). -/
def State.qpState (s : State) (q : Nat) : QpState := ((KMap.find s.qps q).map (·.state)).getD .reset

/-- A handle is named by a cycle table, in force or pending (R296). -/
def State.handleListed (s : State) (h : Nat) : Bool :=
  s.parts.any (fun e => (e.2.table.toList ++ e.2.next.toList).any (fun t => t.slots.any (fun sl => sl.jobs.contains h)))

/-- The first admission check an image fails: its reason and the section at fault (R296). -/
def State.imageFault (s : State) (h : Nat) (img : Bytes) (jb : Job) : Option (Nat × Nat) :=
  let sec := sectionIndex img
  let others := s.holders.map (·.2)
  let fails : List (Bool × Nat × Nat) :=
    [(field img 4 2 ≠ 128, 2, 0xFF),
     ((s.job? h).isSome || s.handleListed h || decide (s.jobs.length ≥ 256), 3, 0xFF),
     ((KMap.find s.parts jb.part).isNone || s.anyUnreachable jb.dies, 4, 0xFF),
     (!(jb.tiles.all (fun t => (KMap.getOr ⟨0, 0, 0, 0, none, none, 0, 0, [], [], none⟩ s.parts jb.part).holds (dieOf t.tile) &&
        !(s.isRetired (.tile t.tile)) && !(s.isRetired (.die (dieOf t.tile))))), 4, sec 1),
     (jb.tiles.any (fun t => t.array && !(s.arrayLive t.tile)), 5, sec 1),
     ((jb.cls == 2) ≠ (jb.wcet ≠ 0 : Bool) || jb.cheapSave ≠ (jb.gap ≠ 0 : Bool) || (jb.cls ≠ 3 && jb.prio ≠ 0) ||
        (jb.cls ≠ 2 && jb.retryEntry ≠ 0) || (jb.resident && jb.cheapSave), 6, 0xFF),
     (others.any (fun o => (jb.resident || o.resident) && jb.tilesMeet o), 7, sec 1),
     (!jb.resident && jb.tileDies.any (fun d =>
        match jb.regionsOn 3 d with
        | [g] => decide (g.bytes < jb.saveOn d)
        | _ => true), 8, sec 2),
     ((jb.regions.zipIdx).any (fun (g, i) => !(s.regionOk jb i g)) || jb.tileDies.any (fun d => (jb.regionsOn 4 d).length ≠ 1), 9, sec 2),
     (jb.code.any (fun c => (jb.codeDies c).any (fun d => (jb.regionsOn 4 d).any (fun g => decide (g.bytes < c.offset + c.bytes.length)))), 9,
        sec 7),
     ((List.range 64).any (fun d => decide (s.appendPages d + ((jb.regions.filter (fun g => g.kind ≠ 1 && faDie g.base == d)).map
        (·.pages)).sum > 1048576)), 0x0A, sec 2),
     (jb.rings.any (fun r => (KMap.find s.rings r).isNone || others.any (fun o => o.rings.contains r)), 0x0B, sec 3),
     (jb.counters.any (fun c => c.shared && c.producer ≠ h && !(s.holders.any (fun e => e.1 == c.producer))) ||
        others.any (fun o => (jb.resident || o.resident) && jb.countersMeet o), 0x0C, sec 4),
     ((s.loadRecords h jb ((imgRecords img).getD [])).isNone, 0x0D, sec 6),
     (!((entriesOf img 5 32).all windowFieldsOk) || decide (¬ (jb.windows.map (·.num)).Nodup) ||
        jb.windows.any (fun w => s.qpState w.qp == .reset), 0x0E, sec 5)]
  (fails.find? (·.1)).map (·.2)

end Sys2Proof.Machine
end

