-- ==== Sys2Proof/Machine/Flags.lean ====
section
/-! DEFINITION. The vector status register: its five sticky flags and how conditions set them (04 R97). -/

namespace Sys2Proof.Machine

/-- The conditions of one lane joined with those of another. -/
def Flags.or (a b : Flags) : Flags := { nv := a.nv || b.nv, of := a.of || b.of, uf := a.uf || b.uf, dz := a.dz || b.dz }

/-- VSR bits: NV, OF, UF, DZ, PS from bit 0 upwards (R97). -/
def Flags.word (f : Flags) (ps : Bool) : W32 :=
  BitVec.ofNat 32 (f.nv.toNat + 2 * f.of.toNat + 4 * f.uf.toNat + 8 * f.dz.toNat + 16 * ps.toNat)

/-- The flags a tile's instruction meets are added to VSR and stay (R97). -/
def Tile.raise (x : Tile) (f : Flags) (ps : Bool) : Tile := { x with vsr := x.vsr ||| f.word ps }

/-- All lanes' conditions together. -/
def joinFlags (l : List Flags) : Flags := l.foldl Flags.or {}

end Sys2Proof.Machine
end

