-- ==== Sys2Proof/Machine/Operands.lean ====
section
/-! DEFINITION. The operand forms of the vector instructions: which fields each uses, the checks of R100, lanes, scalar and memory
operands (04 R95 to R102, R106). -/

namespace Sys2Proof.Machine

/-- The fields a vector instruction uses (R98, R99). -/
structure Uses where
  fa : Bool := false
  fd : Bool := false
  vd : Bool := false
  va : Bool := false
  vb : Bool := false
  vc : Bool := false
  sa : Bool := false
  sb : Bool := false
  sd : Bool := false
  sat : Bool := false
  stoch : Bool := false
  b : Bool := false
  var : Bool := false
  imm : Bool := false
  deriving DecidableEq, Repr

/-- Forms shared by several instructions. `b` marks an operand b, which is vreg[vb] or, under BCAST, imm[31:0] (R103). -/
def usesBin : Uses := { vd := true, va := true, b := true }
def usesUn : Uses := { vd := true, va := true }
def usesRed : Uses := { va := true, sd := true }
def usesLoad : Uses := { vd := true, sa := true, imm := true }
def usesStore : Uses := { va := true, sa := true, imm := true }

/-- The operands of each instruction (R101 to R109). -/
def uses : VCode → Uses
  | .vnop | .vfence | .hrinse => {}
  | .setvl => { sd := true, sa := true, imm := true }
  | .vstat => { sd := true, var := true }
  | .siteopen | .siteclose => { sa := true, imm := true }
  | .siteq => { vd := true, va := true, sa := true, sb := true, imm := true, stoch := true }
  | .hpop => { vd := true, sd := true, var := true }
  | .hstat => { sd := true }
  | .vld => usesLoad
  | .vlds => { usesLoad with sb := true }
  | .vldx => { usesLoad with vb := true }
  | .vldp => { usesLoad with fa := true }
  | .vst => usesStore
  | .vsts => { usesStore with sb := true }
  | .vstx => { usesStore with vb := true }
  | .vstp => { usesStore with fd := true }
  | .vfadd | .vfsub | .vfmul | .vfmin | .vfmax | .vfdiv | .vscale => usesBin
  | .vfma | .vsel => { usesBin with vc := true }
  | .vfabs | .vfneg | .vfsqrt => usesUn
  | .vadd | .vsub => { usesBin with sat := true }
  | .vmul | .vmin | .vmax | .vand | .vor | .vxor | .vshl | .vshr | .vsra => usesBin
  | .vfcmp | .vcmp => { usesBin with var := true }
  | .vcompress | .vexpand => { vd := true, va := true, vb := true, sd := true }
  | .vidx => { vd := true }
  | .vperm | .vzip => { vd := true, va := true, vb := true }
  | .vslideup | .vslidedn => { vd := true, va := true, sb := true, imm := true }
  | .vbcast => { vd := true, sa := true, imm := true }
  | .vunzip => usesUn
  | .vpack => { usesUn with fd := true }
  | .vunpack => { usesUn with fa := true }
  | .vfrmax => { usesRed with var := true }
  | .vfrsum | .vfrmin | .vfrargmax | .vrsum | .vrmax | .vrmin => usesRed
  | .vcvt => { usesUn with fa := true, fd := true, sat := true, stoch := true }
  | .vexp | .vexp2 | .vlog | .vlog2 | .vrcp | .vrsqrt | .vtanh | .vsigm | .vsilu | .vgelu | .vsin | .vcos => usesUn

/-- A reserved field or an operand the instruction does not use is non-zero (R99, R100). -/
def strayOperand (c : VCode) (o : VOp) : Bool :=
  let u := uses c
  o.resv != 0 || (!u.fa && o.fmtA != 0) || (!u.fd && o.fmtD != 0) || (!u.vd && o.vd != 0) || (!u.va && o.va != 0) ||
  (!(u.vb || (u.b && !o.bcast)) && o.vb != 0) || (!u.vc && o.vc != 0) || (!u.sa && o.sa != 0) || (!u.sb && o.sb != 0) ||
  (!u.sd && o.sd != 0) || (!u.sat && o.sat) || (!u.stoch && o.stoch) || (!u.b && o.bcast) || (!u.var && o.var != 0) ||
  (!(u.imm || (u.b && o.bcast)) && o.imm != 0)

/-- The instruction's variant is one it has: a condition 0 to 7, or 0 or 1 where one bit selects (R101, R105, R107, R121). -/
def variantOk (c : VCode) (o : VOp) : Bool :=
  match c with
  | .vfcmp | .vcmp => decide (o.var.toNat < 8)
  | .vstat | .hpop | .vfrmax => decide (o.var.toNat < 2)
  | _ => true

/-- The formats are allowed for the operation: any two different ones in a conversion, packed elements of 4 to 16 bits in VLDP,
element formats in the other packing forms (R71, R102, R106, R108). -/
def formatsOk (c : VCode) (o : VOp) : Bool :=
  match c with
  | .vcvt => decide (o.fmtA.toNat < 12) && decide (o.fmtD.toNat < 12) && o.fmtA != o.fmtD
  | .vldp => decide (1 ≤ o.fmtA.toNat) && decide (o.fmtA.toNat < 10)
  | .vunpack => decide (o.fmtA.toNat < 10)
  | .vstp | .vpack => decide (o.fmtD.toNat < 10)
  | _ => true

/-- The instruction writes vd and vd + 1 (R100). -/
def writesPair (c : VCode) (o : VOp) : Bool :=
  match c with
  | .vunzip => true
  | .hpop => o.var != 0
  | _ => false

/-- The VL condition of the operation (R101, R102, R121). -/
def vlOk (c : VCode) (o : VOp) (vl : Nat) : Bool :=
  match c with
  | .siteq => vl % 32 == 0
  | .hpop => vl % 32 == 0 && vl ≠ 0
  | .vstp => vl * width o.fmtD.toNat % 8 == 0
  | _ => true

/-- What the word alone and VL decide: the reason of a refusal (R100, R444). -/
def wordFault (c : VCode) (o : VOp) (vl : Nat) : Option Nat :=
  if strayOperand c o then some 1
  else if !(variantOk c o) then some 4
  else if !(formatsOk c o) then some 7
  else if writesPair c o && o.vd == 31 then some 4
  else if !(vlOk c o vl) then some 4
  else none

/-! ### Lanes -/

/-- The lanes of a vector register (R95). -/
def Tile.vreg (x : Tile) (r : Nat) : List Lane := KMap.getOr [] x.vregs r
def Tile.lane (x : Tile) (r i : Nat) : Lane := (x.vreg r).getD i {}

/-- A vector register with lanes 0 to VL − 1 that `f` gives a value written; the others keep theirs (R96). -/
def Tile.putLanes (x : Tile) (r : Nat) (f : Nat → Option Lane) : Tile :=
  { x with vregs := KMap.put x.vregs r ((List.range 128).map (fun i => if i < x.vl then (f i).getD (x.lane r i) else x.lane r i)) }

/-- Operand b of a lane: vreg[vb], or imm[31:0] in every lane (R103). -/
def Tile.opB (x : Tile) (o : VOp) (i : Nat) : Lane := if o.bcast then ⟨o.imm.setWidth 32, false⟩ else x.lane o.vb.toNat i

/-! ### Memory operands (R99, R102) -/

/-- gpr[sa] + imm, modulo 2^64 (R99). -/
def Tile.baseAddr (x : Tile) (o : VOp) : Nat := (x.g o.sa.toNat + o.imm).toNat

/-- The offset of element `i` of a load or store. -/
def Tile.elemAddr (x : Tile) (c : VCode) (o : VOp) (i : Nat) : Nat :=
  match c with
  | .vlds | .vsts => (x.g o.sa.toNat + o.imm + x.g o.sb.toNat * BitVec.ofNat 64 i).toNat
  | .vldx | .vstx => (x.g o.sa.toNat + o.imm + (x.lane o.vb.toNat i).v.setWidth 64).toNat
  | _ => (x.g o.sa.toNat + o.imm + BitVec.ofNat 64 (4 * i)).toNat

/-- The byte runs of tile SRAM an instruction touches: offset and length (R99, R102). -/
def Tile.touches (x : Tile) (c : VCode) (o : VOp) : List (Nat × Nat) :=
  match c with
  | .vld | .vlds | .vldx | .vst | .vsts | .vstx => (List.range x.vl).map (fun i => (x.elemAddr c o i, 4))
  | .vldp => if x.vl = 0 then [] else [(x.baseAddr o, ceilDiv (x.vl * width o.fmtA.toNat) 8)]
  | .vstp => if x.vl = 0 then [] else [(x.baseAddr o, x.vl * width o.fmtD.toNat / 8)]
  | .siteopen | .siteclose => [(x.baseAddr o, 96)]
  | .siteq => (x.baseAddr o, 96) :: (if x.vl = 0 then [] else [((x.g o.sb.toNat).toNat, x.vl / 32)])
  | _ => []

/-- The memory operands are aligned as the operation requires (R101, R102). -/
def Tile.alignedOk (x : Tile) (c : VCode) (o : VOp) : Bool :=
  match c with
  | .vld | .vst => x.baseAddr o % 4 == 0
  | .vlds | .vsts => x.baseAddr o % 4 == 0 && (x.g o.sb.toNat).toNat % 4 == 0
  | .vldx | .vstx => (List.range x.vl).all (fun i => x.elemAddr c o i % 4 == 0)
  | .siteopen | .siteq | .siteclose => x.baseAddr o % 32 == 0
  | _ => true

/-- The instruction reads the scratchpad bytes it touches, or only writes them (R163). -/
def loads : VCode → Bool
  | .vld | .vlds | .vldx | .vldp | .siteopen | .siteq | .siteclose => true
  | _ => false

/-- The instruction uses a poisoned general register as an address or as a VL request (R111). -/
def Tile.poisonedUse (x : Tile) (c : VCode) (o : VOp) : Bool :=
  match c with
  | .vbcast | .vslideup | .vslidedn => false
  | .vlds | .vsts | .siteq => x.gp o.sa.toNat || x.gp o.sb.toNat
  | _ => (uses c).sa && x.gp o.sa.toNat

end Sys2Proof.Machine
end

