-- ==== Sys2Proof/Machine/Vector.lean ====
section
/-! DEFINITION. The vector engine (04 R93 to R112) and the scale sites (03 R79 to R84): what each instruction does to registers,
flags and SRAM, and how the instruction queue runs. -/

namespace Sys2Proof.Machine

/-! ### Register results -/

/-- What an instruction makes of a tile's registers: the tile, the conditions met, whether a poisoned lane was consumed, and the
saturated and NaN-zeroed elements of a conversion. -/
structure VRes where
  x : Tile
  f : Flags := {}
  ps : Bool := false
  sat : Nat := 0
  nanZ : Nat := 0
  deriving DecidableEq, Repr

/-- Lanes 0 to VL − 1 written from a list of results. -/
def Tile.write (x : Tile) (r : Nat) (ls : List Lane) : Tile := x.putLanes r (fun i => ls[i]?)

/-- An instruction that computes each lane by itself. -/
def Tile.perLane (x : Tile) (o : VOp) (g : Nat → Lane × Flags) : VRes :=
  let rs := (List.range x.vl).map g
  { x := x.write o.vd.toNat (rs.map (·.1)), f := joinFlags (rs.map (·.2)), ps := rs.any (·.1.p) }

/-- INT32 addition or subtraction, wrapping or saturating (R104). -/
def intAdd (sat : Bool) (v : Int) : FRes :=
  if sat ∧ v > 2147483647 then ⟨0x7FFFFFFF, { of := true }⟩
  else if sat ∧ v < -2147483648 then ⟨0x80000000, { of := true }⟩
  else ⟨BitVec.ofInt 32 v, {}⟩

def boolWord (b : Bool) : W32 := if b then 1 else 0

/-- VFCMP: the conditions of R105 on FP32. -/
def fpCond (var : Nat) (a b : W32) : Bool :=
  let un := isNan a || isNan b
  match var with
  | 0 => fpEq a b | 1 => !(fpEq a b) | 2 => fpLt a b | 3 => fpLt a b || fpEq a b
  | 4 => fpLt b a | 5 => fpLt b a || fpEq a b | 6 => un | _ => !un

/-- VCMP: the conditions of R105 on signed INT32. -/
def intCond (var : Nat) (a b : W32) : Bool :=
  match var with
  | 0 => a == b | 1 => a != b | 2 => a.slt b | 3 => a.sle b | 4 => b.slt a | 5 => b.sle a | 6 => false | _ => true

/-- The result of one lane of an element-wise instruction, from operands a, b and c (R103 to R105, R109). -/
def laneOp (c : VCode) (o : VOp) (a b cc : W32) : FRes :=
  let free := Config.approx (opcode c) a
  match c with
  | .vfadd => fpAdd a b
  | .vfsub => fpSub a b
  | .vfmul => fpMul a b
  | .vfma => fpFma a b cc
  | .vfmin => ⟨fpMin a b, {}⟩
  | .vfmax => ⟨fpMax a b, {}⟩
  | .vfabs => ⟨fpAbs a, {}⟩
  | .vfneg => ⟨fpNeg a, {}⟩
  | .vfdiv => fpDiv a b
  | .vfsqrt => fpSqrt a
  | .vscale => fpScale a b.toNat
  | .vadd => intAdd o.sat (a.toInt + b.toInt)
  | .vsub => intAdd o.sat (a.toInt - b.toInt)
  | .vmul => ⟨a * b, {}⟩
  | .vmin => ⟨if a.slt b then a else b, {}⟩
  | .vmax => ⟨if a.slt b then b else a, {}⟩
  | .vand => ⟨a &&& b, {}⟩
  | .vor => ⟨a ||| b, {}⟩
  | .vxor => ⟨a ^^^ b, {}⟩
  | .vshl => ⟨a <<< (b.toNat % 32), {}⟩
  | .vshr => ⟨a >>> (b.toNat % 32), {}⟩
  | .vsra => ⟨a.sshiftRight (b.toNat % 32), {}⟩
  | .vfcmp => ⟨boolWord (fpCond o.var.toNat a b), {}⟩
  | .vcmp => ⟨boolWord (intCond o.var.toNat a b), {}⟩
  | .vexp => fpExp free a
  | .vexp2 => fpExp2 free a
  | .vlog => fpLog free a
  | .vlog2 => fpLog2 free a
  | .vrcp => fpRcp free a
  | .vrsqrt => fpRsqrt free a
  | .vtanh => fpTanh free a
  | .vsigm => fpSigm free a
  | .vsilu => fpSilu free a
  | .vgelu => fpGelu free a
  | .vsin => fpSin free a
  | .vcos => fpCos free a
  | _ => ⟨a, {}⟩

/-- An element-wise instruction: a lane result is poisoned when a source lane it reads is (R111). -/
def Tile.elementwise (x : Tile) (c : VCode) (o : VOp) : VRes :=
  let u := uses c
  x.perLane o (fun i =>
    let a := x.lane o.va.toNat i
    let b := if u.b then x.opB o i else {}
    let d := if u.vc then x.lane o.vc.toNat i else {}
    let r := laneOp c o a.v b.v d.v
    (⟨r.v, a.p || b.p || d.p⟩, r.f))

/-- VSEL: a poisoned selector counts as selecting (R105, R111). -/
def Tile.select (x : Tile) (o : VOp) : VRes :=
  x.perLane o (fun i =>
    let k := x.lane o.vc.toNat i
    let r := if k.p || k.v ≠ 0 then x.lane o.va.toNat i else x.opB o i
    (⟨r.v, r.p || k.p⟩, {}))

/-- The lanes below VL that a selector register selects, in rising order (R105, R111). -/
def Tile.selected (x : Tile) (r : Nat) : List Nat := (List.range x.vl).filter (fun i => (x.lane r i).p || (x.lane r i).v ≠ 0)

/-- VCOMPRESS (R105). -/
def Tile.compress (x : Tile) (o : VOp) : VRes :=
  let sel := x.selected o.vb.toNat
  let ls := sel.map (fun i => (⟨(x.lane o.va.toNat i).v, (x.lane o.va.toNat i).p || (x.lane o.vb.toNat i).p⟩ : Lane))
  { x := (x.write o.vd.toNat (ls ++ List.replicate (x.vl - ls.length) {})).setG o.sd.toNat (BitVec.ofNat 64 sel.length) false,
    ps := ls.any (·.p) }

/-- VEXPAND (R105). -/
def Tile.expand (x : Tile) (o : VOp) : VRes :=
  let sel := x.selected o.vb.toNat
  let at_ := fun i => (sel.findIdx? (· == i)).map (fun j =>
    (⟨(x.lane o.va.toNat j).v, (x.lane o.va.toNat j).p || (x.lane o.vb.toNat i).p⟩ : Lane))
  { x := (x.putLanes o.vd.toNat at_).setG o.sd.toNat (BitVec.ofNat 64 sel.length) false,
    ps := sel.any (fun i => ((at_ i).map (·.p)).getD false) }

/-- VPERM (R106). -/
def Tile.permute (x : Tile) (o : VOp) : VRes :=
  x.perLane o (fun i =>
    let k := x.lane o.vb.toNat i
    if k.v.toNat < 128 then
      let a := x.lane o.va.toNat k.v.toNat
      (⟨a.v, a.p || k.p⟩, {})
    else (⟨0, k.p⟩, {}))

/-- gpr[sb] + imm, the shift of a slide, with its mark (R106). -/
def Tile.slideBy (x : Tile) (o : VOp) : Nat × Bool := ((x.g o.sb.toNat + o.imm).toNat, x.gp o.sb.toNat)

/-- VSLIDEUP (R106). -/
def Tile.slideUp (x : Tile) (o : VOp) : VRes :=
  let (n, p) := x.slideBy o
  let at_ := fun i => if i < n then none else
    let a := x.lane o.va.toNat (i - n)
    some (⟨a.v, a.p || p⟩ : Lane)
  { x := x.putLanes o.vd.toNat at_, ps := (List.range x.vl).any (fun i => ((at_ i).map (·.p)).getD false) }

/-- VSLIDEDN (R106). -/
def Tile.slideDown (x : Tile) (o : VOp) : VRes :=
  let (n, p) := x.slideBy o
  x.perLane o (fun i =>
    if i + n < x.vl then
      let a := x.lane o.va.toNat (i + n)
      (⟨a.v, a.p || p⟩, {})
    else (⟨0, p⟩, {}))

/-- VZIP (R106). -/
def Tile.zip (x : Tile) (o : VOp) : VRes :=
  x.perLane o (fun i => (if i % 2 = 0 then x.lane o.va.toNat (i / 2) else x.lane o.vb.toNat (i / 2), {}))

/-- VUNZIP (R106): only lanes below VL are read (R96). -/
def Tile.unzip (x : Tile) (o : VOp) : VRes :=
  let ev := fun i => if 2 * i < x.vl then some (x.lane o.va.toNat (2 * i)) else none
  let od := fun i => if 2 * i + 1 < x.vl then some (x.lane o.va.toNat (2 * i + 1)) else none
  { x := (x.putLanes o.vd.toNat ev).putLanes (o.vd.toNat + 1) od,
    ps := (List.range x.vl).any (fun i => (x.lane o.va.toNat i).p) }

/-- VPACK (R106): element i of `w` bits goes to bits i·w and up. -/
def Tile.pack (x : Tile) (o : VOp) : VRes :=
  let w := width o.fmtD.toNat
  let n := ceilDiv (x.vl * w) 32
  let all : Nat := ((List.range x.vl).map (fun i => (x.lane o.va.toNat i).v.toNat % 2 ^ w * 2 ^ (i * w))).sum
  let touch := fun k => (List.range x.vl).any (fun i =>
    (x.lane o.va.toNat i).p && decide (i * w < 32 * k + 32) && decide (32 * k < i * w + w))
  x.perLane o (fun k => (if k < n then ⟨BitVec.ofNat 32 (bits all (32 * k) 32), touch k⟩ else {}, {}))

/-- VUNPACK (R106). -/
def Tile.unpack (x : Tile) (o : VOp) : VRes :=
  let w := width o.fmtA.toNat
  let all : Nat := ((List.range 128).map (fun k => (x.lane o.va.toNat k).v.toNat * 2 ^ (32 * k))).sum
  x.perLane o (fun i =>
    let lo := i * w / 32
    let hi := (i * w + w - 1) / 32
    (⟨BitVec.ofNat 32 (bits all (i * w) w), (x.lane o.va.toNat lo).p || (x.lane o.va.toNat hi).p⟩, {}))

/-- VBCAST (R106). -/
def Tile.broadcast (x : Tile) (o : VOp) : VRes :=
  let v : W32 := (x.g o.sa.toNat + o.imm).setWidth 32
  { x := x.putLanes o.vd.toNat (fun _ => some ⟨v, x.gp o.sa.toNat⟩) }

/-- VIDX (R105). -/
def Tile.index (x : Tile) (o : VOp) : VRes := x.perLane o (fun i => (⟨BitVec.ofNat 32 i, false⟩, {}))

/-- VCVT (R108, R85 to R89); `draw` numbers the stochastic draws of its lanes (R86). -/
def Tile.convert (x : Tile) (o : VOp) (draw : Nat) : VRes :=
  let cs := (List.range x.vl).map (fun i =>
    let r := if o.stoch then Rnd.stochastic (Config.freeNat (draw + i)) else .nearest
    Machine.convert o.fmtA.toNat o.fmtD.toNat r o.sat ((x.lane o.va.toNat i).v.toNat % 2 ^ width o.fmtA.toNat))
  let ls := (List.range x.vl).zipWith (fun i (c : Conv) => (⟨BitVec.ofNat 32 c.p, (x.lane o.va.toNat i).p⟩ : Lane)) cs
  { x := x.write o.vd.toNat ls, f := joinFlags (cs.map (·.f)), ps := ls.any (·.p),
    sat := (cs.filter (·.sat)).length, nanZ := (cs.filter (·.nanZero)).length }

/-! ### Reductions (R107) -/

/-- The lane index of the largest of a list; the lower index on ties, NaN ignored (R107). -/
def argMax (l : List W32) : Option (Nat × W32) :=
  (l.zipIdx.foldl (fun best (v, i) =>
    if isNan v then best else
    match best with
    | none => some (i, v)
    | some (k, w) => if fpLt w v then some (i, v) else some (k, w)) none)

/-- The value a reduction writes, and the conditions it meets; `draw` numbers the order of a sum (R107, R92). -/
def reduce (c : VCode) (o : VOp) (draw : Nat) (l : List W32) : W64 × Flags :=
  let w := fun (v : W32) => v.setWidth 64
  match c with
  | .vfrsum =>
    let r := if l.any isNan then qnan else fpSum draw l
    let fin := l.all (fun v => match fval v with | .fin _ _ => true | _ => false)
    let inf := match fval r with | .inf _ => true | _ => false
    (w r, { nv := isNan r && !(l.any isNan), of := inf && fin })
  | .vfrmax =>
    let l := if o.var = 0 then l else l.map fpAbs
    (w (l.foldl fpMax (if o.var = 0 then finf true else 0)), {})
  | .vfrmin => (w (l.foldl fpMin (finf false)), {})
  | .vfrargmax =>
    match argMax l with
    | some (i, _) => (BitVec.ofNat 64 i, {})
    | none => (0xFFFFFFFFFFFFFFFF, {})
  | .vrsum => (BitVec.ofInt 64 ((l.map (·.toInt)).sum), {})
  | .vrmax => (BitVec.ofInt 64 (l.foldl (fun a v => max a v.toInt) (-2147483648)), {})
  | .vrmin => (BitVec.ofInt 64 (l.foldl (fun a v => min a v.toInt) 2147483647), {})
  | _ => (0, {})

/-- A reduction over lanes 0 to VL − 1; a poisoned input lane poisons the result (R107, R111). -/
def Tile.reduction (x : Tile) (c : VCode) (o : VOp) (draw : Nat) : VRes :=
  let ls := (List.range x.vl).map (fun i => x.lane o.va.toNat i)
  let r := reduce c o draw (ls.map (·.v))
  let p := ls.any (·.p)
  { x := x.setG o.sd.toNat r.1 p, f := r.2, ps := p }

/-! ### Control instructions (R101) -/

/-- SETVL (R96, R101). -/
def Tile.setVl (x : Tile) (o : VOp) : VRes :=
  let v := min (x.g o.sa.toNat + o.imm).toNat 128
  { x := { x with vl := v }.setG o.sd.toNat (BitVec.ofNat 64 v) false }

/-- VSTAT (R97, R101). -/
def Tile.stat (x : Tile) (o : VOp) : VRes :=
  let y := x.setG o.sd.toNat (x.vsr.setWidth 64) false
  { x := if o.var = 1 then { y with vsr := 0 } else y }

/-- HSTAT (R101). -/
def Tile.hstat (x : Tile) (o : VOp) : VRes :=
  { x := x.setG o.sd.toNat (BitVec.ofNat 64 (x.hamper.items.length + x.hamper.packets * 2 ^ 16)) false }

/-- What an instruction does to the registers; loads, stores, scale sites and the hamper's own are not among these. -/
def Tile.regEffect (x : Tile) (c : VCode) (o : VOp) (draw : Nat) : VRes :=
  match c with
  | .setvl => x.setVl o
  | .vstat => x.stat o
  | .hstat => x.hstat o
  | .vsel => x.select o
  | .vcompress => x.compress o
  | .vexpand => x.expand o
  | .vidx => x.index o
  | .vperm => x.permute o
  | .vslideup => x.slideUp o
  | .vslidedn => x.slideDown o
  | .vbcast => x.broadcast o
  | .vzip => x.zip o
  | .vunzip => x.unzip o
  | .vpack => x.pack o
  | .vunpack => x.unpack o
  | .vcvt => x.convert o draw
  | .vfrsum | .vfrmax | .vfrmin | .vfrargmax | .vrsum | .vrmax | .vrmin => x.reduction c o draw
  | .vnop | .vfence => { x := x }
  | _ => x.elementwise c o

/-! ### Loads and stores (R102) -/

/-- The word at an SRAM offset with its mark. -/
def State.sramWord (s : State) (t off : Nat) : Lane :=
  ⟨BitVec.ofNat 32 (leNat (Memory.reads s.mem (sramFa t off) 4)), s.poisonedWord (sramFa t off / 4)⟩

/-- VLD, VLDS, VLDX. A poisoned offset lane poisons what it loads (R111). -/
def State.loadWords (s : State) (t : Nat) (c : VCode) (o : VOp) : VRes :=
  let x := s.tile t
  x.perLane o (fun i =>
    let l := s.sramWord t (x.elemAddr c o i)
    (⟨l.v, l.p || (c == .vldx && (x.lane o.vb.toNat i).p)⟩, {}))

/-- VLDP: element i of `w` bits from bit i·w of the operand (R44, R102). -/
def State.loadPacked (s : State) (t : Nat) (o : VOp) : VRes :=
  let x := s.tile t
  let w := width o.fmtA.toNat
  let a := sramFa t (x.baseAddr o)
  let all := leNat (Memory.reads s.mem a (ceilDiv (x.vl * w) 8))
  x.perLane o (fun i =>
    (⟨BitVec.ofNat 32 (bits all (i * w) w), s.poisonedRange (a + i * w / 8) ((i * w % 8 + w + 7) / 8)⟩, {}))

/-- VST, VSTS, VSTX: words stored in rising lane order, so that the higher lane wins a collision (R102); a poisoned lane stores a
poisoned word, counted (R111, R125). -/
def State.storeWords (s : State) (t : Nat) (c : VCode) (o : VOp) : State :=
  let x := s.tile t
  (List.range x.vl).foldl (fun s i =>
    let l := x.lane o.va.toNat i
    let p := l.p || (c == .vstx && (x.lane o.vb.toNat i).p)
    (s.store (sramFa t (x.elemAddr c o i)) (leBytes 4 l.v.toNat) [p]).tbump t 7 7 (if p then 1 else 0)) s

/-- VSTP (R102): a word that takes bits of a poisoned lane is stored poisoned. -/
def State.storePacked (s : State) (t : Nat) (o : VOp) : State :=
  let x := s.tile t
  let w := width o.fmtD.toNat
  let off := x.baseAddr o
  let n := x.vl * w / 8
  let all : Nat := ((List.range x.vl).map (fun i => (x.lane o.va.toNat i).v.toNat % 2 ^ w * 2 ^ (i * w))).sum
  let marks := (wordsOf off n).map (fun k => (List.range x.vl).any (fun i =>
    (x.lane o.va.toNat i).p && decide (8 * off + i * w < 32 * k + 32) && decide (32 * k < 8 * off + i * w + w)))
  (s.store (sramFa t off) (leBytes n all) marks).tbump t 7 7
    ((List.range x.vl).filter (fun i => (x.lane o.va.toNat i).p)).length

/-! ### Scale sites (03 R79 to R82) -/

/-- A scale-site record's checks (R80): false for a record that ends the job. `opening` for site-open. -/
def siteOk (r : Bytes) (opening : Bool) : Bool :=
  let m : W32 := BitVec.ofNat 32 (field r 4 4)
  decide (field r 0 1 < 16) && decide (field r 1 1 < 16) && decide (field r 2 1 < 32) && decide (field r 3 1 < 16) &&
  decide (field r 10 1 < 4) && zeros r 11 1 && zeros r 20 12 &&
  decide (3 ≤ field r 1 1) && decide (field r 1 1 ≤ 7) &&
  !(isNan m) && !(fpLt m 0x3F800000) && !(fpLt 0x41800000 m) && field r 9 1 ≠ 255 && decide (field r 2 1 ≤ 16) &&
  (bit (field r 10 1) 0 != opening)

/-- A record with one run of its bytes replaced. -/
def setBytes (r : Bytes) (off : Nat) (v : Bytes) : Bytes := r.take off ++ v ++ r.drop (off + v.length)

/-- The history slots written most recently, newest first (R81). -/
def siteHistory (r : Bytes) : List W32 :=
  let n := min (field r 2 1) (field r 0 1 + 1)
  (List.range n).map (fun i => BitVec.ofNat 32 (field r (32 + 4 * ((field r 3 1 + 31 - i) % 16)) 4))

/-- The smallest integer s with fmax · 2^s ≥ t, for t > 0 (R81). -/
def siteScale (fmax t : Dy) : Int :=
  let s0 : Int := (Nat.log2 t.m.natAbs : Int) + t.e - Nat.log2 fmax.m.natAbs - fmax.e - 2
  ((List.range 5).map (fun i => s0 + (i : Int))).find? (fun k => t.le ⟨fmax.m, fmax.e + k⟩) |>.getD s0

def fmtMax (code : Nat) : Dy := ((fmtOf code).map Fmt.maxVal).getD ⟨1, 0⟩

/-- site_open (R81): the record after it, and whether the scale was limited. A history maximum that is no finite number fixes no
scale, and the code is then the free number `draw`. -/
def siteOpen (r : Bytes) (draw : Nat) : Bytes × Bool :=
  let done := fun (sc : Nat) => setBytes (setBytes (setBytes r 8 (leBytes 1 sc)) 10 [1]) 12 [0, 0, 0, 0]
  let h := siteHistory r
  match h with
  | [] => (done (field r 9 1), false)
  | a0 :: rest =>
    let a := rest.foldl (fun a b => if fpLt a b then b else a) a0
    if h.any (fun v => match fval v with | .fin _ _ => false | _ => true) then (done (Config.freeNat draw % 255), false)
    else if !(fpLt 0 a) then (done (field r 8 1), false)
    else
      let t := (dyOf a).mul (dyOf (BitVec.ofNat 32 (field r 4 4)))
      let c := siteScale (fmtMax (field r 1 1)) t + 127
      (done ((min (max c 0) 254).toNat), decide (c < 0) || decide (c > 254))

/-- site_close (R81): the record after it, and whether the step had clamped. -/
def siteClose (r : Bytes) : Bytes × Bool :=
  let head := field r 3 1
  let clamped := bit (field r 10 1) 1
  let r := setBytes r (32 + 4 * head) (slice r 12 4)
  let r := setBytes (setBytes r 3 (leBytes 1 ((head + 1) % 16))) 2 (leBytes 1 (min (field r 2 1 + 1) 16))
  let r := if clamped then setBytes r 16 (leBytes 4 (field r 16 4 + 1)) else r
  (setBytes r 10 [0], clamped)

/-- One element quantised: its pattern, whether it clamped, and whether a NaN became zero (R81, R82, R88). -/
def siteElem (r : Bytes) (rnd : Rnd) (v : W32) : Conv × Bool :=
  let code := field r 1 1
  let y := match fval v with
    | .fin s x => Fval.fin s ⟨x.m, x.e + 127 - (field r 8 1 : Int)⟩
    | u => u
  let clamp := match y with
    | .inf _ => true
    | .fin _ x => (fmtMax code).lt x.abs
    | .nan => false
  (toCode code rnd true y, clamp)

/-- SITEQ on the lanes of va (R81, R101): the tile, the record after it, elements clamped, NaN elements zeroed. -/
def Tile.siteQuantise (x : Tile) (o : VOp) (r : Bytes) (draw : Nat) : VRes × Bytes × Nat :=
  let ls := (List.range x.vl).map (fun i => x.lane o.va.toNat i)
  let es := ls.zipIdx.map (fun (l, i) =>
    siteElem r (if o.stoch then .stochastic (Config.freeNat (draw + i)) else .nearest) l.v)
  let amax := ls.foldl (fun (a : W32) l =>
    match fval l.v with
    | .fin _ _ => if l.p then a else if fpLt a (fpAbs l.v) then fpAbs l.v else a
    | _ => a) (BitVec.ofNat 32 (field r 12 4))
  let clamps := (es.filter (·.2)).length
  let r := setBytes r 12 (leBytes 4 amax.toNat)
  let r := if clamps = 0 then r else setBytes r 10 (leBytes 1 (field r 10 1 ||| 2))
  let out := (ls.zip es).map (fun (l, e) => (⟨BitVec.ofNat 32 e.1.p, l.p⟩ : Lane))
  ({ x := x.write o.vd.toNat out, f := joinFlags (es.map (·.1.f)), ps := out.any (·.p),
     nanZ := (es.filter (·.1.nanZero)).length }, r, clamps)

/-! ### Executing an instruction -/

/-- A register result taken into the state: flags, format counters, and a record where poison was consumed (R90, R97, R111). -/
def State.takeRes (s : State) (t : Nat) (c : VCode) (o : VOp) (r : VRes) : State :=
  let s := (s.setTile t (r.x.raise r.f r.ps)).tbump t 6 1 r.sat
  let s := s.tbump t 6 2 r.nanZ
  if r.ps then s.logPoison t (vectorBytes c o) 0 else s

/-- Free draws an instruction uses: one per lane. -/
def State.drawLanes (s : State) (t : Nat) : Nat × State := (s.free, { s with free := s.free + (s.tile t).vl })

/-- A scale-site instruction on the record's bytes (03 R80, R81). -/
def State.siteEffect (s : State) (t : Nat) (c : VCode) (o : VOp) (r : Bytes) : State :=
  let a := sramFa t ((s.tile t).baseAddr o)
  match c with
  | .siteopen =>
    let (r', lim) := siteOpen r s.free
    (({ s with free := s.free + 1 } : State).storeClean a r').tbump t 6 5 (if lim then 1 else 0)
  | .siteq =>
    let (draw, s) := s.drawLanes t
    let (v, r', clamps) := (s.tile t).siteQuantise o r draw
    let s := (s.takeRes t c o v).tbump t 6 4 clamps
    let s := s.storeClean a r'
    s.storeClean (sramFa t ((s.tile t).g o.sb.toNat).toNat) (List.replicate ((s.tile t).vl / 32) (BitVec.ofNat 8 (field r 8 1)))
  | _ =>
    let (r', clamped) := siteClose r
    (s.storeClean a r').tbump t 6 3 (if clamped then 1 else 0)

/-- What a checked instruction does. HPOP only starts its wait (R121). -/
def State.vectorEffect (s : State) (t : Nat) (c : VCode) (o : VOp) : State :=
  match c with
  | .vld | .vlds | .vldx => s.takeRes t c o (s.loadWords t c o)
  | .vldp => s.takeRes t c o (s.loadPacked t o)
  | .vst | .vsts | .vstx => s.storeWords t c o
  | .vstp => s.storePacked t o
  | .siteopen | .siteq | .siteclose =>
    s.siteEffect t c o (Memory.reads s.mem (sramFa t ((s.tile t).baseAddr o)) 96)
  | .hrinse => (s.modTile t (fun x => { x with hamper := x.hamper.rinse })).tbump t 7 6 1
  | .hpop => s.modTile t (fun x => { x with vwait := some (c, o) })
  | .vcvt | .vfrsum =>
    let (draw, s) := s.drawLanes t
    s.takeRes t c o ((s.tile t).regEffect c o draw)
  | _ => s.takeRes t c o ((s.tile t).regEffect c o 0)

/-- How an instruction stands when it comes to execute (R58, R80, R99, R100, R111, R163). -/
inductive VCheck where
  | go
  | wait
  | poisoned
  | refused (st : Status) (reason : Nat)
  deriving DecidableEq, Repr

/-- The check of an instruction when it executes. -/
def State.vectorCheck (s : State) (t : Nat) (jb : Job) (c : VCode) (o : VOp) : VCheck :=
  let x := s.tile t
  match wordFault c o x.vl with
  | some r => .refused .badDescriptor r
  | none =>
    if x.poisonedUse c o then .poisoned else
    let ts := x.touches c o
    if !(x.alignedOk c o) then .refused .badDescriptor 3
    else if ts.any (fun (a, n) => decide (a + n > sramEnd)) then .refused .badDescriptor 2
    else if ts.any (fun (a, n) => !(jb.ownsSram t a n)) then .refused .accessDenied 5
    else
      let accs := ts.map (fun (a, n) => x.accAccess a n)
      if accs.contains .dead then .refused .badDescriptor 6
      else if accs.contains .wait || (loads c && ts.any (fun (a, n) => s.notArrived t a n)) then .wait
      else if c == .siteopen || c == .siteq || c == .siteclose then
        let a := sramFa t (x.baseAddr o)
        if !(siteOk (Memory.reads s.mem a 96) (c == .siteopen)) then .refused .badDescriptor 1
        else if s.poisonedRange a 96 then .poisoned else .go
      else .go

/-- One instruction executed by the engine: it takes effect, waits, or ends the job (R100, R111). -/
def State.execVector (s : State) (t : Nat) (c : VCode) (o : VOp) : State :=
  match (s.tile t).job with
  | none => s
  | some j =>
    match s.job? j with
    | none => s
    | some jb =>
      match s.vectorCheck t jb c o with
      | .go => (s.tbump t 7 1 1).vectorEffect t c o
      | .wait => s.modTile t (fun x => { x with vwait := some (c, o) })
      | .poisoned => s.poisonJob t j (vectorBytes c o)
      | .refused st reason => s.refuseItem t j st reason 0xFF (vectorBytes c o)

/-- The engine runs its queue until an instruction waits or the queue is empty (R110). -/
def State.runQueue (s : State) (t : Nat) : Nat → State
  | 0 => s
  | n + 1 =>
    let x := s.tile t
    match x.vwait, x.vq with
    | none, (c, o) :: rest => State.runQueue ((s.setTile t { x with vq := rest }).execVector t c o) t n
    | _, _ => s

/-- A sequencer that waited on a full instruction queue issues its instruction once an entry is free (R110). -/
def State.retryVector (s : State) (t : Nat) : State :=
  match (s.tile t).seqWait with
  | some (.vectorFull c o) =>
    if (s.tile t).vq.length < 32 then ((s.resume t).modTile t (fun x => { x with vq := x.vq ++ [(c, o)] })).runQueue t 33 else s
  | _ => s

/-- The waiting instruction goes on: it is executed again from its checks, and the queue runs on. -/
def State.wakeVector (s : State) (t : Nat) : State :=
  match (s.tile t).vwait with
  | some (c, o) =>
    if c == .hpop then s else
    (((s.modTile t (fun x => { x with vwait := none })).execVector t c o).runQueue t 33).retryVector t
  | none => s

/-- A sequencer issues a vector instruction (R110): the engine executes it at once, or queues it behind those that wait; with the
queue full the sequencer waits. -/
def State.issueVector (s : State) (t : Nat) (c : VCode) (o : VOp) : State :=
  match s.seqJob t with
  | none => s
  | some _ =>
    let x := s.tile t
    if x.vwait.isNone ∧ x.vq = [] then s.execVector t c o
    else if x.vq.length < 32 then s.modTile t (fun x => { x with vq := x.vq ++ [(c, o)] })
    else s.await t (.vectorFull c o)

/-- ACC_ACCESS_RESUME (R58): a vector access that waited on accumulator tiles proceeds once they are FREE. -/
def execAccAccessResume (t : TileNo) (s : State) : Out := .next (s.wakeVector t)

/-! ### HPOP (R121, R122) -/

/-- The units an HPOP pops: up to and with the first one that ends its tile, and at most `n` (R121). -/
def popUnits : Nat → List QItem → List QItem
  | 0, _ => []
  | _, [] => []
  | n + 1, i :: r => if i.last then [i] else i :: popUnits n r

/-- Enough units wait for an HPOP of `n` (R121). -/
def hpopReady (n : Nat) (items : List QItem) : Bool := decide (n ≤ items.length) || (items.take n).any (·.last)

/-- The header HPOP writes to gpr[sd] (R121). -/
def hpopHeader (us : List QItem) : W64 :=
  let h := fun (i : QItem) => (i.segs.getD 17 0).toNat
  let a := (us.head?.map h).getD 0
  let z := (us.getLast?.map h).getD 0
  BitVec.ofNat 64 (us.length + (z / 2 ^ 44 % 2) * 2 ^ 9 + (z / 2 ^ 43 % 2) * 2 ^ 10 + (a / 2 ^ 38 % 32) * 2 ^ 11 +
    (a / 2 ^ 32 % 64) * 2 ^ 16 + (a % 2 ^ 32) * 2 ^ 32)

/-- The lane at place `i` of popped units: data with its poison bit, and its valid bit. A data segment with an uncorrectable error
is delivered as poisoned words (R115). -/
def unitLane (us : List QItem) (errs : List SegFault) (i : Nat) : Option (Lane × Bool) :=
  (us[i / 32]?).map (fun u =>
    let j := i % 32
    let h := (u.segs.getD 16 0).toNat
    let bad := errs.any (fun e => e.double && e.item == i / 32 && e.seg == j / 2)
    (⟨BitVec.ofNat 32 (bits (u.segs.getD (j / 2) 0).toNat (32 * (j % 2)) 32), bit h (32 + j) || bad⟩, bit h j))

/-- The errors among popped units: segments of a unit that was popped. -/
def errsIn (us : List QItem) (errs : List SegFault) : List SegFault := errs.filter (fun e => decide (e.item < us.length) && decide (e.seg < 18))

/-- HPOP_COMPLETE (R115, R121, R122). An uncorrectable header segment rinses the hamper and ends the job POISONED. -/
def execHpopComplete (t : TileNo) (errs : List SegFault) (s : State) : Out :=
  .next <|
  let x := s.tile t
  match x.vwait, x.job with
  | some (.hpop, o), some j =>
    let n := x.vl / 32
    if !(hpopReady n x.hamper.items) ∨ x.power ≠ .running then s else
    let us := popUnits n x.hamper.items
    let es := errsIn us errs
    let single := (es.filter (fun e => !e.double)).length
    let double := (es.filter (·.double)).length
    let s := (s.tbump t 7 4 single).tbump t 7 5 double
    if es.any (fun e => e.double && decide (e.seg ≥ 16)) then
      let s := (s.modTile t (fun x => { x with hamper := x.hamper.rinse })).tbump t 7 6 1
      (s.log { status := .poisoned, kind := 3, resource := 3, die := dieOf t, tile := tileOf t, job := j }).endJob j .poisoned
    else
      let q := { x.hamper with items := x.hamper.items.drop us.length, corrected := x.hamper.corrected + single,
                               uncorrected := x.hamper.uncorrected + double }
      let x := { x with hamper := q, vwait := none }
      let x := x.putLanes o.vd.toNat (fun i => (unitLane us es i).map (·.1))
      let x := if o.var = 0 then x else
        x.putLanes (o.vd.toNat + 1) (fun i => (unitLane us es i).map (fun u => ⟨boolWord u.2, false⟩))
      ((s.setTile t (x.setG o.sd.toNat (hpopHeader us) false)).runQueue t 33).retryVector t
  | _, _ => s

/-! ### The instructions (R101 to R109) -/

/-- VNOP (R101). -/
def execVnop (t : TileNo) (o : VOp) (s : State) : Out := .next (s.issueVector t .vnop o)
/-- SETVL (R101). -/
def execSetvl (t : TileNo) (o : VOp) (s : State) : Out := .next (s.issueVector t .setvl o)
/-- VFENCE (R101). -/
def execVfence (t : TileNo) (o : VOp) (s : State) : Out := .next (s.issueVector t .vfence o)
/-- VSTAT (R101). -/
def execVstat (t : TileNo) (o : VOp) (s : State) : Out := .next (s.issueVector t .vstat o)
/-- SITEOPEN (R81). -/
def execSiteopen (t : TileNo) (o : VOp) (s : State) : Out := .next (s.issueVector t .siteopen o)
/-- SITEQ (R81). -/
def execSiteq (t : TileNo) (o : VOp) (s : State) : Out := .next (s.issueVector t .siteq o)
/-- SITECLOSE (R81). -/
def execSiteclose (t : TileNo) (o : VOp) (s : State) : Out := .next (s.issueVector t .siteclose o)
/-- HPOP (R121). -/
def execHpop (t : TileNo) (o : VOp) (s : State) : Out := .next (s.issueVector t .hpop o)
/-- HSTAT (R101). -/
def execHstat (t : TileNo) (o : VOp) (s : State) : Out := .next (s.issueVector t .hstat o)
/-- HRINSE (R123). -/
def execHrinse (t : TileNo) (o : VOp) (s : State) : Out := .next (s.issueVector t .hrinse o)
/-- VLD (R102). -/
def execVld (t : TileNo) (o : VOp) (s : State) : Out := .next (s.issueVector t .vld o)
/-- VLDS (R102). -/
def execVlds (t : TileNo) (o : VOp) (s : State) : Out := .next (s.issueVector t .vlds o)
/-- VLDX (R102). -/
def execVldx (t : TileNo) (o : VOp) (s : State) : Out := .next (s.issueVector t .vldx o)
/-- VLDP (R102). -/
def execVldp (t : TileNo) (o : VOp) (s : State) : Out := .next (s.issueVector t .vldp o)
/-- VST (R102). -/
def execVst (t : TileNo) (o : VOp) (s : State) : Out := .next (s.issueVector t .vst o)
/-- VSTS (R102). -/
def execVsts (t : TileNo) (o : VOp) (s : State) : Out := .next (s.issueVector t .vsts o)
/-- VSTX (R102). -/
def execVstx (t : TileNo) (o : VOp) (s : State) : Out := .next (s.issueVector t .vstx o)
/-- VSTP (R102). -/
def execVstp (t : TileNo) (o : VOp) (s : State) : Out := .next (s.issueVector t .vstp o)
/-- VFADD (R103). -/
def execVfadd (t : TileNo) (o : VOp) (s : State) : Out := .next (s.issueVector t .vfadd o)
/-- VFSUB (R103). -/
def execVfsub (t : TileNo) (o : VOp) (s : State) : Out := .next (s.issueVector t .vfsub o)
/-- VFMUL (R103). -/
def execVfmul (t : TileNo) (o : VOp) (s : State) : Out := .next (s.issueVector t .vfmul o)
/-- VFMA (R103). -/
def execVfma (t : TileNo) (o : VOp) (s : State) : Out := .next (s.issueVector t .vfma o)
/-- VFMIN (R103). -/
def execVfmin (t : TileNo) (o : VOp) (s : State) : Out := .next (s.issueVector t .vfmin o)
/-- VFMAX (R103). -/
def execVfmax (t : TileNo) (o : VOp) (s : State) : Out := .next (s.issueVector t .vfmax o)
/-- VFABS (R103). -/
def execVfabs (t : TileNo) (o : VOp) (s : State) : Out := .next (s.issueVector t .vfabs o)
/-- VFNEG (R103). -/
def execVfneg (t : TileNo) (o : VOp) (s : State) : Out := .next (s.issueVector t .vfneg o)
/-- VFDIV (R103). -/
def execVfdiv (t : TileNo) (o : VOp) (s : State) : Out := .next (s.issueVector t .vfdiv o)
/-- VFSQRT (R103). -/
def execVfsqrt (t : TileNo) (o : VOp) (s : State) : Out := .next (s.issueVector t .vfsqrt o)
/-- VSCALE (R103). -/
def execVscale (t : TileNo) (o : VOp) (s : State) : Out := .next (s.issueVector t .vscale o)
/-- VADD (R104). -/
def execVadd (t : TileNo) (o : VOp) (s : State) : Out := .next (s.issueVector t .vadd o)
/-- VSUB (R104). -/
def execVsub (t : TileNo) (o : VOp) (s : State) : Out := .next (s.issueVector t .vsub o)
/-- VMUL (R104). -/
def execVmul (t : TileNo) (o : VOp) (s : State) : Out := .next (s.issueVector t .vmul o)
/-- VMIN (R104). -/
def execVmin (t : TileNo) (o : VOp) (s : State) : Out := .next (s.issueVector t .vmin o)
/-- VMAX (R104). -/
def execVmax (t : TileNo) (o : VOp) (s : State) : Out := .next (s.issueVector t .vmax o)
/-- VAND (R104). -/
def execVand (t : TileNo) (o : VOp) (s : State) : Out := .next (s.issueVector t .vand o)
/-- VOR (R104). -/
def execVor (t : TileNo) (o : VOp) (s : State) : Out := .next (s.issueVector t .vor o)
/-- VXOR (R104). -/
def execVxor (t : TileNo) (o : VOp) (s : State) : Out := .next (s.issueVector t .vxor o)
/-- VSHL (R104). -/
def execVshl (t : TileNo) (o : VOp) (s : State) : Out := .next (s.issueVector t .vshl o)
/-- VSHR (R104). -/
def execVshr (t : TileNo) (o : VOp) (s : State) : Out := .next (s.issueVector t .vshr o)
/-- VSRA (R104). -/
def execVsra (t : TileNo) (o : VOp) (s : State) : Out := .next (s.issueVector t .vsra o)
/-- VFCMP (R105). -/
def execVfcmp (t : TileNo) (o : VOp) (s : State) : Out := .next (s.issueVector t .vfcmp o)
/-- VCMP (R105). -/
def execVcmp (t : TileNo) (o : VOp) (s : State) : Out := .next (s.issueVector t .vcmp o)
/-- VSEL (R105). -/
def execVsel (t : TileNo) (o : VOp) (s : State) : Out := .next (s.issueVector t .vsel o)
/-- VCOMPRESS (R105). -/
def execVcompress (t : TileNo) (o : VOp) (s : State) : Out := .next (s.issueVector t .vcompress o)
/-- VEXPAND (R105). -/
def execVexpand (t : TileNo) (o : VOp) (s : State) : Out := .next (s.issueVector t .vexpand o)
/-- VIDX (R105). -/
def execVidx (t : TileNo) (o : VOp) (s : State) : Out := .next (s.issueVector t .vidx o)
/-- VPERM (R106). -/
def execVperm (t : TileNo) (o : VOp) (s : State) : Out := .next (s.issueVector t .vperm o)
/-- VSLIDEUP (R106). -/
def execVslideup (t : TileNo) (o : VOp) (s : State) : Out := .next (s.issueVector t .vslideup o)
/-- VSLIDEDN (R106). -/
def execVslidedn (t : TileNo) (o : VOp) (s : State) : Out := .next (s.issueVector t .vslidedn o)
/-- VBCAST (R106). -/
def execVbcast (t : TileNo) (o : VOp) (s : State) : Out := .next (s.issueVector t .vbcast o)
/-- VZIP (R106). -/
def execVzip (t : TileNo) (o : VOp) (s : State) : Out := .next (s.issueVector t .vzip o)
/-- VUNZIP (R106). -/
def execVunzip (t : TileNo) (o : VOp) (s : State) : Out := .next (s.issueVector t .vunzip o)
/-- VPACK (R106). -/
def execVpack (t : TileNo) (o : VOp) (s : State) : Out := .next (s.issueVector t .vpack o)
/-- VUNPACK (R106). -/
def execVunpack (t : TileNo) (o : VOp) (s : State) : Out := .next (s.issueVector t .vunpack o)
/-- VFRSUM (R107). -/
def execVfrsum (t : TileNo) (o : VOp) (s : State) : Out := .next (s.issueVector t .vfrsum o)
/-- VFRMAX (R107). -/
def execVfrmax (t : TileNo) (o : VOp) (s : State) : Out := .next (s.issueVector t .vfrmax o)
/-- VFRMIN (R107). -/
def execVfrmin (t : TileNo) (o : VOp) (s : State) : Out := .next (s.issueVector t .vfrmin o)
/-- VFRARGMAX (R107). -/
def execVfrargmax (t : TileNo) (o : VOp) (s : State) : Out := .next (s.issueVector t .vfrargmax o)
/-- VRSUM (R107). -/
def execVrsum (t : TileNo) (o : VOp) (s : State) : Out := .next (s.issueVector t .vrsum o)
/-- VRMAX (R107). -/
def execVrmax (t : TileNo) (o : VOp) (s : State) : Out := .next (s.issueVector t .vrmax o)
/-- VRMIN (R107). -/
def execVrmin (t : TileNo) (o : VOp) (s : State) : Out := .next (s.issueVector t .vrmin o)
/-- VCVT (R108). -/
def execVcvt (t : TileNo) (o : VOp) (s : State) : Out := .next (s.issueVector t .vcvt o)
/-- VEXP (R109). -/
def execVexp (t : TileNo) (o : VOp) (s : State) : Out := .next (s.issueVector t .vexp o)
/-- VEXP2 (R109). -/
def execVexp2 (t : TileNo) (o : VOp) (s : State) : Out := .next (s.issueVector t .vexp2 o)
/-- VLOG (R109). -/
def execVlog (t : TileNo) (o : VOp) (s : State) : Out := .next (s.issueVector t .vlog o)
/-- VLOG2 (R109). -/
def execVlog2 (t : TileNo) (o : VOp) (s : State) : Out := .next (s.issueVector t .vlog2 o)
/-- VRCP (R109). -/
def execVrcp (t : TileNo) (o : VOp) (s : State) : Out := .next (s.issueVector t .vrcp o)
/-- VRSQRT (R109). -/
def execVrsqrt (t : TileNo) (o : VOp) (s : State) : Out := .next (s.issueVector t .vrsqrt o)
/-- VTANH (R109). -/
def execVtanh (t : TileNo) (o : VOp) (s : State) : Out := .next (s.issueVector t .vtanh o)
/-- VSIGM (R109). -/
def execVsigm (t : TileNo) (o : VOp) (s : State) : Out := .next (s.issueVector t .vsigm o)
/-- VSILU (R109). -/
def execVsilu (t : TileNo) (o : VOp) (s : State) : Out := .next (s.issueVector t .vsilu o)
/-- VGELU (R109). -/
def execVgelu (t : TileNo) (o : VOp) (s : State) : Out := .next (s.issueVector t .vgelu o)
/-- VSIN (R109). -/
def execVsin (t : TileNo) (o : VOp) (s : State) : Out := .next (s.issueVector t .vsin o)
/-- VCOS (R109). -/
def execVcos (t : TileNo) (o : VOp) (s : State) : Out := .next (s.issueVector t .vcos o)

end Sys2Proof.Machine
end

