-- ==== Sys2Proof/Machine/Stream.lean ====
section
/-! DEFINITION. The stream feeder (06 R160 to R165) and patches applied on arrival (10 R279, R280). -/

namespace Sys2Proof.Machine

/-! ### Schedules (R160, R161) -/

def shEntries (h : Bytes) : Nat := field h 0 4
def shLead (h : Bytes) : Nat := field h 4 1
def shLoop (h : Bytes) : Bool := bit (field h 5 1) 0
def shLoopStart (h : Bytes) : Nat := field h 8 4
def shBase (h : Bytes) : Nat := field h 12 3
def shBytes (h : Bytes) : Nat := field h 16 3

/-- The header check when a schedule starts (R160, R164): the failing status and its reason. -/
def headerCheck (jb : Job) (t hdr : Nat) (h : Bytes) : Option (Status × Nat) :=
  let bad := fun n => some (Status.badDescriptor, n)
  if field h 5 1 ≥ 2 ∨ ¬ zeros h 6 2 ∨ ¬ zeros h 15 1 ∨ ¬ zeros h 19 13 ∨ (¬ shLoop h ∧ shLoopStart h ≠ 0) then bad 1
  else if shBase h % 4096 ≠ 0 ∨ shBytes h % 4096 ≠ 0 then bad 3
  else if shEntries h = 0 ∨ shEntries h > 65536 ∨ shLead h = 0 ∨ shLead h > 64 ∨ (shLoop h ∧ shLoopStart h ≥ shEntries h) then bad 4
  else if shBase h + shBytes h > accBase ∨ hdr + 32 + 32 * shEntries h > accBase then bad 2
  else if !(jb.ownsSram t (shBase h) (shBytes h)) || !(jb.ownsSram t hdr (32 + 32 * shEntries h)) then some (.accessDenied, 5)
  else none

/-- A schedule started for a tile (R160, R163, R164). -/
def State.startStream (s : State) (t j hdr : Nat) : State :=
  match s.job? j with
  | none => s
  | some jb =>
    let h := Memory.reads s.mem (sramFa t hdr) 32
    if s.poisonedRange (sramFa t hdr) 32 then s.poisonJob t j h else
    match headerCheck jb t hdr h with
    | some (st, reason) => s.refuseItem t j st reason 0xFF h
    | none => s.modTile t (fun x => { x with
        stream := some ⟨hdr, 0, 0, [], []⟩, arrived := NSet.delRange x.arrived (shBase h / 64) ((shBase h + shBytes h) / 64) })

/-- STREAM_START (R160, R164). -/
def execStreamStart (t : TileNo) (addr : BitVec 21) (s : State) : Out :=
  .next <|
  match s.seqJob t with
  | none => s
  | some j => s.startStream t j addr.toNat

/-- The place in the schedule of the i-th entry, counted across loops; none past the end of a schedule that does not loop (R162). -/
def entryPlace (h : Bytes) (i : Nat) : Option Nat :=
  if i < shEntries h then some i
  else if shLoop h then some (shLoopStart h + (i - shEntries h) % (shEntries h - shLoopStart h))
  else none

def seSrc (e : Bytes) : Nat := field e 0 6
def seScales (e : Bytes) : Bool := bit (field e 6 1) 0
def sePatch (e : Bytes) : Bool := bit (field e 6 1) 1
def seFmt (e : Bytes) : Nat := field e 7 1
def seDst (e : Bytes) : Nat := field e 8 3
def seLen (e : Bytes) : Nat := field e 12 4
def seScaleSrc (e : Bytes) : Nat := field e 16 6
def seScaleDst (e : Bytes) : Nat := field e 22 3
def seHandle (e : Bytes) : Nat := field e 28 4
/-- The scale bytes an entry carries: 32 for each weight tile (R78, R161). -/
def seScaleLen (e : Bytes) : Nat := if seScales e then seLen e / (4 * width (seFmt e)) else 0

/-- The bytes of entry `i` of a tile's running schedule. -/
def State.streamEntry (s : State) (t : Nat) (st : Stream) (i : Nat) : Option Bytes :=
  (entryPlace (Memory.reads s.mem (sramFa t st.hdr) 32) i).map (fun k => Memory.reads s.mem (sramFa t (st.hdr + 32 + 32 * k)) 32)

/-- The destination runs of an entry. -/
def seDsts (e : Bytes) : List (Nat × Nat) := (seDst e, seLen e) :: (if seScales e then [(seScaleDst e, seScaleLen e)] else [])

/-- Two entries' destinations overlap (R162). -/
def seOverlap (a b : Bytes) : Bool := (seDsts a).any (fun (x, n) => (seDsts b).any (fun (y, m) => rangesMeet x n y m))

/-- The entry check at issue (R161, R164; 10 R281): the failing status and its reason. -/
def entryCheck (s : State) (jb : Job) (h e : Bytes) : Option (Status × Nat) :=
  let bad := fun n => some (Status.badDescriptor, n)
  let inWin := fun (a n : Nat) => rangeWithin a n (shBase h) (shBytes h)
  if field e 6 1 ≥ 4 ∨ seFmt e ≥ 16 ∨ ¬ zeros e 11 1 ∨ ¬ zeros e 25 3 ∨
      (¬ seScales e ∧ (seScaleSrc e ≠ 0 ∨ seScaleDst e ≠ 0)) ∨ (¬ sePatch e ∧ seHandle e ≠ 0) ∨
      (¬ seScales e ∧ ¬ sePatch e ∧ seFmt e ≠ 0) then bad 1
  else if (seScales e ∨ sePatch e) ∧ ¬ (3 ≤ seFmt e ∧ seFmt e ≤ 7) then bad 7
  else if seSrc e % 256 ≠ 0 ∨ seDst e % 64 ≠ 0 ∨ seScaleSrc e % 32 ≠ 0 ∨ seScaleDst e % 32 ≠ 0 ∨ seLen e % 256 ≠ 0 then bad 3
  else if seLen e < 256 ∨ seLen e > 1048576 then bad 4
  else if !(s.faRange (seSrc e) (seLen e)) || faSpace (seSrc e) ≠ 0 || (seScales e &&
      (!(s.faRange (seScaleSrc e) (seScaleLen e)) || faSpace (seScaleSrc e) ≠ 0)) then bad 2
  else if !((seDsts e).all (fun (a, n) => inWin a n)) then bad 4
  else if sePatch e ∧ (KMap.find s.patches (seHandle e)).isNone then bad 6
  else if !(jb.mayRead (seSrc e) (seLen e)) || (seScales e && !(jb.mayRead (seScaleSrc e) (seScaleLen e))) then some (.accessDenied, 5)
  else none

/-- The stack-memory runs an entry reads. -/
def seSrcs (e : Bytes) : List (Nat × Nat) := (seSrc e, seLen e) :: (if seScales e then [(seScaleSrc e, seScaleLen e)] else [])

/-- STREAM_ENTRY_ISSUE (R162, R164, R157). -/
def execStreamEntryIssue (t : TileNo) (s : State) : Out :=
  .next <|
  let x := s.tile t
  match x.stream, x.job, x.job.bind s.job? with
  | some st, some j, some jb =>
    let h := Memory.reads s.mem (sramFa t st.hdr) 32
    let i := st.issued
    match s.streamEntry t st i with
    | none => s
    | some e =>
      let earlier := (List.range (i - st.released)).map (fun k => (s.streamEntry t st (st.released + k)).getD [])
      if !(s.tileWorks t) ∨ i ≥ st.released + shLead h ∨ earlier.any (fun f => seOverlap f e) then s
      else if s.poisonedRange (sramFa t (st.hdr + 32 + 32 * (entryPlace h i).getD 0)) 32 then s.poisonJob t j e
      else
        match entryCheck s jb h e with
        | some (r, reason) => s.refuseItem t j r reason 0xFF e
        | none =>
          match (seSrcs e).find? (fun (a, n) => !(s.sealedRange a n)) with
          | some (a, _) => s.sealViolation j t a
          | none =>
            let s := s.modTile t (fun x => { x with stream := some { st with issued := i + 1, flight := st.flight ++ [i] } })
            (seSrcs e).foldl (fun s (a, n) => s.request (dieOf t) (reqFeeder t) false a n) s
  | _, _, _ => s

/-! ### Patches (10 R279, R280) -/

/-- The block of a patch set for a weight tile: its scale code, the address of its deltas, and a mark on its index entry. -/
def State.patchBlock (s : State) (p : PatchSet) (tileAt : Nat) : Option (Nat × Nat × Bool) :=
  ((List.range p.blocks).find? (fun j => s.natAt (p.index + 8 * j) 6 == tileAt)).map (fun j =>
    (s.natAt (p.index + 8 * j + 6) 1, p.data + 1024 * j, s.poisonedRange (p.index + 8 * j) 8))

/-- Element (k, n) of a patched tile (R280): the converted pattern, and whether a source of the patch was poisoned. -/
def State.patchElem (s : State) (fmt x sc : Nat) (blk : Nat × Nat × Bool) (k n : Nat) : Conv × Bool :=
  let at_ := blk.2.1 + 32 * n + k
  let delta := scaleVal blk.1 127 (decodeFmt 3 (s.natAt at_ 1))
  let v := plusVal (scaleVal sc 127 (decodeFmt fmt x)) delta
  let y := match v with
    | .fin neg d => Fval.fin neg ⟨d.m, d.e + 127 - (sc : Int)⟩
    | u => u
  (toCode fmt .nearest true y, blk.2.2 || s.poisonedRange at_ 1)

/-- One weight tile patched where it has landed, from scratchpad offset `off`; `sc` gives its columns' scales. Elements pack under
R44 (02), so the tile is rebuilt as one number of 1,024·w bits. -/
def State.patchTile (s : State) (t off fmt : Nat) (sc : Nat → Nat) (blk : Nat × Nat × Bool) : State :=
  let w := width fmt
  let raw := leNat (Memory.reads s.mem (sramFa t off) (128 * w))
  let old := s.marksAt (sramFa t off) (128 * w)
  let es := (List.range 1024).map (fun i => s.patchElem fmt (bits raw (i * w) w) (sc (i / 32)) blk (i % 32) (i / 32))
  let new : Nat := (es.zipIdx.map (fun (e, i) => e.1.p * 2 ^ (i * w))).sum
  let marks := old.zipIdx.map (fun (p, k) => p || es.zipIdx.any (fun (e, i) =>
    e.2 && decide (i * w < 32 * k + 32) && decide (32 * k < i * w + w)))
  let s := s.store (sramFa t off) (leBytes (128 * w) new) marks
  (s.bump (okey 0x2700 0x0E) 1).bump (okey 0x2700 0x0F) ((es.filter (·.1.sat)).length)

/-- Every patched tile of an entry (R161, R280). -/
def State.applyPatch (s : State) (t : Nat) (e : Bytes) : State :=
  if !(sePatch e) then s else
  match KMap.find s.patches (seHandle e) with
  | none => s
  | some p =>
    let w := width (seFmt e)
    (List.range (seLen e / (128 * w))).foldl (fun s i =>
      match s.patchBlock p (seSrc e + i * 128 * w) with
      | none => s
      | some blk =>
        let sc := fun n => if seScales e then leNat (Memory.reads s.mem (sramFa t (seScaleDst e + 32 * i + n)) 1) else 127
        s.patchTile t (seDst e + i * 128 * w) (seFmt e) sc blk) s

/-! ### Arrival, release and wait (R162, R163) -/

/-- STREAM_ENTRY_ARRIVED (R161, R163, R280): the bytes and the scales of an entry in flight have landed, and its arrival bits are
set; an instruction that waited on them goes on. -/
def execStreamEntryArrived (t : TileNo) (entry : Nat) (s : State) : Out :=
  .next <|
  let x := s.tile t
  match x.stream with
  | none => s
  | some st =>
    match s.streamEntry t st entry with
    | none => s
    | some e =>
      if !(st.flight.contains entry) ∨ x.power ≠ .running ∨ (seSrcs e).any (fun (a, n) => s.outstanding false a n) then s
      else
        let s := s.copy (seSrc e) (sramFa t (seDst e)) (seLen e)
        let s := if seScales e then s.copy (seScaleSrc e) (sramFa t (seScaleDst e)) (seScaleLen e) else s
        let s := s.applyPatch t e
        let s := s.modTile t (fun x => { x with
          stream := some { st with flight := st.flight.filter (· ≠ entry), arrived := st.arrived ++ [entry] },
          arrived := (seDsts e).foldl (fun a (off, n) => NSet.addRange a (off / 64) ((off + n + 63) / 64 - off / 64)) x.arrived })
        (s.tbump t 9 5 (seLen e + seScaleLen e)).wakeVector t

/-- STREAM_RELEASE (R162, R163): beyond the entries issued it is refused and ends the job. -/
def execStreamRelease (t : TileNo) (n : Nat) (s : State) : Out :=
  .next <|
  match s.seqJob t, (s.tile t).stream with
  | some j, some st =>
    if st.released + n > st.issued then s.refuseItem t j .badDescriptor 4 0xFF []
    else
      let es := (List.range n).filterMap (fun k => s.streamEntry t st (st.released + k))
      s.modTile t (fun x => { x with
        stream := some { st with released := st.released + n, arrived := st.arrived.filter (fun i => decide (st.released + n ≤ i)) },
        arrived := es.foldl (fun a e => (seDsts e).foldl (fun a (off, m) => NSet.delRange a (off / 64) ((off + m + 63) / 64)) a) x.arrived })
  | some j, none => if n = 0 then s else s.refuseItem t j .badDescriptor 4 0xFF []
  | none, _ => s

/-- An entry of a tile's schedule has arrived. -/
def Tile.entryArrived (x : Tile) (entry : Nat) : Bool :=
  match x.stream with
  | some st => decide (entry < st.released) || st.arrived.contains entry
  | none => false

/-- STREAM_WAIT (R163). -/
def execStreamWait (t : TileNo) (entry : Nat) (s : State) : Out :=
  .next <|
  match s.seqJob t with
  | none => s
  | some _ => if (s.tile t).entryArrived entry then s else s.await t (.stream entry)

/-- STREAM_WAIT_RESUME (R163). -/
def execStreamWaitResume (t : TileNo) (s : State) : Out :=
  .next <|
  match (s.tile t).seqWait with
  | some (.stream entry) => if (s.tile t).entryArrived entry then s.resume t else s
  | _ => s

end Sys2Proof.Machine
end

