-- ==== Sys2Proof/Machine/Jobs.lean ====
section
/-! DEFINITION. Partitions (11 R290, R291), loading and admission (11 R295 to R297), endings and unloads (11 R298, R299), and the grant of
cheap-point saves (11 R306). -/

namespace Sys2Proof.Machine

/-- A job passes to a state, which is notified (11 R298; 13 R371). -/
def State.jobTo (s : State) (j : Nat) (st : JobState) : State :=
  match s.job? j with
  | some jb => (s.setJob j { jb with state := st }).notifyJob j st.code jb.endStatus.code
  | none => s

/-! ### Restores that begin (R298, R304) -/

def State.part? (s : State) (n : Nat) : Option Partition := KMap.find s.parts n

/-- Two jobs have tiles on one die. -/
def Job.sharesDie (a b : Job) : Bool := a.tileDies.any (fun d => b.tileDies.contains d)

/-- A job waits, IDLE, for the restore of the slot that serves it (R298, R304). -/
def State.awaitsRestore (s : State) (j : Nat) (jb : Job) : Bool :=
  jb.state = .idle && !jb.resident && (match s.part? jb.part with | some pt => pt.residents.contains j | none => false)

/-- The restore of a job that waits for it may begin (R304): on its dies no save is carried, and, for a B job, no Q or G job of the slot
still restores or waits to. -/
def State.mayRestore (s : State) (j : Nat) (jb : Job) : Bool :=
  s.awaitsRestore j jb &&
  !(s.jobs.any (fun e => e.1 ≠ j && e.2.state == .saving && e.2.sharesDie jb)) &&
  (jb.cls ≠ 3 || !(s.jobs.any (fun e => e.1 ≠ j && e.2.cls ≠ 3 && (e.2.state == .restoring || s.awaitsRestore e.1 e.2) && e.2.sharesDie jb)))

/-- The restore of a job begins if it may (R298, R304). -/
def State.beginRestore (s : State) (j : Nat) : State :=
  match s.job? j with
  | some jb => if s.mayRestore j jb then s.jobTo j .restoring else s
  | none => s

/-- The restores that may begin do (R298, R304). -/
def State.beginRestores (s : State) : State := (s.jobs.map (·.1)).foldl State.beginRestore s

/-! ### Partitions (R290, R291) -/


/-- The partition a value of `OD 0x2201` describes. -/
def partOf (v : Bytes) : Partition := { row := field v 0 1, col := field v 1 1, rows := field v 2 1, cols := field v 3 1 }

/-- A partition value breaks R290 or R291. -/
def partBad (v : Bytes) : Bool :=
  let p := partOf v
  decide (p.row > 7) || decide (p.col > 7) || (p.rows == 0) ≠ (p.cols == 0) || decide (p.row + p.rows > 8) || decide (p.col + p.cols > 8)

def Partition.meets (a b : Partition) : Bool := (List.range 64).any (fun d => a.holds d && b.holds d)

def State.writePartition (s : State) (n : Nat) (r : Requester) (v : Bytes) : State :=
  s.objWriteNow r 0x2201 (n + 1) v
    (cond (partBad v) .badDescriptor ++
     cond (s.parts.any (fun e => e.1 ≠ n && e.2.meets (partOf v)) || s.jobs.any (fun e => e.2.part == n)) .refusedFit)
    (fun s => { s with objs := s.objs.put (okey 0x2201 (n + 1)) v,
                       parts := if (partOf v).rows = 0 then s.parts.del n else s.parts.put n (partOf v) })

/-- PARTITION_WRITE (R290, R291): accepted, it also clears the partition's cycle table. -/
def execPartitionWrite (n : Fin 16) (r : Requester) (v : Bytes) (s : State) : Out := .next <| s.writePartition n r v

/-! ### Loading (R295) -/

def ldHandle (v : Bytes) : Nat := field v 18 2
def ldQp (v : Bytes) : Nat := field v 16 2

/-- A queue pair is an ADMIN queue pair (12 R322, R324). -/
def State.adminQp (s : State) (q : Nat) : Bool := match KMap.find s.qps q with | some x => bit x.flags.toNat 1 | none => false

/-- A load command is malformed (R295; 12 R324). -/
def State.loadBad (s : State) (v : Bytes) : Bool :=
  decide (field v 8 4 < 64) || decide (ldHandle v > 255) || decide (ldQp v ≥ 16384) || !(zeros v 20 12) ||
  (s.qpState (ldQp v) ≠ .reset && !(s.adminQp (ldQp v)))

/-- The outcome of a load kept in `OD 0x2200:03` (R314). -/
def State.loadOutcome (s : State) (h : Nat) (st : Status) (reason sec : Nat) : State :=
  { s with lastLoad := BitVec.ofNat 32 (st.code + 256 * reason + 65536 * (h % 256) + 16777216 * sec) }

/-- A load accepted: the image is read by RDMA READ (R295). -/
def State.startLoad (s : State) (r : Requester) (v : Bytes) : State :=
  ({ s with load := some ⟨r, v, s.jobDomain (ldHandle v)⟩ } : State).send
    (.rdmaRead (ldQp v) (BitVec.ofNat 64 (field v 0 8)) (BitVec.ofNat 32 (field v 12 4)) (field v 8 4))

def State.writeJobLoad (s : State) (r : Requester) (v : Bytes) : State :=
  let judged := match s.session? r.sid with
    | some sn => !(s.notOwner sn.role r.src) && !(s.objBusy (okey 0x2200 2)) && s.writeConds sn.role 0x2200 2 8 v == []
    | none => false
  let s := if judged && s.loadBad v then s.loadOutcome (ldHandle v) .badDescriptor 0 0xFF else s
  s.objWrite r 0x2200 2 v 8 (cond (s.loadBad v) .badDescriptor) (fun s => s.startLoad r v)

/-- JOB_LOAD (R295): the reply waits for the admission. -/
def execJobLoad (r : Requester) (v : Bytes) (s : State) : Out := .next <| s.writeJobLoad r v

/-! ### Admission (R296, R297) -/

/-- A page range recorded SEALED without counting it as a save's. -/
def State.sealQuietly (s : State) (g : RegionDecl) : State :=
  g.pageBases.foldl (fun s b => { s with pages := setPage s.pages b g.log2 .sealed_ }) s

/-- The CODE regions written and sealed (R297). -/
def State.placeCode (s : State) (jb : Job) : State :=
  let s := jb.code.foldl (fun s c => (jb.codeDies c).foldl (fun s d =>
    match jb.regionsOn 4 d with
    | g :: _ => s.storeClean (g.base + c.offset) c.bytes
    | [] => s) s) s
  (jb.regions.filter (fun g => g.kind == 4)).foldl State.sealQuietly s

/-- The pages of a job's SAVE regions that hold its records, sealed (R159, R305). -/
def State.sealSaves (s : State) (jb : Job) : State :=
  (jb.regions.filter (fun g => g.kind == 3)).foldl (fun s g =>
    s.sealPages (g.pageBases.take (ceilDiv (jb.saveOn (faDie g.base)) (2 ^ g.log2))) g.log2) s

/-- Bytes at offsets, zero where none is placed. -/
def placedBytes (ps : List Placed) (t : Nat) : KMap Byte :=
  (ps.filter (fun p => p.tile == t)).foldl (fun m p => Memory.writes m p.offset p.bytes) []

/-- The initial save record of a tile (R297). -/
def initialRec (j : Nat) (jb : Job) (t : Nat) : SaveRec :=
  { tile := { job := some j }, gathers := [], sram := placedBytes jb.data t, poison := [], full := true }

def counterKey (c : CounterDecl) : Nat := 256 * c.die + c.idx

/-- The initial counters of a job (R297). -/
def initialCounters (jb : Job) : KMap W32 := jb.counters.foldl (fun m c => KMap.put m (counterKey c) c.init) []

/-- A tile wakes, if it is not Running: the wake is counted, and one from Off starts with clean zeros (01 R37, R38). -/
def State.wakeTile (s : State) (t : Nat) : State :=
  let off := fun (s : State) => (s.zeroRange (sramFa t 0) sramEnd).tbump t 2 3 1
  let s := match (s.tile t).power with
    | .running => s
    | .gated | .waking .gated => s.tbump t 2 1 1
    | .retention | .waking .retention => s.tbump t 2 2 1
    | .off | .waking .off => off s
  s.modTile t (fun x => { x with power := .running })

/-- A job's counters written to its dies with the increments held for it (01 R35). -/
def State.restoreCounters (s : State) (j : Nat) (jb : Job) (saved : KMap W32) : State :=
  jb.counters.foldl (fun s c =>
    s.modDie c.die (fun x =>
      let held := (x.sigHeld.filter (fun e => e.1 == j && e.2 == c.idx)).length
      { x with sig := x.sig.put c.idx (KMap.getOr 0 saved (counterKey c) + BitVec.ofNat 32 held),
               sigHeld := x.sigHeld.filter (fun e => ¬ (e.1 = j ∧ e.2 = c.idx)) })) s

/-- Bytes of a save record written into a tile's SRAM, over zeros (R305, R308). -/
def State.fillTile (s : State) (t : Nat) (rec : SaveRec) : State :=
  let s := s.zeroRange (sramFa t 0) sramEnd
  { s with mem := rec.sram.foldl (fun m e => Memory.write m (sramFa t e.1) e.2) s.mem,
           poison := rec.poison.foldl (fun p w => NSet.add p (sramFa t 0 / 4 + w)) s.poison }

/-- The streams an image declares start when the job first runs (R293). -/
def State.startStreams (s : State) (j : Nat) (jb : Job) : State := jb.streams.foldl (fun s e => s.startStream e.1 j e.2) s

/-- A RESIDENT job's tiles zeroed, given its DATA and counters, and RUNNING (R297, R298, R392). -/
def State.startResident (s : State) (j : Nat) (jb : Job) : State :=
  let ts := jb.tiles.map (·.tile)
  let s := ts.foldl (fun s t => ((s.wakeTile t).zeroTile t).fillTile t (initialRec j jb t)) s
  let s := ts.foldl (fun s t => s.modTile t (fun x => { x with job := some j })) s
  (((s.restoreCounters j jb (initialCounters jb)).setJob j { jb with state := .running, started := true }).notifyJob j 3 0).startStreams j jb

/-- A job IDLE with its initial save records (R297, R298). -/
def State.startIdle (s : State) (j : Nat) (jb : Job) : State :=
  let s := s.sealSaves jb
  let saved : KMap SaveRec := jb.tiles.foldl (fun m d => KMap.put m d.tile (initialRec j jb d.tile)) []
  (s.setJob j { jb with saved := saved, ctrSaved := initialCounters jb }).notifyJob j 1 0

/-- An image admitted (R297). -/
def State.admitJob (s : State) (h : Nat) (img : Bytes) (jb : Job) : State :=
  let s := (s.loadRecords h jb ((imgRecords img).getD [])).getD s
  let s := s.placeCode jb
  if jb.resident then s.startResident h jb else s.startIdle h jb

/-- A load ends with an outcome and its reply (R295). -/
def State.endLoad (s : State) (ld : Load) (st : Status) (reason sec : Nat) : State :=
  (({ s with load := none } : State).loadOutcome (ldHandle ld.cmd) st reason sec).replyWrite ld.r (okey 0x2200 2) st

/-- A partition includes a die that is not ready (17 R460). -/
def State.partNotReady (s : State) (n : Nat) : Bool :=
  match s.part? n with
  | some p => (List.range 64).any (fun d => p.holds d && (s.die d).state ≠ .ready)
  | none => false

/-- The read image is checked, and admitted or refused; it waits for an OWN fill in progress (R295, R296; 14 R386). -/
def State.admitDone (s : State) (image : Transfer) : State :=
  match s.load with
  | none => s
  | some ld =>
    if s.fills ≠ [] then s else
    match image with
    | .failed _ => s.endLoad ld .retryExhausted 0 0xFF
    | .poisoned => s.endLoad ld .retryExhausted 0 0xFF
    | .data img =>
      let h := ldHandle ld.cmd
      let jb := jobOf img ld.domain
      if img.length ≠ field ld.cmd 8 4 then s
      else if s.partNotReady (field img 3 1) then s.endLoad ld .notReady 0 0xFF
      else
        match formatFault img jb with
        | some sec => s.endLoad ld .refusedFit 1 sec
        | none =>
          match s.imageFault h img jb with
          | some (reason, sec) => s.endLoad ld .refusedFit reason sec
          | none => (s.admitJob h img jb).endLoad ld .ok 0 0xFF

/-! ### Endings and unloads (R298, R299) -/

/-- A handle becomes free (R299). -/
def State.freeHandle (s : State) (j : Nat) : State :=
  match s.job? j with
  | some jb => ({ s with jobs := s.jobs.del j } : State).notifyJob j 0 jb.endStatus.code
  | none => s

/-- A restore stopped: the tiles restored so far and the one being restored are zeroed (R299, R508; 14 R392). How many there are depends on
the time, and is free. -/
def State.stopRestore (s : State) (jb : Job) : State :=
  let free := (jb.tiles.map (·.tile)).filter (fun t => (s.tile t).job.isNone)
  let (k, s) := s.draw
  (free.take (k % (free.length + 1))).foldl (fun s t => (s.wakeTile t).zeroTile t) s

/-- A job unloaded now: it ends VERSION_GONE, unless it had ended, and its handle becomes free (R299). -/
def State.unloadNow (s : State) (j : Nat) : State := (s.endJob j .versionGone).freeHandle j

/-- An unload accepted, by the state of the job (R299). -/
def State.unload (s : State) (j : Nat) : State :=
  match s.job? j with
  | none => s
  | some jb =>
    if jb.unload then s else
    match jb.state with
    | .ended | .idle => s.unloadNow j
    | .restoring => ((s.stopRestore jb).unloadNow j).beginRestores
    | .running | .saving => if jb.resident then s.unloadNow j else s.setJob j { jb with unload := true }

def State.writeUnload (s : State) (r : Requester) (v : Bytes) : State :=
  s.objWriteNow r 0x2200 4 v (cond (s.job? (leNat v)).isNone .versionGone) (fun s => s.unload (leNat v))

/-- JOB_UNLOAD (R299): replied to on acceptance. -/
def execJobUnload (r : Requester) (v : Bytes) (s : State) : Out := .next <| s.writeUnload r v

/-- JOB_END_INSTR (R299): the job ends OK once each of its tiles has executed it. -/
def execJobEndInstr (t : TileNo) (s : State) : Out :=
  .next <|
  match s.seqJob t with
  | none => s
  | some j =>
    match s.job? j with
    | none => s
    | some jb =>
      let done := NSet.add jb.endedTiles t
      if jb.tiles.all (fun d => done.contains d.tile) then s.endJob j .ok else s.setJob j { jb with endedTiles := done }

def State.writePrivileged (s : State) (r : Requester) (v : Bytes) : State :=
  s.objWriteNow r 0x2200 5 v [] (fun s => { s with objs := s.objs.put (okey 0x2200 5) v })

/-- PRIVILEGED_WRITE (R306). -/
def execPrivilegedWrite (r : Requester) (v : Bytes) (s : State) : Out := .next <| s.writePrivileged r v

/-- The Administrator grants a job cheap-point saves (R306). -/
def State.privileged (s : State) (j : Nat) : Bool :=
  match KMap.find s.objs (okey 0x2200 5) with
  | some v => bit (leNat v) j
  | none => false

end Sys2Proof.Machine
end

