-- ==== Sys2Proof/Machine/Qps.lean ====
section
/-! DEFINITION. Queue pairs: setup, reset, errors and what becomes of the transfers in flight (12 R320 to R324), acknowledgements and
retries (12 R321, R323), and context windows (12 R337, R338). -/

namespace Sys2Proof.Machine

/-! ### Ends of operations (R321, R323; 06 R171, 10 R509, R336) -/

/-- The cause a status stands for (R323). -/
def statusCause (st : Status) : Cause := if st = .accessDenied then .accessDenied else .retryExhausted

/-- What a host transfer met, set on its descriptor wherever the descriptor now is: with the engine, or saved with its tile. -/
def setHost (d id : Nat) (f : Gather → Gather) (gs : List Gather) : List Gather :=
  gs.map (fun g => if g.id = id ∧ dieOf g.tile = d then f g else g)

def SaveRec.setHost (d id : Nat) (f : Gather → Gather) (x : SaveRec) : SaveRec := { x with gathers := Machine.setHost d id f x.gathers }
def Job.setHost (d id : Nat) (f : Gather → Gather) (jb : Job) : Job := { jb with saved := jb.saved.map (fun e => (e.1, e.2.setHost d id f)) }

def State.hostGather (s : State) (d id : Nat) (f : Gather → Gather) : State :=
  ({ s with jobs := s.jobs.map (fun e => (e.1, e.2.setHost d id f)) } : State).modDie d (fun x => { x with gathers := setHost d id f x.gathers })

def Gather.failWith (c : Cause) (g : Gather) : Gather := { g with host := some (.failed c) }
def Gather.acknowledge (g : Gather) : Gather := { g with acked := true }

/-- A completion that cannot be written is lost (R336, R340). -/
def State.loseCompletion (s : State) (ctx ring : Nat) (index : W32) : State :=
  (s.bump (okey 0x2300 0x16) 1).ctxEvent ctx .retryExhausted 3 0xFF ring index.toNat

/-- The pages of a released request's allowed list recycled, but for those another request's list still uses (10 R277; DEDUCED, log 166). -/
def State.freeList (s : State) (r : W32) (x : Request) : State :=
  match x.listAt with
  | none => s
  | some a =>
    let others := (s.reqs.filter (fun e => e.1 ≠ r.toNat)).filterMap (fun e => e.2.listAt)
    { s with pages := s.pages.filter (fun p => !(rangesMeet p.base (2 ^ p.log2) a (2 ^ 18)) ||
        others.any (fun b => rangesMeet p.base (2 ^ p.log2) b (2 ^ 18))) }

/-- A request released once its completion is written or lost (10 R285, R288; R336): its pins, its record and its pages go. -/
def State.release (s : State) (r : W32) (x : Request) : State :=
  let s := if x.kind = 1 then
      ((s.bump (okey 0x2700 4) 1).bump (okey 0x2700 8) (if x.status = .hemDead then 1 else 0)).bump (okey 0x2700 9)
        (if x.status = .cancelled then 1 else 0)
    else s
  let s := ((s.unpinAll r).leaveQueues r).freeList r x
  { s with reqs := s.reqs.del r.toNat }

/-- A request's completion is lost, and the request released (R336). -/
def State.loseRequest (s : State) (r : W32) : State :=
  match s.req? r with
  | some x => (s.loseCompletion x.ctx x.ring x.index).release r x
  | none => s

/-- A request's completion is written (R336, R348), and the request released (10 R285; DEDUCED, log 95). -/
def State.completed (s : State) (r : W32) : State :=
  match s.req? r with
  | some x => (s.bump (okey 0x2300 0x15) 1).release r x
  | none => s

/-- An operation in flight ends with a status other than OK (R323; 06 R171). -/
def State.failOp (st : Status) (s : State) (o : OutOp) : State :=
  match o with
  | .output r => s.outputFailed r st
  | .completion r => s.loseRequest r
  | .gather d id => s.hostGather d id (Gather.failWith (statusCause st))
  | .event => s
  | .read r => s.failReq r st

/-- An operation in flight is acknowledged (R321). -/
def State.ackOp (s : State) (o : OutOp) : State :=
  match o with
  | .output r => s.modReq r (fun x => { x with outstanding := x.outstanding - 1 })
  | .completion r => s.completed r
  | .gather d id => s.hostGather d id Gather.acknowledge
  | .event => s
  | .read _ => s

/-- A queue pair enters ERROR with a cause (R323, R340): the event, then the end of every transfer in flight. -/
def State.qpError (s : State) (q : Nat) (cause : Status) : State :=
  match s.rts q with
  | none => s
  | some x =>
    let s := s.setQp q { x with state := .error, cause := cause, out := [], tries := 0, rnrTries := 0 }
    let s := if x.admin then s.modEvent cause 4 x.port.code q 0 x.ctx else s.ctxEvent x.ctx cause 4 x.port.code q 0
    x.out.foldl (State.failOp cause) s

/-- A queue pair returns to RESET (R323, R338): its transfers end, and context windows that name it are deleted. -/
def State.qpToReset (s : State) (q : Nat) : State :=
  match s.qp? q with
  | none => s
  | some x =>
    let s := { s with qps := s.qps.del q, windows := s.windows.filter (fun e => e.2.qp ≠ q) }
    x.out.foldl (State.failOp .retryExhausted) s

/-! ### Acknowledgements, NAKs, retries (R321, R323) -/

/-- ACK_RECEIVE (R321): the oldest `n` operations complete. -/
def execAckReceive (qp : Fin 16384) (n : Nat) (s : State) : Out :=
  .next <|
  match s.rts qp with
  | none => s
  | some x =>
    let s := s.setQp qp { x with out := x.out.drop n, tries := 0, rnrTries := 0 }
    (x.out.take n).foldl State.ackOp s

/-- Packets of an operation sent again: a READ is one request packet. -/
def State.opPackets (s : State) (o : OutOp) : Nat :=
  match o with
  | .output r => packets (((s.req? r).map (·.written)).getD 0)
  | .gather d id =>
    (match (s.die d).gathers.find? (fun g => g.id == id) with
      | some g => if gdOp g.desc = 3 then 1 else packets (hdBytes g.desc)
      | none => 1)
  | _ => 1

/-- The oldest operation of a queue pair sent again (R321; R348, R349). -/
def State.resend (s : State) (q : Nat) (x : Qp) : State :=
  match x.out with
  | [] => s
  | o :: _ =>
    let n := s.opPackets o
    ((s.setQp q { x with retransmissions := x.retransmissions + n }).send (.retransmit q n)).pbump x.port 0x0C n

/-- NAK_RECEIVE (R321, R323). -/
def execNakReceive (qp : Fin 16384) (kind : NakKind) (s : State) : Out :=
  .next <|
  match s.rts qp with
  | none => s
  | some x =>
    match kind with
    | .remoteAccess => s.qpError qp .accessDenied
    | .other => s.qpError qp .retryExhausted
    | .rnr =>
      if x.rnrRetry ≠ 7 ∧ x.rnrTries ≥ x.rnrRetry then s.qpError qp .retryExhausted
      else s.resend qp { x with rnrTries := x.rnrTries + 1 }

/-- RETRANSMIT_TIMEOUT (R321). -/
def execRetransmitTimeout (qp : Fin 16384) (s : State) : Out :=
  .next <|
  match s.rts qp with
  | none => s
  | some x =>
    if x.out = [] then s
    else if x.tries ≥ x.retryCnt then s.qpError qp .retryExhausted
    else s.resend qp { x with tries := x.tries + 1 }

/-- ROCE_OP_REFUSED (R320, R323): NAK invalid request, and the queue pair enters ERROR. -/
def execRoceOpRefused (p : Port) (qp : Fin 16384) (s : State) : Out :=
  .next <|
  if (s.port p).rate = 0 then s else
  match s.rts qp with
  | none => s.pbump p 8 1
  | some _ => ((s.send (.nak qp true)).pbump p 0x0D 1).qpError qp .retryExhausted

/-! ### Setup and reset (R322, R323) -/

def qpNumber (v : Bytes) : Nat := field v 0 2
def qpFlags (v : Bytes) : Nat := field v 3 1
def qpContext (v : Bytes) : Nat := field v 4 2
def qpPortOf (v : Bytes) : Port := if field v 2 1 = 0 then .a else .b

/-- The IPv4-mapped prefix ::ffff:0:0/96. -/
def mapped : Bytes := List.replicate 10 0 ++ [0xFF, 0xFF]

/-- A setup breaks the table of R322. -/
def State.qpSetupBad (s : State) (v : Bytes) : Bool :=
  decide (qpNumber v > 16383) || decide (field v 2 1 > 1) || decide (qpFlags v > 3) || !(zeros v 6 2) || !(zeros v 11 1) ||
  !(zeros v 15 1) || !(zeros v 19 1) || zeros v 20 4 || (bit (qpFlags v) 0 && slice v 24 12 ≠ mapped) || field v 40 1 % 4 ≠ 0 ||
  decide (field v 41 1 > 1) || decide (field v 42 1 > 7) || field v 43 1 == 0 || decide (field v 43 1 > 31) ||
  decide (field v 44 1 > 7) || !(zeros v 45 19) || !(s.contextLive (qpContext v)) || (bit (qpFlags v) 1 && qpContext v ≠ 0)

/-- A port has a routable address of a family: the claim record gives it one (R344). -/
def State.routable (s : State) (p : Port) (v4 : Bool) : Bool :=
  s.kop.claimed && bit (field s.kop.record 2 1) (2 * p.code + (if v4 then 1 else 0))

/-- The queue pair a setup makes (R322); its send-rate limit starts at the port's line rate (R319). -/
def State.newQp (s : State) (v : Bytes) : Qp :=
  { state := .rts, port := qpPortOf v, flags := BitVec.ofNat 8 (qpFlags v), ctx := qpContext v,
    remoteQpn := BitVec.ofNat 24 (field v 8 3), sendPsn := BitVec.ofNat 24 (field v 12 3), recvPsn := BitVec.ofNat 24 (field v 16 3),
    rkey := BitVec.ofNat 32 (field v 20 4), ip := slice v 24 16, dscp := BitVec.ofNat 8 (field v 40 1),
    prio := BitVec.ofNat 8 (field v 41 1), retryCnt := field v 42 1, timeout := field v 43 1, rnrRetry := field v 44 1,
    rateKbps := s.lineRate (qpPortOf v) }

def State.writeQpSetup (s : State) (r : Requester) (v : Bytes) : State :=
  let p := qpPortOf v
  s.objWriteNow r 0x2300 7 v
    (cond (s.qpSetupBad v) .badDescriptor ++
     cond (!(s.routable p (bit (qpFlags v) 0)) || !(readyBit s (5 + p.code))) .notReady ++
     cond ((s.qp? (qpNumber v)).isSome || (bit (qpFlags v) 1 && s.qps.any (fun e => e.2.admin && e.2.port == p))) .refusedFit)
    (fun s => s.setQp (qpNumber v) (s.newQp v))

/-- QP_SETUP (R322; 17 R460). -/
def execQpSetup (r : Requester) (v : Bytes) (s : State) : Out := .next <| s.writeQpSetup r v

def State.writeQpReset (s : State) (r : Requester) (v : Bytes) : State :=
  s.objWriteNow r 0x2300 8 v (cond (decide (leNat v > 16383)) .badDescriptor) (fun s => s.qpToReset (leNat v))

/-- QP_RESET (R323, R338). -/
def execQpReset (r : Requester) (v : Bytes) (s : State) : Out := .next <| s.writeQpReset r v

/-- The 32 bytes of qp_state (R348). -/
def State.qpBlob (s : State) (q : Nat) : Bytes :=
  match s.qp? q with
  | none => List.replicate 32 0
  | some x =>
    let reads := (x.out.filter (fun o => match o with
      | .read _ => true
      | .gather d id => (s.die d).gathers.any (fun g => g.id == id && gdOp g.desc == 3)
      | _ => false)).length
    leBytes 1 (match x.state with | .reset => 0 | .rts => 1 | .error => 2) ++ leBytes 1 x.port.code ++ [x.flags] ++
    leBytes 1 (if x.state = .error then x.cause.code else 0) ++ leBytes 4 x.ctx ++ leBytes 4 x.sendPsn.toNat ++ leBytes 4 x.recvPsn.toNat ++
    leBytes 4 x.retransmissions ++ leBytes 4 (min reads 16) ++ List.replicate 8 0

/-! ### Context windows (R337, R338) -/

/-- A 32-byte window entry of a context breaks R337, or names a queue pair in RESET or of another context (R338). -/
def State.windowEntryBad (s : State) (ctx : Nat) (e : Bytes) : Bool :=
  field e 0 8 % 64 ≠ 0 || field e 8 8 % 64 ≠ 0 || decide (field e 8 8 > 2 ^ 48) || field e 18 1 == 0 || decide (field e 18 1 > 3) ||
  (match s.qp? (field e 16 2) with | some q => q.ctx ≠ ctx | none => true)

/-- A window write breaks R337 or R338; one of length zero deletes, and only its context, number and reserved bytes count. -/
def State.windowBad (s : State) (v : Bytes) : Bool :=
  let e := slice v 4 32
  !(zeros v 2 2) || !(zeros e 19 1) || !(zeros e 26 6) || decide (field e 24 2 > 255) || !(s.contextLive (field v 0 2)) ||
  (field e 8 8 ≠ 0 && s.windowEntryBad (field v 0 2) e)

/-- The window an entry describes (R337). -/
def contextWindow (e : Bytes) : Window :=
  ⟨BitVec.ofNat 64 (field e 0 8), field e 8 8, field e 16 2, bit (field e 18 1) 0, bit (field e 18 1) 1, BitVec.ofNat 32 (field e 20 4),
   field e 24 2⟩

def State.writeWindow (s : State) (r : Requester) (v : Bytes) : State :=
  let e := slice v 4 32
  let k := winKey (field v 0 2) (field e 24 2)
  s.objWriteNow r 0x2300 0x0B v (cond (s.windowBad v) .badDescriptor)
    (fun s => { s with windows := if field e 8 8 = 0 then s.windows.del k else s.windows.put k (contextWindow e) })

/-- WINDOW_SETUP (R337, R338). -/
def execWindowSetup (r : Requester) (v : Bytes) (s : State) : Out := .next <| s.writeWindow r v

end Sys2Proof.Machine
end

