-- ==== Sys2Proof/Machine/Rings.lean ====
section
/-! DEFINITION. Rings: setup and teardown (12 R327, R328), inbound WRITEs (12 R325, R326), doorbells (12 R332, R333), the fetch of
entries (12 R329 to R331), completions (12 R334 to R336), and the event queues' objects (12 R341). -/

namespace Sys2Proof.Machine

def State.ring? (s : State) (n : Nat) : Option ReqRing := KMap.find s.rings n
def State.cring? (s : State) (n : Nat) : Option CompRing := KMap.find s.crings n
def State.setRing (s : State) (n : Nat) (x : ReqRing) : State := { s with rings := s.rings.put n x }
def State.setCring (s : State) (n : Nat) (x : CompRing) : State := { s with crings := s.crings.put n x }

/-- The home die of a ring of either kind (R327, R332). -/
def ringDie (n : Nat) : Nat := n / 4096

/-- The admitted job a ring is bound to (R331; 11 R293): an ENDED one holds its rings no more (R506). -/
def State.boundJob (s : State) (ring : Nat) : Option Nat := (s.holders.find? (fun e => e.2.rings.contains ring)).map (·.1)

/-! ### Setup and teardown (R327, R328; 17 R460) -/

def rsRing (v : Bytes) : Nat := field v 0 4
def rsComp (v : Bytes) : Bool := field v 4 1 == 2
def rsDepth (v : Bytes) : Nat := field v 5 1
def rsContext (v : Bytes) : Nat := field v 8 2
def rsLink (v : Bytes) : Nat := field v 12 4
def rsImm (v : Bytes) : Bool := bit (field v 36 1) 0

/-- A setup breaks the table of R328. -/
def State.ringSetupBad (s : State) (v : Bytes) : Bool :=
  decide (rsRing v > 262143) || (field v 4 1 ≠ 1 && field v 4 1 ≠ 2) || decide (rsDepth v < 4) || decide (rsDepth v > 16) || !(zeros v 6 2) ||
  !(zeros v 10 2) || zeros v 16 8 || !(zeros v 39 9) || !(s.contextLive (rsContext v)) ||
  (if rsComp v then
    decide (rsLink v > 16383) || field v 24 8 % 64 ≠ 0 || decide (field v 36 1 > 1) || (!(rsImm v) && !(zeros v 37 2))
   else decide (rsLink v > 262143) || !(zeros v 24 15))

/-- Bytes of a die's ring pool that its request rings hold (R328). -/
def State.poolUsed (s : State) (d : Nat) : Nat :=
  ((s.rings.filter (fun e => ringDie e.1 == d)).map (fun e => 128 * 2 ^ e.2.depthLog)).sum

/-- A setup is refused with REFUSED_FIT (R328). -/
def State.ringRefused (s : State) (v : Bytes) : Bool :=
  if rsComp v then
    (s.cring? (rsRing v)).isSome ||
    (match s.qp? (rsLink v) with | some q => q.ctx ≠ rsContext v | none => true) ||
    (rsImm v && s.crings.any (fun e => e.2.imm && e.2.qp == rsLink v && e.2.immTag.toNat == field v 37 2))
  else
    (s.ring? (rsRing v)).isSome ||
    (match s.cring? (rsLink v) with | some c => c.ctx ≠ rsContext v | none => true) ||
    decide (s.poolUsed (ringDie (rsRing v)) + 128 * 2 ^ rsDepth v > s.kop.poolActive * 2 ^ 20)

/-- The ring a setup makes (R328). -/
def State.addRing (s : State) (v : Bytes) : State :=
  let k := BitVec.ofNat 64 (field v 16 8)
  if rsComp v then
    s.setCring (rsRing v)
      { depthLog := rsDepth v, ctx := rsContext v, qp := rsLink v, key := k, hostAddr := BitVec.ofNat 64 (field v 24 8),
        hostRkey := BitVec.ofNat 32 (field v 32 4), imm := rsImm v, immTag := BitVec.ofNat 16 (field v 37 2) }
  else s.setRing (rsRing v) { depthLog := rsDepth v, ctx := rsContext v, link := rsLink v, key := k }

def State.writeRingSetup (s : State) (r : Requester) (v : Bytes) : State :=
  s.objWriteNow r 0x2300 3 v
    (cond (s.ringSetupBad v) .badDescriptor ++ cond ((s.die (ringDie (rsRing v))).state ≠ .ready) .notReady ++
     cond (s.ringRefused v) .refusedFit)
    (fun s => s.addRing v)

/-- RING_SETUP (R327, R328; 17 R460). -/
def execRingSetup (r : Requester) (v : Bytes) (s : State) : Out := .next <| s.writeRingSetup r v

/-- A selection of R348 is well formed: a ring number and the COMPLETION bit. -/
def ringSelOk (v : Nat) : Bool := v / 2 ^ 18 % 64 == 0 && decide (v < 2 ^ 25)

/-- A ring torn down: fetched requests keep the head their completions report (R328, R334). -/
def State.dropRing (s : State) (n : Nat) : State :=
  let h := (s.ring? n).map (·.head)
  { s with rings := s.rings.del n, reqs := s.reqs.map (fun e => (e.1, { e.2 with ringHead := if e.2.ring = n then h else e.2.ringHead })) }

def State.writeRingTeardown (s : State) (r : Requester) (v : Bytes) : State :=
  let n := leNat v % 2 ^ 18
  let comp := bit (leNat v) 24
  let missing := if comp then (s.cring? n).isNone else (s.ring? n).isNone
  let held := if comp then s.rings.any (fun e => e.2.link == n) else (s.boundJob n).isSome
  s.objWriteNow r 0x2300 4 v (cond (!(ringSelOk (leNat v)) || missing) .badDescriptor ++ cond held .refusedFit)
    (fun s => if comp then { s with crings := s.crings.del n } else s.dropRing n)

/-- RING_TEARDOWN (R328). -/
def execRingTeardown (r : Requester) (v : Bytes) (s : State) : Out := .next <| s.writeRingTeardown r v

/-! ### Doorbells (R332, R333) -/

def dbKey (d : Bytes) : W64 := BitVec.ofNat 64 (field d 0 8)
def dbValue (d : Bytes) : W32 := BitVec.ofNat 32 (field d 8 4)
def dbKind (d : Bytes) : Nat := field d 12 1

/-- The signed 32-bit difference of two counts (R333). -/
def countDiff (a b : W32) : Int := (a - b).toInt

/-- A bad doorbell (R332, R340). -/
def State.badDoorbell (s : State) (port ctx ring : Nat) (d : Bytes) : State :=
  (s.bump (okey 0x2300 0x12) 1).ctxEvent ctx .badDescriptor 1 port ring (dbValue d).toNat

/-- A doorbell whose key differs from the ring's (R332, R340). -/
def State.keyMismatch (s : State) (port ctx ring : Nat) (d : Bytes) : State :=
  (s.bump (okey 0x2300 0x11) 1).ctxEvent ctx .keyFault 1 port ring (dbValue d).toNat

/-- A request already fetched is cancelled; one in WRITING or complete counts in cancel_late (R333; 10 R285). -/
def State.cancelFetched (s : State) (ring : Nat) (index : W32) : State :=
  match s.reqs.find? (fun e => e.2.ring == ring && e.2.index == index) with
  | some (h, x) => if x.live then { s with reqs := s.reqs.put h { x with cancelled := true } } else s.bump (okey 0x2700 0x0A) 1
  | none => s.bump (okey 0x2700 0x0A) 1

/-- A TAIL doorbell with the ring's key and a good format (R333). -/
def State.ringTail (s : State) (port n : Nat) (x : ReqRing) (d : Bytes) : State :=
  let v := dbValue d
  if countDiff v x.tail ≤ 0 then s
  else if (v - x.head).toNat > 2 ^ x.depthLog then s.badDoorbell port x.ctx n d
  else s.setRing n { x with tail := v, tails := x.tails ++ [(v, s.now)] }

/-- A CANCEL doorbell with the ring's key and a good format (R333). -/
def State.ringCancel (s : State) (port n : Nat) (x : ReqRing) (d : Bytes) : State :=
  let v := dbValue d
  if countDiff v x.tail ≥ 0 then s.badDoorbell port x.ctx n d
  else if countDiff v x.head ≥ 0 then s.setRing n { x with cancelled := if x.cancelled.contains v then x.cancelled else x.cancelled ++ [v] }
  else s.cancelFetched n v

/-- A doorbell of a request ring, handled at its home die (R332). -/
def State.requestBell (s : State) (port n : Nat) (d : Bytes) : State :=
  match s.ring? n with
  | none => s
  | some x =>
    if dbKey d ≠ x.key then (s.setRing n { x with keyFaults := x.keyFaults + 1 }).keyMismatch port x.ctx n d
    else if !(zeros d 13 3) then s.badDoorbell port x.ctx n d
    else if dbKind d = 1 then s.ringTail port n x d
    else if dbKind d = 3 then s.ringCancel port n x d
    else s.badDoorbell port x.ctx n d

/-- A doorbell of a completion ring, handled at its home die (R332, R333). -/
def State.completionBell (s : State) (port n : Nat) (d : Bytes) : State :=
  match s.cring? n with
  | none => s
  | some x =>
    let v := dbValue d
    if dbKey d ≠ x.key then (s.setCring n { x with keyFaults := x.keyFaults + 1 }).keyMismatch port x.ctx n d
    else if !(zeros d 13 3) ∨ dbKind d ≠ 2 then s.badDoorbell port x.ctx n d
    else if countDiff v x.hostHead ≤ 0 then s
    else if countDiff v x.written > 0 then s.badDoorbell port x.ctx n d
    else s.setCring n { x with hostHead := v }

/-- DOORBELL_TAIL (R332, R333); a CANCEL doorbell is DOORBELL_CANCEL's. -/
def execDoorbellTail (ring : Fin 262144) (d : Bytes) (s : State) : Out :=
  .next <| if d.length ≠ 16 ∨ dbKind d = 3 then s else s.requestBell 0xFF ring d

/-- DOORBELL_HEAD (R332, R333). -/
def execDoorbellHead (ring : Fin 262144) (d : Bytes) (s : State) : Out :=
  .next <| if d.length ≠ 16 then s else s.completionBell 0xFF ring d

/-- DOORBELL_CANCEL (R332, R333; 10 R285); a TAIL doorbell is DOORBELL_TAIL's. -/
def execDoorbellCancel (ring : Fin 262144) (d : Bytes) (s : State) : Out :=
  .next <| if d.length ≠ 16 ∨ dbKind d = 1 then s else s.requestBell 0xFF ring d

/-! ### Inbound WRITEs (R325, R326, R511) -/

/-- Where an inbound WRITE goes (R325). -/
inductive WriteTarget where
  | requestBell (ring : Nat)
  | completionBell (ring : Nat)
  | entries (ring : Nat) (slot : Nat)
  deriving DecidableEq, Repr

/-- The target of an inbound WRITE of `n` bytes; none where R326 refuses it. -/
def State.writeTarget (s : State) (ctx : Nat) (va n : Nat) : Option WriteTarget :=
  let off := va % 2 ^ 44
  match va / 2 ^ 44 with
  | 0 =>
    if off % 16 = 0 ∧ n = 16 ∧ ((s.ring? (off / 16)).map (·.ctx)) = some ctx then some (.requestBell (off / 16)) else none
  | 1 =>
    let ring := off / 2 ^ 23 % 2 ^ 18
    let slot := off / 128 % 2 ^ 16
    match s.ring? ring with
    | some x =>
      if off < 2 ^ 41 ∧ off % 128 = 0 ∧ n % 128 = 0 ∧ slot + n / 128 ≤ 2 ^ x.depthLog ∧ x.ctx = ctx then some (.entries ring slot) else none
    | none => none
  | 2 =>
    if off % 16 = 0 ∧ n = 16 ∧ ((s.cring? (off / 16)).map (·.ctx)) = some ctx then some (.completionBell (off / 16)) else none
  | _ => none

/-- Whole entries written into a ring's slots (R326). -/
def putSlots (m : KMap Bytes) (slot : Nat) (bs : Bytes) : KMap Bytes :=
  (List.range (bs.length / 128)).foldl (fun m i => m.put (slot + i) (slice bs (128 * i) 128)) m

def State.applyWrite (s : State) (port : Nat) (bs : Bytes) : WriteTarget → State
  | .requestBell n => s.requestBell port n bs
  | .completionBell n => s.completionBell port n bs
  | .entries n slot => match s.ring? n with | some x => s.setRing n { x with slots := putSlots x.slots slot bs } | none => s

/-- ROCE_WRITE_IN (R324 to R326, R321, R511). -/
def execRoceWriteIn (p : Port) (qp : Fin 16384) (rkey : W32) (va : W64) (data : Bytes) (s : State) : Out :=
  .next <|
  if (s.port p).rate = 0 then s else
  match s.rts qp with
  | none => s.pbump p 8 1
  | some x =>
    match (if rkey = x.rkey then s.writeTarget x.ctx va.toNat data.length else none) with
    | none => (((s.bump (okey 0x2300 0x13) 1).send (.nak qp false)).pbump p 0x0D 1).qpError qp .accessDenied
    | some t =>
      (((s.setQp qp { x with recvPsn := x.recvPsn + BitVec.ofNat 24 (packets data.length) }).send (.ack qp)).applyWrite p.code data t)

/-! ### Fetch (R329 to R331, R336) -/

/-- The entry in a slot; a slot nothing has written reads as zeros. -/
def ReqRing.entry (x : ReqRing) (index : W32) : Bytes := KMap.getOr (List.replicate 128 0) x.slots (index.toNat % 2 ^ x.depthLog)

/-- A completion ring's queue pair is in RTS for the ring's own context (R336). -/
def State.cringUp (s : State) (c : CompRing) : Bool := match s.rts c.qp with | some q => q.ctx == c.ctx | none => false

/-- A request ring may fetch its next entry (R330, R336, R457): the ring and its completion ring. -/
def State.fetchable (s : State) (n : Nat) : Option (ReqRing × CompRing) :=
  match s.ring? n with
  | none => none
  | some x =>
    match s.cring? x.link with
    | none => none
    | some c =>
      if x.head ≠ x.tail ∧ !x.stopped ∧ (s.die (ringDie n)).state = .ready ∧ s.cringUp c ∧
          (c.written + c.reserved - c.hostHead).toNat < 2 ^ c.depthLog then some (x, c) else none

/-- A reserved field, or a field the entry's kind does not use, is not zero; or the kind is reserved (R7, R329). -/
def entryBad (e : Bytes) : Bool :=
  let k := field e 0 1
  decide (k > 3) || !(zeros e 1 7) || !(zeros e 18 6) || !(zeros e 36 28) || (k ≠ 1 && (!(zeros e 16 2) || !(zeros e 24 12))) ||
  ((k == 0 || k == 1) && !(zeros e 64 64))

/-- A handle no request in flight has (10 R255); 0xFFFF_FFFF is none's (R334). -/
def State.freshHandle (s : State) : Nat :=
  ((List.range (s.reqs.length + 1)).map (fun i => (s.nextHandle + i) % 0xFFFFFFFF)).find? (fun h => (KMap.find s.reqs h).isNone) |>.getD 0

/-- When the TAIL doorbell that first announced an index was accepted (R334). -/
def announcedAt (tails : List (W32 × Nat)) (index : W32) (now : Nat) : Nat :=
  ((tails.find? (fun e => decide (countDiff e.1 index > 0))).map (·.2)).getD now

/-- The next entry fetched (R330): head and reserved move on, and a request stands for the entry until its completion is written. It
carries the conditions of its fetch; with any, it goes straight to its completion (R331, R333). -/
def State.fetch (s : State) (n : Nat) (x : ReqRing) (c : CompRing) : W32 × Request × State :=
  let e := x.entry x.head
  let conds := cond (entryBad e) .badDescriptor ++ cond (s.boundJob n).isNone .notReady ++ cond (x.cancelled.contains x.head) .cancelled
  let h := s.freshHandle
  let q : Request :=
    { ring := n, index := x.head, kind := field e 0 1, tag := BitVec.ofNat 64 (field e 8 8), job := (s.boundJob n).getD 0xFFFF,
      block := slice e 64 64, state := .writing, window := field e 16 2, offset := BitVec.ofNat 64 (field e 24 8), length := field e 32 4,
      conds := conds, atFetch := true, outDone := true, tailAt := announcedAt x.tails x.head s.now, ctx := x.ctx, cring := x.link }
  let x := { x with head := x.head + 1, cancelled := x.cancelled.filter (· ≠ x.head), tails := x.tails.filter (fun e => decide (countDiff e.1 (x.head + 1) > 0)) }
  let s := ((s.setRing n x).setCring x.link { c with reserved := c.reserved + 1 }).bump (okey 0x2300 0x14) 1
  (BitVec.ofNat 32 h, q, { s with nextHandle := (h + 1) % 0xFFFFFFFF })

/-- ENTRY_NOP (R331): a NOP, or an entry of a reserved kind, completes at fetch. -/
def execEntryNop (ring : Fin 262144) (s : State) : Out :=
  .next <|
  match s.fetchable ring with
  | none => s
  | some (x, c) =>
    let k := field (x.entry x.head) 0 1
    if 1 ≤ k ∧ k ≤ 3 then s else
    let (h, q, s) : W32 × Request × State := s.fetch ring x c
    s.setReq h q

/-- The conditions a REQUEST entry meets before its descriptor is read (R329; 10 R251, R171). -/
def State.entryConds (s : State) (q : Request) : List Status :=
  cond (q.offset.toNat % 64 ≠ 0 || q.length % 64 ≠ 0 || decide (q.length < 64) || decide (q.length > 16384)) .badDescriptor ++
  s.windowConds q.ctx q.window q.offset.toNat q.length false

/-- A REQUEST admitted: its descriptor's READ goes out, unless its window or its queue pair refuses it (R331; 10 R251). -/
def State.admitRequest (s : State) (h : W32) (q : Request) : State :=
  let q := { q with atFetch := false, outDone := false, state := .fetching }
  let conds := match s.entryConds q with
    | [] => (((s.window? q.ctx q.window).bind (fun w => s.qpCause w.qp))).toList
    | cs => cs
  match conds with
  | [] => (s.setReq h q).readWindow h q.ctx q.window q.offset.toNat q.length
  | cs => (s.setReq h (cs.foldl Request.note q)).failReq h (firstStatus cs)

/-- ENTRY_REQUEST (R330, R331; 10 R251, R255). -/
def execEntryRequest (ring : Fin 262144) (s : State) : Out :=
  .next <|
  match s.fetchable ring with
  | none => s
  | some (x, c) =>
    if field (x.entry x.head) 0 1 ≠ 1 then s else
    let (h, q, s) : W32 × Request × State := s.fetch ring x c
    if q.conds = [] then s.admitRequest h q else s.setReq h q

/-- An UPDATE or STAGE entry fetched (R331): passed to the job that serves what it names, or completed BAD_DESCRIPTOR. -/
def State.passEntry (s : State) (h : W32) (q : Request) (served : Bool) : State :=
  if q.conds ≠ [] then s.setReq h q
  else if served then s.setReq h { q with state := .stage, atFetch := false }
  else s.setReq h (q.note .badDescriptor)

/-- ENTRY_UPDATE (R331; 07 R191). -/
def execEntryUpdate (ring : Fin 262144) (s : State) : Out :=
  .next <|
  match s.fetchable ring with
  | none => s
  | some (x, c) =>
    if field (x.entry x.head) 0 1 ≠ 2 then s else
    let (h, q, s) : W32 × Request × State := s.fetch ring x c
    s.passEntry h q ((s.coll? (ubColl q.block)).map (·.job) == some q.job)

/-- ENTRY_STAGE (R331; 08 R216). -/
def execEntryStage (ring : Fin 262144) (s : State) : Out :=
  .next <|
  match s.fetchable ring with
  | none => s
  | some (x, c) =>
    if field (x.entry x.head) 0 1 ≠ 3 then s else
    let (h, q, s) : W32 × Request × State := s.fetch ring x c
    s.passEntry h q ((s.table? (tbTable q.block)).map (·.job) == some q.job)

/-! ### Completions (R334 to R336; 10 R285, R509) -/

/-- The condition flags: bit c for a condition of code c other than the status (R9, R334). -/
def condFlags (conds : List Status) (st : Status) : Nat :=
  ((List.range 16).map (fun c => if c ≠ 0 ∧ c ≠ st.code ∧ conds.any (fun x => x.code == c) then 2 ^ c else 0)).sum

/-- The 16 result bytes (R334). -/
def Request.result (x : Request) : Bytes :=
  if x.kind = 1 then
    leBytes 4 x.prompt.length ++ leBytes 4 x.generated.length ++ leBytes 4 x.written ++ leBytes 1 x.lastStage ++ [0, 0, 0]
  else if x.resultBytes = [] then List.replicate 16 0 else x.resultBytes

/-- The 64 bytes of a completion, at index `i` of its ring (R334). -/
def State.completion (s : State) (r : W32) (x : Request) (c : CompRing) : Bytes :=
  let i := c.written.toNat
  let head := match s.ring? x.ring, x.ringHead with
    | _, some h => h
    | some g, none => g.head
    | none, none => 0
  leBytes 8 x.tag.toNat ++ leBytes 4 (if x.atFetch || x.kind ≠ 1 then 0xFFFFFFFF else r.toNat) ++ leBytes 1 x.status.code ++
  leBytes 1 x.kind ++ leBytes 2 (condFlags x.allConds x.status) ++ leBytes 4 x.ring ++ leBytes 4 x.index.toNat ++ leBytes 4 head.toNat ++
  x.result ++ [0, 0, 0, 0] ++ leBytes 8 (s.now - x.tailAt) ++ List.replicate 7 0 ++ leBytes 1 (if i / 2 ^ c.depthLog % 2 = 0 then 1 else 0)

/-- A request whose completion may be written, and is not on its way: it is in WRITING, and its output has gone out and settled (R334; 10 R509). -/
def Request.settled (x : Request) : Bool := x.state == .writing && (x.outDone || x.noOutput) && x.outstanding == 0 && !x.completing

/-- The next index of a request's completion ring is taken (R331, R334). -/
def State.takeIndex (s : State) (x : Request) : State :=
  match s.cring? x.cring with
  | some c => s.setCring x.cring { c with written := c.written + 1, reserved := c.reserved - 1 }
  | none => s

/-- COMPLETION_WRITE (R334, R335): the request keeps what it holds until the write is acknowledged or fails (10 R285). -/
def execCompletionWrite (req : W32) (s : State) : Out :=
  .next <|
  match s.req? req with
  | none => s
  | some x =>
    match s.cring? x.cring with
    | none => s
    | some c =>
      if !x.settled ∨ !(s.cringUp c) then s else
      let i := c.written.toNat
      let va := c.hostAddr + BitVec.ofNat 64 (64 * (i % 2 ^ c.depthLog))
      let imm := if c.imm then some (BitVec.ofNat 32 (c.immTag.toNat * 65536 + i % 65536)) else none
      let s := (s.send (.rdmaWrite c.qp va c.hostRkey (s.completion req x c) imm)).addOut c.qp (.completion req)
      (s.takeIndex x).setReq req { x with completing := true }

/-- COMPLETION_LOST (R336): the completion cannot be written. -/
def execCompletionLost (req : W32) (s : State) : Out :=
  .next <|
  match s.req? req with
  | none => s
  | some x =>
    let up : Bool := match s.cring? x.cring with | some c => s.cringUp c | none => false
    if !x.settled ∨ up then s else (s.takeIndex x).loseRequest req

/-! ### Ring and event objects (R341, R348) -/

/-- The 32 bytes of ring_state (R348). -/
def State.ringBlob (s : State) (sel : Nat) : Bytes :=
  let n := sel % 2 ^ 18
  if bit sel 24 then
    match s.cring? n with
    | none => List.replicate 32 0
    | some c =>
      [2, BitVec.ofNat 8 c.depthLog] ++ leBytes 2 c.ctx ++ leBytes 4 c.qp ++ leBytes 4 c.written.toNat ++ leBytes 4 c.hostHead.toNat ++
      leBytes 4 c.reserved.toNat ++ leBytes 2 0xFFFF ++ [0, 0] ++ leBytes 4 (c.keyFaults % 2 ^ 32) ++ [0, 0, 0, 0]
  else
    match s.ring? n with
    | none => List.replicate 32 0
    | some x =>
      [1, BitVec.ofNat 8 x.depthLog] ++ leBytes 2 x.ctx ++ leBytes 4 x.link ++ leBytes 4 x.head.toNat ++ leBytes 4 x.tail.toNat ++
      leBytes 4 0 ++ leBytes 2 ((s.boundJob n).getD 0xFFFF) ++ [0, 0] ++ leBytes 4 (x.keyFaults % 2 ^ 32) ++ [0, 0, 0, 0]

/-- The queue a session has selected; none where its context has been deleted (R341). -/
def State.selected (s : State) (sn : Session) : Option QueueId :=
  let v := sn.evSel.toNat
  if bit v 16 then some .events
  else if s.contextLive (v % 65536) then some (.context (BitVec.ofNat 16 v)) else none

/-- A selection breaks R341. -/
def State.evSelBad (s : State) (v : Nat) : Bool :=
  decide (v ≥ 2 ^ 17) || (bit v 16 && v % 65536 ≠ 0) || (!(bit v 16) && !(s.contextLive (v % 65536)))

def State.writeEventSelect (s : State) (r : Requester) (v : Bytes) : State :=
  s.objWriteNow r 0x2300 0x0C v (cond (s.evSelBad (leNat v)) .badDescriptor)
    (fun s => s.modSession r.sid (fun x => { x with evSel := BitVec.ofNat 32 (leNat v) }))

/-- EVENT_SELECT (R341). -/
def execEventSelect (r : Requester) (v : Bytes) (s : State) : Out := .next <| s.writeEventSelect r v

/-- The queue the requesting session has selected. -/
def State.selectedBy (s : State) (r : Requester) : Option (QueueId × Queue) :=
  ((s.session? r.sid).bind s.selected).bind (fun q => (s.queue? q).map (fun x => (q, x)))

def State.writeEventRinse (s : State) (r : Requester) (v : Bytes) : State :=
  s.objWriteNow r 0x2300 0x0E v (cond (v ≠ [0x01] || (s.selectedBy r).isNone) .badDescriptor)
    (fun s => match s.selectedBy r with | some (q, x) => s.setQueue q x.rinse | none => s)

/-- EVENT_RINSE (R341; 04 R116). -/
def execEventRinse (r : Requester) (v : Bytes) (s : State) : Out := .next <| s.writeEventRinse r v

/-- The 24 bytes of event_stats (R348). -/
def Queue.stats (q : Queue) : Bytes :=
  leBytes 4 q.packets ++ leBytes 4 (q.lost % 2 ^ 32) ++ leBytes 4 (q.corrected % 2 ^ 32) ++ leBytes 4 (q.uncorrected % 2 ^ 32) ++
  leBytes 4 (q.rinses % 2 ^ 32) ++ [0, 0, 0, 0]

/-- RING_COUNTERS_CLEAR (R348). -/
def execRingCountersClear (r : Requester) (v : Bytes) (s : State) : Out :=
  .next <| s.clearWrite r 0x2300 0x17 v

end Sys2Proof.Machine
end

