-- ==== Sys2Proof/Machine/Integrity.lean ====
section
/-! DEFINITION. Memory integrity: SRAM write-backs and the SRAM part of the lint sweep (15 R410, R411, R416), the stack part of the sweep
(15 R414, R415), the soak fill (15 R412) and darning (15 R418 to R420). -/

namespace Sys2Proof.Machine

/-! ### SRAM (R410, R411, R416, R417) -/

/-- The fabric address of word `i` (0 to 7) of a row of an SRAM macro: scratchpad bank `unit` holds every 28th run of 64 bytes
(06 R152), and each accumulator-file macro holds 64 KiB of the file. -/
def macroWord (t unit row i : Nat) : Nat :=
  if unit < 28 then sramFa t (64 * (28 * row + unit) + 8 * i) else sramFa t (accBase + 65536 * (unit - 28) + 64 * row + 8 * i)

/-- One SRAM word read with an error (R411, R427): counted, and a write-back is owed; a double-bit error poisons both halves of the word
and is an event of its macro. -/
def State.sramError (s : State) (t row : Nat) (e : SramFault) : State :=
  let d := dieOf t
  let a := macroWord t e.unit row (e.word % 8)
  let wb : SramWb := { unit := e.unit, word := if e.unit < 32 then a / 8 else row, double := e.double }
  let s := s.modTile t (fun x => { x with sramWb := x.sramWb ++ [wb] })
  if e.double then
    let s := if e.unit < 32 then { s with poison := NSet.addRange s.poison (a / 4) 2 } else s
    let s := s.modDie d (fun x => { x with events := x.events ++ [⟨.sramMacro ⟨tileOf t, Nat.mod_lt _ (by decide)⟩ e.unit, s.now⟩] })
    s.dbump d 3 6 1
  else s.dbump d 3 5 1

/-- LINT_SRAM_ROW (R416): the next row of each macro of a Running tile, and a word of the valid-bit array; `word` counts the words of a
macro's row. -/
def execLintSramRow (t : TileNo) (errs : List SramFault) (s : State) : Out :=
  .next <|
  if (s.tile t).power ≠ .running ∨ (s.die (dieOf t)).state ≠ .ready then s else
  let row := (s.tile t).lintRow % 1024
  let es := errs.filter (fun e => decide (e.unit < 32) && decide (e.word < 8) || (e.unit == 32 && e.word == 0))
  (es.foldl (fun s e => s.sramError t row e) s).modTile t (fun x => { x with lintRow := (row + 1) % 1024 })

/-- SRAM_WRITEBACK (R411): the oldest write-back a tile's banks owe is made, or discarded for a newer write. -/
def execSramWriteback (t : TileNo) (s : State) : Out :=
  .next <|
  match (s.tile t).sramWb with
  | [] => s
  | w :: rest => (s.modTile t (fun x => { x with sramWb := rest })).tbump t 3 (if w.cancelled then 8 else 7) 1

/-! ### The stack sweep (R414, R415) -/

/-- Granules of a die's stacks, and of a pass of its sweeper: spare rows of 8 granules, 128 to a live channel, follow (R414). -/
def State.stackGranules (s : State) (d : Nat) : Nat := s.stackBytes d / 256
def State.passGranules (s : State) (d : Nat) : Nat := s.stackGranules d + 1024 * (s.liveChannels d).length

/-- A granule of the stacks read by the sweeper: no retry (R414; 16 R429). -/
def State.lintStack (s : State) (d pos : Nat) (errs : List SectorFault) : State :=
  let g := stackFa d (256 * pos) / 256
  let out := s.readOutcomes g errs
  s.deliver d g out out [out]

/-- A granule of a spare row read by the sweeper: it has no address, so its outcomes are counted. -/
def State.lintSpare (s : State) (d : Nat) (errs : List SectorFault) : State :=
  let out := (List.range 8).map (fun sec => sectorOutcome (((errs.find? (fun f => f.sector.val == sec)).map (·.err)).getD []) false)
  let n := fun (o : SectorOutcome) => (out.filter (· = o)).length
  ((s.dbump d 3 1 (n .corrected)).dbump d 3 2 (n .uncorrectable)).dbump d 3 3 (n .poisoned)

/-- LINT_READ (R414, R415): the next granule of the pass; at the end of a pass, `late` says whether its target time had gone. -/
def execLintRead (d : DieNo) (errs : List SectorFault) (late : Bool) (s : State) : Out :=
  .next <|
  if (s.die d).state ≠ .ready then s else
  let pos := (s.die d).lintPos
  let s := (s.dbump d 3 9 1).dbump d 9 1 1
  let s := if pos < s.stackGranules d then s.lintStack d pos errs else s.lintSpare d errs
  if pos + 1 < s.passGranules d then s.modDie d (fun x => { x with lintPos := pos + 1 })
  else ((s.modDie d (fun x => { x with lintPos := 0 })).dbump d 3 0x0A 1).dbump d 3 0x0B (if late then 1 else 0)

/-! ### The soak fill (R412) -/

/-- SOAK_FILL (R412; 17 R459): once the PHYs are trained, the fill starts. -/
def execSoakFill (d : DieNo) (s : State) : Out :=
  .next <|
  let x := s.die d
  if x.phy ∧ x.state = .off ∧ !(s.isRetired (.die d)) then s.setDieState d .soak else s

/-- The stack part of the fill: zero cipher text with valid check bytes, which no key reads as zeros (R412). -/
def State.fillStack (s : State) (d : Nat) : State :=
  let a := stackFa d 0
  let s := s.zeroRange a (2 ^ 40)
  { s with keyed := s.keyed.filter (fun k => ¬ (a / 256 ≤ k.lo ∧ k.lo < (a + 2 ^ 40) / 256)) }

/-- The SRAM part of the fill: every tile Off, its SRAM zero and clean (R412). -/
def State.fillTiles (s : State) (d : Nat) : State :=
  let a := sramFa (144 * d) 0
  let s := s.zeroRange a (144 * 2 ^ 21)
  { s with tiles := s.tiles.delRange (144 * d) (144 * d + 144) }

/-- OWN entries of a die filled again after its stacks were rebuilt (16 R436). -/
def State.refillOwn (s : State) (d : Nat) : State :=
  (s.regions.filter (fun e => e.own && faDie e.base == d)).foldl (fun s e => s.fillRange e.base e.length) s

/-- The length of the last soak fill in ms (R424): the longest of the dies that fill together. -/
def State.noteSoak (s : State) (d ms : Nat) : State :=
  let alone := (List.range 64).all (fun e => e == d || (s.die e).state ≠ .soak) && s.boot.dieResets.any (fun e => e.1 == d)
  { s with cnt := s.cnt.put (okey 0x2100 4) (if alone then ms % 65536 else max (s.count (okey 0x2100 4)) (ms % 65536)) }

/-- The fill of a die completes: the die is ready (R412), and OWN entries are refilled after a rebuild (16 R436). -/
def State.soakDone (s : State) (d ms : Nat) : State :=
  let x := s.die d
  if x.state ≠ .soak then s else
  let s := s.fillStack d
  let s := if x.rebuild then s.refillOwn d else s.fillTiles d
  let s := s.modDie d (fun x => { x with rebuild := false, lintPos := 0 })
  (s.noteSoak d ms).setDieState d .ready

/-! ### Darning (R418 to R420) -/

/-- The order of remap entries (R420). -/
def RemapEntry.before (a b : RemapEntry) : Bool :=
  decide (a.die < b.die) || (a.die == b.die && (decide (a.ch < b.ch) || (a.ch == b.ch && (decide (a.bank < b.bank) ||
    (a.bank == b.bank && decide (a.row < b.row))))))

/-- An entry in force in place of one for the same row. -/
def putRemap (es : List RemapEntry) (e : RemapEntry) : List RemapEntry :=
  let es := es.filter (fun x => ¬ (x.die = e.die ∧ x.ch = e.ch ∧ x.bank = e.bank ∧ x.row = e.row))
  es.filter (fun x => x.before e) ++ [e] ++ es.filter (fun x => !(x.before e))

/-- The 8 bytes of an entry (R420). -/
def RemapEntry.bytes (e : RemapEntry) : Bytes := leBytes 1 e.die ++ leBytes 1 e.ch ++ leBytes 1 e.bank ++ leBytes 1 e.spare ++ leBytes 4 e.row

/-- The spare row a remap takes: the lowest of the channel that is neither in use nor failed (R418, R419). -/
def State.freeSpare (s : State) (d ch : Nat) : Option Nat :=
  (List.range 128).find? (fun n => !((s.die d).remaps.any (fun e => e.ch == ch && e.spare == n)) && !(s.ledger.spent.contains (d, ch, n)))

/-- A remap in force; it is kept in the ledger where the ledger's write succeeds (R419). -/
def State.installRemap (s : State) (e : RemapEntry) (ok : Bool) : State :=
  let old := (s.die e.die).remaps.find? (fun x => x.ch == e.ch && x.bank == e.bank && x.row == e.row)
  let spent := match old with | some o => s.ledger.spent ++ [(e.die, e.ch, o.spare)] | none => s.ledger.spent
  let s := s.modDie e.die (fun x => { x with remaps := putRemap x.remaps e,
                                             events := x.events ++ [⟨.channel ⟨e.ch % 32, Nat.mod_lt _ (by decide)⟩, s.now⟩] })
  let s := { s with ledger := { s.ledger with spent := spent } }
  if ok then { s with ledger := { s.ledger with remaps := putRemap s.ledger.remaps e, remapRecords := s.ledger.remapRecords + 1 } }
  else s.dbump e.die 3 0x0F 1

/-- Channels of a die that are being retired (16 R433). -/
def State.channelGoing (s : State) (d : Nat) (ch : Fin 32) : Bool :=
  s.isRetired (.channel d ch) || s.repairs.any (fun r => r.die == d && r.res == .channel ch)

/-- A resource whose repair is at the head of the queue is taken off it (16 R433). -/
def State.nextRepair (s : State) (d : Nat) (res : Resource) : Bool :=
  match s.repairs with | r :: _ => r.die == d && r.res == res | [] => false

def State.popRepair (s : State) : State := { s with repairs := s.repairs.drop 1 }

/-- REMAP (R419; 16 R432, R433): the row takes a spare; with none left the request is refused, and the channel is retired at once. -/
def execRemap (d : DieNo) (ch : Fin 32) (bank : Fin 16) (row : Nat) (ledgerOk : Bool) (s : State) : Out :=
  .next <|
  if !(s.nextRepair d (.row ch bank row)) then s else
  let s := s.popRepair
  if s.channelGoing d ch then s else
  match s.freeSpare d ch with
  | some n =>
    (s.installRemap ⟨d, ch, bank, n, row⟩ ledgerOk).log { kind := 6, resource := 1, die := d, unit := ch, sub := bank, row := row }
  | none =>
    let s := (s.dbump d 3 0x0E 1).log { status := .refusedFit, kind := 4, resource := 1, die := d, unit := ch, sub := bank, row := row, reason := 8 }
    let s := s.modDie d (fun x => { x with remapRefused := x.remapRefused ++ [(ch.val, bank.val, row)] })
    { s with repairs := s.repairs ++ [⟨d, .channel ch, s.now⟩] }

/-- INTEGRITY_COUNTERS_CLEAR (R425). -/
def execIntegrityCountersClear (d : DieNo) (r : Requester) (v : Bytes) (s : State) : Out :=
  .next <| s.clearWrite r (0x3003 + 16 * d) 0x10 v

end Sys2Proof.Machine
end

