-- ==== Sys2Proof/Machine/Schedule.lean ====
section
/-! DEFINITION. Cycle tables, slot boundaries, saves and restores, cheap points, B grants, urgent placement, steps and the slot watchdog
(11 R300 to R315, R507, R508). -/

namespace Sys2Proof.Machine

/-! ### Cycle tables (R301, R302) -/

/-- The slot entry at place `i` of a table (R301). -/
def slotEntry (v : Bytes) (i : Nat) : Bytes := slice v (16 + 48 * i) 48

def slotOf (e : Bytes) : Slot :=
  { us := field e 0 4, cls := field e 4 1, spare := bit (field e 5 1) 0, jobs := (List.range 256).filter (fun j => bit (field e 16 32) j) }

def tableOfBytes (v : Bytes) : CycleTable :=
  { bytes := v, gen := BitVec.ofNat 32 (field v 4 4), slots := (List.range (field v 1 1)).map (fun i => slotOf (slotEntry v i)) }

/-- A job admitted to a partition. -/
def State.admittedTo (s : State) (n j : Nat) : Option Job := (s.job? j).filter (fun jb => jb.part == n)
/-- A job admitted to a partition that has not ended. -/
def State.aliveIn (s : State) (n j : Nat) : Option Job := (s.admittedTo n j).filter (fun jb => jb.state ≠ .ended)

/-- A slot lists only jobs it may (R301); an ENDED job passes (R506). -/
def State.slotClassOk (s : State) (n : Nat) (sl : Slot) : Bool :=
  sl.jobs.all (fun j => match s.aliveIn n j with | some jb => jb.resident || (sl.cls ≠ 3 && jb.cls == sl.cls) | none => true)

/-- A table breaks R301. -/
def State.tableBad (s : State) (n : Nat) (v : Bytes) : Bool :=
  let k := field v 1 1
  field v 0 1 ≠ 1 || decide (k > 64) || !(zeros v 2 2) || !(zeros v 8 8) || v.length ≠ 16 + 48 * k ||
  (List.range k).any (fun i =>
    let e := slotEntry v i
    decide (field e 0 4 < 10) || decide (field e 0 4 > 100000) || field e 4 1 == 0 || decide (field e 4 1 > 3) || decide (field e 5 1 > 1) ||
    !(zeros e 6 10) || !(s.slotClassOk n (slotOf e)))

/-- The microseconds a G step needs (R300). -/
def Job.stepUs (jb : Job) : Nat := ceilDiv jb.wcet 1400

/-- Two jobs cannot be resident together (R302, R507). -/
def Job.clash (a b : Job) : Bool := a.tilesMeet b || a.countersMeet b

/-- Some two jobs of a list clash. -/
def anyClash : List Job → Bool
  | [] => false
  | a :: r => r.any a.clash || anyClash r

/-- A table is refused with REFUSED_FIT (R302). -/
def State.tableRefused (s : State) (n : Nat) (t : CycleTable) : Bool :=
  let residents := (s.holders.filter (fun e => e.2.part == n && e.2.resident)).map (·.1)
  (s.part? n).isNone ||
  t.slots.any (fun sl =>
    sl.jobs.any (fun j => (s.admittedTo n j).isNone) || anyClash (sl.jobs.filterMap (s.aliveIn n)) ||
    residents.any (fun j => !(sl.jobs.contains j)) ||
    (sl.cls == 2 && sl.jobs.any (fun j => match s.aliveIn n j with
      | some jb => decide (sl.us < jb.stepUs + ceilDiv jb.saveMost 1536000)
      | none => false)))

/-! ### Residents (R304, R309, R310, R507) -/

/-- The jobs of a partition that B grants consider: B jobs that are neither RESIDENT nor ENDED. -/
def State.bJobs (s : State) (n : Nat) : List (Nat × Job) := s.holders.filter (fun e => e.2.part == n && e.2.cls == 3 && !e.2.resident)

/-- The requester next after a pointer in cyclic order over 256 handles (R313). -/
def cyclicKey (p j : Nat) : Nat := (j + 256 - p % 256) % 256

/-- Where the arbiters of a partition keep their pointers (R313). -/
def grantArb (n : Nat) : Nat := n
def urgentArb (n : Nat) : Nat := 16 + n
def State.arbPtr (s : State) (k : Nat) : Nat := KMap.getOr 0 s.arb k

/-- A B job comes before another in the arbiter's order (R309). -/
def grantBefore (p : Nat) (a b : Nat × Job) : Bool :=
  decide (b.2.prio < a.2.prio) || (a.2.prio == b.2.prio && decide (cyclicKey p a.1 < cyclicKey p b.1))

/-- The first of a list in an order. -/
def pickFirst (before : Nat × Job → Nat × Job → Bool) : List (Nat × Job) → Option (Nat × Job)
  | [] => none
  | x :: r =>
    match pickFirst before r with
    | some y => if before y x then some y else some x
    | none => some x

/-- The B arbiter (R309): candidates left, jobs resident or granted, and the pointer; the jobs granted and the pointer after. -/
def grantRun : Nat → Nat → List (Nat × Job) → List Job → List Nat × Nat
  | 0, p, _, _ => ([], p)
  | f + 1, p, cands, held =>
    match pickFirst (grantBefore p) cands with
    | none => ([], p)
    | some (j, jb) =>
      let rest := cands.filter (fun e => e.1 ≠ j)
      if held.any jb.clash then grantRun f p rest held
      else
        let (g, q) := grantRun f ((j + 1) % 256) rest (jb :: held)
        (j :: g, q)

/-- The slot of a table in which urgent jobs are placed, and what it is: 1 SPARE, 2 the last Q slot, 3 the first B slot (R310). -/
def urgentSlot (t : CycleTable) : Option (Nat × Nat) :=
  match t.slots.findIdx? (fun sl => sl.spare) with
  | some i => some (i, 1)
  | none =>
    match (t.slots.zipIdx.filter (fun (e : Slot × Nat) => e.1.cls == 1)).getLast? with
    | some e => some (e.2, 2)
    | none => (t.slots.findIdx? (fun sl => sl.cls == 3)).map (fun i => (i, 3))

/-- Urgent jobs placed in rotating order, each that clashes with none placed before it (R310, R313). -/
def placeRun : List (Nat × Job) → Nat → List Job → List Nat × Nat
  | [], p, _ => ([], p)
  | (j, jb) :: r, p, held =>
    if held.any jb.clash then placeRun r p held
    else
      let (g, q) := placeRun r ((j + 1) % 256) (jb :: held)
      (j :: g, q)

/-- Urgent jobs placed: their refused counts return to zero and they are no longer urgent (R310). One that is not placed stays urgent,
though the arbiter may grant it. -/
def State.notePlaced (s : State) (js : List Nat) : State :=
  js.foldl (fun s j => s.modJob j (fun jb => { jb with refused := 0, urgent := false })) s

/-- Urgent jobs placed for the cycle that begins (R310). -/
def State.placeUrgent (s : State) (n : Nat) (t : CycleTable) : State :=
  let p := s.arbPtr (urgentArb n)
  let urgent := (s.bJobs n).filter (fun e => e.2.urgent)
  let ordered := urgent.filter (fun e => decide (p ≤ e.1)) ++ urgent.filter (fun e => decide (e.1 < p))
  match s.part? n with
  | none => s
  | some pt =>
    let (placed, q, slot) : List Nat × Nat × Option (Nat × Nat) := match urgentSlot t with
      | some (i, k) => let (g, q) := placeRun ordered p []; (g, q, some (i, k))
      | none => ([], p, none)
    let s := s.bump (okey 0x2203 7) (urgent.length - placed.length)
    let s := match slot with
      | some (_, 1) => s.bump (okey 0x2203 6) placed.length
      | some (_, 2) => s.bump (okey 0x2203 5) placed.length
      | _ => s
    let at_ : Option (Nat × NSet) := slot.map (fun e => (e.1, placed.foldl NSet.add []))
    let s := { s with arb := s.arb.put (urgentArb n) q, parts := s.parts.put n { pt with placed := at_ } }
    s.notePlaced placed

/-- The RESIDENT jobs of a partition. -/
def State.residentJobs (s : State) (n : Nat) : List (Nat × Job) := s.holders.filter (fun e => e.2.part == n && e.2.resident)

/-- The residents of a slot: listed jobs that no urgent job displaces, RESIDENT jobs, B grants, urgent jobs (R304); the grants; the
pointer. A displaced job is still listed, so no grant takes its tiles or its counters (R309). -/
def State.slotResidents (s : State) (n i : Nat) (pt : Partition) (sl : Slot) : List Nat × List Nat × Nat :=
  let urgent := match pt.placed with | some (k, js) => if k = i then js else [] | none => []
  let uj := urgent.filterMap (s.aliveIn n)
  let kept := sl.jobs.filter (fun j => match s.aliveIn n j with | some jb => !jb.resident && !(uj.any jb.clash) | none => false)
  let always := s.residentJobs n
  let cands := (s.bJobs n).filter (fun e => !(urgent.contains e.1))
  let (g, p) := grantRun (cands.length + 1) (s.arbPtr (grantArb n)) cands (sl.jobs.filterMap (s.aliveIn n) ++ always.map (·.2) ++ uj)
  (kept ++ always.map (·.1) ++ g ++ urgent.filter (fun j => (s.aliveIn n j).isSome), g, p)

/-! ### The boundary (R304, R508) -/

/-- A job that the next slot does not serve begins its save (R304, R306, R308). -/
def State.startSave (s : State) (j : Nat) (jb : Job) : State :=
  let ts := jb.tiles.map (·.tile)
  let priv := jb.cheapSave && s.privileged j
  let held : Bool := jb.asked && jb.step == .none_
  let s := s.bump (okey 0x2203 8) (if held then 1 else 0)
  let s := s.setJob j { jb with
    saves := jb.saves + 1, privUsed := s.privileged j, cheapWait := if priv then ts else [], savePending := if priv then [] else ts,
    saved := [], step := if held then .asked else jb.step }
  s.jobTo j .saving

/-- A boundary's saves and stopped restores: what it does to one job of the partition, whose next slot is served by `rs` (R298, R304, R508). -/
def State.boundaryJob (s : State) (rs : List Nat) (j : Nat) : State :=
  match s.job? j with
  | none => s
  | some jb =>
    if jb.resident then s else
    match jb.state, rs.contains j with
    | .running, false => s.startSave j jb
    | .restoring, false => (s.stopRestore jb).jobTo j .idle
    | _, _ => s

/-- What a boundary does to the jobs of its partition: saves begin, and the restores for which no save must wait (R304). -/
def State.boundaryJobs (s : State) (n : Nat) (rs : List Nat) : State :=
  (((s.jobs.filter (fun e => e.2.part == n)).map (·.1)).foldl (fun s j => s.boundaryJob rs j) s).beginRestores

/-- The boundary at which slot `i` of the table in force begins (R304). -/
def State.boundary (s : State) (n i : Nat) : State :=
  match s.part? n with
  | none => s
  | some pt =>
    match pt.table.bind (fun t => t.slots[i]?) with
    | none => s
    | some sl =>
      let (rs, g, p) := s.slotResidents n i pt sl
      let got := g ++ (match pt.placed with | some (k, js) => if k = i then js else [] | none => [])
      let pt := { pt with slot := i, residents := rs.foldl NSet.add [], granted := got.foldl NSet.add pt.granted }
      ({ s with arb := s.arb.put (grantArb n) p, parts := s.parts.put n pt } : State).boundaryJobs n rs

/-- A cycle begins with slot 0, urgent jobs placed first (R303, R310). -/
def State.beginCycle (s : State) (n : Nat) (t : CycleTable) : State :=
  let s := match s.part? n with
    | some pt => { s with parts := s.parts.put n { pt with table := some t, next := none, granted := [], placed := none } }
    | none => s
  (s.placeUrgent n t).boundary n 0

/-- A partition is left without a table: its jobs save, but for the RESIDENT ones (R303); its cycles are counted
anew from its next table on (DEDUCED, log 162). -/
def State.clearTable (s : State) (n : Nat) : State :=
  let s := match s.part? n with
    | some pt => { s with parts := s.parts.put n { pt with
        table := none, next := none, slot := 0, cycles := 0, residents := [], granted := [], placed := none } }
    | none => s
  s.boundaryJobs n []

/-- A cycle ends: the B jobs that it granted in none of its slots are refused once more, and at the limit become urgent; the refused counts
of the others return to zero (R310; DEDUCED, log 82). -/
def State.countRefused (s : State) (n : Nat) (granted : NSet) : State :=
  (s.bJobs n).foldl (fun s e =>
    if granted.contains e.1 then s.modJob e.1 (fun jb => { jb with refused := 0 })
    else s.modJob e.1 (fun jb => { jb with refused := jb.refused + 1,
                                           urgent := jb.urgent || decide (s.objNat 0x2203 4 200 ≤ jb.refused + 1) })) s

/-- A table accepted (R303). -/
def State.takeTable (s : State) (n : Nat) (t : CycleTable) : State :=
  match s.part? n with
  | none => s
  | some pt =>
    if pt.table.isSome then { s with parts := s.parts.put n { pt with next := some t } }
    else if t.slots = [] then s else s.beginCycle n t

def State.writeCycleTable (s : State) (n : Nat) (r : Requester) (v : Bytes) : State :=
  s.objWriteNow r 0x2210 (n + 1) v
    (cond (s.tableBad n v) .badDescriptor ++ cond (s.tableRefused n (tableOfBytes v)) .refusedFit) (fun s => s.takeTable n (tableOfBytes v))

/-- CYCLE_TABLE_WRITE (R301 to R303). -/
def execCycleTableWrite (n : Fin 16) (r : Requester) (v : Bytes) (s : State) : Out := .next <| s.writeCycleTable n r v

/-- CYCLE_START (R303, R310): the cycle in progress ends after its last slot, and a pending table takes effect. -/
def execCycleStart (n : Fin 16) (s : State) : Out :=
  .next <|
  match s.part? n with
  | none => s
  | some pt =>
    match pt.table with
    | none => s
    | some t =>
      if pt.slot + 1 < t.slots.length then s else
      let s := s.countRefused n pt.granted
      let s := { s with parts := s.parts.put n { pt with cycles := (pt.cycles + 1) % 2 ^ 64 } }
      let t := pt.next.getD t
      if t.slots = [] then s.clearTable n else s.beginCycle n t

/-- SLOT_BOUNDARY (R304): the next slot of the cycle begins. -/
def execSlotBoundary (n : Fin 16) (s : State) : Out :=
  .next <|
  match s.part? n with
  | none => s
  | some pt =>
    match pt.table with
    | none => s
    | some t => if pt.slot + 1 < t.slots.length then s.boundary n (pt.slot + 1) else s

/-! ### Saves (R305, R308; 02 R65; 06 R165, R168) -/

/-- The array comes to rest: finished passes are counted, the running one stops at a column boundary (02 R65). -/
def State.restArray (s : State) (t : Nat) : State :=
  let s := (s.tile t).passDone.foldl (fun s d =>
    let s := if passDrains d then
        s.modTile t (fun x => { x with
          accSt := (passTiles d).foldl (fun m a => KMap.put m a .draining) x.accSt, drains := x.drains ++ drainsOf d })
      else s
    s.tbump t 5 4 1) s
  let s := s.modTile t (fun x => { x with passDone := [] })
  match (s.tile t).passRun with
  | none => s
  | some p =>
    let stat := statOf (s.tile t).statAddr p.desc
    if (psReads p.desc stat).any (fun (a, n) => s.notArrived t a n) ∨ psCols p.desc ≤ p.nextCol then s else
    let (k, s) := s.draw
    let hi := p.nextCol + k % (psCols p.desc - p.nextCol)
    (s.applyCols t p.desc stat p.nextCol hi []).modTile t (fun x => { x with passRun := some ⟨p.desc, hi⟩ })

/-- The gather descriptors of a tile come to rest: the elements issued land (06 R168). -/
def State.restGathers (s : State) (t : Nat) : State :=
  ((s.die (dieOf t)).gathers.filter (fun g => g.tile == t)).foldl (fun s g =>
    if gdIsHost g.desc then s else (s.landElements g).modGather (dieOf t) g.id (fun g => { g with landed := g.pos })) s

/-- The bytes of a run of a tile's SRAM that are not zero, by SRAM offset. -/
def State.sramBytes (s : State) (t off n : Nat) : KMap Byte :=
  (s.mem.filter (fun c => decide (sramFa t off ≤ c.1) && decide (c.1 < sramFa t off + n))).map (fun c => (c.1 - sramFa t 0, c.2))

/-- The poisoned words of a run of a tile's SRAM, by word of the SRAM. -/
def State.sramPoison (s : State) (t off n : Nat) : NSet :=
  (s.poison.filter (fun w => decide (sramFa t off ≤ 4 * w) && decide (4 * w < sramFa t off + n))).map (fun w => w - sramFa t 0 / 4)

/-- A full save record of a tile (R305). -/
def State.fullRec (s : State) (t : Nat) (d : TileDecl) : SaveRec :=
  { tile := s.tile t, gathers := (s.die (dieOf t)).gathers.filter (fun g => g.tile == t), sram := s.sramBytes t (4096 * d.first) (4096 * d.count),
    poison := s.sramPoison t (4096 * d.first) (4096 * d.count), full := true }

/-- The cheap record of a tile at a point (R308). -/
def State.cheapRec (s : State) (t : Nat) (e : CheapEntry) : SaveRec :=
  let x := s.tile t
  let live := fun (w : Nat) => e.ranges.any (fun (o, l) => decide (o ≤ accBase + 4 * w) && decide (accBase + 4 * w < o + l))
  { tile := { job := x.job, vregs := x.vregs.filter (fun v => bit e.live.toNat v.1), vl := x.vl, vsr := x.vsr, gpr := x.gpr,
              gprPoison := x.gprPoison, stream := x.stream, arrived := x.arrived, accValid := x.accValid.filter live },
    gathers := [], sram := e.ranges.foldl (fun m (o, l) => (s.sramBytes t o l).foldl (fun m c => KMap.put m c.1 c.2) m) [],
    poison := e.ranges.foldl (fun p (o, l) => (s.sramPoison t o l).foldl NSet.add p) [], full := false }

/-- A tile saved in a record: it leaves its job and is zeroed (R304, R392). -/
def State.saveAs (s : State) (t j : Nat) (rec : SaveRec) : State :=
  let s := s.modJob j (fun jb => { jb with saved := jb.saved.put t rec, cheapWait := jb.cheapWait.filter (· ≠ t) })
  let s := s.bump (okey 0x2203 (if rec.full then 1 else 2)) 1
  (s.zeroTile t).modTile t (fun x => { x with job := none })

/-- A tile saved in full at this moment (R305, R308). -/
def State.saveFull (s : State) (t j : Nat) : State :=
  match (s.job? j).bind (fun jb => jb.tileDecl t) with
  | none => s
  | some d =>
    let s := (s.restArray t).restGathers t
    (s.saveAs t j (s.fullRec t d)).tbump t 9 2 (d.saveBytes / 256)

/-- A tile's commit fence is in progress (06 R156). -/
def State.fencing (s : State) (t : Nat) : Bool := match (s.tile t).seqWait with | some (.fence _ _) => true | _ => false

/-- The counters of a job as they stand on their dies (01 R35). -/
def State.counterValues (s : State) (jb : Job) : KMap W32 := jb.counters.foldl (fun m c => KMap.put m (counterKey c) ((s.die c.die).signal c.idx)) []

/-- A save completes: SAVE regions sealed, counters kept; the job is unloaded if one waits, else IDLE. The restores that waited for it
begin, its own among them where the slot now running serves it (R298, R299, R304, R508). -/
def State.endSave (s : State) (j : Nat) : State :=
  match s.job? j with
  | none => s
  | some jb =>
    let s := (s.sealSaves jb).setJob j { jb with savePending := [], ctrSaved := s.counterValues jb }
    (if jb.unload then s.unloadNow j else s.jobTo j .idle).beginRestores

/-- SAVE_DONE (R298, R304, R305): once no tile runs on to a cheap point and no commit fence is in progress. -/
def execSaveDone (j : Fin 256) (s : State) : Out :=
  .next <|
  match s.job? j with
  | none => s
  | some jb =>
    if jb.state ≠ .saving ∨ jb.cheapWait ≠ [] ∨ jb.savePending.any s.fencing then s
    else (jb.savePending.foldl (fun s t => s.saveFull t j) s).endSave j

/-- The entry that a cheap point has for a tile (R307). -/
def Job.cheapFor (jb : Job) (point : W32) (t : Nat) : Option CheapEntry :=
  match jb.cheap.find? (fun e => e.point == point && e.tile == t) with
  | some e => some e
  | none => jb.cheap.find? (fun e => e.point == point && e.tile == 0xFFFF)

/-- A cheap point is valid on a tile (R308). -/
def State.cheapValid (s : State) (t : Nat) : Bool :=
  let x := s.tile t
  x.passQ.isEmpty && x.passRun.isNone && x.passDone.isEmpty && x.selQ.isEmpty && x.moves.isEmpty &&
  !((s.die (dieOf t)).gathers.any (fun g => g.tile == t)) && x.hamper.items.isEmpty && x.slots.isEmpty && !(s.fencing t)

/-- CHEAP_POINT (R308): away from a boundary, or at a point with no entry for the tile, it does nothing. -/
def execCheapPoint (t : TileNo) (point : W32) (s : State) : Out :=
  .next <|
  match s.seqJob t with
  | none => s
  | some j =>
    match s.job? j with
    | none => s
    | some jb =>
      if jb.state ≠ .saving then s else
      match jb.cheapFor point t with
      | none => s
      | some e => if s.cheapValid t then s.saveAs t j (s.cheapRec t e) else (s.saveFull t j).bump (okey 0x2203 3) 1

/-- CHEAP_GAP_EXPIRY (R308): the tile is saved in full at this moment; a commit fence in progress completes first (06 R156). -/
def execCheapGapExpiry (t : TileNo) (s : State) : Out :=
  .next <|
  match (s.tile t).job with
  | none => s
  | some j =>
    match s.job? j with
    | none => s
    | some jb => if jb.state ≠ .saving ∨ !(jb.cheapWait.contains t) ∨ s.fencing t then s else (s.saveFull t j).bump (okey 0x2203 3) 1

/-! ### Restores (R298, R305, R308; 01 R35; 06 R165, R168) -/

/-- The tile a record restores: caches start empty (R305; 01 R15); the hamper keeps its counters. -/
def SaveRec.restored (rec : SaveRec) (cur : Tile) (j : Nat) : Tile :=
  { rec.tile with power := .running, job := some j, dcache := [], sramWb := [], lintRow := cur.lintRow,
                  hamper := { cur.hamper with items := rec.tile.hamper.items, dropping := rec.tile.hamper.dropping } }

/-- Entries that had not fully arrived are issued again from their first byte; the bytes are counted as unused (06 R165). -/
def State.reissueStream (s : State) (t : Nat) : State :=
  match (s.tile t).stream with
  | none => s
  | some st => st.flight.foldl (fun s i =>
      match s.streamEntry t st i with
      | none => s
      | some e => ((seSrcs e).foldl (fun s (a, n) => s.request (dieOf t) (reqFeeder t) false a n) s).tbump t 9 6 (seLen e + seScaleLen e)) s

/-- One tile restored from its record. -/
def State.restoreTile (s : State) (j : Nat) (d : TileDecl) (rec : SaveRec) : State :=
  let t := d.tile
  let s := (s.wakeTile t).fillTile t rec
  let s := s.modTile t (fun cur => rec.restored cur j)
  let s := s.modDie (dieOf t) (fun x => { x with gathers := x.gathers ++ rec.gathers })
  (s.tbump t 9 1 (if rec.full then d.saveBytes / 256 else 0)).reissueStream t

/-- RESTORE_DONE (R298, R304): once the job's tiles are free of any other, every record is written and the job runs; its SAVE pages are
recycled (R159); held increments apply (01 R35); its streams start when it first runs (R293). A B job's restore may then begin (R304). A
restore that waited for a job which has ended since begins here. -/
def execRestoreDone (j : Fin 256) (s : State) : Out :=
  .next <|
  let s := s.beginRestore j
  match s.job? j with
  | none => s
  | some jb =>
    if jb.state ≠ .restoring ∨ jb.tiles.any (fun d => (s.tile d.tile).job.isSome) ∨ jb.tiles.any (fun d => (s.die (dieOf d.tile)).state ≠ .ready)
    then s
    else
      let s := jb.tiles.foldl (fun s d => match KMap.find jb.saved d.tile with | some rec => s.restoreTile j d rec | none => s) s
      let s := s.restoreCounters j jb jb.ctrSaved
      let s := (jb.regions.filter (fun g => g.kind == 3)).foldl (fun s g => s.freePages g.base g.bytes) s
      let s := (s.setJob j { jb with saved := [], started := true }).jobTo j .running
      (if jb.started then s else s.startStreams j jb).beginRestores

/-! ### Steps (R300, R311) -/

/-- The lead tile of a job: its lowest global tile (R300). -/
def Job.lead (jb : Job) : Nat := (jb.tiles.map (·.tile)).foldl min 9216

/-- A G job on whose lead tile an instruction executes. -/
def State.leadJob (s : State) (t : Nat) : Option (Nat × Job) :=
  match s.seqJob t with
  | none => none
  | some j => ((s.job? j).filter (fun jb => jb.cls == 2 && jb.lead == t)).map (fun jb => (j, jb))

/-- STEP_BEGIN (R300): the lead tile waits for a grant. -/
def execStepBegin (t : TileNo) (s : State) : Out :=
  .next <|
  match s.leadJob t with
  | none => s
  | some (j, jb) => (s.setJob j { jb with asked := true }).await t .stepBegin

/-- The slot has time for a step, or the RESIDENT job has no slot (R300). -/
def State.stepFits (s : State) (jb : Job) (remainingUs : Nat) : Bool :=
  (jb.resident && (match s.part? jb.part with | some p => p.table.isNone | none => true)) || decide (jb.stepUs ≤ remainingUs)

/-- The tiles of a job go on where they waited for a step. -/
def State.resumeSteps (s : State) (jb : Job) : State :=
  jb.tiles.foldl (fun s d => match (s.tile d.tile).seqWait with | some .stepBegin => s.resume d.tile | _ => s) s

/-- STEP_GRANT (R300, R311): a pending re-run first; a step-begin that must wait for fit is counted once. -/
def execStepGrant (j : Fin 256) (remainingUs : Nat) (s : State) : Out :=
  .next <|
  match s.job? j with
  | none => s
  | some jb =>
    if jb.state ≠ .running ∨ !jb.asked then s
    else if !(s.stepFits jb remainingUs) then
      if jb.step = .none_ then (s.setJob j { jb with step := .asked }).bump (okey 0x2203 8) 1 else s
    else
      match jb.step with
      | .rerunPending => (s.resumeSteps jb).setJob j { jb with step := .rerunRunning }
      | .none_ | .asked => (s.resumeSteps jb).setJob j { jb with step := .running, asked := false }
      | _ => s

/-- STEP_END (R300, R430): the step ends; after a re-run, the step asked for before it waits for its grant. -/
def execStepEnd (t : TileNo) (s : State) : Out :=
  .next <|
  match s.leadJob t with
  | none => s
  | some (j, jb) =>
    match jb.step with
    | .running => s.setJob j { jb with step := .none_ }
    | .rerunRunning =>
      let s := s.setJob j { jb with step := .none_ }
      if jb.asked then s.await t .stepBegin else s
    | _ => s

/-- A step abandoned: queued descriptors and transfers in flight on every tile are discarded (R311). -/
def State.abandonTile (s : State) (t : Nat) : State :=
  let s := s.modTile t (fun x => { x with
    passQ := [], passRun := none, passDone := [], drains := [], accSt := [], accOpen := [], moves := [], selQ := [], vq := [], vwait := none,
    stream := none, arrived := [], seqWait := none })
  s.modDie (dieOf t) (fun y => { y with gathers := y.gathers.filter (fun g => g.tile ≠ t) })

/-- The requests of a job's batch: those it decodes (10 R270). -/
def State.batchReqs (s : State) (j : Nat) : List W32 :=
  (s.reqs.filter (fun e => e.2.job == j && e.2.live && e.2.stage == 5 && e.2.kv.isSome && e.2.prefilled)).map (fun e => BitVec.ofNat 32 e.1)

/-- The sequencers of a job wait for the re-run's grant, but for the lead, which asks for it (R300, R311). -/
def State.holdForRerun (s : State) (jb : Job) : State :=
  jb.tiles.foldl (fun s d => if d.tile = jb.lead then s else s.await d.tile .stepBegin) s

/-- WATCHDOG_EXPIRY (R311, R429, R430): the first of a step leads to one re-run; that of the re-run ends the batch's requests. -/
def execWatchdogExpiry (j : Fin 256) (s : State) : Out :=
  .next <|
  match s.job? j with
  | none => s
  | some jb =>
    if jb.step ≠ .running ∧ jb.step ≠ .rerunRunning then s else
    let s := jb.tiles.foldl (fun s d => s.abandonTile d.tile) s
    let s := (s.bump (okey 0x2203 9) 1).log { status := if jb.step = .running then .ok else .retryExhausted, kind := 7, resource := 0x0C,
                                              job := j, count := jb.expiries + 1 }
    let jb' := { jb with expiries := jb.expiries + 1 }
    if jb.step = .running then (s.setJob j { jb' with step := .rerunPending }).holdForRerun jb
    else
      let s := s.setJob j { jb' with step := .none_ }
      let s := if jb.asked then s.await jb.lead .stepBegin else s
      (s.batchReqs j).foldl (fun s r => s.failReq r .retryExhausted) s

/-- A tile waits on an event that R312 times. -/
def Tile.timedWait (x : Tile) : Bool :=
  x.vwait.isSome ||
  match x.seqWait with
  | some (.counter _ _) | some (.stream _) | some (.gather _) | some (.select _) | some (.fence _ _) => true
  | _ => false

/-- WAIT_LIMIT_EXPIRY (R312): the job ends, and each request it was serving completes RETRY_EXHAUSTED. -/
def execWaitLimitExpiry (t : TileNo) (s : State) : Out :=
  .next <|
  match (s.tile t).job with
  | none => s
  | some j =>
    if (s.job? j).map (·.state) ≠ some .running ∨ !((s.tile t).timedWait) then s
    else ((s.failReqs j .retryExhausted).bump (okey 0x2203 0x0A) 1).endJob j .retryExhausted

/-! ### Objects (R314) -/

/-- The 32 bytes of a partition's state (R314). -/
def State.partBlob (s : State) (n : Nat) : Bytes :=
  match s.part? n with
  | none => List.replicate 32 0
  | some p =>
    let slots := (p.table.map (·.slots)).getD []
    [if p.table.isSome then 2 else 1, BitVec.ofNat 8 p.slot] ++ leBytes 2 slots.length ++ leBytes 4 ((p.table.map (·.gen.toNat)).getD 0) ++
    leBytes 8 p.cycles ++ leBytes 4 ((slots.map (·.us)).sum) ++ leBytes 4 ((p.next.map (·.gen.toNat)).getD 0xFFFFFFFF) ++ List.replicate 8 0

/-- The 32 bytes of a job (R314). -/
def State.jobBlob (s : State) (j : Nat) : Bytes :=
  match s.job? j with
  | none => List.replicate 32 0
  | some jb =>
    [BitVec.ofNat 8 jb.state.code, BitVec.ofNat 8 jb.cls, BitVec.ofNat 8 jb.part,
     (if jb.resident then 1 else 0) + (if jb.cheapSave then 2 else 0) + (if jb.privUsed then 4 else 0) + (if jb.urgent then 8 else 0),
     if jb.state = .ended then BitVec.ofNat 8 jb.endStatus.code else 0, 0, 0, 0] ++
    leBytes 4 jb.refused ++ leBytes 4 jb.tiles.length ++ leBytes 4 jb.saves ++ leBytes 4 jb.expiries ++ leBytes 8 jb.saveMost

/-- SCHED_COUNTERS_CLEAR (R314). -/
def execSchedCountersClear (r : Requester) (v : Bytes) (s : State) : Out := .next <| s.clearWrite r 0x2203 0x0B v

end Sys2Proof.Machine
end

