-- ==== Sys2Proof/Machine/Faults.lean ====
section
/-! DEFINITION. Faults: thresholds and the queue of repairs (16 R432, R433), links (16 R429 to R431), retirement of lanes, links, channels,
arrays, tiles and dies (16 R434 to R439), the fault log's summary and objects (16 R445, R446). -/

namespace Sys2Proof.Machine

/-! ### What depends on a die (R438, R439) -/

/-- A job has a tile or a region on a die. -/
def Job.onDie (jb : Job) (d : Nat) : Bool := jb.dies.contains d

/-- Jobs that hold their resources and that a test picks end ABORTED_FAULT (R439). -/
def State.abortJobs (s : State) (which : Job → Bool) : State :=
  ((s.holders.filter (fun e => which e.2)).map (·.1)).foldl (fun s j => s.endJob j .abortedFault) s

/-- Entries of a request ring not yet fetched complete ABORTED_FAULT (R439). -/
def State.abortEntries (s : State) (n : Nat) : Nat → State
  | 0 => s
  | k + 1 =>
    match s.ring? n with
    | none => s
    | some x =>
      match s.cring? x.link with
      | none => s.setRing n { x with head := x.tail }
      | some c =>
        let (h, q, s) : W32 × Request × State := s.fetch n x c
        (s.setReq h { q with conds := [.abortedFault] }).abortEntries n k

/-- A request ring homed on a die that fails: its entries, fetched or not, complete ABORTED_FAULT, and its head is its tail (R439). -/
def State.abortRing (s : State) (n : Nat) : State :=
  let live := (s.reqs.filter (fun e => e.2.ring == n && e.2.live)).map (fun e => BitVec.ofNat 32 e.1)
  let s := live.foldl (fun s r => s.failReq r .abortedFault) s
  match s.ring? n with
  | some x => s.abortEntries n (x.tail - x.head).toNat
  | none => s

/-- The jobs and the request rings of a die that leaves service (R438, R439, R441, R443). -/
def State.abortDie (s : State) (d : Nat) : State :=
  let s := s.abortJobs (fun jb => jb.onDie d)
  ((s.rings.filter (fun e => ringDie e.1 == d)).map (·.1)).foldl State.abortRing s

/-- Pages of a die have no record left: what they held is lost. -/
def State.dropPages (s : State) (d : Nat) : State := { s with pages := s.pages.filter (fun p => faDie p.base ≠ d) }

/-- A die without its stack requests. -/
def Die.noRequests (x : Die) : Die := { x with slots := [], issueQ := [], wbs := [] }

/-- A die after its tiles and uncore were reset or lost power: what its links, its sensors and the fault logic hold stays (17 R453;
R441). -/
def Die.cleared (x : Die) : Die :=
  { powered := x.powered, droop := x.droop, governor := x.governor, throttle := x.throttle, thermal := x.thermal, temp := x.temp,
    tempMax := x.tempMax, retraining := x.retraining, events := x.events, corrected := x.corrected, remapRefused := x.remapRefused,
    state := x.state }

/-- A die's tiles and uncore reset or unpowered: tiles Off, SRAM lost, pages without record. -/
def State.clearDie (s : State) (d : Nat) : State :=
  (({ s with tiles := s.tiles.delRange (144 * d) (144 * d + 144) } : State).zeroRange (sramFa (144 * d) 0) (144 * 2 ^ 21)).dropPages d |>.modDie d Die.cleared

/-! ### Thresholds (R432, R433) -/

/-- The class of a resource in the order of R433: channel, lane, array, tile; a row's remap comes after them. -/
def resOrder : Resource → Nat
  | .channel _ => 0 | .lane _ _ => 1 | .array _ => 2 | .sramMacro _ _ => 3 | .row _ _ _ => 4

/-- The number of a tile of a die. -/
def globalTile (d t : Nat) : Nat := 144 * d + t

/-- The resource is gone, or its repair or retirement already waits (R433). -/
def State.repairMoot (s : State) (d : Nat) (res : Resource) : Bool :=
  s.isRetired (.die d) || s.repairs.any (fun r => r.die == d && r.res == res) ||
  match res with
  | .channel c => s.isRetired (.channel d c)
  | .lane dir l => s.isRetired (.lane d dir l)
  | .array t => !(s.arrayLive (globalTile d t))
  | .sramMacro t _ => s.isRetired (.tile (globalTile d t)) || s.repairs.any (fun r => r.die == d && (match r.res with | .sramMacro u _ => u == t | _ => false))
  | .row c _ _ => s.channelGoing d c

/-- A waiting repair comes before a new one: its threshold was reached in an earlier cycle, or in the same one by R433's order. -/
def Repair.before (a b : Repair) : Bool :=
  decide (a.at_ < b.at_) || (a.at_ == b.at_ && (decide (a.die < b.die) || (a.die == b.die && decide (resOrder a.res ≤ resOrder b.res))))

/-- A repair or retirement put into the queue (R433); its events are spent. -/
def State.queueRepair (s : State) (d : Nat) (res : Resource) : State :=
  if s.repairMoot d res then s else
  let r : Repair := ⟨d, res, s.now⟩
  let s := s.modDie d (fun x => { x with events := x.events.filter (fun e => e.res ≠ res) })
  { s with repairs := s.repairs.takeWhile (fun a => a.before r) ++ [r] ++ s.repairs.dropWhile (fun a => a.before r) }

/-- The threshold of a resource and its window in watch cycles (R432, R446). -/
def State.threshold (s : State) (res : Resource) : Nat × Nat :=
  match res with
  | .row _ _ _ => (s.objNat 0x6001 1 2, s.objNat 0x6001 2 86400 * watchHz)
  | .channel _ => (s.objNat 0x6001 3 16, s.objNat 0x6001 4 3600 * watchHz)
  | .lane _ _ => (s.objNat 0x6001 5 64, s.objNat 0x6001 6 1000 * 25000)
  | .array _ => (s.objNat 0x6001 7 2, s.objNat 0x6001 8 3600 * watchHz)
  | .sramMacro _ _ => (s.objNat 0x6001 9 4, s.objNat 0x6001 0x0A 3600 * watchHz)

/-- Events of a resource within its window (R432). -/
def State.eventCount (s : State) (d : Nat) (res : Resource) : Nat :=
  let win := (s.threshold res).2
  ((s.die d).events.filter (fun e => e.res == res && decide (s.now ≤ e.at_ + win))).length

/-- THRESHOLD_REACHED (R432, R433): a remap refused retires its channel at once. -/
def execThresholdReached (d : DieNo) (res : Resource) (s : State) : Out :=
  .next <|
  let refused : Bool := match res with | .channel c => (s.die d).remapRefused.any (fun e => e.1 == c.val) | _ => false
  if refused ∨ s.eventCount d res ≥ (s.threshold res).1 then s.queueRepair d res else s

/-! ### Links (R427, R429 to R432) -/

/-- Lanes that errors are attributed to: 32 data lanes and 2 spares (01 R21). -/
def laneOk (l : Nat) : Bool := decide (l < 34)

/-- LINK_FLIT_ERROR (R429, R431): an event for each lane named; up to 8 replays, then one retrain of the direction. -/
def execLinkFlitError (d : DieNo) (dir : Fin 4) (lanes : List Nat) (replays : Nat) (s : State) : Out :=
  .next <|
  if s.linkRetired d dir then s else
  let evs := (lanes.filter (fun l => laneOk l && !(s.isRetired (.lane d dir l)))).map (fun l => (⟨.lane dir l, s.now⟩ : FaultEv))
  let s := s.modDie d (fun x => { x with events := x.events ++ evs, retraining := if replays > 8 then x.retraining.add dir else x.retraining })
  s.dbump d 1 3 (min replays 8)

/-- A job's traffic may cross an outbound direction: it lies on a route between two of its dies (01 R22; R435). -/
def Job.crosses (jb : Job) (d dir : Nat) : Bool :=
  jb.dies.any (fun a => jb.dies.any (fun b => (rowFirst a b).contains (d, dir) || (colFirst a b).contains (d, dir)))

/-- A step in flight is abandoned without a watchdog event, and is re-run (R430; 11 R311). -/
def State.rerunStep (s : State) (j : Nat) (jb : Job) : State :=
  let s := jb.tiles.foldl (fun s d => s.abandonTile d.tile) s
  (s.setJob j { jb with step := .rerunPending }).holdForRerun jb

/-- LINK_RETRAIN_DONE (R429, R430, R432): a lane that a failed retrain names is retired; a step whose transfers were discarded is run again. -/
def execLinkRetrainDone (d : DieNo) (dir : Fin 4) (failed : List Nat) (discarded : Bool) (s : State) : Out :=
  .next <|
  if !((s.die d).retraining.contains dir.val) then s else
  let s := s.modDie d (fun x => { x with retraining := x.retraining.del dir })
  let s := (failed.filter laneOk).foldl (fun s l => s.queueRepair d (.lane dir l)) s
  if !discarded then s else
    (s.jobs.filter (fun e => (e.2.step == .running || e.2.step == .rerunRunning) && e.2.crosses d dir)).foldl (fun s e => s.rerunStep e.1 e.2) s

/-- LINK_LOCK_LOSS (R432): the lane is to be retired. -/
def execLinkLockLoss (d : DieNo) (dir : Fin 4) (lane : Nat) (s : State) : Out :=
  .next <| if s.linkRetired d dir ∨ !(laneOk lane) then s else s.queueRepair d (.lane dir lane)

/-! ### Retirement (R434 to R438, R445) -/

/-- A resource recorded in the retired-resource map, counted for its die and logged (R444, R445, R448). -/
def State.retire (s : State) (d : Nat) (r : Retired) (rec : LogRec) : State :=
  let l := s.ledger
  let s := { s with ledger := { l with retired := l.retired ++ [r], retiredRecords := l.retiredRecords + 1 } }
  (s.dbump d 4 6 1).log { rec with kind := 5, die := d }

/-- LANE_RETIRE (R434; 01 R21): the lane is replaced or the direction narrowed, and both directions of the link retrain. -/
def execLaneRetire (d : DieNo) (dir : Fin 4) (lane : Nat) (s : State) : Out :=
  .next <|
  if !(s.nextRepair d (.lane dir lane)) then s else
  let s := s.popRepair.retire d (.lane d dir lane) { kind := 5, resource := 4, unit := dir, sub := lane }
  match neighbour d dir with
  | none => s
  | some e =>
    if s.linkRetired d dir then s else
    (s.modDie d (fun x => { x with retraining := x.retraining.add dir })).modDie e (fun x => { x with retraining := x.retraining.add (opposite dir) })

/-- The number of an outbound direction of a die. -/
def linkKey (d dir : Nat) : Nat := 4 * d + dir

/-- LINK_RETIRE (R434, R435): once a direction has fallen below 8 lanes, route tables are written, and jobs between dies that can no
longer reach one another end. -/
def execLinkRetire (d : DieNo) (dir : Fin 4) (s : State) : Out :=
  .next <|
  match neighbour d dir with
  | none => s
  | some e =>
    if !(s.linkRetired d dir) ∨ s.routed.contains (linkKey d dir) then s else
    let s := { s with routed := (s.routed.add (linkKey d dir)).add (linkKey e (opposite dir)) }
    let s := (s.modDie d (fun x => { x with retraining := x.retraining.del dir })).modDie e (fun x => { x with retraining := x.retraining.del (opposite dir) })
    let s := s.log { kind := 5, resource := 5, die := d, unit := dir }
    s.abortJobs (fun jb => s.anyUnreachable jb.dies)

/-- A region entry after a die's job space was cut at a limit: none where nothing of it is left (R436). -/
def RegionEntry.cutAt (e : RegionEntry) (limit : Nat) : Option RegionEntry :=
  if limit ≤ e.base then none
  else if e.base + e.length ≤ limit then some e
  else
    let n := (limit - e.base) / 65536 * 65536
    if n = 0 then none else some { e with length := n }

/-- Domain and slot order (R383, R436). -/
def RegionEntry.before (a b : RegionEntry) : Bool := decide (a.domain < b.domain) || (a.domain == b.domain && decide (a.slot ≤ b.slot))

/-- Region tables brought into line with a die's new space, each deletion or cut logged in domain and slot order (R436). -/
def State.cutRegions (s : State) (d : Nat) : State :=
  let limit := stackFa d (s.poolStart d)
  let keep := fun (e : RegionEntry) => if faDie e.base = d then e.cutAt limit else some e
  let hit := (s.regions.filter (fun e => keep e ≠ some e)).mergeSort RegionEntry.before
  hit.foldl (fun s e => s.log { kind := 5, resource := 0x0A, die := d, fa := e.base, job := e.domain })
    { s with regions := s.regions.filterMap keep }

/-- CHANNEL_RETIRE (R436, R439): the die's jobs and rings end; unless it was the last live channel, the die rebuilds its memory. -/
def execChannelRetire (d : DieNo) (ch : Fin 32) (s : State) : Out :=
  .next <|
  if !(s.nextRepair d (.channel ch)) then s else
  let s := s.popRepair.retire d (.channel d ch) { kind := 5, resource := 8, unit := ch }
  let s := (s.abortDie d).dropPages d
  let gone := fun (e : RemapEntry) => e.die == d.val && e.ch == ch.val
  let s := { s with ledger := { s.ledger with remaps := s.ledger.remaps.filter (fun e => !(gone e)) },
                    repairs := s.repairs.filter (fun r => !(r.die == d.val && (match r.res with | .row c _ _ => c == ch | _ => false))) }
  let s := s.modDie d (fun x => { x with remaps := x.remaps.filter (fun e => !(gone e)) })
  if s.liveChannels d = [] ∨ (s.die d).state ≠ .ready then s else
  ((s.modDie d (fun x => { x.noRequests with rebuild := true })).setDieState d .soak).cutRegions d

/-- The array of a tile retired, if it is live (R437; 02 R67): its pass and queue are discarded, and jobs that declare the tile end. -/
def State.retireArray (s : State) (t : Nat) : State :=
  if !(s.arrayLive t) then s else
  let s := s.retire (dieOf t) (.array t) { kind := 5, resource := 6, tile := tileOf t }
  let s := s.modTile t (fun x => { x with passQ := [], passRun := none, passDone := [], drains := [], accSt := [], accOpen := [] })
  s.rawTables t

/-- Jobs that declare a tile end (R439). -/
def State.abortTile (s : State) (t : Nat) : State := s.abortJobs (fun jb => (jb.tileDecl t).isSome)

/-- ARRAY_RETIRE (R437, R439; 02 R67). -/
def execArrayRetire (t : TileNo) (s : State) : Out :=
  .next <|
  if !(s.nextRepair (dieOf t) (.array ⟨tileOf t, Nat.mod_lt _ (by decide)⟩)) then s
  else (s.popRepair.retireArray t).abortTile t

/-- The repair at the head of the queue retires a tile for one of its SRAM macros (R432). -/
def State.nextTile (s : State) (t : Nat) : Bool :=
  match s.repairs with
  | r :: _ => r.die == dieOf t && (match r.res with | .sramMacro u _ => u.val == tileOf t | _ => false)
  | [] => false

/-- TILE_RETIRE (R437, R439): the tile goes Off for good, with its array. -/
def execTileRetire (t : TileNo) (s : State) : Out :=
  .next <|
  if !(s.nextTile t) then s else
  let s := s.popRepair.abortTile t
  let s := (s.retireArray t).retire (dieOf t) (.tile t) { kind := 5, resource := 7, tile := tileOf t }
  let s := s.rawTables t
  (s.zeroRange (sramFa t 0) sramEnd).setTile t {}

/-- A die has no live channel, or no tile that is not retired (R438). -/
def State.dieSpent (s : State) (d : Nat) : Bool :=
  (s.liveChannels d).isEmpty || (List.range 144).all (fun i => s.isRetired (.tile (globalTile d i)))

/-- DIE_RETIRE (R438): the die is powered off for good, but for its link ports. -/
def execDieRetire (d : DieNo) (s : State) : Out :=
  .next <|
  if s.isRetired (.die d) ∨ !(s.dieSpent d) then s else
  let s := (s.abortDie d).retire d (.die d) { kind := 5, resource := 0x0B }
  let s := { s with repairs := s.repairs.filter (fun r => r.die ≠ d.val || (match r.res with | .lane _ _ => true | _ => false)) }
  ((s.clearDie d).modDie d (fun x => { x with powered := false })).setDieState d .off

/-! ### The log's summary and objects (R445, R446, R448) -/

/-- LEDGER_SUMMARY_WRITE (R445): counts by kind, and the last 64 records of the kinds kept. -/
def execLedgerSummaryWrite (s : State) : Out :=
  .next <|
  let l := s.ledger
  let counts := l.sumPending.foldl (fun m r => KMap.put m (field r 5 1) ((KMap.getOr 0 m (field r 5 1) + 1) % 2 ^ 64)) l.sumCounts
  let recs := l.sumRecs ++ l.sumPending.filter (fun r => keptKind (field r 5 1))
  { s with ledger := { l with sumCounts := counts, sumRecs := recs.drop (recs.length - 64), sumPending := [] } }

def State.writeLogRinse (s : State) (r : Requester) (v : Bytes) : State :=
  s.objWriteNow r 0x6000 4 v (cond (v ≠ [0x01]) .badDescriptor) (fun s => { s with flog := s.flog.rinse })

/-- LOG_RINSE (R446; 04 R116). -/
def execLogRinse (r : Requester) (v : Bytes) (s : State) : Out := .next <| s.writeLogRinse r v

/-- RETIRE_COUNTERS_CLEAR (R448). -/
def execRetireCountersClear (d : DieNo) (r : Requester) (v : Bytes) (s : State) : Out :=
  .next <| s.clearWrite r (0x3004 + 16 * d) 7 v

/-- LINK_COUNTERS_CLEAR (13 R378). -/
def execLinkCountersClear (d : DieNo) (r : Requester) (v : Bytes) (s : State) : Out :=
  .next <| s.clearWrite r (0x3001 + 16 * d) 5 v

end Sys2Proof.Machine
end

