-- ==== Sys2Proof/Machine/Slots.lean ====
section
/-! DEFINITION. Slot images: the manifest and its parts, the checks an image passes, and the activation record's bytes (18 R469 to
R474). -/

namespace Sys2Proof.Machine

/-! ### Where an image lies (17 R462, 18 R469, R483) -/

/-- The flash offset of a slot (17 R462). -/
def slotBase (slotB : Bool) : Nat := if slotB then 0x08000000 else 0x01000000

/-- An image as it is held: bytes by offset, 0xFF where none is listed (R469). -/
def imgByte (m : KMap Byte) (base off : Nat) : Byte := KMap.getOr 0xFF m (base + off)
def imgBytes (m : KMap Byte) (base off n : Nat) : Bytes := (List.range n).map (fun i => imgByte m base (off + i))

/-- Every byte of a run is 0xFF. -/
def imgErased (m : KMap Byte) (base off n : Nat) : Bool := !(m.any (fun e => decide (base + off ≤ e.1) && decide (e.1 < base + off + n) && e.2 ≠ 0xFF))

def blockBytes : Nat := 65536
def manifestBytes : Nat := 8304

/-! ### The manifest (R470, R471) -/

def mfBlocks (m : Bytes) : Nat := field m 6 2
def mfRollback (m : Bytes) : Nat := field m 8 4
def mfRelease (m : Bytes) : Nat := field m 12 4
def mfBoard (m : Bytes) : Nat := field m 16 2
def mfKey (m : Bytes) : Bytes := slice m 24 32
def mfPart (m : Bytes) (i : Nat) : Bytes := slice m (64 + 64 * i) 64
def ptSize (p : Bytes) : Nat := field p 8 4
def ptOffset (p : Bytes) : Nat := field p 12 4
def ptDigest (p : Bytes) : Bytes := slice p 16 32

/-- The six part entries (R470). -/
def mfParts (m : Bytes) : List Bytes := (List.range 6).map (mfPart m)

/-- The header and the entries meet R470 and R471, and no two parts overlap (R472 check 1). -/
def manifestShape (m : Bytes) : Bool :=
  slice m 0 4 == ascii "KZMF" && field m 4 1 == 1 && field m 5 1 == 6 && decide (8 ≤ mfBlocks m) && decide (mfBlocks m ≤ 1792) &&
  decide (mfRollback m ≤ 128) && zeros m 18 2 && zeros m 56 8 &&
  (mfParts m).zipIdx.all (fun (p, i) =>
    field p 0 1 == i + 1 && zeros p 1 3 && zeros p 48 16 && decide (1 ≤ ptSize p) && ptOffset p % blockBytes == 0 &&
    decide (2 * blockBytes ≤ ptOffset p) && decide (ptOffset p + ptSize p ≤ mfBlocks m * blockBytes)) &&
  (mfParts m).zipIdx.all (fun (p, i) => (mfParts m).zipIdx.all (fun (q, j) =>
    i == j || !(rangesMeet (ptOffset p) (ptSize p) (ptOffset q) (ptSize q))))

/-- The padding of an image is 0xFF (R469, R472 check 1): after the manifest, after the block-check table, and where no part lies. -/
def paddingOk (m : KMap Byte) (base : Nat) (mf : Bytes) : Bool :=
  imgErased m base manifestBytes (blockBytes - manifestBytes) &&
  imgErased m base (blockBytes + 4 * mfBlocks mf) (blockBytes - 4 * mfBlocks mf) &&
  m.all (fun e => e.2 == 0xFF || decide (e.1 < base + 2 * blockBytes) || decide (base + mfBlocks mf * blockBytes ≤ e.1) ||
    (mfParts mf).any (fun p => decide (base + ptOffset p ≤ e.1) && decide (e.1 < base + ptOffset p + ptSize p)))

/-- Checks 2 to 5 of R472, in order: the reason of the first that fails. -/
def State.signFault (s : State) (mf : Bytes) : Option Nat :=
  if sha256 (mfKey mf) ≠ s.fuses.vendorDigest then some 2
  else if !(Config.slhVerify (mfKey mf) (slice mf 0 448) (slice mf 448 7856)) then some 3
  else if mfRollback mf < s.fuses.rollback then some 4
  else if mfBoard mf > s.fuses.boardIssue then some 5
  else none

/-- The first block whose check fails (R472 check 6): block 1 where the table itself fails. -/
def badBlock (m : KMap Byte) (base : Nat) (mf : Bytes) : Option Nat :=
  let table := imgBytes m base blockBytes (4 * mfBlocks mf)
  if (crc32c table).toNat ≠ field mf 20 4 ∨ field table 4 4 ≠ 0 then some 1
  else (List.range (mfBlocks mf)).find? (fun b => b ≠ 1 && (crc32c (imgBytes m base (blockBytes * b) blockBytes)).toNat ≠ field table (4 * b) 4)

/-- A part's bytes, and whether its digest matches (R471, R472 check 7). -/
def partBytes (m : KMap Byte) (base : Nat) (mf : Bytes) (i : Nat) : Bytes := imgBytes m base (ptOffset (mfPart mf i)) (ptSize (mfPart mf i))
def partMatches (m : KMap Byte) (base : Nat) (mf : Bytes) (i : Nat) : Bool := sha256 (partBytes m base mf i) == ptDigest (mfPart mf i)

/-- The first check of R472 that an image fails: its reason, and the block at fault where check 6 fails. -/
def State.slotFault (s : State) (m : KMap Byte) (base : Nat) : Option (Nat × Option Nat) :=
  let mf := imgBytes m base 0 manifestBytes
  if !(manifestShape mf) || !(paddingOk m base mf) then some (1, none)
  else
    match s.signFault mf with
    | some r => some (r, none)
    | none =>
      match badBlock m base mf with
      | some b => some (6, some b)
      | none => if (List.range 6).all (partMatches m base mf) then none else some (7, none)

/-! ### Slots (R480) -/

def State.slotManifest (s : State) (slotB : Bool) : Bytes := imgBytes s.ledger.flash (slotBase slotB) 0 manifestBytes

/-- A slot passes: checks 1 to 5 on its manifest (R480). -/
def State.slotPasses (s : State) (slotB : Bool) : Bool :=
  let mf := s.slotManifest slotB
  manifestShape mf && (s.signFault mf).isNone

/-! ### The activation record (R474) -/

/-- The 96 bytes of a record (R474). -/
def ActRec.bytes (a : ActRec) : Bytes :=
  [if a.slotB then 1 else 0, if a.trial then 1 else 0, BitVec.ofNat 8 a.attempts, 0] ++ leBytes 4 a.activations ++ a.active ++ a.previous ++
  List.replicate 24 0

/-- The record after a fallback to the other slot by the branch that restores the previous release (R480, R481). -/
def ActRec.reverted (a : ActRec) : ActRec :=
  { a with slotB := !a.slotB, trial := false, attempts := 0, active := a.previous, previous := List.replicate 32 0 }

/-- The record after a fallback to the other slot because the active one does not pass (R480). -/
def ActRec.switched (a : ActRec) (digest : Bytes) : ActRec :=
  { a with slotB := !a.slotB, trial := false, attempts := 0, active := digest, previous := List.replicate 32 0 }

def State.act? (s : State) : Option ActRec := (s.ledger.act.current).map (·.body)

/-- The activation record written (17 R465). -/
def State.writeAct (s : State) (a : ActRec) : State := { s with ledger := { s.ledger with act := s.ledger.act.commit a } }

end Sys2Proof.Machine
end

