-- ==== Sys2Proof/Machine/Resets.lean ====
section
/-! DEFINITION. Resets: module cold and warm, die, tile and context (17 R450 to R458; 16 R441; 19 R498), and the pins and failures that
begin them. -/

namespace Sys2Proof.Machine

/-! ### What a module reset leaves (R453, R454) -/

/-- Links already retired when routes are worked out afresh. -/
def State.routedLinks (s : State) : NSet :=
  (List.range 256).filter (fun k => (neighbour (k / 4) (k % 4)).isSome && s.linkRetired (k / 4) (k % 4))


/-- The ledger as a reset leaves it: writes under way are lost, and what is in force stays in force (R465). -/
def Ledger.afterReset (l : Ledger) : Ledger :=
  { l with act := l.act.torn l.actWrite.isSome, obj := l.obj.torn l.objWrite.isSome, actWrite := none, objWrite := none, objQueue := [] }

/-- The power state of a module in cold reset: causes that firmware and sensors raised are gone. -/
def Power.afterCold (p : Power) (hold : List Hold) : Power :=
  { p with hold := hold, tripAlert := false, coolantHold := false, coolantOk := false, heldDies := [], groups := 0, watts := 0, peak := 0,
           inlet := 0, outlet := 0, flow := 0 }

/-- The module in cold reset (R453, R454): everything but the ledger, the fuses and what its pins and supply do. -/
def State.cold (s : State) (cause : Nat) (hold : List Hold) : State :=
  let l := s.ledger.afterReset
  let l := { l with coldResets := (l.coldResets + 1) % 2 ^ 64 }
  let r : State := { State.reset with
    pending := s.pending, free := s.free, sent := s.sent, ledger := l, fuses := { s.fuses with blowing := none, deferred := [] },
    power := s.power.afterCold hold, tap := s.tap, boot := { lastReset := cause, kmem := s.boot.kmem } }
  { r with routed := r.routedLinks }

/-- A die in module warm reset: unpowered, unless it is held; its stack codes stay valid if they were (R453; 15 R412). -/
def Die.afterWarm (x : Die) : Die :=
  { temp := x.temp, tempMax := x.tempMax, thermal := x.thermal, events := x.events, corrected := x.corrected, remapRefused := x.remapRefused,
    state := if x.state = .held then .held else .off, powered := x.state == .held,
    skipFill := x.state == .ready || (x.skipFill && x.state == .off) }

/-- What boot keeps over a warm reset (R453, R454). -/
def Boot.afterWarm (b : Boot) (cause now : Nat) : Boot :=
  { lastReset := cause, kmem := b.kmem, optics := b.optics, debugOpened := b.debugOpened, reportSeq := b.reportSeq, ready := b.ready &&& 0x78,
    releasedAt := now, watchdogRecent := if cause = 3 then some now else none }

/-- What the module controller keeps of KOP over a warm reset (R453). -/
def Kop.afterWarm (k : Kop) : Kop :=
  { claimed := k.claimed, owner := k.owner, record := k.record, portActive := k.portActive, poolActive := k.poolActive }

/-- The module in warm reset (R453, R454): counters, the claim, ports and logs stay; dies, jobs, sessions, contexts and rings go. -/
def State.warm (s : State) (cause : Nat) : State :=
  let r : State := { State.reset with
    pending := s.pending, free := s.free, sent := s.sent, now := s.now, cnt := s.cnt, ledger := s.ledger.afterReset,
    fuses := { s.fuses with blowing := none, deferred := [] },
    power := { s.power with groups := 0, coolantOk := s.power.coolantOk && !s.power.coolantHold }, tap := s.tap,
    boot := s.boot.afterWarm cause s.now, kop := s.kop.afterWarm, portA := s.portA, portB := s.portB, modEvents := s.modEvents,
    flog := s.flog, flogSeq := s.flogSeq, dies := s.dies.map (fun e => (e.1, e.2.afterWarm)),
    mem := s.mem.filter (fun c => faSpace c.1 == 0), poison := s.poison.filter (fun w => faSpace (4 * w) == 0), keyed := s.keyed,
    repairs := s.repairs }
  ({ r with routed := r.routedLinks } : State).bump (okey 0x1202 3) 1

/-! ### Die and tile resets (R453, R456, R458) -/

/-- One die reset (R453, R467): it comes up again from its PLL. A trip ends with it (16 R443). -/
def State.resetDie (s : State) (d : Nat) : State :=
  let warn := s.objInt 0x2081 1 9500
  let up := decide (d / 8 < s.power.groups)
  let s := s.clearDie d
  let s := s.modDie d (fun x =>
    if x.thermal = 3 then { x with powered := up, throttle := false, thermal := if x.temp ≥ warn then 1 else 0 } else { x with powered := up })
  ({ s with power := { s.power with heldDies := s.power.heldDies.del d } } : State).setDieState d .off |>.bump (okey 0x1202 4) 1

/-- The die is above 90.00 °C and tripped, or held for coolant (16 R443; 19 R494). -/
def State.dieTooHot (s : State) (d : Nat) : Bool :=
  (((s.die d).thermal == 3 || s.power.heldDies.contains d) && decide ((s.die d).temp > 9000)) || s.power.coolantHold

def State.startDieReset (s : State) (d : Nat) (r : Requester) : State :=
  let again := s.boot.dieResets.any (fun e => e.1 == d)
  let s := { s with boot := { s.boot with dieResets := s.boot.dieResets ++ [(d, r)] } }
  if again then s else s.resetDie d

def State.writeDieReset (s : State) (r : Requester) (v : Bytes) : State :=
  let d := leNat v
  s.objWrite r 0x1200 2 v 1
    (cond (decide (d > 63) || s.isRetired (.die d)) .badDescriptor ++ cond (s.dieTooHot d) .notReady ++
     cond (s.holders.any (fun e => e.2.onDie d) || s.rings.any (fun e => ringDie e.1 == d)) .refusedFit)
    (fun s => s.startDieReset d r)

/-- DIE_RESET (R456, R458; 16 R438, R443): the reply waits until the die is ready again. -/
def execDieReset (r : Requester) (v : Bytes) (s : State) : Out := .next <| s.writeDieReset r v

def State.writeTileReset (s : State) (r : Requester) (v : Bytes) : State :=
  let t := leNat v
  s.objWriteNow r 0x1200 3 v
    (cond (decide (t > 9215) || s.isRetired (.tile t) || s.isRetired (.die (dieOf t))) .badDescriptor ++
     cond ((s.die (dieOf t)).state ≠ .ready) .notReady ++ cond (s.holders.any (fun e => (e.2.tileDecl t).isSome)) .refusedFit)
    (fun s => s.blankTile t)

/-- TILE_RESET (R453, R456, R458; 14 R391). -/
def execTileReset (r : Requester) (v : Bytes) (s : State) : Out := .next <| s.writeTileReset r v

/-- Requests for a die's reset are replied to (R456). -/
def State.answerDieResets (s : State) (d : Nat) : State :=
  let rs := s.boot.dieResets.filter (fun e => e.1 == d)
  let s := { s with boot := { s.boot with dieResets := s.boot.dieResets.filter (fun e => e.1 ≠ d) } }
  rs.foldl (fun s e => s.replyWrite e.2 (okey 0x1200 2) .ok) s

/-- SOAK_FILL_DONE (15 R412; R456; 16 R436). -/
def execSoakFillDone (d : DieNo) (ms : Nat) (s : State) : Out :=
  .next <| if (s.die d).state ≠ .soak then s else (s.soakDone d ms).answerDieResets d

/-! ### Context resets (R457, R458) -/

/-- The rings of a context stop: unfetched entries are discarded (R457 steps 1 and 3). -/
def ReqRing.stop (x : ReqRing) (c : Nat) : ReqRing := if x.ctx = c then { x with stopped := true, head := x.tail, cancelled := [], tails := [] } else x
def ReqRing.restart (x : ReqRing) (c : Nat) : ReqRing := if x.ctx = c then { x with stopped := false } else x

/-- Fetched requests of a context's rings are cancelled (R457 step 2; 10 R285). -/
def State.cancelContext (s : State) (c : Nat) : State :=
  (s.reqs.filter (fun e => e.2.ctx == c)).foldl (fun s e => s.cancelFetched e.2.ring e.2.index) s

def State.startCtxReset (s : State) (c : Nat) (r : Requester) : State :=
  let again := s.boot.ctxResets.any (fun e => e.1 == c)
  let s := { s with boot := { s.boot with ctxResets := s.boot.ctxResets ++ [(c, r)] } }
  if again then s else
  ({ s with rings := s.rings.map (fun e => (e.1, e.2.stop c)) } : State).cancelContext c

def State.writeContextReset (s : State) (r : Requester) (v : Bytes) : State :=
  let c := leNat v
  s.objWrite r 0x1200 4 v 2 (cond (c == 0 || !(s.contextLive c)) .badDescriptor) (fun s => s.startCtxReset c r)

/-- CONTEXT_RESET (R457 steps 1 to 3). -/
def execContextReset (r : Requester) (v : Bytes) (s : State) : Out := .next <| s.writeContextReset r v

/-- Queue pairs of a context return to RESET (R457 step 4); its windows stay (R453). -/
def State.resetContextQps (s : State) (c : Nat) : State :=
  let ws := s.windows
  let s := ((s.qps.filter (fun e => e.2.ctx == c)).map (·.1)).foldl State.qpToReset s
  { s with windows := ws }

/-- CONTEXT_RESET_DONE (R457 step 4): every cancelled request has completed. -/
def execContextResetDone (c : W16) (s : State) : Out :=
  .next <|
  let c := c.toNat
  let rs := s.boot.ctxResets.filter (fun e => e.1 == c)
  if rs = [] ∨ s.reqs.any (fun e => e.2.ctx == c) then s else
  let s := s.resetContextQps c
  let s := { s with events := s.events.put c (s.ctxQueue c).rinse, rings := s.rings.map (fun e => (e.1, e.2.restart c)),
                    boot := { s.boot with ctxResets := s.boot.ctxResets.filter (fun e => e.1 ≠ c) } }
  rs.foldl (fun s e => s.replyWrite e.2 (okey 0x1200 4) .ok) s

/-! ### Module resets by KOP (R456) -/

def State.scheduleReset (s : State) (k : ResetKind) : State :=
  let k := if s.boot.pendingReset = some .cold then .cold else k
  { s with boot := { s.boot with pendingReset := some k } }

def State.writeModuleReset (s : State) (r : Requester) (v : Bytes) : State :=
  s.objWriteNow r 0x1200 1 v (cond (v ≠ [0x01] && v ≠ [0x02]) .badDescriptor)
    (fun s => s.scheduleReset (if v = [0x02] then .cold else .warm))

/-- MODULE_RESET_WARM (R456); a value of 0x02 is MODULE_RESET_COLD's. -/
def execModuleResetWarm (r : Requester) (v : Bytes) (s : State) : Out := .next <| if v = [0x02] then s else s.writeModuleReset r v

/-- MODULE_RESET_COLD (R456); a value of 0x01 is MODULE_RESET_WARM's. -/
def execModuleResetCold (r : Requester) (v : Bytes) (s : State) : Out := .next <| if v = [0x01] then s else s.writeModuleReset r v

/-- The straps are sampled as the always-on domain leaves cold reset; it stays held where the reference is missing or CLK_SEL is reserved
(R450). -/
def State.leaveCold (s : State) (bootSel clkSel : BitVec 2) (refOk : Bool) : State :=
  let hold : List Hold := if clkSel = 3 then [.clkSel] else if clkSel ≠ 0 ∧ !refOk then [.reference] else []
  { s with power := { s.power with bootSel := bootSel, clkSel := clkSel, hold := hold } }

/-- MODULE_RESET_BEGIN (R456; 18 R478, R481): 10 ms after the reply. A cold reset samples the straps as they stand. -/
def execModuleResetBegin (s : State) : Out :=
  .next <|
  if s.fuses.blowing.isSome then s else
  match s.boot.pendingReset with
  | none => s
  | some .warm => s.warm 4
  | some .cold => (s.cold 5 []).leaveCold s.power.bootSel s.power.clkSel true

/-! ### Pins, supply and watchdog (R450, R452, R455; 19 R488, R498) -/

/-- A fuse cut short by a loss of power reads blown or not (19 R498). -/
def State.tornFuse (s : State) : State :=
  match s.fuses.blowing with
  | none => s
  | some job =>
    let (v, s) := s.draw
    let blown := v % 2 == 1
    match job with
    | .seal _ second =>
      { s with fuses := if second then { s.fuses with seal1 := s.fuses.seal1 || blown } else { s.fuses with seal0 := s.fuses.seal0 || blown } }
    | .rollback _ _ => { s with fuses := { s.fuses with rollback := s.fuses.rollback + if blown then 1 else 0 } }

/-- Power-good deasserts: the module is held in cold reset, every die loses power, and the TAP with it (19 R488, R500). -/
def State.powerLoss (s : State) : State :=
  let s := s.tornFuse.cold 1 [.power]
  { s with power := { s.power with good := false }, tap := {} }

/-- POWER_GOOD_LOSS (R455; 19 R488). -/
def execPowerGoodLoss (s : State) : Out := .next <| if s.power.good then s.powerLoss else s

/-- POWER_GOOD (R450, R455; 19 R487, R488): the bus has stayed in 46 to 58 V for 10 ms with the input charged. -/
def execPowerGood (mv : Nat) (bootSel clkSel : BitVec 2) (refOk : Bool) (s : State) : Out :=
  .next <|
  if s.power.good ∨ !s.power.charged ∨ mv < 46000 ∨ mv > 58000 then s else
  let s := { s with power := { s.power with good := true, busMv := mv, band := .operating } }
  ({ s with boot := { s.boot with lastReset := 1 } } : State).leaveCold bootSel clkSel refOk

/-- The straps and RESET_N act only on the boundary register while EXTEST is in force (19 R501). -/
def State.extest (s : State) : Bool := s.tap.ir == 0

/-- RESET_N_ASSERT (R455; 19 R498): deferred while a fuse is being programmed. -/
def execResetNAssert (s : State) : Out :=
  .next <|
  if !s.power.good ∨ s.extest ∨ s.power.hold.contains .resetN then s
  else if s.fuses.blowing.isSome then
    (if s.fuses.deferred.contains .resetN then s else { s with fuses := { s.fuses with deferred := s.fuses.deferred ++ [.resetN] } })
  else s.cold 2 [.resetN]

/-- RESET_N_RELEASE (R450, R455). -/
def execResetNRelease (bootSel clkSel : BitVec 2) (refOk : Bool) (s : State) : Out :=
  .next <| if s.power.good ∧ s.power.hold.contains .resetN then s.leaveCold bootSel clkSel refOk else s

/-- REF_LOSS (R452): the selected external reference is gone; the loss is counted in the always-on domain. -/
def execRefLoss (s : State) : Out :=
  .next <|
  if !s.power.good ∨ s.power.hold ≠ [] ∨ s.power.clkSel = 0 then s
  else
    let n := s.count (okey 0x2000 2)
    (s.cold 6 [.reference]).bump (okey 0x2000 2) (n + 1)

/-- REF_RECOVER (R450, R452): the reference has been within tolerance for 1 ms. -/
def execRefRecover (bootSel clkSel : BitVec 2) (s : State) : Out :=
  .next <| if s.power.good ∧ s.power.hold.contains .reference then s.leaveCold bootSel clkSel true else s

/-- The watchdog's reset: warm, or cold within 10 s of the end of the warm reset it began (R455). -/
def State.watchdogReset (s : State) : State :=
  match s.boot.watchdogRecent with
  | some t => if s.now ≤ t + 10 * watchHz then (s.cold 3 []).leaveCold s.power.bootSel s.power.clkSel true else s.warm 3
  | none => s.warm 3

/-- MC_WATCHDOG (R455; 19 R498). -/
def execMcWatchdog (s : State) : Out :=
  .next <|
  if !s.power.good ∨ s.power.hold ≠ [] ∨ s.boot.mode = .none_ then s
  else if s.fuses.blowing.isSome then
    (if s.fuses.deferred.contains .watchdog then s else { s with fuses := { s.fuses with deferred := s.fuses.deferred ++ [.watchdog] } })
  else s.watchdogReset

/-- Resets that waited for a fuse take effect, the wider one first (R458; 19 R498). -/
def State.runDeferred (s : State) : State :=
  let ds := s.fuses.deferred
  let s := { s with fuses := { s.fuses with deferred := [] } }
  if ds.contains .resetN then s.cold 2 [.resetN] else if ds.contains .watchdog then s.watchdogReset else s

/-! ### Escalations (16 R439, R441) -/

/-- A die event: the die's jobs end as if a channel had been retired, and the die is reset (16 R441). -/
def State.escalateDie (s : State) (d : Nat) : State :=
  if s.isRetired (.die d) ∨ ((s.die d).state ≠ .ready ∧ (s.die d).state ≠ .soak) then s else
  let s := s.log { kind := 0x0B, resource := 0x0B, die := d }
  (s.abortDie d).resetDie d

/-- STEWARD_LOCKUP (16 R427, R441). -/
def execStewardLockup (d : DieNo) (s : State) : Out := .next <| s.escalateDie d

/-- STEWARD_UNCORRECTABLE (16 R427, R441). -/
def execStewardUncorrectable (d : DieNo) (s : State) : Out := .next <| s.escalateDie d

/-- MC_UNCORRECTABLE (16 R441). -/
def execMcUncorrectable (s : State) : Out :=
  .next <| if s.power.hold ≠ [] ∨ !s.power.good then s else (s.log { kind := 0x0B, resource := 0x0C }).warm 7

/-- CLOCK_COUNTERS_CLEAR (R467). -/
def execClockCountersClear (d : DieNo) (r : Requester) (v : Bytes) (s : State) : Out :=
  .next <| s.clearWrite r (0x3002 + 16 * d) 6 v

/-- DIE_COUNTERS_CLEAR (13 R378). -/
def execDieCountersClear (d : DieNo) (r : Requester) (v : Bytes) (s : State) : Out :=
  .next <| s.clearWrite r (0x3000 + 16 * d) 9 v

end Sys2Proof.Machine
end

