-- ==== Sys2Proof/Machine/Boot.lean ====
section
/-! DEFINITION. Bring-up: the ledger read at boot (17 R464), the choice of a slot and the boot chain (14 R396, R397; 18 R480), recovery
mode and network boot (18 R482, R483), and the dies' way up (17 R459). -/

namespace Sys2Proof.Machine

/-! ### The ledger at boot (R464) -/

/-- Which bank holds the copy taken at boot: the later of two valid ones, bank 0 where their numbers are equal (R464). -/
def Banks.pick {α : Type} (b : Banks α) : Option Bool :=
  match b.bank0, b.bank1 with
  | none, none => none
  | some _, none => some false
  | none, some _ => some true
  | some x, some y => some (decide ((y.seq - x.seq).toInt > 0))

/-- A pair as boot reads it; a bank out of force that holds a copy is still to be erased (R465). -/
def Banks.read {α : Type} (b : Banks α) : Banks α :=
  let f := b.pick
  { b with inForce := f, erasing := b.erasing || (b.bank0.isSome && b.bank1.isSome) }

/-- An entry names an RWP object and has a length the object has; one that does not is skipped (R464). Role keys are no objects. -/
def entryFits (key : Nat) (v : Bytes) : Bool :=
  match objRow (key / 256) (key % 256) with
  | some o => o.acc == .rwp && decide (o.vLo ≤ v.length) && decide (v.length ≤ o.vHi)
  | none => false

/-- Persisted objects in force, and what takes effect at a module reset with them (R464; 12 R327, R347). -/
def State.loadObjects (s : State) : State :=
  let s := if s.ledger.obj.current.isNone then s.log { kind := 2, resource := 0x0C } else s
  let s := { s with objs := s.persisted.foldl (fun (m : KMap Bytes) (e : Nat × Bytes) => if entryFits e.1 e.2 then m.put e.1 e.2 else m) s.objs }
  { s with kop := { s.kop with portActive := s.objNat 0x1100 8 41870, poolActive := s.objNat 0x2300 0x10 512 } }

/-- LEDGER_BOOT_READ (R464), within BOOT_ROM. -/
def State.readLedger (s : State) : State :=
  { s with ledger := { s.ledger with act := s.ledger.act.read, obj := s.ledger.obj.read } }

/-! ### The running image (R396, R397) -/

/-- Where the running image lies: a slot, or the module controller's memory in network boot (18 R483). -/
def State.imageAt (s : State) : KMap Byte × Nat :=
  if s.boot.mode = .network then (s.boot.image, 0) else (s.ledger.flash, slotBase s.boot.slotB)

/-- Part i + 1 of the running image, and whether its digest is the manifest's. -/
def State.imagePart (s : State) (i : Nat) : Bytes := partBytes s.imageAt.1 s.imageAt.2 s.boot.manifest i
def State.imagePartOk (s : State) (i : Nat) : Bool := partMatches s.imageAt.1 s.imageAt.2 s.boot.manifest i

/-- A measurement: M[i] extended once per boot (R397). -/
def State.measure (s : State) (i : Nat) (part : Bytes) : State :=
  if s.boot.measured.contains i then s else
  { s with boot := { s.boot with measured := s.boot.measured.add i,
                                 measure := s.boot.measure.set i (sha256 (s.boot.measure.getD i [] ++ sha256 part)) } }

/-! ### Recovery mode (18 R482) -/

/-- The boot ROM serves alone: port A starts again at its own rate, port B is down, LEDGER and KEYS alone are set (R482, R483). -/
def State.serveRom (s : State) (mode : BootMode) (waiting : Bool) : State :=
  let s := { s with boot := { s.boot with mode := mode, waiting := waiting, slotB := false, manifest := [] }, portA := {}, portB := {} }
  s.loadObjects.withReady 3 0x1FC

def State.enterRecovery (s : State) : State := s.serveRom .recovery false

/-! ### The choice of a slot (18 R480) -/

/-- A fallback is counted and logged (R480). -/
def State.noteFallback (s : State) : State := (s.bump (okey 0x2800 7) 1).log { kind := 0x0B, resource := 0x0C }

/-- A write of the record by the boot ROM; where it fails, the record in force stands (R480). -/
def State.bootRecord (s : State) (a : ActRec) (ok : Bool) : State :=
  if ok then s.writeAct a else s.log { kind := 2, resource := 0x0C }

/-- The trial branches of R480. -/
def State.trialBoot (s : State) (a : ActRec) (ok : Bool) : State :=
  if !a.trial then s
  else if s.fuses.rollback = mfRollback (s.slotManifest a.slotB) ∧ s.fuses.rollback > mfRollback (s.slotManifest (!a.slotB)) then
    s.bootRecord { a with trial := false, attempts := 0 } ok
  else if a.attempts = 3 then
    let s := s.bootRecord a.reverted ok
    if ok then s.noteFallback else s
  else s.bootRecord { a with attempts := a.attempts + 1 } ok

/-- The record's active slot passes (R480). -/
def State.activePasses (s : State) (a : ActRec) : Bool := s.slotPasses a.slotB && sha256 (s.slotManifest a.slotB) == a.active

/-- Boot falls back to the slot that `a` does not name (R480). -/
def State.fallBack (s : State) (a : ActRec) (ok : Bool) : State :=
  (s.bootRecord (a.switched (sha256 (s.slotManifest (!a.slotB)))) ok).noteFallback

/-- BOOT_SELECT (R480), within BOOT_ROM: the slot to boot, if one passes. -/
def State.bootSelect (s : State) (ok : Bool) : State × Option Bool :=
  match s.act? with
  | none => (s, none)
  | some a =>
    let s := s.trialBoot a ok
    match s.act? with
    | none => (s, none)
    | some a =>
      if s.activePasses a then (s, some a.slotB)
      else if s.slotPasses (!a.slotB) then (s.fallBack a ok, some (!a.slotB))
      else (s, none)

/-- A part of the running slot fails its digest: the other slot is tried after a warm reset, else the module enters recovery mode
(R480). -/
def State.partFailed (s : State) (ok : Bool) : State :=
  let other := !s.boot.slotB
  match s.boot.mode, s.act? with
  | .slot, some a =>
    if s.slotPasses other then (s.fallBack { a with slotB := !other } ok).warm 7
    else ({ s.warm s.boot.lastReset with cnt := s.cnt } : State).enterRecovery
  | _, _ => ({ s.warm s.boot.lastReset with cnt := s.cnt } : State).enterRecovery

/-! ### The boot chain (R396) -/

/-- The optical engines' firmware: loaded after a cold reset and verified, measured as it runs after a warm one (18 R478); none where the part
fails. -/
def State.loadOptics (s : State) : Option State :=
  match s.boot.optics with
  | some copy => some (s.measure 5 copy)
  | none =>
    if s.imagePartOk 5 then
      some (({ s with boot := { s.boot with optics := some (s.imagePart 5) } } : State).measure 5 (s.imagePart 5))
    else none

/-- Steps 1 to 3 of R396 on the running image, and the optical part of step 4: LEDGER and KEYS are set (R459). `record` is what M[7]
measures. -/
def State.bootChain (s : State) (record : Bytes) (ok : Bool) : State :=
  if !(s.imagePartOk 0) || !(s.imagePartOk 1) then s.partFailed ok else
  let s := (((s.measure 6 s.boot.manifest).measure 7 record).measure 0 (s.imagePart 0)).measure 1 (s.imagePart 1)
  let s := { s with boot := { s.boot with kmem := s.boot.kmem + 1 } }
  match s.loadOptics with
  | none => s.partFailed ok
  | some s => s

/-- The image that network boot received is started (18 R483). -/
def State.networkStart (s : State) : State :=
  let mf := imgBytes s.boot.image 0 0 manifestBytes
  let s := { s with boot := { s.boot with waiting := false, manifest := mf } }
  let s := s.bootChain (List.replicate 96 0) true
  s.withReady (if s.boot.mode = .network ∧ s.portA.rate ≠ 0 then linkBit .a else 0) 0

/-- The slot chosen is booted (R396). -/
def State.bootFrom (s : State) (b : Bool) (ok : Bool) : State :=
  let s := ({ s with boot := { s.boot with mode := .slot, slotB := b, manifest := s.slotManifest b } } : State)
  let s := s.bootChain ((s.act?.map ActRec.bytes).getD []) ok
  if s.boot.mode = .slot then s.loadObjects.withReady 3 0 else s

/-- BOOT_ROM from the ledger (R480; R396). -/
def State.bootSlot (s : State) (ok : Bool) : State :=
  match s.bootSelect ok with
  | (s, none) => s.enterRecovery
  | (s, some b) => s.bootFrom b ok

/-- The boot source is the strap's (R451). -/
def State.bootBy (s : State) (sel : Nat) (ok : Bool) : State :=
  match sel with
  | 0 => s.bootSlot ok
  | 1 => s.serveRom .network true
  | 2 => s.enterRecovery
  | _ => s.enterRecovery.log { status := .badDescriptor, kind := 4, resource := 0x0C, reason := 7 }

/-- The watch over a second watchdog expiry runs from the end of the warm reset (R455). -/
def Boot.begun (b : Boot) (now : Nat) : Boot := { b with watchdogRecent := b.watchdogRecent.map (fun _ => now) }

/-- BOOT_ROM (R396; R451, R464; 18 R480, R482, R483). -/
def execBootRom (recordOk : Bool) (s : State) : Out :=
  .next <|
  if !s.power.good ∨ s.power.hold ≠ [] ∨ s.boot.mode ≠ .none_ then s
  else (({ s with boot := s.boot.begun s.now } : State).readLedger).bootBy s.power.bootSel.toNat recordOk

/-- AK_DERIVED (R396 step 3, R460): ATTEST is set. -/
def execAkDerived (s : State) : Out :=
  .next <| if s.boot.mode = .none_ ∨ s.recovery ∨ readyBit s 2 ∨ !(readyBit s 1) then s else s.withReady 4 0

/-! ### The dies (R459) -/

/-- The module controller's firmware runs, and the module is not held in cold reset. -/
def State.running (s : State) : Bool := s.power.good && s.power.hold == [] && s.boot.mode ≠ .none_ && !s.recovery

/-- A die gets power, unless it is retired (16 R438) or already held with its power on. -/
def State.powerDie (s : State) (d : Nat) : State :=
  if s.isRetired (.die d) then s else s.modDie d (fun x => { x with powered := true })

/-- DIE_POWER_GROUP (R459; 19 R494): the next eight dies, once the coolant allows. -/
def execDiePowerGroup (s : State) : Out :=
  .next <|
  if !s.running ∨ !s.power.coolantOk ∨ s.power.coolantHold ∨ s.power.groups ≥ 8 then s else
  let g := s.power.groups
  let s := (List.range 8).foldl (fun s i => s.powerDie (8 * g + i)) s
  { s with power := { s.power with groups := g + 1 } }

/-- DIE_PLL_LOCK (R459, R467; 14 R396 step 4): the die's parts are verified, measured and loaded. -/
def execDiePllLock (d : DieNo) (recordOk : Bool) (s : State) : Out :=
  .next <|
  let x := s.die d
  if !s.running ∨ !x.powered ∨ x.pll ∨ x.state ≠ .off ∨ s.isRetired (.die d) then s
  else if [2, 3, 4].all s.imagePartOk then
    ([2, 3, 4].foldl (fun s i => s.measure i (s.imagePart i)) (s.modDie d (fun x => { x with pll := true }))).dbump d 2 5 1
  else s.partFailed recordOk

/-- PHY_TRAINED (R459; 15 R412, R418): the die's remaps are installed, and its fill may start; after a warm reset that kept its stacks the
die is ready. A die whose training fails stays off. -/
def execPhyTrained (d : DieNo) (ok : Bool) (s : State) : Out :=
  .next <|
  let x := s.die d
  if !s.running ∨ !x.pll ∨ x.phy ∨ x.state ≠ .off ∨ s.isRetired (.die d) then s
  else if !ok then
    (s.modDie d (fun x => { x with pll := false, powered := false })).log { kind := 0x0B, resource := 0x0B, die := d }
  else
    let s := s.modDie d (fun x => { x with phy := true, skipFill := false, remaps := s.ledger.remaps.filter (fun e => e.die == d.val) })
    if x.skipFill then (s.setDieState d .ready).answerDieResets d else s

end Sys2Proof.Machine
end

