-- ==== Sys2Proof/Machine/Supply.lean ====
section
/-! DEFINITION. Supply and temperature: the governor (16 R442), the dies' thermal states (16 R443), the coolant (19 R492, R494), the 54 V
bus (19 R487, R488) and the pins ALERT_N and PWRGD (19 R495, R497). -/

namespace Sys2Proof.Machine

/-! ### The governor (R442) -/

/-- The power the governor works to, in W (R442; 19 R488). -/
def State.powerLimit (s : State) : Nat :=
  let l := s.objNat 0x2080 1 17000
  if s.power.band = .low then min l (350 * s.power.busMv / 1000) else l

/-- A 1 ms average as the objects report it (R447). -/
def State.notePower (s : State) (watts : Nat) : State :=
  { s with power := { s.power with watts := watts, peak := max s.power.peak watts } }

/-- One die stretched by the governor, and counted (R442, R447). -/
def State.governDie (s : State) (d : Nat) : State :=
  if (s.die d).governor then s else (s.stretch d (fun x => { x with governor := true })).dbump d 0xC 5 1

/-- GOVERNOR_STRETCH (R442): `d` is the unstretched die of the highest power. -/
def execGovernorStretch (d : DieNo) (watts : Nat) (s : State) : Out :=
  .next <|
  if !s.running ∨ watts ≤ s.powerLimit ∨ !(s.die d).powered ∨ (s.die d).stretched then s
  else (s.notePower watts).governDie d

/-- GOVERNOR_RELEASE (R442): below 95 % of the limit. -/
def execGovernorRelease (d : DieNo) (watts : Nat) (s : State) : Out :=
  .next <|
  if !s.running ∨ 100 * watts ≥ 95 * s.powerLimit ∨ !(s.die d).governor then s
  else (s.notePower watts).stretch d (fun x => { x with governor := false })

/-- Dies that have power, by number. -/
def State.poweredDies (s : State) : List Nat := (s.dies.filter (fun e => e.2.powered)).map (·.1)

/-- SUPPLY_TRIP (R442; 19 R497): more than 19,000 W for 50 µs. -/
def execSupplyTrip (watts : Nat) (s : State) : Out :=
  .next <|
  if !s.running ∨ watts ≤ 19000 then s else
  let s := s.poweredDies.foldl State.governDie s
  let s := { s with power := { s.power with tripAlert := true } }
  (s.bump (okey 0x2080 8) 1).log { kind := 0x0A, resource := 0x0C }

/-- SUPPLY_TRIP_ALERT_END (19 R497): 100 ms after the trip. -/
def execSupplyTripAlertEnd (s : State) : Out := .next <| { s with power := { s.power with tripAlert := false } }

/-! ### Thermal states (R443) -/

def State.dieWarn (s : State) : Int := s.objInt 0x2081 1 9500
def State.dieThrottle (s : State) : Int := s.objInt 0x2081 2 10500

/-- A reading of a die's hottest sensor (R443, R447). -/
def State.noteTemp (s : State) (d : Nat) (t : Int) : State :=
  s.modDie d (fun x => { x with temp := t, tempMax := max x.tempMax t })

def State.setThermal (s : State) (d : Nat) (n : Nat) : State := s.modDie d (fun x => { x with thermal := n })

/-- A crossing of the warning threshold is logged once (R443). -/
def State.logThermal (s : State) (d : Nat) : State := s.log { kind := 9, resource := 0x0B, die := d }
def State.noteCrossing (s : State) (d : Nat) : State := if (s.die d).thermal = 0 then s.logThermal d else s

/-- THERMAL_WARN (R443): a crossing of die_warn, upward or back. -/
def execThermalWarn (d : DieNo) (temp : Int) (s : State) : Out :=
  .next <|
  if !(s.die d).powered then s else
  let s := s.noteTemp d temp
  if temp ≥ s.dieWarn then (if (s.die d).thermal = 0 then (s.logThermal d).setThermal d 1 else s)
  else if (s.die d).thermal = 1 then s.setThermal d 0 else s

/-- THERMAL_THROTTLE (R443): the die is stretched. -/
def execThermalThrottle (d : DieNo) (temp : Int) (s : State) : Out :=
  .next <|
  if !(s.die d).powered ∨ temp < s.dieThrottle ∨ (s.die d).thermal ≥ 2 then s else
  let s := ((s.noteTemp d temp).noteCrossing d).setThermal d 2
  (s.stretch d (fun x => { x with throttle := true })).dbump d 0xC 4 1

/-- THERMAL_THROTTLE_END (R443): 10 ms below the threshold less 5 °C. -/
def execThermalThrottleEnd (d : DieNo) (temp : Int) (s : State) : Out :=
  .next <|
  if temp ≥ s.dieThrottle - 500 ∨ (s.die d).thermal ≠ 2 then s else
  let s := (s.noteTemp d temp).setThermal d (if temp ≥ s.dieWarn then 1 else 0)
  s.stretch d (fun x => { x with throttle := false })

/-- A die held in reset: its jobs end as if it had been retired, and its tiles and uncore are reset (R439, R443). -/
def State.holdDie (s : State) (d : Nat) : State := ((s.abortDie d).clearDie d).setDieState d .held

/-- THERMAL_TRIP (R443): 115.00 °C for 1 ms. -/
def execThermalTrip (d : DieNo) (temp : Int) (s : State) : Out :=
  .next <|
  if !(s.die d).powered ∨ temp < 11500 ∨ (s.die d).thermal = 3 ∨ s.isRetired (.die d) then s
  else (((s.noteTemp d temp).noteCrossing d).setThermal d 3).holdDie d

/-- THERMAL_COUNTERS_CLEAR (R447). -/
def execThermalCountersClear (d : DieNo) (r : Requester) (v : Bytes) (s : State) : Out :=
  .next <| s.clearWrite r (0x3000 + 16 * d + 0xC) 6 v

/-! ### Coolant (19 R492, R494) -/

/-- Within the operating range of R492. -/
def coolantInRange (inlet : Int) (flow : Nat) : Bool :=
  decide (1800 ≤ inlet) && decide (inlet ≤ 4500) && decide (600 ≤ flow) && decide (flow ≤ 1200)

/-- Outside the limits of R494. -/
def coolantOutside (inlet : Int) (flow : Nat) (sensorFault : Bool) : Bool :=
  decide (flow < 450) || decide (inlet > 5000) || decide (inlet < 1000) || sensorFault

def Power.coolant (p : Power) (inlet outlet : Int) (flow : Nat) : Power := { p with inlet := inlet, outlet := outlet, flow := flow }

/-- The module is out of cold reset. -/
def State.awake (s : State) : Bool := s.power.good && s.power.hold == []

/-- A die of the coolant hold (R494). -/
def State.coolHold (s : State) (d : Nat) : State :=
  if s.isRetired (.die d) then s else
  let s := { s with power := { s.power with heldDies := s.power.heldDies.add d } }
  if (s.die d).state = .held then s else s.holdDie d

/-- COOLANT_HOLD (R494; 16 R443): every die with power is held in reset. -/
def execCoolantHold (inlet : Int) (outlet : Int) (flow : Nat) (sensorFault : Bool) (s : State) : Out :=
  .next <|
  if !s.awake ∨ s.power.coolantHold ∨ !(coolantOutside inlet flow sensorFault) then s else
  let s := { s with power := { s.power.coolant inlet outlet flow with coolantHold := true } }
  s.poweredDies.foldl State.coolHold s

/-- A held die that reads 90.00 °C or below gets a die reset (R494). -/
def State.releaseDie (s : State) (d : Nat) : State := if (s.die d).temp ≤ 9000 then s.resetDie d else s

/-- COOLANT_RELEASE (R494): 10 s within the operating range. -/
def execCoolantRelease (inlet : Int) (outlet : Int) (flow : Nat) (s : State) : Out :=
  .next <|
  if !s.awake ∨ !s.power.coolantHold ∨ !(coolantInRange inlet flow) then s else
  let s := { s with power := { s.power.coolant inlet outlet flow with coolantHold := false, coolantOk := true } }
  s.power.heldDies.foldl State.releaseDie s

/-- HELD_DIE_COOLED (R494). -/
def execHeldDieCooled (d : DieNo) (temp : Int) (s : State) : Out :=
  .next <|
  if !s.awake ∨ s.power.coolantHold ∨ temp > 9000 ∨ !(s.power.heldDies.contains d.val) then s
  else (s.noteTemp d temp).resetDie d

/-- COOLANT_QUALIFIED (R494; 17 R459): 1 s within the operating range, and die power is enabled. -/
def execCoolantQualified (inlet : Int) (outlet : Int) (flow : Nat) (s : State) : Out :=
  .next <|
  if !s.awake ∨ s.power.coolantOk ∨ s.power.coolantHold ∨ !(coolantInRange inlet flow) then s
  else { s with power := { s.power.coolant inlet outlet flow with coolantOk := true } }

/-! ### The 54 V bus (19 R487, R488) -/

def State.setBus (s : State) (mv : Nat) (b : BusBand) : State := { s with power := { s.power with busMv := mv, band := b } }

/-- BUS_INSERT (R487): the input capacitance is charged; power-good follows under POWER_GOOD. -/
def execBusInsert (mv : Nat) (s : State) : Out :=
  .next <|
  if s.power.good then s else
  let b : BusBand := if mv < 44000 then .under else if mv < 48000 then .low else if mv ≤ 58000 then .operating
    else if mv ≤ 60000 then .high else .over
  let s := s.setBus mv b
  { s with power := { s.power with charged := true } }

/-- BUS_HIGH_BAND (R488). -/
def execBusHighBand (mv : Nat) (s : State) : Out :=
  .next <| if !s.power.good ∨ mv ≤ 58000 ∨ mv > 60000 then s else s.setBus mv .high

/-- BUS_HIGH_BAND_EXIT (R488). -/
def execBusHighBandExit (mv : Nat) (s : State) : Out :=
  .next <| if s.power.band ≠ .high ∨ mv < 48000 ∨ mv > 58000 then s else s.setBus mv .operating

/-- BUS_OVERVOLT (R488): the power stages stop. -/
def execBusOvervolt (mv : Nat) (s : State) : Out :=
  .next <| if !s.power.good ∨ mv ≤ 60000 then s else s.powerLoss.setBus mv .over

/-- BUS_LOW_BAND (R488): more than 1 ms in 44 to 48 V. -/
def execBusLowBand (mv : Nat) (s : State) : Out :=
  .next <| if !s.power.good ∨ mv < 44000 ∨ mv ≥ 48000 then s else s.setBus mv .low

/-- BUS_LOW_RECOVER (R488). -/
def execBusLowRecover (mv : Nat) (s : State) : Out :=
  .next <| if s.power.band ≠ .low ∨ mv < 48000 ∨ mv > 58000 then s else s.setBus mv .operating

/-- BUS_UNDERVOLT (R488): power-good deasserts; the input capacitance holds no charge once the bus is gone. -/
def execBusUndervolt (mv : Nat) (s : State) : Out :=
  .next <|
  if !s.power.good ∨ mv ≥ 44000 then s else
  let s := s.powerLoss.setBus mv .under
  { s with power := { s.power with charged := s.power.charged && mv ≠ 0 } }

/-! ### Pins (19 R495, R497, R501) -/

/-- A cause of ALERT_N holds (R497). -/
def State.alertCause (s : State) : Bool :=
  s.power.hold.contains .reference || s.power.hold.contains .clkSel || s.dies.any (fun e => e.2.thermal == 3) ||
  s.power.coolantHold || s.power.heldDies ≠ [] || s.power.band == .low || s.power.band == .high || s.power.tripAlert ||
  s.boot.mode == .recovery

/-- The boundary register before its first Update-DR: ALERT_N, bit 1, released, and PWRGD, bit 2, high as the module drives it (R501). -/
def boundaryReset : Byte := 0x06

/-- ALERT_N is driven low; without power-good it cannot be (R497), and under EXTEST the boundary register drives it (R501). -/
def State.alertLow (s : State) : Bool :=
  s.power.good && (if s.tap.ir = 0 then !(bit (s.tap.boundary.getD boundaryReset).toNat 1) else s.alertCause)

/-- PWRGD is high (R495, R501). -/
def State.pwrgd (s : State) : Bool := s.power.good && (if s.tap.ir = 0 then bit (s.tap.boundary.getD boundaryReset).toNat 2 else true)

end Sys2Proof.Machine
end

