-- ==== Sys2Proof/Machine/Service.lean ====
section
/-! DEFINITION. The TAP of the service connector (19 R500 to R502; 14 R401, R402). -/

namespace Sys2Proof.Machine

/-- Update-IR: the TAP works in every reset state while power-good is asserted (R500). -/
def State.tapSelect (s : State) (ir : Byte) : State := if s.power.good then { s with tap := { s.tap with ir := ir } } else s

/-- The device identification (R501). -/
def idcode : W32 := 0x1A6408C3

/-- TAP_EXTEST (R501): the boundary register is selected, and drives ALERT_N and PWRGD. -/
def execTapExtest (s : State) : Out := .next <| s.tapSelect 0x00

/-- TAP_IDCODE (R501): the device identification is selected and shifted out. -/
def execTapIdcode (s : State) : Out := .next <| if s.power.good then (s.tapSelect 0x02).send (.tdo idcode) else s

/-- TAP_BYPASS (R501). -/
def execTapBypass (s : State) : Out := .next <| s.tapSelect 0xFF

/-- TAP_VENDOR_DEBUG (R501, R502; 14 R402): while the seal is open, a debug connection opens; once it is blown, the code selects the
bypass register. -/
def execTapVendorDebug (code : Byte) (s : State) : Out :=
  .next <|
  if !s.power.good ∨ code < 0x10 ∨ code > 0x3F then s
  else if s.sealBlown then s.tapSelect 0xFF
  else { s with tap := { s.tap with ir := code, debugOpen := true }, boot := { s.boot with debugOpened := true } }

/-- TAP_TEST_LOGIC_RESET (R501, R502): IDCODE is selected, and a debug connection closes. -/
def execTapTestLogicReset (s : State) : Out :=
  .next <| if s.power.good then { s with tap := { s.tap with ir := 0x02, debugOpen := false } } else s

/-- TAP_UPDATE_DR (R501): under EXTEST the boundary register is loaded. -/
def execTapUpdateDr (bits : Byte) (s : State) : Out :=
  .next <| if s.power.good ∧ s.tap.ir = 0 then { s with tap := { s.tap with boundary := some bits } } else s

end Sys2Proof.Machine
end

