-- ==== Sys2Proof/Machine/Firmware.lean ====
section
/-! DEFINITION. Firmware update: staging, activation, trial and confirmation (18 R473 to R481, R484), fuses in programming (19 R498), and
the ends of the ledger's writes and erases (17 R465; 13 R354; 14 R395). -/

namespace Sys2Proof.Machine

/-! ### Staging (18 R475, R476, R479) -/

def State.setStage (s : State) (st : Staging) : State := { s with boot := { s.boot with stage := st } }

/-- The staging state becomes FAILED: counted and logged, with the status that the failing step is replied with (R479, R484). -/
def State.stageFail (s : State) (reason : Nat) (st : Status) (bad : Option Nat) : State :=
  let s := s.setStage { s.boot.stage with state := .failed, reason := reason, bad := match bad with | some b => BitVec.ofNat 32 b | none => 0xFFFFFFFF }
  (s.bump (okey 0x2800 8) 1).log { status := st, kind := 4, resource := 0x0C, reason := 7 }

/-- The record in force is in TRIAL. -/
def State.inTrial (s : State) : Bool := match s.act? with | some a => a.trial | none => false

/-- The target of staging: the slot that the record does not name, slot A where no record is valid (R476, R482). -/
def State.stageTarget (s : State) : Bool := match s.act? with | some a => !a.slotB | none => false

/-- Network boot waits for its image (18 R483). -/
def State.networkWait (s : State) : Bool := s.boot.mode == .network && s.boot.waiting

/-- Most blocks a prepare takes: a slot's, or what the module controller's memory holds (R476, R483). -/
def State.stageMax (s : State) : Nat := if s.networkWait then 1024 else 1792

/-- A prepare is refused with REFUSED_FIT (R476, R483). -/
def State.prepareRefused (s : State) : Bool :=
  (!s.networkWait && (s.inTrial || s.boot.mode == .network)) ||
  [.erasing, .staging, .verifying, .activating].contains s.boot.stage.state

/-- A prepare accepted: the slot's blocks are erased; network boot's memory is empty at once (R476, R483). -/
def State.prepare (s : State) (n : Nat) : State :=
  if s.networkWait then
    let s := s.setStage { state := .empty, prepared := n, erased := n }
    { s with boot := { s.boot with image := [] } }
  else
    let b := s.stageTarget
    let s := s.setStage { state := .erasing, prepared := n, targetB := b }
    { s with ledger := { s.ledger with flash := s.ledger.flash.delRange (slotBase b) (slotBase b + n * blockBytes) } }

def State.writePrepare (s : State) (r : Requester) (v : Bytes) : State :=
  let n := leNat v
  s.objWriteNow r 0x2801 1 v (cond (decide (n < 8) || decide (n > s.stageMax)) .badDescriptor ++ cond s.prepareRefused .refusedFit)
    (fun s => s.prepare n)

/-- STAGE_PREPARE (R476). -/
def execStagePrepare (r : Requester) (v : Bytes) (s : State) : Out := .next <| s.writePrepare r v

/-- PREPARE_ERASE_DONE (R475, R479): every block reads back 0xFF, or `badBlock` is the first that does not. -/
def execPrepareEraseDone (badBlock : Option Nat) (s : State) : Out :=
  .next <|
  let st := s.boot.stage
  if st.state ≠ .erasing then s else
  match badBlock with
  | none => s.setStage { st with state := .empty, erased := st.prepared }
  | some b =>
    if b < st.prepared then (s.setStage { st with erased := b }).stageFail 8 .retryExhausted (some b)
    else s.setStage { st with state := .empty, erased := st.prepared }

/-- Where a staged image is held. -/
def State.stageAt (s : State) : KMap Byte × Nat :=
  if s.networkWait then (s.boot.image, 0) else (s.ledger.flash, slotBase s.boot.stage.targetB)

/-! ### Activation (18 R478, R482) -/

/-- The record an activation writes (R478): the other slot's digest is the running release's, or in recovery mode that of a slot that
passes (R482). -/
def State.activation (s : State) : ActRec :=
  let b := s.boot.stage.targetB
  let prev := if s.boot.mode = .recovery then (if s.slotPasses (!b) then sha256 (s.slotManifest (!b)) else List.replicate 32 0)
    else sha256 s.boot.manifest
  let n := match s.act? with | some a => a.activations | none => 0
  ⟨b, true, 0, (n + 1) % 2 ^ 32, sha256 (s.slotManifest b), prev⟩

/-- An activation begins: the target is checked again, and the record is to be written (R478). -/
def State.activate (s : State) (r : Requester) (value : Nat) : State :=
  match s.slotFault s.ledger.flash (slotBase s.boot.stage.targetB) with
  | some (reason, bad) => (s.stageFail reason .badDescriptor bad).replyWrite r (okey 0x2801 4) .badDescriptor
  | none =>
    let a := s.activation
    let s := s.setStage { s.boot.stage with state := .activating }
    { s with ledger := { s.ledger with actWrite := some (.activate r value a) } }

def State.writeActivate (s : State) (r : Requester) (v : Bytes) : State :=
  let value := leNat v
  s.objWrite r 0x2801 4 v 1
    (cond (value == 0 || decide (value > 3)) .badDescriptor ++ cond (s.boot.mode == .network) .refusedFit ++
     cond (s.boot.stage.state ≠ .verified) .notReady)
    (fun s => s.activate r value)

/-- The value of a one-byte write is that of another row of the table. -/
def otherValue (v : Bytes) (mine : Byte) (others : List Byte) : Bool := v ≠ [mine] && others.any (fun b => v == [b])

/-- ACTIVATE_WARM (R478): value 0x01. -/
def execActivateWarm (r : Requester) (v : Bytes) (s : State) : Out :=
  .next <| if otherValue v 1 [1, 2, 3] then s else s.writeActivate r v

/-- ACTIVATE_COLD (R478): value 0x02. -/
def execActivateCold (r : Requester) (v : Bytes) (s : State) : Out :=
  .next <| if otherValue v 2 [1, 2, 3] then s else s.writeActivate r v

/-- ACTIVATE_DEFER (R478): value 0x03. -/
def execActivateDefer (r : Requester) (v : Bytes) (s : State) : Out :=
  .next <| if otherValue v 3 [1, 2, 3] then s else s.writeActivate r v

/-! ### Trial (18 R481) -/

/-- The rollback value of the release in a slot. -/
def State.slotRollback (s : State) (slotB : Bool) : Nat := mfRollback (s.slotManifest slotB)

/-- The record is to be written CONFIRMED (R481). -/
def State.confirmRecord (s : State) (r : Requester) (a : ActRec) : State :=
  { s with ledger := { s.ledger with actWrite := some (.confirm r { a with trial := false, attempts := 0 }) } }

/-- A confirm begins: fuses first, where the counter is below the release's rollback (R473, R481). -/
def State.confirm (s : State) (r : Requester) : State :=
  match s.act? with
  | none => s.replyWrite r (okey 0x2801 5) .refusedFit
  | some a =>
    if s.fuses.rollback < s.slotRollback a.slotB then
      { s with fuses := { s.fuses with blowing := some (.rollback r (s.slotRollback a.slotB)) } }
    else s.confirmRecord r a

/-- A revert begins (R481). -/
def State.revert (s : State) (r : Requester) : State :=
  match s.act? with
  | none => s.replyWrite r (okey 0x2801 5) .refusedFit
  | some a => { s with ledger := { s.ledger with actWrite := some (.revert r a.reverted) } }

/-- The previous release lies below the counter (R481). -/
def State.revertBarred (s : State) : Bool :=
  match s.act? with | some a => decide (s.slotRollback (!a.slotB) < s.fuses.rollback) | none => false

def State.writeConfirm (s : State) (r : Requester) (v : Bytes) : State :=
  s.objWrite r 0x2801 5 v 1
    (cond (v ≠ [0x01] && v ≠ [0x02]) .badDescriptor ++
     cond (s.boot.mode == .network || !s.inTrial || (v == [0x02] && s.revertBarred)) .refusedFit)
    (fun s => if v = [0x02] then s.revert r else s.confirm r)

/-- CONFIRM (R481): value 0x01. -/
def execConfirm (r : Requester) (v : Bytes) (s : State) : Out := .next <| if otherValue v 1 [1, 2] then s else s.writeConfirm r v

/-- REVERT (R481): value 0x02. -/
def execRevert (r : Requester) (v : Bytes) (s : State) : Out := .next <| if otherValue v 2 [1, 2] then s else s.writeConfirm r v

/-! ### Fuses (18 R473; 19 R498; 14 R401) -/

def State.setBlowing (s : State) (j : Option FuseJob) : State := { s with fuses := { s.fuses with blowing := j } }

/-- A fuse programmed: what follows it (R473, R481; 14 R401). -/
def State.fuseGood (s : State) : FuseJob → State
  | .seal r false => ({ s with fuses := { s.fuses with seal0 := true } } : State).setBlowing (some (.seal r true))
  | .seal r true => (({ s with fuses := { s.fuses with seal1 := true } } : State).setBlowing none).replyWrite r (okey 0x2901 2) .ok
  | .rollback r target =>
    let s := { s with fuses := { s.fuses with rollback := s.fuses.rollback + 1 } }
    if s.fuses.rollback < target then s
    else match s.act? with
      | some a => (s.setBlowing none).confirmRecord r a
      | none => s.setBlowing none

/-- A fuse that could not be programmed (R481). -/
def State.fuseBad (s : State) : FuseJob → State
  | .seal r _ => (s.setBlowing none).replyWrite r (okey 0x2901 2) .retryExhausted
  | .rollback r _ => (s.setBlowing none).replyWrite r (okey 0x2801 5) .retryExhausted

/-- A fuse's programming ends (19 R498): a reset that waited for it takes effect. -/
def State.fuseDone (s : State) (ok : Bool) : State :=
  match s.fuses.blowing with
  | none => s
  | some j =>
    let s := if ok then s.fuseGood j else s.fuseBad j
    if s.fuses.deferred = [] then s else s.runDeferred

/-! ### The ledger's writes and erases (17 R465) -/

/-- The erase of the bank out of force ends; a copy left in it is gone (R465). -/
def Banks.erased {α : Type} (b : Banks α) : Banks α :=
  match b.inForce with
  | some false => { b with bank1 := none, erasing := false }
  | _ => { b with bank0 := none, erasing := false }

/-- LEDGER_ERASE_DONE (R465): a write that waited for the erase may start. -/
def execLedgerEraseDone (objects : Bool) (s : State) : Out :=
  .next <|
  if objects then
    (if s.ledger.obj.erasing then ({ s with ledger := { s.ledger with obj := s.ledger.obj.erased } } : State).nextObjWrite else s)
  else if s.ledger.act.erasing then { s with ledger := { s.ledger with act := s.ledger.act.erased } } else s

/-- What a persisted value brings about once it is in force: a port restarts under its mode (12 R317), a role's other sessions close
(14 R395), an object holds its value. -/
def State.inForce (s : State) (w : LedgerWrite) : State :=
  if w.key = okey 0x2900 1 then s.closeSessions w.r.sid (fun x => x.role == field w.v 0 1)
  else
    let s := { s with objs := s.objs.put w.key w.v }
    if w.key = okey 0x2401 1 then s.restartPort .a else if w.key = okey 0x2402 1 then s.restartPort .b else s

/-- The write of the persisted objects ends (R465; 13 R354). -/
def State.objWritten (s : State) (ok : Bool) : State :=
  match s.ledger.objWrite with
  | none => s
  | some w =>
    if s.ledger.obj.erasing then s
    else if ok then
      let s := { s with ledger := { s.ledger with obj := s.ledger.obj.commit w.body, objWrite := none } }
      (((s.inForce w).replyWrite w.r w.key .ok)).nextObjWrite
    else
      let s := { s with ledger := { s.ledger with obj := s.ledger.obj.torn true, objWrite := none } }
      (s.replyWrite w.r w.key .retryExhausted).nextObjWrite

/-- The record's write ends for what asked for it (R478, R479, R481). -/
def State.actDone (s : State) (ok : Bool) : ActWrite → State
  | .activate r value a =>
    let s := s.setStage { s.boot.stage with state := .verified }
    if !ok then s.replyWrite r (okey 0x2801 4) .retryExhausted else
    let s := (s.writeAct a).replyWrite r (okey 0x2801 4) .ok
    if value = 3 then s else s.scheduleReset (if value = 2 ∨ s.boot.mode = .recovery then .cold else .warm)
  | .confirm r a => if ok then (s.writeAct a).replyWrite r (okey 0x2801 5) .ok else s.replyWrite r (okey 0x2801 5) .retryExhausted
  | .revert r a =>
    if ok then ((s.writeAct a).replyWrite r (okey 0x2801 5) .ok).scheduleReset .warm else s.replyWrite r (okey 0x2801 5) .retryExhausted

/-- The write of the activation record ends (R465). -/
def State.actWritten (s : State) (ok : Bool) : State :=
  match s.ledger.actWrite with
  | none => s
  | some w =>
    if s.ledger.act.erasing then s else
    let l := s.ledger
    let s := { s with ledger := { l with actWrite := none, act := if ok then l.act else l.act.torn true } }
    s.actDone ok w

/-- FW_COUNTERS_CLEAR (R484). -/
def execFwCountersClear (r : Requester) (v : Bytes) (s : State) : Out := .next <| s.clearWrite r 0x2800 9 v

end Sys2Proof.Machine
end

