-- ==== Sys2Proof/Machine/Dictionary.lean ====
section
/-! DEFINITION. What every object of the dictionary reads as (13 R352, R374 to R378, and the object tables of the other chapters). A
counter, and any object not named here, reads as its count in `State.cnt`. -/

namespace Sys2Proof.Machine

/-! ### Shared pieces -/

/-- The 16 bytes of an address, most significant first. -/
def addrBytes (a : BitVec 128) : Bytes := (leBytes 16 a.toNat).reverse

/-- A byte with the bits of which `f` holds set; a run of such bytes. -/
def bitByte (f : Nat → Bool) (base : Nat) : Byte :=
  BitVec.ofNat 8 (((List.range 8).map (fun i => if f (base + i) then 2 ^ i else 0)).sum)
def bitMap (f : Nat → Bool) (n : Nat) : Bytes := (List.range n).map (fun k => bitByte f (8 * k))

/-- A value in two's complement on four bytes. -/
def i32Bytes (v : Int) : Bytes := leBytes 4 (BitVec.ofInt 32 v).toNat

/-- Live and fused arrays of a die (02 R68). -/
def State.arrayFused (s : State) (t : Nat) : Bool := !(s.fuses.arraysOff.contains t)
def State.arraysOf (s : State) (f : State → Nat → Bool) (d : Nat) : Nat := ((List.range 144).filter (fun t => f s (144 * d + t))).length

/-- The handles of a kind that are loaded. -/
def loadedCount {α : Type} (m : KMap α) (n : Nat) : Bytes := leBytes n m.length

/-! ### Identity, claim, sessions (00 R3; 04 R93; 12 R347; 13 R376, R377) -/

def State.identityObj (s : State) : Nat → Option Bytes
  | 1 => some (ascii "Thewen")
  | 2 => some (ascii "KZ-64")
  | 3 => some s.fuses.serial
  | 4 => some (leBytes 2 s.fuses.boardIssue)
  | 5 => some (leBytes 4 s.fuses.made)
  | 6 => some [1]
  | 7 => some [1, 0]
  | _ => none

def State.gradeObj (s : State) : Nat → Option Bytes
  | 1 => some (leBytes 1 s.fuses.grade)
  | 2 => some (leBytes 2 (9216 - s.fuses.arraysOff.length))
  | 3 => some (leBytes 1 ((List.range 64).foldl (fun n d => min n (s.arraysOf State.arrayFused d)) 144))
  | 4 => some (leBytes 2 (((List.range 64).map (s.arraysOf State.arrayLive)).sum))
  | _ => none

def vectorObj : Nat → Option Bytes
  | 1 => some [1, 0]
  | 2 => some [128, 0]
  | 3 => some [32]
  | 4 => some [64, 0]
  | _ => none

/-- The module shows itself as claimed; the boot ROM shows no claim (18 R482). -/
def State.claimShown (s : State) : Bool := s.kop.claimed && !s.recovery
def State.unitShown (s : State) : Nat := if s.recovery then 0 else s.unit

/-- A port's link-local address; zero while it has none (12 R342, R347). -/
def linkLocal (x : PortState) : Bytes :=
  match x.iid with
  | some i => [0xFE, 0x80, 0, 0, 0, 0, 0, 0] ++ (leBytes 8 i.toNat).reverse
  | none => List.replicate 16 0

/-- The 48 bytes of a port's addresses (12 R347). -/
def State.portAddr (s : State) (p : Port) : Bytes :=
  linkLocal (s.port p) ++ [0, 0, 0, 0] ++ (if s.kop.claimed then slice s.kop.record (4 + 32 * p.code) 28 else List.replicate 28 0)

def State.claimObj (s : State) : Nat → Option Bytes
  | 1 => some [if s.claimShown then 1 else 0]
  | 2 => some (leBytes 2 s.unitShown)
  | 3 => some (addrBytes s.kop.owner)
  | 5 => some (s.portAddr .a)
  | 6 => some (s.portAddr .b)
  | 9 => some s.fuses.macA
  | 0xA => some s.fuses.macB
  | 0xB => some (leBytes 2 s.kop.portActive)
  | _ => none

def State.kopObj (s : State) (sn : Session) : Nat → Option Bytes
  | 1 => some (leBytes 1 s.kop.sessions.length)
  | 2 => some (leBytes 1 sn.role)
  | 3 => some (leBytes 4 sn.mask.toNat)
  | _ => none

/-- The 32 bytes of a session (13 R377). -/
def State.sessionBlob (s : State) (slot : Nat) : Bytes :=
  match s.kop.sessions.find? (fun x => x.slot == slot) with
  | none => List.replicate 32 0
  | some x =>
    [1, BitVec.ofNat 8 x.role, BitVec.ofNat 8 x.port.code, 0] ++ leBytes 4 x.sid.toNat ++ leBytes 4 x.high.toNat ++
    leBytes 4 ((s.now - x.last) / watchHz) ++ addrBytes x.src

/-! ### Resets, readiness, clocks, supply (16 R447; 17 R467) -/

def State.resetObj (s : State) : Nat → Option Bytes
  | 1 => some (leBytes 1 s.boot.lastReset)
  | 2 => some (leBytes 8 s.ledger.coldResets)
  | _ => none

def State.readyObj (s : State) : Nat → Option Bytes
  | 1 => some (leBytes 4 s.boot.ready.toNat)
  | 2 => some (leBytes 8 s.diesReady)
  | 3 => some (leBytes 4 s.boot.bringupMs)
  | _ => none

def State.refObj (s : State) : Nat → Option Bytes
  | 1 => some (leBytes 1 s.power.clkSel.toNat)
  | 3 => some (leBytes 2 1750)
  | _ => none

def State.supplyObj (s : State) : Nat → Option Bytes
  | 2 => some (leBytes 4 s.power.watts)
  | 3 => some (leBytes 4 s.power.peak)
  | 4 => some (leBytes 4 s.power.busMv)
  | 5 => some (i32Bytes s.power.inlet)
  | 6 => some (i32Bytes s.power.outlet)
  | 7 => some (leBytes 4 s.power.flow)
  | _ => none

/-! ### Memory integrity, fault log (15 R424; 16 R446) -/

/-- Remaps in force on every die, in ascending order (15 R420). -/
def State.remapList (s : State) : List RemapEntry := s.dies.flatMap (fun e => e.2.remaps)

def State.lintObj (s : State) : Nat → Option Bytes
  | 2 => some (leBytes 4 s.remapList.length)
  | 3 => some (s.remapList.flatMap RemapEntry.bytes)
  | _ => none

def State.logObj (s : State) : Nat → Option Bytes
  | 1 => some (leBytes 2 s.flog.packets)
  | 2 => some (leBytes 8 s.flog.lost)
  | 3 => some (s.flog.items.flatMap QItem.bytes)
  | 5 => some ((List.range 11).flatMap (fun k => leBytes 8 (KMap.getOr 0 s.ledger.sumCounts (k + 1))) ++
      slice s.ledger.sumRecs.flatten 0 4096)
  | _ => none

/-! ### Jobs, rings, tenancy (11 R314; 12 R348, R349; 14 R403) -/

def State.jobsObj (s : State) : Nat → Option Bytes
  | 1 => some (loadedCount s.jobs 2)
  | 3 => some (leBytes 4 s.lastLoad.toNat)
  | _ => none

/-- The cycle table in force, or 16 zero bytes (11 R314). -/
def State.tableInForce (s : State) (n : Nat) : Bytes :=
  (((KMap.find s.parts n).bind (·.table)).map (·.bytes)).getD (List.replicate 16 0)

def State.selStats (s : State) (sn : Session) : Bytes :=
  match (s.selected sn).bind s.queue? with
  | some q => q.stats
  | none => List.replicate 24 0

def State.ringsObj (s : State) (sn : Session) : Nat → Option Bytes
  | 1 => some (loadedCount s.rings 4)
  | 2 => some (loadedCount s.crings 4)
  | 5 => some (leBytes 4 sn.ringSel.toNat)
  | 6 => some (s.ringBlob sn.ringSel.toNat)
  | 9 => some (leBytes 2 sn.qpSel)
  | 0xA => some (s.qpBlob sn.qpSel)
  | 0xC => some (leBytes 4 sn.evSel.toNat)
  | 0xF => some (s.selStats sn)
  | 0x18 => some (leBytes 2 s.kop.poolActive)
  | _ => none

/-- The 32 bytes of a region entry (14 R383). -/
def RegionEntry.bytes (e : RegionEntry) : Bytes :=
  leBytes 2 e.domain ++ leBytes 2 e.slot ++
  [if e.own then 1 else 2, BitVec.ofNat 8 ((if e.read then 1 else 0) + (if e.write then 2 else 0))] ++ leBytes 2 e.owner ++
  leBytes 6 e.base ++ [0, 0] ++ leBytes 8 e.length ++ List.replicate 8 0

/-- Entries in domain and slot order. -/
def insRegion (e : RegionEntry) : List RegionEntry → List RegionEntry
  | [] => [e]
  | x :: r => if e.domain * 64 + e.slot ≤ x.domain * 64 + x.slot then e :: x :: r else x :: insRegion e r

def State.tenancyObj (s : State) : Nat → Option Bytes
  | 1 => some (loadedCount s.contexts 4)
  | 2 => some (leBytes 4 ((s.domains.filter (·.2.live)).length))
  | 8 => some (leBytes 2 s.regions.length)
  | _ => none

def State.contextTable (s : State) : Bytes :=
  (List.range 65536).flatMap (fun c => match KMap.find s.contexts c with
    | some d => leBytes 2 d ++ [1, 0, 0, 0, 0, 0]
    | none => List.replicate 8 0)
def State.domainTable (s : State) : Bytes :=
  (List.range 65536).flatMap (fun d => match KMap.find s.domains d with
    | some x => [if x.live then 1 else 0, 0, 0, 0] ++ leBytes 4 x.gen
    | none => List.replicate 8 0)
def State.regionTable (s : State) : Bytes := (s.regions.foldr insRegion []).flatMap RegionEntry.bytes

/-- A port's link_state and lanes_up (12 R349). -/
def portObj (x : PortState) : Nat → Option Bytes
  | 2 => some [if x.rate = 800 then 2 else if x.rate = 400 then 1 else 0]
  | 3 => some [x.lanes]
  | _ => none

/-! ### Firmware and security (14 R404; 18 R484) -/

def State.fwObj (s : State) : Nat → Option Bytes
  | 1 => some [match s.act? with | some a => (if a.slotB then 1 else 0) | none => 0]
  | 2 => some [if s.inTrial then 1 else 0]
  | 3 => some [match s.act? with | some a => BitVec.ofNat 8 a.attempts | none => 0]
  | 4 => some (leBytes 4 s.fuses.rollback)
  | 5 => some (leBytes 4 (mfRelease s.boot.manifest))
  | 6 => some [match s.boot.mode with | .network => 1 | .recovery => 2 | _ => 0]
  | _ => none

def StageState.code : StageState → Byte
  | .none_ => 0 | .erasing => 1 | .empty => 2 | .staging => 3 | .verifying => 4 | .verified => 5 | .failed => 6 | .activating => 7

/-- The 16 bytes of stage_state (18 R484). -/
def Staging.bytes (x : Staging) : Bytes :=
  [x.state.code, BitVec.ofNat 8 x.reason, if x.targetB then 1 else 0, 0] ++ leBytes 4 x.erased ++ leBytes 4 x.programmed ++ leBytes 4 x.bad.toNat

/-- Which role keys have been written, as 0x2900:02 shows them. -/
def State.keysSet (s : State) : Byte :=
  bitByte (fun i => decide (i < 3) && (KMap.find s.persisted (roleKeyAt (i + 1))).isSome) 0

def State.securityObj (s : State) (idx sub : Nat) : Option Bytes :=
  match idx, sub with
  | 0x2900, 2 => some [s.keysSet]
  | 0x2901, 1 => some [if s.sealBlown then 1 else 0]
  | 0x2901, 3 => some [if s.boot.debugOpened then 1 else 0]
  | 0x2902, 1 => some (slice s.fuses.vendorDigest 0 32)
  | 0x2902, 2 => some (slice s.fuses.akPublic 0 32)
  | 0x2902, 3 => some (slice s.fuses.akCert 0 7904)
  | 0x2903, i => some (s.boot.measure.getD (i - 1) [])
  | 0x2910, 2 => some (s.boot.report.getD [])
  | _, _ => none

/-! ### Dies (13 R378 and the tables of R375) -/

def DieState.code : DieState → Byte
  | .off => 0 | .soak => 1 | .ready => 2 | .held => 3

/-- Tiles of a die in a power state; a waking tile is still in the state it wakes from (01 R37, R38). -/
def TilePower.settled : TilePower → TilePower
  | .waking .gated => .gated
  | .waking .retention => .retention
  | .waking .off => .off
  | p => p
def State.tilesIn (s : State) (d : Nat) (p : TilePower) : Nat :=
  ((List.range 144).filter (fun t => (s.tile (144 * d + t)).power.settled == p)).length

def State.partitionOf (s : State) (d : Nat) : Byte :=
  match s.parts.find? (fun e => e.2.holds d) with
  | some e => BitVec.ofNat 8 e.1
  | none => 0xFF

/-- Append pages of a die that are tracked: those of every job that holds its resources (06 R155). -/
def State.pagesTracked (s : State) (d : Nat) : Nat :=
  (s.holders.map (fun e => ((e.2.regions.filter (fun g => g.kind == 2 && faDie g.base == d)).map (·.pages)).sum)).sum

def State.dieObj0 (s : State) (d : Nat) : Nat → Option Bytes
  | 1 => some [(s.die d).state.code]
  | 2 => some [s.partitionOf d]
  | 3 => some (leBytes 1 (s.tilesIn d .running))
  | 4 => some (leBytes 1 (s.tilesIn d .gated))
  | 5 => some (leBytes 1 (s.tilesIn d .retention))
  | 6 => some (leBytes 1 (s.tilesIn d .off))
  | 7 => some [if (s.die d).stretched then 1 else 0]
  | _ => none

def State.dieObj1 (s : State) (d : Nat) : Nat → Option Bytes
  | 1 => some ((List.range 4).map (fun x => BitVec.ofNat 8 (s.linkWidth d x)))
  | 2 => some (leBytes 1 (((List.range 4).map (fun x => min (s.lanesRetired d x) 2 * 4 ^ x)).sum))
  | _ => none

def State.dieObj4 (s : State) (d : Nat) : Nat → Option Bytes
  | 1 => some (bitMap (fun c => !(s.isRetired (.channel d c))) 4)
  | 2 => some (leBytes 8 (s.stackBytes d))
  | 3 => some (bitMap (fun t => s.isRetired (.tile (144 * d + t))) 18)
  | 4 => some ((List.range 4).map (fun x => BitVec.ofNat 8 (s.lanesRetired d x)))
  | _ => none

def State.dieObj5 (s : State) (d : Nat) : Nat → Option Bytes
  | 1 => some (bitMap (fun t => s.arrayLive (144 * d + t)) 18)
  | 2 => some (bitMap (fun t => s.arrayFused (144 * d + t)) 18)
  | 3 => some (leBytes 1 (s.arraysOf State.arrayLive d))
  | _ => none

def State.dieObjC (s : State) (d : Nat) : Nat → Option Bytes
  | 1 => some (i32Bytes (s.die d).temp)
  | 2 => some (i32Bytes (s.die d).tempMax)
  | 3 => some (leBytes 1 (s.die d).thermal)
  | _ => none

/-- An object of a die's block, by its place k in it (R375). -/
def State.dieObj (s : State) (d k sub : Nat) : Option Bytes :=
  match k, sub with
  | 0, n => s.dieObj0 d n
  | 1, n => s.dieObj1 d n
  | 3, 0xC => some (leBytes 4 (s.die d).lintPos)
  | 3, 0xD => some (leBytes 2 (s.die d).remaps.length)
  | 4, n => s.dieObj4 d n
  | 5, n => s.dieObj5 d n
  | 9, 0xD => some (leBytes 4 (s.pagesTracked d))
  | 0xB, 6 => some (leBytes 2 (s.recordsOf d))
  | 0xC, n => s.dieObjC d n
  | _, _ => none

/-! ### Stored objects (R352) -/

/-- The defaults of the RW and RWP objects that are not zero (R352). -/
def objDefaults : List (Nat × Nat) :=
  [(okey 0x1100 8, 41870), (okey 0x1110 4, 60), (okey 0x2300 0x10, 512), (okey 0x2400 1, 0x0403), (okey 0x2400 2, 100),
   (okey 0x2100 1, 86400), (okey 0x2203 4, 200), (okey 0x2080 1, 17000), (okey 0x2081 1, 9500), (okey 0x2081 2, 10500),
   (okey 0x6001 1, 2), (okey 0x6001 2, 86400), (okey 0x6001 3, 16), (okey 0x6001 4, 3600), (okey 0x6001 5, 64), (okey 0x6001 6, 1000),
   (okey 0x6001 7, 2), (okey 0x6001 8, 3600), (okey 0x6001 9, 4), (okey 0x6001 0xA, 3600)]

/-- The value in force of an RW or RWP object (R352). -/
def State.storedObj (s : State) (idx sub : Nat) (o : ObjRow) : Bytes :=
  (KMap.find s.objs (okey idx sub)).getD (leBytes o.vLo (KMap.getOr 0 objDefaults (okey idx sub)))

/-! ### Every object -/

/-- Objects below 0x2000 that are no counters. -/
def State.lowObj (s : State) (sn : Session) (idx sub : Nat) : Option Bytes :=
  match idx with
  | 0x1000 => s.identityObj sub
  | 0x1001 => s.gradeObj sub
  | 0x1008 => vectorObj sub
  | 0x1100 => s.claimObj sub
  | 0x1110 => s.kopObj sn sub
  | 0x1111 => some (s.sessionBlob (sub - 1))
  | 0x1201 => some (leBytes 1 (s.power.bootSel.toNat + 4 * s.power.clkSel.toNat))
  | 0x1202 => s.resetObj sub
  | 0x1300 => s.readyObj sub
  | _ => none

/-- Objects of jobs, the host link and tenancy that are no counters. -/
def State.hostObj (s : State) (sn : Session) (idx sub : Nat) : Option Bytes :=
  match idx with
  | 0x2200 => s.jobsObj sub
  | 0x2202 => some (s.partBlob (sub - 1))
  | 0x2210 => some (s.tableInForce (sub - 1))
  | 0x2220 => some (s.jobBlob (sub - 1))
  | 0x2221 => some (s.jobBlob (sub + 127))
  | 0x2300 => s.ringsObj sn sub
  | 0x2320 => s.tenancyObj sub
  | 0x2324 => some s.contextTable
  | 0x2325 => some s.domainTable
  | 0x2326 => some s.regionTable
  | 0x2400 => if sub = 3 then some (leBytes 2 ((s.qps.filter (·.2.state ≠ .reset)).length)) else none
  | 0x2401 => portObj s.portA sub
  | 0x2402 => portObj s.portB sub
  | _ => none

/-- Objects of the services that are no counters. -/
def State.serviceObj (s : State) (idx sub : Nat) : Option Bytes :=
  match idx with
  | 0x2500 => if sub = 1 then some (loadedCount s.colls 2) else none
  | 0x2510 => some (s.collBlob (sub - 1))
  | 0x2511 => some (s.collBlob (sub + 127))
  | 0x2520 => if sub = 1 then some (loadedCount s.tables 2) else none
  | 0x2600 => if sub = 1 then some (loadedCount s.vocabs 1) else none
  | 0x2610 => some (s.vocabBlob (sub - 1))
  | 0x2700 =>
    (match sub with
      | 1 => some (loadedCount s.models 2)
      | 2 => some (loadedCount s.grammars 2)
      | 3 => some (loadedCount s.patches 4)
      | 0xB => some (leBytes 4 s.kvPages)
      | _ => none)
  | 0x2710 => some (s.modelBlob (sub - 1))
  | 0x2711 => some (s.modelBlob (sub + 127))
  | i => if 0x2530 ≤ i ∧ i ≤ 0x2537 then some (s.tableBlob (128 * (i - 0x2530) + sub - 1)) else none

/-- Objects of the module that are no counters. -/
def State.moduleObj (s : State) (idx sub : Nat) : Option Bytes :=
  match idx with
  | 0x2000 => s.refObj sub
  | 0x2080 => s.supplyObj sub
  | 0x2100 => s.lintObj sub
  | 0x2800 => s.fwObj sub
  | 0x2801 => (match sub with | 3 => some s.boot.stage.bytes | 6 => some (slice s.boot.manifest 0 448) | _ => none)
  | 0x6000 => s.logObj sub
  | i => s.securityObj i sub

/-- The value that a session reads an object as, `o` being its row. -/
def State.objValue (s : State) (sn : Session) (idx sub : Nat) (o : ObjRow) : Bytes :=
  let special :=
    if 0x3000 ≤ idx ∧ idx < 0x3400 then s.dieObj ((idx - 0x3000) / 16) (idx % 16) sub
    else if idx < 0x2000 then s.lowObj sn idx sub
    else ((s.hostObj sn idx sub).or (s.serviceObj idx sub)).or (s.moduleObj idx sub)
  match special with
  | some v => v
  | none => if o.acc = .rw ∨ o.acc = .rwp then s.storedObj idx sub o else leBytes o.vLo (s.count (okey idx sub))

end Sys2Proof.Machine
end

