-- ==== Sys2Proof/Machine/Writes.lean ====
section
/-! DEFINITION. Writes of objects: the claim and the release (12 R344, R345), objects with no behaviour of their own (13 R352, R354, R355), the
counters cleared, and which operation each object's write is (13 R352, R365). -/

namespace Sys2Proof.Machine

/-! ### Claiming (12 R344, R345; 13 R363) -/

/-- An address and its prefix length are those of a set flag, or zero with a clear one (R344). -/
def addrOk (set : Bool) (rec : Bytes) (off n most : Nat) : Bool :=
  if set then decide (1 ≤ field rec (off + n) 1) && decide (field rec (off + n) 1 ≤ most) else zeros rec off (n + 1)

/-- A claim record meets R344. -/
def claimOk (rec : Bytes) : Bool :=
  let f := field rec 2 1
  rec.length == 96 && decide (1 ≤ field rec 0 2) && decide (field rec 0 2 ≤ 4095) && f ≠ 0 && decide (f < 16) && zeros rec 3 1 &&
  addrOk (bit f 0) rec 4 16 128 && zeros rec 21 3 && addrOk (bit f 1) rec 24 4 32 && zeros rec 29 3 &&
  zeros rec 32 4 && addrOk (bit f 2) rec 36 16 128 && zeros rec 53 3 && addrOk (bit f 3) rec 56 4 32 && zeros rec 61 3 && zeros rec 84 12

def State.anyQpInUse (s : State) : Bool := s.qps.any (fun e => e.2.state ≠ .reset)

/-- Steps 1 to 3 of R345: the conditions that refuse a claim by a session's role. -/
def State.claimConds (s : State) (role : Nat) (rec : Bytes) : List Status :=
  cond (!(claimOk rec)) .badDescriptor ++ cond (decide (role < 2) || (s.kop.claimed && decide (role < 3))) .accessDenied ++
  cond (s.kop.claimed && s.anyQpInUse) .refusedFit ++ cond s.recovery .notReady

/-- Step 4 of R345 begins: the unit is looked for on both ports. -/
def State.startProbe (s : State) (r : Requester) (rec : Bytes) (message : Bool) : State :=
  let unit := BitVec.ofNat 16 (field rec 0 2)
  let s := { s with kop := { s.kop with probe := some ⟨rec, r, message⟩ } }
  [Port.a, Port.b].foldl (fun s p => if (s.port p).ready then s.send (.identifyProbe p unit) else s) s

def State.writeClaim (s : State) (r : Requester) (v : Bytes) : State :=
  let role := ((s.session? r.sid).map (·.role)).getD 0
  s.objWrite r 0x1100 4 v 8 (s.claimConds role v) (fun s => s.startProbe r v false)

/-- CLAIM_WRITE (R345): the reply follows the probe. -/
def execClaimWrite (r : Requester) (v : Bytes) (s : State) : Out := .next <| s.writeClaim r v

/-- The module is no longer claimed (R345). -/
def Kop.released (k : Kop) : Kop := { k with claimed := false, owner := 0, record := [] }

def State.writeRelease (s : State) (r : Requester) (v : Bytes) : State :=
  s.objWriteNow r 0x1100 7 v (cond (v ≠ [0x01]) .badDescriptor ++ cond (s.kop.claimed && s.anyQpInUse) .refusedFit)
    (fun s => { s with kop := s.kop.released })

/-- RELEASE (R345). -/
def execReleaseClaim (r : Requester) (v : Bytes) (s : State) : Out := .next <| s.writeRelease r v

/-! ### Sessions that close (13 R362, R370) -/

/-- The image transfer has gone without an END: staging fails (18 R479). -/
def State.settleStage (s : State) : State :=
  if s.boot.stage.state = .staging ∧ !(s.kop.transfers.any (fun t => t.write && t.key == okey 0x2801 2)) then s.stageFail 0xA .cancelled none
  else s

def State.writeCloseOthers (s : State) (r : Requester) (v : Bytes) : State :=
  s.objWriteNow r 0x1110 5 v (cond (v ≠ [0x01]) .badDescriptor) (fun s => (s.closeSessions r.sid (fun _ => true)).settleStage)

/-- CLOSE_OTHERS (R362). -/
def execCloseOthers (r : Requester) (v : Bytes) (s : State) : Out := .next <| s.writeCloseOthers r v

/-! ### Objects with no behaviour of their own (R352, R354, R355) -/

/-- The range of an unsigned object, where its table gives one. -/
def plainRanges : List (Nat × Nat × Nat) :=
  [(okey 0x1100 8, 1024, 65535), (okey 0x2203 4, 1, 65535), (okey 0x2300 9, 0, 16383), (okey 0x2300 0x10, 64, 4096),
   (okey 0x2400 2, 10, 10000), (okey 0x1110 3, 0, 15), (okey 0x1110 4, 10, 3600), (okey 0x2100 1, 60, 604800),
   (okey 0x2080 1, 4000, 17000), (okey 0x2081 1, 7000, 10000), (okey 0x6001 1, 1, 255), (okey 0x6001 2, 1, 2592000),
   (okey 0x6001 3, 1, 4096), (okey 0x6001 4, 1, 2592000), (okey 0x6001 5, 1, 65535), (okey 0x6001 6, 1, 60000), (okey 0x6001 7, 1, 255),
   (okey 0x6001 8, 1, 2592000), (okey 0x6001 9, 1, 255), (okey 0x6001 0xA, 1, 2592000)]

/-- A value breaks its object's stated values (R365). -/
def State.plainBad (s : State) (key : Nat) (v : Bytes) : Bool :=
  let n := leNat v
  match plainRanges.find? (fun e => e.1 == key) with
  | some (_, lo, hi) => decide (n < lo) || decide (n > hi)
  | none =>
    if key = okey 0x2400 1 then decide (n % 256 > 7) || decide (n / 256 > 7) || n % 256 == n / 256
    else if key = okey 0x2081 2 then decide ((BitVec.ofNat 32 n).toInt < s.dieWarn + 100) || decide ((BitVec.ofNat 32 n).toInt > 11000)
    else if key = okey 0x2300 5 then !(ringSelOk n)
    else false

/-- A session's own copy of an object (R355). -/
def Session.setOwn (x : Session) (key n : Nat) : Session :=
  if key = okey 0x1110 3 then { x with mask := BitVec.ofNat 32 n }
  else if key = okey 0x2300 5 then { x with ringSel := BitVec.ofNat 32 n }
  else { x with qpSel := n }

/-- A write of a stored object: it is held, or goes to the ledger first (R352, R354). -/
def State.writePlain (s : State) (r : Requester) (idx sub : Nat) (v : Bytes) : State :=
  let key := okey idx sub
  let conds := cond (s.plainBad key v) .badDescriptor
  if [okey 0x1110 3, okey 0x2300 5, okey 0x2300 9].contains key then
    s.objWriteNow r idx sub v conds (fun s => s.modSession r.sid (fun x => x.setOwn key (leNat v)))
  else if (objRow idx sub).map (·.acc) = some .rwp then s.objWrite r idx sub v (objType idx sub) conds (fun s => s.persist r key v)
  else s.objWriteNow r idx sub v conds (fun s => { s with objs := s.objs.put key v })

/-! ### Which operation a write is -/

/-- Writes of the objects of jobs, the host link and tenancy that have a behaviour of their own. -/
def State.writeHost (s : State) (r : Requester) (idx sub : Nat) (v : Bytes) : Option State :=
  match idx, sub with
  | 0x2200, 2 => some (s.writeJobLoad r v)
  | 0x2200, 4 => some (s.writeUnload r v)
  | 0x2200, 5 => some (s.writePrivileged r v)
  | 0x2201, n => some (s.writePartition (n - 1) r v)
  | 0x2210, n => some (s.writeCycleTable (n - 1) r v)
  | 0x2300, 3 => some (s.writeRingSetup r v)
  | 0x2300, 4 => some (s.writeRingTeardown r v)
  | 0x2300, 7 => some (s.writeQpSetup r v)
  | 0x2300, 8 => some (s.writeQpReset r v)
  | 0x2300, 0xB => some (s.writeWindow r v)
  | 0x2300, 0xC => some (s.writeEventSelect r v)
  | 0x2300, 0xE => some (s.writeEventRinse r v)
  | 0x2320, 3 => some (s.writeContextSetup r v)
  | 0x2320, 4 => some (s.writeContextDelete r v)
  | 0x2320, 5 => some (s.writeDomainCreate r v)
  | 0x2320, 6 => some (s.writeDomainDestroy r v)
  | 0x2320, 7 => some (s.writeRegion r v)
  | 0x2322, n => some (s.writeJobDomain (n - 1) r v)
  | 0x2323, n => some (s.writeJobDomain (n + 127) r v)
  | 0x2520, 2 => some (s.writeTableMode r v)
  | _, _ => none

/-- Writes of the module's own objects that have a behaviour of their own. -/
def State.writeModule (s : State) (r : Requester) (idx sub : Nat) (v : Bytes) : Option State :=
  match idx, sub with
  | 0x1100, 4 => some (s.writeClaim r v)
  | 0x1100, 7 => some (s.writeRelease r v)
  | 0x1110, 5 => some (s.writeCloseOthers r v)
  | 0x1200, 1 => some (s.writeModuleReset r v)
  | 0x1200, 2 => some (s.writeDieReset r v)
  | 0x1200, 3 => some (s.writeTileReset r v)
  | 0x1200, 4 => some (s.writeContextReset r v)
  | 0x2401, 1 => some (s.writePortMode .a r v)
  | 0x2402, 1 => some (s.writePortMode .b r v)
  | 0x2801, 1 => some (s.writePrepare r v)
  | 0x2801, 2 => some (s.objWrite r 0x2801 2 v 8 [.refusedFit] id)
  | 0x2801, 4 => some (s.writeActivate r v)
  | 0x2801, 5 => some (s.writeConfirm r v)
  | 0x2900, 1 => some (s.writeRoleKey r v)
  | 0x2901, 2 => some (s.writeSeal r v)
  | 0x2910, 1 => some (s.writeNonce r v)
  | 0x6000, 4 => some (s.writeLogRinse r v)
  | _, _ => none

/-- A write of any object with the type code it carries (R365): one that names no object, or that the object's access or type refuses, is
refused by R365 alone. -/
def State.writeObject (s : State) (r : Requester) (idx sub typ : Nat) (v : Bytes) : State :=
  match objRow idx sub with
  | none => s.objWrite r idx sub v typ [] id
  | some o =>
    if typ ≠ o.typ ∨ o.acc = .ro then s.objWrite r idx sub v typ [] id
    else if (clearsOf idx sub).isSome then s.clearWrite r idx sub v
    else
      match (s.writeHost r idx sub v).or (s.writeModule r idx sub v) with
      | some t => t
      | none => s.writePlain r idx sub v

/-- OBJECT_WRITE (R352, R354, R365). -/
def execObjectWrite (r : Requester) (index : W16) (sub : Byte) (type : Byte) (v : Bytes) (s : State) : Out :=
  .next <| s.writeObject r index.toNat sub.toNat type.toNat v

/-! ### Counters cleared (02 R68; 03 R90; 04 R125; 05 R142; 06 R172; 13 R377; 14 R403) -/

/-- ARRAY_COUNTERS_CLEAR (02 R68). -/
def execArrayCountersClear (d : DieNo) (r : Requester) (v : Bytes) (s : State) : Out := .next <| s.clearWrite r (0x3005 + 16 * d) 0xA v
/-- FORMAT_COUNTERS_CLEAR (03 R90). -/
def execFormatCountersClear (d : DieNo) (r : Requester) (v : Bytes) (s : State) : Out := .next <| s.clearWrite r (0x3006 + 16 * d) 6 v
/-- VE_COUNTERS_CLEAR (04 R125). -/
def execVeCountersClear (d : DieNo) (r : Requester) (v : Bytes) (s : State) : Out := .next <| s.clearWrite r (0x3007 + 16 * d) 8 v
/-- SEL_COUNTERS_CLEAR (05 R142). -/
def execSelCountersClear (d : DieNo) (r : Requester) (v : Bytes) (s : State) : Out := .next <| s.clearWrite r (0x3008 + 16 * d) 9 v
/-- MEM_COUNTERS_CLEAR (06 R172). -/
def execMemCountersClear (d : DieNo) (r : Requester) (v : Bytes) (s : State) : Out := .next <| s.clearWrite r (0x3009 + 16 * d) 0xE v
/-- KOP_COUNTERS_CLEAR (13 R377). -/
def execKopCountersClear (r : Requester) (v : Bytes) (s : State) : Out := .next <| s.clearWrite r 0x1110 0xD v
/-- TENANCY_COUNTERS_CLEAR (14 R403). -/
def execTenancyCountersClear (r : Requester) (v : Bytes) (s : State) : Out := .next <| s.clearWrite r 0x2320 0xC v

end Sys2Proof.Machine
end

