-- ==== Sys2Proof/Machine/Kop.lean ====
section
/-! DEFINITION. The Kazilaesh Object Protocol: datagrams and sessions (13 R356 to R363), READ and WRITE (13 R364 to R366), IDENTIFY and
CLAIM (12 R342 to R346; 13 R372, R373), and the ends of what a message waited for. -/

namespace Sys2Proof.Machine

/-! ### Datagrams (R356, R357) -/

def kopCount (sub : Nat) : Nat := okey 0x1110 sub

/-- The header of a message as it arrived (R356). -/
def kopHead (m : KMsg) (type : Byte) : Bytes :=
  [m.version, type, m.flags, m.status] ++ leBytes 4 m.sid.toNat ++ leBytes 4 m.seq.toNat ++ leBytes 2 m.length.toNat ++ leBytes 2 m.resv.toNat

/-- A message's tag verifies under a key (R359, R360). -/
def tagOk (m : KMsg) (type : Byte) (key : Bytes) : Bool := m.tag == hmac key (kopHead m type ++ m.payload)

/-- A datagram is malformed (R357). -/
def kopBad (m : KMsg) : Bool :=
  decide (m.payload.length ≠ m.length.toNat) || decide (m.payload.length > 1184) || m.version ≠ 0x01 || bit m.flags.toNat 0

/-- A reserved field of the header is not zero (R356). -/
def kopReserved (m : KMsg) : Bool := m.flags ≠ 0 || m.status ≠ 0 || m.resv ≠ 0

/-- The outcome of a datagram's first checks: the module does not see it, it is dropped with a count, or it goes on. -/
inductive Intake where
  | unseen
  | dropped (s : State)
  | taken (s : State)

/-- A port answers KOP: its link is up and its address has passed detection (R317, R459, R460). -/
def State.kopUp (s : State) (p : Port) : Bool := (s.port p).rate ≠ 0 && readyBit s (3 + p.code)

/-- The first checks of R357. -/
def State.intake (s : State) (m : KMsg) : Intake :=
  if !(s.kopUp m.port) then .unseen
  else if m.dport.toNat ≠ s.kop.portActive then .dropped (s.bump (kopCount 7) 1)
  else
    let s := s.bump (kopCount 6) 1
    if kopBad m then .dropped (s.bump (kopCount 7) 1) else .taken s

/-! ### Sequence numbers (R361) -/

/-- What R361 makes of a request. -/
inductive SeqCheck where
  | run (sn : Session)
  | again (reply : KReply)
  | drop

def Session.accept (x : Session) (sq : W32) (high : W32) : Session :=
  { x with high := high, accepted := x.accepted.filter (fun n => decide (high.toNat ≤ n.toNat + 63)) ++ [sq], executing := x.executing ++ [sq] }

/-- The window of 64 numbers below and up to the highest accepted (R361). -/
def Session.check (x : Session) (sq : W32) : SeqCheck :=
  if sq.toNat > x.high.toNat then .run (x.accept sq sq)
  else if sq.toNat + 63 < x.high.toNat then .drop
  else if !(x.accepted.contains sq) then .run (x.accept sq x.high)
  else match x.replies.find? (fun k => k.seq == sq) with
    | some k => .again k
    | none => .drop

/-- Who sent a message. -/
def requesterOf (m : KMsg) : Requester := ⟨m.sid, m.seq, m.port, m.src⟩

/-- The payload of a refusal: the 4-byte form for READ and WRITE (R364), the block header for block messages (R367), else nothing. -/
def refusal (type : Byte) (p : Bytes) : Bytes :=
  if type = 1 ∨ type = 2 then slice p 0 3 ++ [0]
  else if type = 3 ∨ type = 4 then slice p 0 1 ++ [0] ++ slice p 2 3 ++ [0, 0, 0] ++ slice p 8 4 ++ [0, 0, 0, 0]
  else []

/-- A message of an open session that verifies (R346, R357, R361 to R363); `act` is what its type does. -/
def State.sessionMsg (s : State) (m : KMsg) (type : Byte) (sn : Session) (act : State → Session → State) : State :=
  let s := s.modSession m.sid (fun x => { x with last := s.now })
  if m.seq = 0 then s.send (.kop (mkReply sn.key m.port m.src type .badDescriptor m.sid 0 (refusal type m.payload)))
  else
    match ({ sn with last := s.now } : Session).check m.seq with
    | .drop => s.bump (kopCount 9) 1
    | .again k => s.send (.kop { k with port := m.port, dst := m.src })
    | .run sn =>
      let s := s.modSession m.sid (fun _ => sn)
      if s.notOwner sn.role m.src then (s.bump (kopCount 0xA) 1).answer (requesterOf m) type .accessDenied (refusal type m.payload)
      else if kopReserved m then s.answer (requesterOf m) type .badDescriptor (refusal type m.payload)
      else act s sn

/-- A KOP message that needs a session (R357, R358). -/
def State.kopMsg (s : State) (m : KMsg) (type : Byte) (act : State → Session → State) : State :=
  match s.intake m with
  | .unseen => s
  | .dropped t => t
  | .taken s =>
    match s.session? m.sid with
    | none => s.bump (kopCount 8) 1
    | some sn => if tagOk m type sn.key then s.sessionMsg m type sn act else s.bump (kopCount 8) 1

/-- KOP_NOTIFY_IN (R358). -/
def execKopNotifyIn (m : KMsg) (s : State) : Out :=
  .next <| s.kopMsg m 5 (fun s _ => s.answer (requesterOf m) 5 .badDescriptor [])

/-- KOP_CLOSE (R362): answered, then the session closes. -/
def execKopClose (m : KMsg) (s : State) : Out :=
  .next <| s.kopMsg m 9 (fun s _ =>
    if m.payload ≠ [] then s.answer (requesterOf m) 9 .badDescriptor []
    else ((s.answer (requesterOf m) 9 .ok []).closeSession m.sid).settleStage)

/-- SESSION_IDLE_EXPIRY (R362). -/
def execSessionIdleExpiry (sid : W32) (s : State) : Out := .next <| (s.closeSession sid).settleStage

/-! ### OPEN (R359, R360) -/

/-- A reply without a session: it is not tagged (R356, R359). -/
def State.plainReply (s : State) (m : KMsg) (type : Byte) (st : Status) : State :=
  s.send (.kop ⟨m.port, m.src, type, st, 0, m.seq, [], List.replicate 32 0⟩)

/-- The session key (R360). -/
def sessionKey (role nc nm : Bytes) (sid : W32) : Bytes := hmac role (ascii "KOP1" ++ nc ++ nm ++ leBytes 4 sid.toNat)

/-- The lowest free place among the 16 of OD 0x1111 (R377). -/
def State.freeSlot (s : State) : Nat := ((List.range 16).find? (fun i => !(s.kop.sessions.any (fun x => x.slot == i)))).getD 0

/-- Step 4 of R359: the session opens. -/
def State.openSession (s : State) (m : KMsg) (role : Nat) (key nonce : Bytes) : State :=
  let sid := s.kop.nextSid
  let timeout := s.objNat 0x1110 4 60
  let k := mkReply key m.port m.src 8 .ok 0 m.seq (leBytes 4 sid.toNat ++ nonce ++ leBytes 4 timeout)
  let sn : Session := { sid := sid, role := role, port := m.port, src := m.src, key := sessionKey key (slice m.payload 4 16) nonce sid,
                        nonce := slice m.payload 4 16, opened := k, last := s.now, timeout := timeout, slot := s.freeSlot }
  ({ s with kop := { s.kop with sessions := s.kop.sessions ++ [sn], nextSid := sid + 1 } } : State).send (.kop k)

/-- Step 2 of R359: a Factory session under a blown seal, or an owner's module (R346); in recovery mode Administrator sessions alone
open (18 R482). -/
def State.openDenied (s : State) (m : KMsg) (role : Nat) : Bool :=
  (role == 4 && s.sealBlown) || s.notOwner role m.src || (s.recovery && role ≠ 3)

/-- The payload and the header of an OPEN are as R356 and R359 lay them down. -/
def openShape (m : KMsg) : Bool :=
  m.payload.length == 24 && zeros m.payload 1 3 && zeros m.payload 20 4 && m.seq == 0 && m.sid == 0 && !(kopReserved m)

/-- An OPEN whose tag has verified under the named role's key (R359). -/
def State.openMsg (s : State) (m : KMsg) (role : Nat) (key nonce : Bytes) : State :=
  if !(openShape m) then s.send (.kop (mkReply key m.port m.src 8 .badDescriptor 0 m.seq []))
  else
    match s.kop.sessions.find? (fun x => x.src == m.src && x.nonce == slice m.payload 4 16) with
    | some x => s.send (.kop { x.opened with port := m.port, dst := m.src })
    | none =>
      if s.openDenied m role then
        (if s.notOwner role m.src then s.bump (kopCount 0xA) 1 else s).plainReply m 8 .accessDenied
      else if s.kop.sessions.length ≥ 16 then s.plainReply m 8 .refusedFit
      else s.openSession m role key nonce

/-- KOP_OPEN (R359): `nonce` is the module's N_m. -/
def execKopOpen (m : KMsg) (nonce : Bytes) (s : State) : Out :=
  .next <|
  match s.intake m with
  | .unseen => s
  | .dropped t => t
  | .taken s =>
    if !(readyBit s 1) then s.plainReply m 8 .notReady else
    let role := field m.payload 0 1
    match if 1 ≤ role ∧ role ≤ 4 then s.roleKey role else none with
    | none => s.bump (kopCount 8) 1
    | some key => if tagOk m 8 key then s.openMsg m role key nonce else s.bump (kopCount 8) 1

/-! ### READ and WRITE (R364 to R366) -/

/-- The conditions of R365 that hold for a read of an object by a session's role; a report is read only once it has been signed (14
R398), and events only of a queue that exists (12 R341). -/
def State.readConds (s : State) (sn : Session) (idx sub : Nat) : List Status :=
  match objRow idx sub with
  | none => [.badDescriptor]
  | some o =>
    cond (idx == 0x2300 && (sub == 0xD || sub == 0xF) && (s.selected sn).isNone) .badDescriptor ++
    cond (o.acc == .wo || decide (sn.role < o.role)) .accessDenied ++
    cond (s.notReadyFor idx sub false || (idx == 0x2910 && sub == 2 && s.boot.report.isNone)) .notReady

/-- Up to 32 of the oldest events of a session's queue, and the queue without them (12 R341). -/
def State.popEvents (s : State) (sn : Session) : Bytes × State :=
  match s.selected sn with
  | none => ([], s)
  | some q =>
    match s.queue? q with
    | none => (leBytes 2 0 ++ List.replicate 6 0, s)
    | some x =>
      let n := min x.items.length 32
      (leBytes 2 n ++ List.replicate 6 0 ++ (x.items.take n).flatMap QItem.bytes, s.setQueue q (Queue.settle x (x.items.drop n)))

/-- An object's value as a session reads it, and what the reading does. -/
def State.readValue (s : State) (sn : Session) (idx sub : Nat) : Bytes × State :=
  if idx = 0x2300 ∧ sub = 0xD then s.popEvents sn
  else match objRow idx sub with
    | some o => (s.objValue sn idx sub o, s)
    | none => ([], s)

/-- An object message waits behind an earlier one on the same object (R366). -/
def State.waits (s : State) (r : Requester) (key : Nat) (msg : Byte) (v : Bytes) : State :=
  { s with kop := { s.kop with waiters := s.kop.waiters ++ [⟨r, key, msg, 0, v⟩] } }

/-- A READ as it begins executing (R364, R365): a value too long for a reply is refused, and nothing is read. -/
def State.readMsg (s : State) (r : Requester) (idx sub : Nat) : State :=
  match s.session? r.sid with
  | none => s
  | some sn =>
    if s.objBusy (okey idx sub) then s.waits r (okey idx sub) 1 []
    else
      let refuse := fun (st : Status) => s.answer r 1 st (leBytes 2 idx ++ leBytes 1 sub ++ [0])
      let st := firstStatus (s.readConds sn idx sub)
      if st ≠ .ok then refuse st
      else match s.readValue sn idx sub with
        | (v, t) => if v.length > 1152 then refuse .refusedFit
          else t.answer r 1 .ok (valuePrefix idx sub (objType idx sub) v.length ++ v)

/-- EVENT_POP (12 R341): a read of OD 0x2300:0D. -/
def execEventPop (r : Requester) (s : State) : Out := .next <| s.readMsg r 0x2300 0xD

/-- KOP_READ (R364, R365). -/
def execKopRead (m : KMsg) (s : State) : Out :=
  .next <| s.kopMsg m 1 (fun s _ =>
    if m.payload.length ≠ 4 ∨ field m.payload 3 1 ≠ 0 then s.answer (requesterOf m) 1 .badDescriptor (refusal 1 m.payload)
    else s.readMsg (requesterOf m) (field m.payload 0 2) (field m.payload 2 1))

/-- KOP_WRITE (R364, R365). -/
def execKopWrite (m : KMsg) (s : State) : Out :=
  .next <| s.kopMsg m 2 (fun s _ =>
    let p := m.payload
    if p.length < 8 ∨ field p 4 2 ≠ p.length - 8 ∨ !(zeros p 6 2) then s.answer (requesterOf m) 2 .badDescriptor (refusal 2 p)
    else s.writeObject (requesterOf m) (field p 0 2) (field p 2 1) (field p 3 1) (p.drop 8))

/-! ### CLAIM (12 R345; 13 R373) -/

/-- A CLAIM message as it begins executing: it waits behind a probe in progress (R373). -/
def State.claimMsg (s : State) (r : Requester) (rec : Bytes) : State :=
  match s.session? r.sid with
  | none => s
  | some sn =>
    if s.objBusy (okey 0x1100 4) then s.waits r (okey 0x1100 4) 7 rec
    else
      let st := firstStatus (s.claimConds sn.role rec)
      if st = .ok then s.startProbe r rec true else s.answer r 7 st []

/-- CLAIM (12 R345). -/
def execClaim (m : KMsg) (s : State) : Out := .next <| s.kopMsg m 7 (fun s _ => s.claimMsg (requesterOf m) m.payload)

/-- The reply to a claim (12 R345; 13 R373). -/
def State.answerClaim (s : State) (p : Probe) (st : Status) : State :=
  if p.message then s.answer p.r 7 st [] else s.replyWrite p.r (okey 0x1100 4) st

def Kop.claim (k : Kop) (p : Probe) : Kop := { k with claimed := true, owner := p.r.src, record := p.record }

/-- Step 5 of R345, and the sessions it closes (R363). -/
def State.installClaim (s : State) (p : Probe) : State :=
  let s := ({ s with kop := s.kop.claim p } : State).answerClaim p .ok
  (s.closeSessions 0 (fun x => x.role ≠ 3 && x.src ≠ p.r.src)).settleStage

/-- The probe ends (R345). -/
def State.probeDone (s : State) (conflict : Bool) : State :=
  match s.kop.probe with
  | none => s
  | some p =>
    let s := { s with kop := { s.kop with probe := none } }
    if conflict then s.answerClaim p .refusedFit else s.installClaim p

/-! ### IDENTIFY (12 R343; 13 R372) -/

/-- IDENTIFY (12 R343): an answer will follow after a delay, unless the filter names another unit. -/
def execIdentify (m : KMsg) (s : State) : Out :=
  .next <|
  match s.intake m with
  | .unseen => s
  | .dropped t => t
  | .taken s =>
    if kopReserved m ∨ m.sid ≠ 0 ∨ !(zeros m.tag 0 32) ∨ m.payload.length ≠ 4 ∨ !(zeros m.payload 2 2) then s.plainReply m 6 .badDescriptor
    else
      let unit := field m.payload 0 2
      if unit ≠ 0 ∧ unit ≠ s.unitShown then s else { s with kop := { s.kop with identifies := s.kop.identifies ++ [m] } }

/-- The 32 bytes of an IDENTIFY reply from a port (R372). -/
def State.identity (s : State) (p : Port) : Bytes :=
  slice s.fuses.serial 0 16 ++ leBytes 1 s.fuses.grade ++ leBytes 1 (if s.claimShown then 1 else 0) ++ leBytes 2 s.unitShown ++
  leBytes 1 p.code ++ leBytes 1 0 ++ slice (match p with | .a => s.fuses.macA | .b => s.fuses.macB) 0 6 ++ leBytes 2 s.kop.portActive ++ leBytes 2 0

/-- IDENTIFY_REPLY (12 R343): the n-th IDENTIFY that waits is answered from each ready port. -/
def execIdentifyReply (n : Nat) (s : State) : Out :=
  .next <|
  match s.kop.identifies[n]? with
  | none => s
  | some m =>
    let s := { s with kop := { s.kop with identifies := s.kop.identifies.eraseIdx n } }
    [Port.a, Port.b].foldl (fun s p => if s.kopUp p then s.send (.identifyReply p m.src m.seq (s.identity p)) else s) s

/-! ### Link-local addresses (12 R342) -/

/-- The modified EUI-64 identifier of a MAC (R342). -/
def eui64 (mac : Bytes) : W64 :=
  let b := fun i => mac.getD i 0
  BitVec.ofNat 64 (leNat [b 0 ^^^ 2, b 1, b 2, 0xFF, 0xFE, b 3, b 4, b 5].reverse)

/-- The identifier a port tries: its MAC's first, then one drawn at random (R342). -/
def State.dadId (s : State) (p : Port) (drawn : W64) : W64 :=
  if (s.port p).dadTries = 0 then eui64 (match p with | .a => s.fuses.macA | .b => s.fuses.macB) else drawn

/-- DAD_COMPLETE (R342; 17 R460): duplicate address detection ends for the identifier under test, `iid` being the one drawn last. -/
def execDadComplete (p : Port) (duplicate : Bool) (iid : W64) (s : State) : Out :=
  .next <|
  let x := s.port p
  if x.ready ∨ x.rate = 0 ∨ x.dadTries > 3 ∨ s.boot.mode = .none_ then s
  else if duplicate then
    let s := s.setPort p { x with dadTries := x.dadTries + 1 }
    if x.dadTries = 3 then s.modEvent .refusedFit 7 p.code 0 0 0 else s
  else (s.setPort p { x with iid := some (s.dadId p iid), ready := true }).withReady (kopBit p) 0

/-! ### KOP_MALFORMED (R357) -/

/-- A datagram's fields (R356). -/
def kmsgOf (p : Port) (src : BitVec 128) (dport : W16) (d : Bytes) : KMsg :=
  { port := p, src := src, dport := dport, version := d.getD 0 0, flags := d.getD 2 0, status := d.getD 3 0, sid := BitVec.ofNat 32 (field d 4 4),
    seq := BitVec.ofNat 32 (field d 8 4), length := BitVec.ofNat 16 (field d 12 2), resv := BitVec.ofNat 16 (field d 14 2),
    payload := slice d 16 (d.length - 48), tag := slice d (d.length - 32) 32 }

/-- A datagram of an undefined type on an open session is answered with BAD_DESCRIPTOR; one of a defined type that verifies is that type's
own command. -/
def State.strayMsg (s : State) (m : KMsg) (type : Byte) (sn : Session) : State :=
  if !(tagOk m type sn.key) then s.bump (kopCount 8) 1
  else if type = 0 ∨ type > 9 then s.sessionMsg { m with src := sn.src } type sn (fun s _ => s.answer { requesterOf m with src := sn.src } type .badDescriptor [])
  else s

/-- KOP_MALFORMED (R357). -/
def execKopMalformed (p : Port) (dport : W16) (dgram : Bytes) (s : State) : Out :=
  .next <|
  if !(s.kopUp p) then s
  else if dport.toNat ≠ s.kop.portActive then s.bump (kopCount 7) 1
  else
    let s := s.bump (kopCount 6) 1
    let m := kmsgOf p 0 dport dgram
    let type := dgram.getD 1 0
    if dgram.length < 48 ∨ dgram.length > 1232 ∨ kopBad m then s.bump (kopCount 7) 1
    else if type = 6 then s
    else if type = 8 then
      let role := field m.payload 0 1
      match if 1 ≤ role ∧ role ≤ 4 then s.roleKey role else none with
      | some key => if tagOk m 8 key then s else s.bump (kopCount 8) 1
      | none => s.bump (kopCount 8) 1
    else
      match s.session? m.sid with
      | none => s.bump (kopCount 8) 1
      | some sn => s.strayMsg m type sn

end Sys2Proof.Machine
end

