-- ==== Sys2Proof/Machine/Blocks.lean ====
section
/-! DEFINITION. Block transfers (13 R367 to R370), the transfer of a slot image (18 R477, R479), and the ends of what messages wait for
(13 R366). -/

namespace Sys2Proof.Machine

/-! ### Messages that waited (R366) -/

def State.initRead (s : State) (r : Requester) (idx sub : Nat) : State :=
  match s.session? r.sid with
  | none => s
  | some sn =>
    if s.objBusy (okey idx sub) then s.waits r (okey idx sub) 3 []
    else
      let st := firstStatus (s.readConds sn idx sub ++ cond (objType idx sub ≠ 8) .badDescriptor ++
        cond (s.kop.transfers.any (fun t => t.sid == r.sid) || decide (s.kop.transfers.length ≥ 4)) .refusedFit)
      if st ≠ .ok then s.answer r 3 st (blockHeader 1 idx sub 0 0)
      else match s.readValue sn idx sub with
        | (v, t) =>
          let x : BlockTransfer := ⟨r.sid, false, okey idx sub, v.length, [], v, t.now⟩
          ({ t with kop := { t.kop with transfers := t.kop.transfers ++ [x] } } : State).answer r 3 .ok
            (blockHeader 1 idx sub v.length (crc32c v).toNat)

/-- A message that waited begins executing. -/
def State.runWaiter (s : State) (w : Waiter) : State :=
  let idx := w.key / 256
  let sub := w.key % 256
  if w.msg = 1 then s.readMsg w.r idx sub
  else if w.msg = 3 then s.initRead w.r idx sub
  else if w.msg = 7 then s.claimMsg w.r w.v
  else s.writeObject w.r idx sub w.type.toNat w.v

/-- Waiting messages begin, in order; one whose object is still at work waits on (R366). -/
def State.wake (s : State) : State :=
  s.kop.waiters.foldl State.runWaiter { s with kop := { s.kop with waiters := [] } }

/-- JOB_ADMIT (11 R295 to R297). -/
def execJobAdmit (image : Transfer) (s : State) : Out := .next <| (s.admitDone image).wake

/-- CLAIM_PROBE_END (12 R345). -/
def execClaimProbeEnd (conflict : Bool) (s : State) : Out := .next <| (s.probeDone conflict).wake

/-- REGION_FILL_DONE (14 R384). -/
def execRegionFillDone (s : State) : Out := .next <| s.regionFilled.wake

/-- LEDGER_WRITE_DONE (17 R465; 13 R354; 18 R478, R481). -/
def execLedgerWriteDone (objects : Bool) (ok : Bool) (s : State) : Out :=
  .next <| (if objects then (s.objWritten ok).settleStage else s.actWritten ok).wake

/-- FUSE_PROGRAM_DONE (19 R498; 18 R481; 14 R401). -/
def execFuseProgramDone (ok : Bool) (s : State) : Out := .next <| (s.fuseDone ok).wake

/-! ### Block messages (R367) -/

def bkOp (p : Bytes) : Nat := field p 0 1
def bkIdx (p : Bytes) : Nat := field p 2 2
def bkSub (p : Bytes) : Nat := field p 4 1
def bkSize (p : Bytes) : Nat := field p 8 4
def bkCrc (p : Bytes) : Nat := field p 12 4
def bkKey (p : Bytes) : Nat := okey (bkIdx p) (bkSub p)

/-- The header of a block message is as R367 lays it down. -/
def bkShape (p : Bytes) : Bool := decide (p.length ≥ 16) && zeros p 1 1 && zeros p 5 3

/-- A message of another op of its type: that op has a command of its own. -/
def otherOp (m : KMsg) (op : Nat) : Bool := bkOp m.payload ≠ op && decide (1 ≤ bkOp m.payload) && decide (bkOp m.payload ≤ 4)

/-- A reply that echoes the header, with its size field (R367). -/
def State.answerBlock (s : State) (r : Requester) (type : Byte) (p : Bytes) (size : Nat) (st : Status) : State :=
  s.answer r type st (blockHeader (bkOp p) (bkIdx p) (bkSub p) size 0)

def State.badBlockMsg (s : State) (r : Requester) (type : Byte) (p : Bytes) : State := s.answerBlock r type p (bkSize p) .badDescriptor

/-- The session's open transfer of the object a message names, in its direction. -/
def State.transfer? (s : State) (r : Requester) (write : Bool) (p : Bytes) : Option BlockTransfer :=
  s.kop.transfers.find? (fun t => t.sid == r.sid && t.write == write && t.key == bkKey p)

def State.setTransfer (s : State) (x : BlockTransfer) : State :=
  { s with kop := { s.kop with transfers := s.kop.transfers.map (fun t => if t.sid = x.sid then x else t) } }
def State.dropTransfer (s : State) (sid : W32) : State :=
  { s with kop := { s.kop with transfers := s.kop.transfers.filter (fun t => t.sid ≠ sid) } }

/-- A block message on an open transfer: it counts against the 10 s (R370); one that names none, or whose header is not right, is refused. -/
def State.onTransfer (s : State) (r : Requester) (type : Byte) (write : Bool) (op : Nat) (p : Bytes)
    (act : State → BlockTransfer → State) : State :=
  match s.transfer? r write p with
  | none => s.badBlockMsg r type p
  | some x =>
    let x := { x with last := s.now }
    let s := s.setTransfer x
    if !(bkShape p) || bkOp p ≠ op then s.badBlockMsg r type p else act s x

/-! ### READ_BLOCK (R369) -/

/-- RB_INITIATE (R369). -/
def execRbInitiate (m : KMsg) (s : State) : Out :=
  .next <| if otherOp m 1 then s else s.kopMsg m 3 (fun s _ =>
    let p := m.payload
    if !(bkShape p) || bkOp p ≠ 1 || p.length ≠ 16 || bkSize p ≠ 0 || bkCrc p ≠ 0 then s.badBlockMsg (requesterOf m) 3 p
    else s.initRead (requesterOf m) (bkIdx p) (bkSub p))

/-- RB_SEGMENT (R369). -/
def execRbSegment (m : KMsg) (s : State) : Out :=
  .next <| if otherOp m 2 then s else s.kopMsg m 3 (fun s _ =>
    let p := m.payload
    s.onTransfer (requesterOf m) 3 false 2 p (fun s x =>
      if p.length ≠ 16 || bkCrc p ≠ 0 || bkSize p % 1024 ≠ 0 || decide (bkSize p ≥ x.total) then s.badBlockMsg (requesterOf m) 3 p
      else s.answer (requesterOf m) 3 .ok
        (blockHeader 2 (bkIdx p) (bkSub p) (bkSize p) 0 ++ slice x.snapshot (bkSize p) (min 1024 (x.total - bkSize p)))))

/-- RB_END (R369). -/
def execRbEnd (m : KMsg) (s : State) : Out :=
  .next <| if otherOp m 3 then s else s.kopMsg m 3 (fun s _ =>
    let p := m.payload
    s.onTransfer (requesterOf m) 3 false 3 p (fun s _ =>
      if p.length ≠ 16 || bkCrc p ≠ 0 then s.badBlockMsg (requesterOf m) 3 p
      else (s.dropTransfer m.sid).answerBlock (requesterOf m) 3 p 0 .ok))

/-- An ABORT closes its transfer with no effect but on staging (R370; 18 R479). -/
def State.abortMsg (s : State) (m : KMsg) (type : Byte) (write : Bool) : State :=
  let p := m.payload
  s.onTransfer (requesterOf m) type write 4 p (fun s _ =>
    if p.length ≠ 16 || bkCrc p ≠ 0 || bkSize p ≠ 0 then s.badBlockMsg (requesterOf m) type p
    else (s.dropTransfer m.sid).settleStage.answerBlock (requesterOf m) type p 0 .ok)

/-- RB_ABORT (R370). -/
def execRbAbort (m : KMsg) (s : State) : Out :=
  .next <| if otherOp m 4 then s else s.kopMsg m 3 (fun s _ => s.abortMsg m 3 false)

/-! ### WRITE_BLOCK (R368) -/

/-- The object a slot image is written to (18 R477). -/
def stageKey : Nat := okey 0x2801 2

/-- The conditions that refuse a block write's INITIATE (R365, R368, R370; 18 R477). -/
def State.initConds (s : State) (sn : Session) (idx sub total : Nat) : List Status :=
  match objRow idx sub with
  | none => [.badDescriptor]
  | some o =>
    let stage := okey idx sub == stageKey
    cond (o.typ ≠ 8 || (o.acc ≠ .ro && (decide (total < o.vLo) || decide (total > o.vHi)))) .badDescriptor ++
    cond (o.acc == .ro || decide (sn.role < o.role)) .accessDenied ++
    cond (s.notReadyFor idx sub true || (stage && s.boot.stage.state ≠ .empty)) .notReady ++
    cond (s.kop.transfers.any (fun t => t.sid == sn.sid || (t.write && t.key == okey idx sub)) || decide (s.kop.transfers.length ≥ 4) ||
      (stage && decide (total > blockBytes * s.boot.stage.prepared))) .refusedFit

/-- A block write opens; that of a slot image stages into the target (18 R475). -/
def State.openWrite (s : State) (sid : W32) (key total : Nat) : State :=
  let x : BlockTransfer := ⟨sid, true, key, total, [], [], s.now⟩
  let s := { s with kop := { s.kop with transfers := s.kop.transfers ++ [x] } }
  if key = stageKey then s.setStage { s.boot.stage with state := .staging, programmed := 0 } else s

/-- WB_INITIATE (R368; 18 R477). -/
def execWbInitiate (m : KMsg) (s : State) : Out :=
  .next <| if otherOp m 1 then s else s.kopMsg m 4 (fun s sn =>
    let p := m.payload
    let st := if !(bkShape p) || bkOp p ≠ 1 || p.length ≠ 16 || bkCrc p ≠ 0 then Status.badDescriptor
      else firstStatus (s.initConds sn (bkIdx p) (bkSub p) (bkSize p))
    let s := if st = .ok then s.openWrite m.sid (bkKey p) (bkSize p) else s
    s.answerBlock (requesterOf m) 4 p (bkSize p) st)

/-- Bytes programmed at an offset of an image. -/
def putImage (m : KMap Byte) (base off : Nat) (bs : Bytes) : KMap Byte :=
  bs.zipIdx.foldl (fun m (b, i) => if b = 0xFF then m.del (base + off + i) else m.put (base + off + i) b) m

/-- A segment of a slot image programmed where it is staged (18 R477, R483). -/
def State.program (s : State) (off : Nat) (bs : Bytes) : State :=
  let s := s.setStage { s.boot.stage with programmed := s.boot.stage.programmed + bs.length }
  if s.networkWait then { s with boot := { s.boot with image := putImage s.boot.image 0 off bs } }
  else { s with ledger := { s.ledger with flash := putImage s.ledger.flash (slotBase s.boot.stage.targetB) off bs } }

/-- A segment of a slot image: programmed and read back, or found the same as before, or in conflict with it (18 R477, R479). -/
def State.stageSegment (s : State) (r : Requester) (x : BlockTransfer) (p : Bytes) (ok : Bool) : State :=
  let off := bkSize p
  let bs := p.drop 16
  if (KMap.find x.segs off).isSome then
    if imgBytes s.stageAt.1 s.stageAt.2 off bs.length = bs then s.answerBlock r 4 p off .ok
    else ((s.dropTransfer x.sid).stageFail 9 .badDescriptor none).answerBlock r 4 p off .badDescriptor
  else if !ok ∧ !s.networkWait then ((s.dropTransfer x.sid).stageFail 8 .retryExhausted none).answerBlock r 4 p off .retryExhausted
  else ((s.program off bs).setTransfer { x with segs := x.segs.put off [] }).answerBlock r 4 p off .ok

/-- WB_SEGMENT (R368; 18 R477, R479): `flashOk` says whether a slot image's segment was programmed and read back. -/
def execWbSegment (m : KMsg) (flashOk : Bool) (s : State) : Out :=
  .next <| if otherOp m 2 then s else s.kopMsg m 4 (fun s _ =>
    let p := m.payload
    let r := requesterOf m
    s.onTransfer r 4 true 2 p (fun s x =>
      let off := bkSize p
      if bkCrc p ≠ 0 || off % 1024 ≠ 0 || decide (off ≥ x.total) || p.length - 16 ≠ min 1024 (x.total - off) then s.badBlockMsg r 4 p
      else if x.key = stageKey then s.stageSegment r x p flashOk
      else (s.setTransfer { x with segs := x.segs.put off (p.drop 16) }).answerBlock r 4 p off .ok))

/-- The first offset of a block write that has no segment (R368). -/
def BlockTransfer.missing (x : BlockTransfer) : Option Nat :=
  ((List.range (ceilDiv x.total 1024)).map (· * 1024)).find? (fun o => (KMap.find x.segs o).isNone)

/-- The value of a block write. -/
def State.blockValue (s : State) (x : BlockTransfer) : Bytes :=
  if x.key = stageKey then imgBytes s.stageAt.1 s.stageAt.2 0 x.total else x.segs.flatMap (·.2)

/-- The image staged is checked, and the END replied to; network boot then starts it (18 R472, R477, R483). -/
def State.verifyStage (s : State) (r : Requester) (p : Bytes) : State :=
  match s.slotFault s.stageAt.1 s.stageAt.2 with
  | some (reason, bad) =>
    let st : Status := if reason = 4 then .refusedFit else .badDescriptor
    (s.stageFail reason st bad).answerBlock r 4 p 0xFFFFFFFF st
  | none =>
    let s := (s.setStage { s.boot.stage with state := .verified }).answerBlock r 4 p 0xFFFFFFFF .ok
    if s.networkWait then s.networkStart else s

/-- An END with every segment present and its CRC right: the whole value is applied as a WRITE of it would be (R368). -/
def State.applyBlock (s : State) (r : Requester) (x : BlockTransfer) (p : Bytes) : State :=
  let v := s.blockValue x
  let s := s.dropTransfer x.sid
  if (crc32c v).toNat ≠ bkCrc p then s.settleStage.answerBlock r 4 p 0xFFFFFFFF .badDescriptor
  else if x.key = stageKey then s.verifyStage r p
  else ({ s with kop := { s.kop with blockEnds := s.kop.blockEnds ++ [(r, x.key)] } } : State).writeObject r (bkIdx p) (bkSub p) 8 v

/-- WB_END (R368; 18 R477): a wrong total outranks a missing segment (R9). -/
def execWbEnd (m : KMsg) (s : State) : Out :=
  .next <| if otherOp m 3 then s else s.kopMsg m 4 (fun s _ =>
    let p := m.payload
    let r := requesterOf m
    s.onTransfer r 4 true 3 p (fun s x =>
      if p.length ≠ 16 then s.badBlockMsg r 4 p
      else if bkSize p ≠ x.total then (s.dropTransfer x.sid).settleStage.answerBlock r 4 p 0xFFFFFFFF .badDescriptor
      else match x.missing with
        | some o => s.answerBlock r 4 p o .notReady
        | none => s.applyBlock r x p))

/-- WB_ABORT (R370; 18 R479). -/
def execWbAbort (m : KMsg) (s : State) : Out :=
  .next <| if otherOp m 4 then s else s.kopMsg m 4 (fun s _ => s.abortMsg m 4 true)

/-- BLOCK_TIMEOUT (R370; 18 R479): 10 s without a block message. -/
def execBlockTimeout (sid : W32) (s : State) : Out :=
  .next <|
  if s.kop.transfers.any (fun t => t.sid == sid) then ((s.dropTransfer sid).bump (kopCount 0xC) 1).settleStage else s

end Sys2Proof.Machine
end

