-- ==== Sys2Proof/Machine/Fabric.lean ====
section
/-! DEFINITION. Explicit transfers, signal-counter instructions, tile power states and the clock stretch (01 R25 to R40). A command
whose precondition does not hold in the state changes nothing (log 13). -/

namespace Sys2Proof.Machine

/-! ### Move descriptors (R25) -/

def mvSrc (d : Bytes) : Nat := field d 0 6
def mvDst (d : Bytes) : Nat := field d 8 6
def mvFlags (d : Bytes) : Nat := field d 6 2
def mvFence (d : Bytes) : Bool := bit (mvFlags d) 0
def mvSignal (d : Bytes) : Bool := bit (mvFlags d) 1
def mvCounter (d : Bytes) : Nat := field d 14 2
def mvRow (d : Bytes) : Nat := field d 16 4
def mvRows (d : Bytes) : Nat := field d 20 2 + 1
def mvSrcStride (d : Bytes) : Nat := field d 24 4
def mvDstStride (d : Bytes) : Nat := field d 28 4

/-- The rows of a move: source and destination address of each (R25). -/
def mvRowList (d : Bytes) : List (Nat × Nat) :=
  (List.range (mvRows d)).map (fun i => (mvSrc d + i * mvSrcStride d, mvDst d + i * mvDstStride d))

/-- The check of a move descriptor at issue (R25, R26, R7): the first failing status with its reason of R444. -/
def moveCheck (s : State) (jb : Job) (d : Bytes) : Option (Status × Nat) :=
  if mvFlags d ≥ 4 ∨ field d 22 2 ≠ 0 ∨ (¬ mvSignal d ∧ mvCounter d ≠ 0) then some (.badDescriptor, 1)
  else if !(s.faValid (mvSrc d)) || !(s.faValid (mvDst d)) || faSpace (mvSrc d) == 2 || faSpace (mvDst d) == 2 then
    some (.badDescriptor, 2)
  else if mvSrc d % 64 ≠ 0 ∨ mvDst d % 64 ≠ 0 ∨ mvSrcStride d % 64 ≠ 0 ∨ mvDstStride d % 64 ≠ 0 ∨ mvRow d % 64 ≠ 0 then
    some (.badDescriptor, 3)
  else if mvRow d < 64 ∨ mvRow d > 2097152 ∨ mvCounter d > 255 then some (.badDescriptor, 4)
  else if !((mvRowList d).all (fun (a, b) => s.faRange a (mvRow d) && s.faRange b (mvRow d) &&
      faSpace a == faSpace (mvSrc d) && faDie a == faDie (mvSrc d) && faSpace b == faSpace (mvDst d) && faDie b == faDie (mvDst d)
      && (faSpace a == 0 || faTile a == faTile (mvSrc d)) && (faSpace b == 0 || faTile b == faTile (mvDst d)))) then
    some (.badDescriptor, 4)
  else if !((mvRowList d).all (fun (a, b) => jb.mayRead a (mvRow d) && jb.mayWrite b (mvRow d))) then some (.accessDenied, 5)
  else none

/-- A checked descriptor put into the move queue, with the granule requests its rows make (R14, R150). -/
def State.pushMove (s : State) (t j : Nat) (d : Bytes) : State :=
  let s := s.modTile t (fun x => { x with moves := x.moves ++ [⟨x.moveSeq, j, d⟩], moveSeq := x.moveSeq + 1 })
  (mvRowList d).foldl (fun s (a, b) =>
    (s.request (dieOf t) (reqMove t) false a (mvRow d)).request (dieOf t) (reqMove t) true b (mvRow d)) s

/-- MOVE_ISSUE (R26, R14; R422 for a descriptor read from poisoned bytes). -/
def execMoveIssue (t : TileNo) (d : Bytes) (poisoned : Bool) (s : State) : Out :=
  .next <|
  match s.seqJob t with
  | none => s
  | some j =>
    if poisoned then s.poisonJob t j d else
    match s.job? j with
    | none => s
    | some jb =>
      match moveCheck s jb d with
      | some (st, reason) => s.refuseItem t j st reason (s.tile t).moves.length d
      | none => if (s.tile t).moves.length < 16 then s.pushMove t j d else s.await t (.moveFull d)

/-- A sequencer that waited on a full move queue issues its descriptor once an entry has freed. -/
def State.retryMove (s : State) (t : Nat) : State :=
  match (s.tile t).seqWait, (s.tile t).job with
  | some (.moveFull d), some j => if (s.tile t).moves.length < 16 then (s.resume t).pushMove t j d else s
  | _, _ => s

/-- How an end of a move that lies in tile SRAM stands: the tile runs, its bytes have arrived, and its accumulator tiles are
accessible (R31, R58, R163). -/
def State.moveEnd (s : State) (a n : Nat) (reading : Bool) : AccAccess :=
  if faSpace a = 0 then .go else
  let t := faTile a
  if (s.tile t).power ≠ .running ∨ (reading ∧ s.notArrived t (faSram a) n) then .wait
  else (s.tile t).accAccess (faSram a) n

/-- How a whole move stands. -/
def State.moveAccess (s : State) (d : Bytes) : AccAccess :=
  let ends := (mvRowList d).flatMap (fun (a, b) => [s.moveEnd a (mvRow d) true, s.moveEnd b (mvRow d) false])
  if ends.contains .dead then .dead else if ends.contains .wait then .wait else .go

/-- The first row of a move that breaks the page rules (R157): a source page not SEALED, or a destination page SEALED. -/
def State.moveSealFault (s : State) (d : Bytes) : Option Nat :=
  (mvRowList d).findSome? (fun (a, b) =>
    if faSpace a = 0 ∧ ¬ s.sealedRange a (mvRow d) then some a
    else if faSpace b = 0 ∧ ¬ s.writableRange b (mvRow d) then some b else none)

/-- One row copied; a destination in stack memory opens its pages (R154). -/
def State.moveRow (s : State) (j n : Nat) (row : Nat × Nat) : State :=
  let s := if faSpace row.2 = 0 then s.openRange j row.2 n else s
  s.copy row.1 row.2 n

/-- MOVE_DELIVERED (R27, R28, R29, R31, R58, R157, R393): once nothing holds it back, every byte is written and the descriptor
completes. -/
def execMoveDelivered (t : TileNo) (entry : Nat) (s : State) : Out :=
  .next <|
  match (s.tile t).moves.find? (fun e => e.id == entry) with
  | none => s
  | some e =>
    let d := e.desc
    if mvFence d && (s.tile t).moves.any (fun x => decide (x.id < e.id)) then s
    else if (mvRowList d).any (fun (a, b) => s.outstanding false a (mvRow d) || s.outstanding true b (mvRow d)) then s
    else
      match s.moveAccess d with
      | .wait => s
      | .dead => s.refuseItem t e.job .badDescriptor 6 0 d
      | .go =>
        match s.moveSealFault d with
        | some a => s.sealViolation e.job t a
        | none =>
          let s := s.modTile t (fun x => { x with moves := x.moves.filter (fun y => y.id ≠ e.id) })
          if faSpace (mvDst d) = 1 ∧ (s.tile (faTile (mvDst d))).job ≠ some e.job then
            let (v, s) := s.draw
            (s.bump (okey 0x2320 0x0A) (1 + v)).retryMove t
          else
            let s := (mvRowList d).foldl (fun s r => s.moveRow e.job (mvRow d) r) s
            let s := if mvSignal d then s.signal e.job (faDie (mvDst d)) (mvCounter d) else s
            s.retryMove t

/-! ### Signal counters (R28) -/

/-- A count has reached an operand: their difference modulo 2^32, read as signed, is zero or positive (R28). -/
def reached (count operand : W32) : Bool := !(count - operand).msb

/-- WAIT_COUNTER (R28). -/
def execWaitCounter (t : TileNo) (c : Fin 256) (operand : W32) (s : State) : Out :=
  .next <|
  match s.seqJob t with
  | none => s
  | some _ => if reached ((s.die (dieOf t)).signal c) operand then s else s.await t (.counter c operand)

/-- WAIT_COUNTER_RESUME (R28). -/
def execWaitCounterResume (t : TileNo) (s : State) : Out :=
  .next <|
  match (s.tile t).seqWait with
  | some (.counter c operand) => if reached ((s.die (dieOf t)).signal c) operand then s.resume t else s
  | _ => s

/-- READ_COUNTER (R28): the raw count, zero-extended, to a general register. -/
def execReadCounter (t : TileNo) (c : Fin 256) (rd : RegNo) (s : State) : Out :=
  .next <|
  match s.seqJob t with
  | none => s
  | some _ => s.modTile t (fun x => x.setG rd (((s.die (dieOf t)).signal c).setWidth 64) false)

/-! ### Tile power (R37, R38; 15 R413; 17 R467) -/

/-- A tile without work: its sequencer waits, has ended or holds no job, and no engine of it works (R37). -/
def State.idle (s : State) (t : Nat) : Bool :=
  let x := s.tile t
  (s.seqJob t).isNone && x.moves.isEmpty && x.passQ.isEmpty && x.passRun.isNone && x.passDone.isEmpty && x.drains.isEmpty &&
  x.selQ.isEmpty && x.vq.isEmpty && (match x.stream with | some st => st.flight.isEmpty | none => true) &&
  !((s.die (dieOf t)).gathers.any (fun g => g.tile == t))

/-- TILE_GATE (R37). -/
def execTileGate (t : TileNo) (s : State) : Out :=
  .next <|
  if (s.tile t).power = .running ∧ s.idle t then s.modTile t (fun x => { x with power := .gated }) else s

/-- TILE_RETENTION (R37): commanded by the steward while the tile has no work. -/
def execTileRetention (t : TileNo) (s : State) : Out :=
  .next <|
  if (s.tile t).power = .gated ∨ ((s.tile t).power = .running ∧ s.idle t) then
    s.modTile t (fun x => { x with power := .retention }) else s

/-- TILE_WAKE (R38): a wake starts; a tile that is retired, or whose die is not ready, does not wake (16 R437, 15 R412). -/
def execTileWake (t : TileNo) (s : State) : Out :=
  .next <|
  if (s.die (dieOf t)).state ≠ .ready ∨ s.isRetired (.tile t) then s else
  match (s.tile t).power with
  | .gated => s.modTile t (fun x => { x with power := .waking .gated })
  | .retention => s.modTile t (fun x => { x with power := .waking .retention })
  | .off => s.modTile t (fun x => { x with power := .waking .off })
  | _ => s

/-- TILE_WAKE_DONE (R37, R38): the tile runs; from Off, with its SRAM filled with clean zeros (15 R413). -/
def execTileWakeDone (t : TileNo) (ns : Nat) (s : State) : Out :=
  .next <|
  match (s.tile t).power with
  | .waking w =>
    let s := match w with
      | .off => (s.zeroRange (sramFa t 0) sramEnd).modTile t (fun x => { x with accValid := [], lintRow := 0 })
      | _ => s
    let s := s.modTile t (fun x => { x with power := .running })
    let s := s.tbump t 2 (match w with | .gated => 1 | .retention => 2 | .off => 3) 1
    s.raiseTo (dkey (dieOf t) 2 4) (ns % 2 ^ 32)
  | _ => s

/-! ### Supply sag (R39) -/

/-- DROOP_STRETCH (R39). -/
def execDroopStretch (d : DieNo) (s : State) : Out :=
  .next (if (s.die d).powered then s.stretch d (fun x => { x with droop := true }) else s)

/-- STRETCH_RELEASE (R39). -/
def execStretchRelease (d : DieNo) (s : State) : Out :=
  .next (s.stretch d (fun x => { x with droop := false }))

end Sys2Proof.Machine
end

