-- ==== Sys2Proof/Machine/Dispatch.lean ====
section
/-! DEFINITION. The meaning of every command: one arm per constructor, each one call. -/

namespace Sys2Proof.Machine

def exec (i : Instr) (s : State) : Host.Outcome State Fault Refusal :=
  match i with
  | .moveIssue t d poisoned => Sys2Proof.Machine.execMoveIssue t d poisoned s
  | .moveDelivered t entry => Sys2Proof.Machine.execMoveDelivered t entry s
  | .waitCounter t c operand => Sys2Proof.Machine.execWaitCounter t c operand s
  | .waitCounterResume t => Sys2Proof.Machine.execWaitCounterResume t s
  | .readCounter t c rd => Sys2Proof.Machine.execReadCounter t c rd s
  | .tileGate t => Sys2Proof.Machine.execTileGate t s
  | .tileRetention t => Sys2Proof.Machine.execTileRetention t s
  | .tileWake t => Sys2Proof.Machine.execTileWake t s
  | .tileWakeDone t ns => Sys2Proof.Machine.execTileWakeDone t ns s
  | .droopStretch d => Sys2Proof.Machine.execDroopStretch d s
  | .stretchRelease d => Sys2Proof.Machine.execStretchRelease d s
  | .passIssue t d poisoned => Sys2Proof.Machine.execPassIssue t d poisoned s
  | .passStart t feedBubbles drainStalls => Sys2Proof.Machine.execPassStart t feedBubbles drainStalls s
  | .passLastColumn t feedBubbles faulty => Sys2Proof.Machine.execPassLastColumn t feedBubbles faulty s
  | .passResultsDone t => Sys2Proof.Machine.execPassResultsDone t s
  | .drainUnit t => Sys2Proof.Machine.execDrainUnit t s
  | .accAccessResume t => Sys2Proof.Machine.execAccAccessResume t s
  | .arrayRetire t => Sys2Proof.Machine.execArrayRetire t s
  | .vnop t o => Sys2Proof.Machine.execVnop t o s
  | .setvl t o => Sys2Proof.Machine.execSetvl t o s
  | .vfence t o => Sys2Proof.Machine.execVfence t o s
  | .vstat t o => Sys2Proof.Machine.execVstat t o s
  | .siteopen t o => Sys2Proof.Machine.execSiteopen t o s
  | .siteq t o => Sys2Proof.Machine.execSiteq t o s
  | .siteclose t o => Sys2Proof.Machine.execSiteclose t o s
  | .hpop t o => Sys2Proof.Machine.execHpop t o s
  | .hpopComplete t errs => Sys2Proof.Machine.execHpopComplete t errs s
  | .hstat t o => Sys2Proof.Machine.execHstat t o s
  | .hrinse t o => Sys2Proof.Machine.execHrinse t o s
  | .vld t o => Sys2Proof.Machine.execVld t o s
  | .vlds t o => Sys2Proof.Machine.execVlds t o s
  | .vldx t o => Sys2Proof.Machine.execVldx t o s
  | .vldp t o => Sys2Proof.Machine.execVldp t o s
  | .vst t o => Sys2Proof.Machine.execVst t o s
  | .vsts t o => Sys2Proof.Machine.execVsts t o s
  | .vstx t o => Sys2Proof.Machine.execVstx t o s
  | .vstp t o => Sys2Proof.Machine.execVstp t o s
  | .vfadd t o => Sys2Proof.Machine.execVfadd t o s
  | .vfsub t o => Sys2Proof.Machine.execVfsub t o s
  | .vfmul t o => Sys2Proof.Machine.execVfmul t o s
  | .vfma t o => Sys2Proof.Machine.execVfma t o s
  | .vfmin t o => Sys2Proof.Machine.execVfmin t o s
  | .vfmax t o => Sys2Proof.Machine.execVfmax t o s
  | .vfabs t o => Sys2Proof.Machine.execVfabs t o s
  | .vfneg t o => Sys2Proof.Machine.execVfneg t o s
  | .vfdiv t o => Sys2Proof.Machine.execVfdiv t o s
  | .vfsqrt t o => Sys2Proof.Machine.execVfsqrt t o s
  | .vscale t o => Sys2Proof.Machine.execVscale t o s
  | .vadd t o => Sys2Proof.Machine.execVadd t o s
  | .vsub t o => Sys2Proof.Machine.execVsub t o s
  | .vmul t o => Sys2Proof.Machine.execVmul t o s
  | .vmin t o => Sys2Proof.Machine.execVmin t o s
  | .vmax t o => Sys2Proof.Machine.execVmax t o s
  | .vand t o => Sys2Proof.Machine.execVand t o s
  | .vor t o => Sys2Proof.Machine.execVor t o s
  | .vxor t o => Sys2Proof.Machine.execVxor t o s
  | .vshl t o => Sys2Proof.Machine.execVshl t o s
  | .vshr t o => Sys2Proof.Machine.execVshr t o s
  | .vsra t o => Sys2Proof.Machine.execVsra t o s
  | .vfcmp t o => Sys2Proof.Machine.execVfcmp t o s
  | .vcmp t o => Sys2Proof.Machine.execVcmp t o s
  | .vsel t o => Sys2Proof.Machine.execVsel t o s
  | .vcompress t o => Sys2Proof.Machine.execVcompress t o s
  | .vexpand t o => Sys2Proof.Machine.execVexpand t o s
  | .vidx t o => Sys2Proof.Machine.execVidx t o s
  | .vperm t o => Sys2Proof.Machine.execVperm t o s
  | .vslideup t o => Sys2Proof.Machine.execVslideup t o s
  | .vslidedn t o => Sys2Proof.Machine.execVslidedn t o s
  | .vbcast t o => Sys2Proof.Machine.execVbcast t o s
  | .vzip t o => Sys2Proof.Machine.execVzip t o s
  | .vunzip t o => Sys2Proof.Machine.execVunzip t o s
  | .vpack t o => Sys2Proof.Machine.execVpack t o s
  | .vunpack t o => Sys2Proof.Machine.execVunpack t o s
  | .vfrsum t o => Sys2Proof.Machine.execVfrsum t o s
  | .vfrmax t o => Sys2Proof.Machine.execVfrmax t o s
  | .vfrmin t o => Sys2Proof.Machine.execVfrmin t o s
  | .vfrargmax t o => Sys2Proof.Machine.execVfrargmax t o s
  | .vrsum t o => Sys2Proof.Machine.execVrsum t o s
  | .vrmax t o => Sys2Proof.Machine.execVrmax t o s
  | .vrmin t o => Sys2Proof.Machine.execVrmin t o s
  | .vcvt t o => Sys2Proof.Machine.execVcvt t o s
  | .vexp t o => Sys2Proof.Machine.execVexp t o s
  | .vexp2 t o => Sys2Proof.Machine.execVexp2 t o s
  | .vlog t o => Sys2Proof.Machine.execVlog t o s
  | .vlog2 t o => Sys2Proof.Machine.execVlog2 t o s
  | .vrcp t o => Sys2Proof.Machine.execVrcp t o s
  | .vrsqrt t o => Sys2Proof.Machine.execVrsqrt t o s
  | .vtanh t o => Sys2Proof.Machine.execVtanh t o s
  | .vsigm t o => Sys2Proof.Machine.execVsigm t o s
  | .vsilu t o => Sys2Proof.Machine.execVsilu t o s
  | .vgelu t o => Sys2Proof.Machine.execVgelu t o s
  | .vsin t o => Sys2Proof.Machine.execVsin t o s
  | .vcos t o => Sys2Proof.Machine.execVcos t o s
  | .queueWrite q item => Sys2Proof.Machine.execQueueWrite q item s
  | .queueRead q errs => Sys2Proof.Machine.execQueueRead q errs s
  | .queueRinse q => Sys2Proof.Machine.execQueueRinse q s
  | .selIssue t d poisoned => Sys2Proof.Machine.execSelIssue t d poisoned s
  | .selOpen t => Sys2Proof.Machine.execSelOpen t s
  | .selFeed t => Sys2Proof.Machine.execSelFeed t s
  | .selMerge t => Sys2Proof.Machine.execSelMerge t s
  | .selClose t => Sys2Proof.Machine.execSelClose t s
  | .selectWait t slot => Sys2Proof.Machine.execSelectWait t slot s
  | .selectWaitResume t => Sys2Proof.Machine.execSelectWaitResume t s
  | .stackRequestGrant d ch => Sys2Proof.Machine.execStackRequestGrant d ch s
  | .stackReadReturn d ch slot reads => Sys2Proof.Machine.execStackReadReturn d ch slot reads s
  | .stackWriteDone d ch slot => Sys2Proof.Machine.execStackWriteDone d ch slot s
  | .stackWriteback d => Sys2Proof.Machine.execStackWriteback d s
  | .seqTier1Load t addr => Sys2Proof.Machine.execSeqTier1Load t addr s
  | .seqTier1Store t addr => Sys2Proof.Machine.execSeqTier1Store t addr s
  | .commitFence t addr pages => Sys2Proof.Machine.execCommitFence t addr pages s
  | .commitFenceDone t => Sys2Proof.Machine.execCommitFenceDone t s
  | .pageRecycle t addr => Sys2Proof.Machine.execPageRecycle t addr s
  | .pageRecycleDone d addr => Sys2Proof.Machine.execPageRecycleDone d addr s
  | .streamStart t addr => Sys2Proof.Machine.execStreamStart t addr s
  | .streamRelease t n => Sys2Proof.Machine.execStreamRelease t n s
  | .streamEntryIssue t => Sys2Proof.Machine.execStreamEntryIssue t s
  | .streamEntryArrived t entry => Sys2Proof.Machine.execStreamEntryArrived t entry s
  | .streamWait t entry => Sys2Proof.Machine.execStreamWait t entry s
  | .streamWaitResume t => Sys2Proof.Machine.execStreamWaitResume t s
  | .gatherAddr t d poisoned => Sys2Proof.Machine.execGatherAddr t d poisoned s
  | .gatherIndex t d poisoned => Sys2Proof.Machine.execGatherIndex t d poisoned s
  | .gatherHostRead t d poisoned data => Sys2Proof.Machine.execGatherHostRead t d poisoned data s
  | .gatherHostWrite t d poisoned => Sys2Proof.Machine.execGatherHostWrite t d poisoned s
  | .gatherElementIssue d => Sys2Proof.Machine.execGatherElementIssue d s
  | .gatherComplete d id => Sys2Proof.Machine.execGatherComplete d id s
  | .gatherWait t id => Sys2Proof.Machine.execGatherWait t id s
  | .gatherWaitResume t => Sys2Proof.Machine.execGatherWaitResume t s
  | .hostTransferFail t id => Sys2Proof.Machine.execHostTransferFail t id s
  | .searchAdmit req query => Sys2Proof.Machine.execSearchAdmit req query s
  | .batchClose coll => Sys2Proof.Machine.execBatchClose coll s
  | .searchResult req => Sys2Proof.Machine.execSearchResult req s
  | .updateCommit coll src entries => Sys2Proof.Machine.execUpdateCommit coll src entries s
  | .foldSwitch coll f => Sys2Proof.Machine.execFoldSwitch coll f s
  | .foldSwitchRelease coll => Sys2Proof.Machine.execFoldSwitchRelease coll s
  | .versionRelease coll => Sys2Proof.Machine.execVersionRelease coll s
  | .lookupAdmit req indices => Sys2Proof.Machine.execLookupAdmit req indices s
  | .lookupDone req => Sys2Proof.Machine.execLookupDone req s
  | .tableModeWrite r v => Sys2Proof.Machine.execTableModeWrite r v s
  | .stageBatch table entries => Sys2Proof.Machine.execStageBatch table entries s
  | .tableBuild table b => Sys2Proof.Machine.execTableBuild table b s
  | .tableSwitch table => Sys2Proof.Machine.execTableSwitch table s
  | .tableSwitchRelease table => Sys2Proof.Machine.execTableSwitchRelease table s
  | .tableVersionRelease table => Sys2Proof.Machine.execTableVersionRelease table s
  | .tokenise req lanes => Sys2Proof.Machine.execTokenise req lanes s
  | .vcacheFill d addr => Sys2Proof.Machine.execVcacheFill d addr s
  | .textInput d requesters => Sys2Proof.Machine.execTextInput d requesters s
  | .detokenise req id => Sys2Proof.Machine.execDetokenise req id s
  | .directive req => Sys2Proof.Machine.execDirective req s
  | .directiveStep0 req => Sys2Proof.Machine.execDirectiveStep0 req s
  | .descriptorRead req data => Sys2Proof.Machine.execDescriptorRead req data s
  | .stageAdmit req => Sys2Proof.Machine.execStageAdmit req s
  | .stageHandoff req status => Sys2Proof.Machine.execStageHandoff req status s
  | .embedStage req dense => Sys2Proof.Machine.execEmbedStage req dense s
  | .rerankStage req scores => Sys2Proof.Machine.execRerankStage req scores s
  | .packStage req => Sys2Proof.Machine.execPackStage req s
  | .generateAdmit req list => Sys2Proof.Machine.execGenerateAdmit req list s
  | .kvReserveGrant model => Sys2Proof.Machine.execKvReserveGrant model s
  | .kvWaitExpiry req => Sys2Proof.Machine.execKvWaitExpiry req s
  | .prefillDone req => Sys2Proof.Machine.execPrefillDone req s
  | .decodeStep req z => Sys2Proof.Machine.execDecodeStep req z s
  | .outputWrite req => Sys2Proof.Machine.execOutputWrite req s
  | .outputWriteFail req cause => Sys2Proof.Machine.execOutputWriteFail req cause s
  | .completionWrite req => Sys2Proof.Machine.execCompletionWrite req s
  | .completionLost req => Sys2Proof.Machine.execCompletionLost req s
  | .partitionWrite n r v => Sys2Proof.Machine.execPartitionWrite n r v s
  | .jobLoad r v => Sys2Proof.Machine.execJobLoad r v s
  | .jobAdmit image => Sys2Proof.Machine.execJobAdmit image s
  | .jobUnload r v => Sys2Proof.Machine.execJobUnload r v s
  | .jobEndInstr t => Sys2Proof.Machine.execJobEndInstr t s
  | .privilegedWrite r v => Sys2Proof.Machine.execPrivilegedWrite r v s
  | .cycleTableWrite n r v => Sys2Proof.Machine.execCycleTableWrite n r v s
  | .cycleStart n => Sys2Proof.Machine.execCycleStart n s
  | .slotBoundary n => Sys2Proof.Machine.execSlotBoundary n s
  | .saveDone j => Sys2Proof.Machine.execSaveDone j s
  | .restoreDone j => Sys2Proof.Machine.execRestoreDone j s
  | .cheapPoint t point => Sys2Proof.Machine.execCheapPoint t point s
  | .cheapGapExpiry t => Sys2Proof.Machine.execCheapGapExpiry t s
  | .stepBegin t => Sys2Proof.Machine.execStepBegin t s
  | .stepGrant j remainingUs => Sys2Proof.Machine.execStepGrant j remainingUs s
  | .stepEnd t => Sys2Proof.Machine.execStepEnd t s
  | .watchdogExpiry j => Sys2Proof.Machine.execWatchdogExpiry j s
  | .waitLimitExpiry t => Sys2Proof.Machine.execWaitLimitExpiry t s
  | .portLinkUp p lanes => Sys2Proof.Machine.execPortLinkUp p lanes s
  | .laneFailFallback p lanes => Sys2Proof.Machine.execLaneFailFallback p lanes s
  | .portRetry p lanes => Sys2Proof.Machine.execPortRetry p lanes s
  | .portModeWrite p r v => Sys2Proof.Machine.execPortModeWrite p r v s
  | .frameReceive p f => Sys2Proof.Machine.execFrameReceive p f s
  | .pfcXon p second held => Sys2Proof.Machine.execPfcXon p second held s
  | .pfcReceive p prio pause => Sys2Proof.Machine.execPfcReceive p prio pause s
  | .pauseStorm p second => Sys2Proof.Machine.execPauseStorm p second s
  | .pauseHonourResume p second => Sys2Proof.Machine.execPauseHonourResume p second s
  | .cnpReceive qp => Sys2Proof.Machine.execCnpReceive qp s
  | .rateRecover qp => Sys2Proof.Machine.execRateRecover qp s
  | .roceWriteIn p qp rkey va data => Sys2Proof.Machine.execRoceWriteIn p qp rkey va data s
  | .roceOpRefused p qp => Sys2Proof.Machine.execRoceOpRefused p qp s
  | .ackReceive qp n => Sys2Proof.Machine.execAckReceive qp n s
  | .nakReceive qp kind => Sys2Proof.Machine.execNakReceive qp kind s
  | .retransmitTimeout qp => Sys2Proof.Machine.execRetransmitTimeout qp s
  | .qpSetup r v => Sys2Proof.Machine.execQpSetup r v s
  | .qpReset r v => Sys2Proof.Machine.execQpReset r v s
  | .ringSetup r v => Sys2Proof.Machine.execRingSetup r v s
  | .ringTeardown r v => Sys2Proof.Machine.execRingTeardown r v s
  | .doorbellTail ring d => Sys2Proof.Machine.execDoorbellTail ring d s
  | .doorbellHead ring d => Sys2Proof.Machine.execDoorbellHead ring d s
  | .doorbellCancel ring d => Sys2Proof.Machine.execDoorbellCancel ring d s
  | .entryNop ring => Sys2Proof.Machine.execEntryNop ring s
  | .entryRequest ring => Sys2Proof.Machine.execEntryRequest ring s
  | .entryUpdate ring => Sys2Proof.Machine.execEntryUpdate ring s
  | .entryStage ring => Sys2Proof.Machine.execEntryStage ring s
  | .windowSetup r v => Sys2Proof.Machine.execWindowSetup r v s
  | .eventSelect r v => Sys2Proof.Machine.execEventSelect r v s
  | .eventPop r => Sys2Proof.Machine.execEventPop r s
  | .eventRinse r v => Sys2Proof.Machine.execEventRinse r v s
  | .dadComplete p duplicate iid => Sys2Proof.Machine.execDadComplete p duplicate iid s
  | .identify m => Sys2Proof.Machine.execIdentify m s
  | .identifyReply n => Sys2Proof.Machine.execIdentifyReply n s
  | .claim m => Sys2Proof.Machine.execClaim m s
  | .claimWrite r v => Sys2Proof.Machine.execClaimWrite r v s
  | .claimProbeEnd conflict => Sys2Proof.Machine.execClaimProbeEnd conflict s
  | .releaseClaim r v => Sys2Proof.Machine.execReleaseClaim r v s
  | .kopMalformed p dport dgram => Sys2Proof.Machine.execKopMalformed p dport dgram s
  | .kopOpen m nonce => Sys2Proof.Machine.execKopOpen m nonce s
  | .kopClose m => Sys2Proof.Machine.execKopClose m s
  | .sessionIdleExpiry sid => Sys2Proof.Machine.execSessionIdleExpiry sid s
  | .closeOthers r v => Sys2Proof.Machine.execCloseOthers r v s
  | .kopRead m => Sys2Proof.Machine.execKopRead m s
  | .kopWrite m => Sys2Proof.Machine.execKopWrite m s
  | .kopNotifyIn m => Sys2Proof.Machine.execKopNotifyIn m s
  | .rbInitiate m => Sys2Proof.Machine.execRbInitiate m s
  | .rbSegment m => Sys2Proof.Machine.execRbSegment m s
  | .rbEnd m => Sys2Proof.Machine.execRbEnd m s
  | .rbAbort m => Sys2Proof.Machine.execRbAbort m s
  | .wbInitiate m => Sys2Proof.Machine.execWbInitiate m s
  | .wbSegment m flashOk => Sys2Proof.Machine.execWbSegment m flashOk s
  | .wbEnd m => Sys2Proof.Machine.execWbEnd m s
  | .wbAbort m => Sys2Proof.Machine.execWbAbort m s
  | .blockTimeout sid => Sys2Proof.Machine.execBlockTimeout sid s
  | .objectWrite r index sub type v => Sys2Proof.Machine.execObjectWrite r index sub type v s
  | .contextSetup r v => Sys2Proof.Machine.execContextSetup r v s
  | .contextDelete r v => Sys2Proof.Machine.execContextDelete r v s
  | .domainCreate r v => Sys2Proof.Machine.execDomainCreate r v s
  | .domainDestroy r v => Sys2Proof.Machine.execDomainDestroy r v s
  | .regionWrite r v => Sys2Proof.Machine.execRegionWrite r v s
  | .regionFillDone => Sys2Proof.Machine.execRegionFillDone s
  | .jobDomainWrite j r v => Sys2Proof.Machine.execJobDomainWrite j r v s
  | .roleKeyWrite r v => Sys2Proof.Machine.execRoleKeyWrite r v s
  | .attestNonce r v => Sys2Proof.Machine.execAttestNonce r v s
  | .attestSigned => Sys2Proof.Machine.execAttestSigned s
  | .sealBlow r v => Sys2Proof.Machine.execSealBlow r v s
  | .sramWriteback t => Sys2Proof.Machine.execSramWriteback t s
  | .soakFill d => Sys2Proof.Machine.execSoakFill d s
  | .soakFillDone d ms => Sys2Proof.Machine.execSoakFillDone d ms s
  | .lintRead d errs late => Sys2Proof.Machine.execLintRead d errs late s
  | .lintSramRow t errs => Sys2Proof.Machine.execLintSramRow t errs s
  | .remap d ch bank row ledgerOk => Sys2Proof.Machine.execRemap d ch bank row ledgerOk s
  | .linkFlitError d dir lanes replays => Sys2Proof.Machine.execLinkFlitError d dir lanes replays s
  | .linkRetrainDone d dir failed discarded => Sys2Proof.Machine.execLinkRetrainDone d dir failed discarded s
  | .linkLockLoss d dir lane => Sys2Proof.Machine.execLinkLockLoss d dir lane s
  | .thresholdReached d res => Sys2Proof.Machine.execThresholdReached d res s
  | .laneRetire d dir lane => Sys2Proof.Machine.execLaneRetire d dir lane s
  | .linkRetire d dir => Sys2Proof.Machine.execLinkRetire d dir s
  | .channelRetire d ch => Sys2Proof.Machine.execChannelRetire d ch s
  | .tileRetire t => Sys2Proof.Machine.execTileRetire t s
  | .dieRetire d => Sys2Proof.Machine.execDieRetire d s
  | .stewardLockup d => Sys2Proof.Machine.execStewardLockup d s
  | .governorStretch d watts => Sys2Proof.Machine.execGovernorStretch d watts s
  | .governorRelease d watts => Sys2Proof.Machine.execGovernorRelease d watts s
  | .supplyTrip watts => Sys2Proof.Machine.execSupplyTrip watts s
  | .thermalWarn d temp => Sys2Proof.Machine.execThermalWarn d temp s
  | .thermalThrottle d temp => Sys2Proof.Machine.execThermalThrottle d temp s
  | .thermalThrottleEnd d temp => Sys2Proof.Machine.execThermalThrottleEnd d temp s
  | .thermalTrip d temp => Sys2Proof.Machine.execThermalTrip d temp s
  | .coolantHold inlet outlet flow sensorFault => Sys2Proof.Machine.execCoolantHold inlet outlet flow sensorFault s
  | .coolantRelease inlet outlet flow => Sys2Proof.Machine.execCoolantRelease inlet outlet flow s
  | .coolantQualified inlet outlet flow => Sys2Proof.Machine.execCoolantQualified inlet outlet flow s
  | .ledgerSummaryWrite => Sys2Proof.Machine.execLedgerSummaryWrite s
  | .logRinse r v => Sys2Proof.Machine.execLogRinse r v s
  | .powerGood mv bootSel clkSel refOk => Sys2Proof.Machine.execPowerGood mv bootSel clkSel refOk s
  | .powerGoodLoss => Sys2Proof.Machine.execPowerGoodLoss s
  | .resetNAssert => Sys2Proof.Machine.execResetNAssert s
  | .resetNRelease bootSel clkSel refOk => Sys2Proof.Machine.execResetNRelease bootSel clkSel refOk s
  | .refLoss => Sys2Proof.Machine.execRefLoss s
  | .refRecover bootSel clkSel => Sys2Proof.Machine.execRefRecover bootSel clkSel s
  | .mcWatchdog => Sys2Proof.Machine.execMcWatchdog s
  | .moduleResetWarm r v => Sys2Proof.Machine.execModuleResetWarm r v s
  | .moduleResetCold r v => Sys2Proof.Machine.execModuleResetCold r v s
  | .moduleResetBegin => Sys2Proof.Machine.execModuleResetBegin s
  | .dieReset r v => Sys2Proof.Machine.execDieReset r v s
  | .tileReset r v => Sys2Proof.Machine.execTileReset r v s
  | .contextReset r v => Sys2Proof.Machine.execContextReset r v s
  | .contextResetDone c => Sys2Proof.Machine.execContextResetDone c s
  | .bootRom recordOk => Sys2Proof.Machine.execBootRom recordOk s
  | .diePowerGroup => Sys2Proof.Machine.execDiePowerGroup s
  | .diePllLock d recordOk => Sys2Proof.Machine.execDiePllLock d recordOk s
  | .phyTrained d ok => Sys2Proof.Machine.execPhyTrained d ok s
  | .ledgerEraseDone objects => Sys2Proof.Machine.execLedgerEraseDone objects s
  | .stagePrepare r v => Sys2Proof.Machine.execStagePrepare r v s
  | .prepareEraseDone badBlock => Sys2Proof.Machine.execPrepareEraseDone badBlock s
  | .activateWarm r v => Sys2Proof.Machine.execActivateWarm r v s
  | .activateCold r v => Sys2Proof.Machine.execActivateCold r v s
  | .activateDefer r v => Sys2Proof.Machine.execActivateDefer r v s
  | .confirm r v => Sys2Proof.Machine.execConfirm r v s
  | .revert r v => Sys2Proof.Machine.execRevert r v s
  | .busInsert mv => Sys2Proof.Machine.execBusInsert mv s
  | .busHighBand mv => Sys2Proof.Machine.execBusHighBand mv s
  | .busOvervolt mv => Sys2Proof.Machine.execBusOvervolt mv s
  | .busLowBand mv => Sys2Proof.Machine.execBusLowBand mv s
  | .busLowRecover mv => Sys2Proof.Machine.execBusLowRecover mv s
  | .busUndervolt mv => Sys2Proof.Machine.execBusUndervolt mv s
  | .tapExtest => Sys2Proof.Machine.execTapExtest s
  | .tapIdcode => Sys2Proof.Machine.execTapIdcode s
  | .tapBypass => Sys2Proof.Machine.execTapBypass s
  | .tapVendorDebug code => Sys2Proof.Machine.execTapVendorDebug code s
  | .tapTestLogicReset => Sys2Proof.Machine.execTapTestLogicReset s
  | .arrayCountersClear d r v => Sys2Proof.Machine.execArrayCountersClear d r v s
  | .formatCountersClear d r v => Sys2Proof.Machine.execFormatCountersClear d r v s
  | .veCountersClear d r v => Sys2Proof.Machine.execVeCountersClear d r v s
  | .selCountersClear d r v => Sys2Proof.Machine.execSelCountersClear d r v s
  | .memCountersClear d r v => Sys2Proof.Machine.execMemCountersClear d r v s
  | .searchCountersClear r v => Sys2Proof.Machine.execSearchCountersClear r v s
  | .tableCountersClear d r v => Sys2Proof.Machine.execTableCountersClear d r v s
  | .textCountersClear r v => Sys2Proof.Machine.execTextCountersClear r v s
  | .textdieCountersClear d r v => Sys2Proof.Machine.execTextdieCountersClear d r v s
  | .genCountersClear r v => Sys2Proof.Machine.execGenCountersClear r v s
  | .schedCountersClear r v => Sys2Proof.Machine.execSchedCountersClear r v s
  | .ringCountersClear r v => Sys2Proof.Machine.execRingCountersClear r v s
  | .portCountersClear p r v => Sys2Proof.Machine.execPortCountersClear p r v s
  | .kopCountersClear r v => Sys2Proof.Machine.execKopCountersClear r v s
  | .dieCountersClear d r v => Sys2Proof.Machine.execDieCountersClear d r v s
  | .linkCountersClear d r v => Sys2Proof.Machine.execLinkCountersClear d r v s
  | .tenancyCountersClear r v => Sys2Proof.Machine.execTenancyCountersClear r v s
  | .integrityCountersClear d r v => Sys2Proof.Machine.execIntegrityCountersClear d r v s
  | .thermalCountersClear d r v => Sys2Proof.Machine.execThermalCountersClear d r v s
  | .retireCountersClear d r v => Sys2Proof.Machine.execRetireCountersClear d r v s
  | .clockCountersClear d r v => Sys2Proof.Machine.execClockCountersClear d r v s
  | .fwCountersClear r v => Sys2Proof.Machine.execFwCountersClear r v s
  | .busHighBandExit mv => Sys2Proof.Machine.execBusHighBandExit mv s
  | .supplyTripAlertEnd => Sys2Proof.Machine.execSupplyTripAlertEnd s
  | .akDerived => Sys2Proof.Machine.execAkDerived s
  | .heldDieCooled d temp => Sys2Proof.Machine.execHeldDieCooled d temp s
  | .fuseProgramDone ok => Sys2Proof.Machine.execFuseProgramDone ok s
  | .stewardUncorrectable d => Sys2Proof.Machine.execStewardUncorrectable d s
  | .mcUncorrectable => Sys2Proof.Machine.execMcUncorrectable s
  | .tapUpdateDr bits => Sys2Proof.Machine.execTapUpdateDr bits s
  | .ledgerWriteDone objects ok => Sys2Proof.Machine.execLedgerWriteDone objects ok s

end Sys2Proof.Machine
end

