-- ==== Sys2Proof/Safety.lean ====
section
/-! DEFINITION. What counts as a safe step: it answers a next state. -/

namespace Sys2Proof

/-- The step answers a next state: it neither faults nor is refused by the model. -/
def Safe (s : Machine.State) : Prop := ∃ t, Machine.step s = .next t

end Sys2Proof
end

