-- ==== Sys2Proof/WellFormed.lean ====
section
/-! DEFINITION. Which commands can be sent at all: byte strings have the length their layout gives them. A command that is not well
formed stands for nothing on the hardware; the meanings are total all the same. -/

namespace Sys2Proof

/-- A KOP datagram's parts have the sizes R356 gives them. -/
def KMsg.wellFormed (m : KMsg) : Bool := m.tag.length == 32 && decide (m.payload.length ≤ 1184)

/-- A command is well formed: descriptors are 32 bytes (R25, R47, R130, R166), doorbells 16 (R332), messages as in R356, an item of
the queue macro has at least one segment (R113), an error pattern covers a 36-byte sector (R406). -/
def Instr.wellFormed : Instr → Bool
  | .moveIssue _ d _ => d.length == 32
  | .passIssue _ d _ => d.length == 32
  | .selIssue _ d _ => d.length == 32
  | .gatherAddr _ d _ => d.length == 32
  | .gatherIndex _ d _ => d.length == 32
  | .gatherHostRead _ d _ _ => d.length == 32
  | .gatherHostWrite _ d _ => d.length == 32
  | .doorbellTail _ d => d.length == 16
  | .doorbellHead _ d => d.length == 16
  | .doorbellCancel _ d => d.length == 16
  | .queueWrite _ item => decide (item.segs ≠ [])
  | .stackReadReturn _ _ _ reads => reads.all (fun r => r.all (fun f => f.err.length == 36))
  | .lintRead _ errs _ => errs.all (fun f => f.err.length == 36)
  | .kopOpen m nonce => m.wellFormed && nonce.length == 16
  | .identify m => m.wellFormed
  | .claim m => m.wellFormed
  | .kopClose m => m.wellFormed
  | .kopRead m => m.wellFormed
  | .kopWrite m => m.wellFormed
  | .kopNotifyIn m => m.wellFormed
  | .rbInitiate m => m.wellFormed
  | .rbSegment m => m.wellFormed
  | .rbEnd m => m.wellFormed
  | .rbAbort m => m.wellFormed
  | .wbInitiate m => m.wellFormed
  | .wbSegment m _ => m.wellFormed
  | .wbEnd m => m.wellFormed
  | .wbAbort m => m.wellFormed
  | _ => true

end Sys2Proof
end

