-- ==== Sys2Proof/Certificates/Slice0/Obligations.lean ====
section
/-! DEFINITION. The statements for the provers: what the commands of the KZ-64 do, by family, and what holds of the whole machine. -/

open Sys2Proof Sys2Proof.Machine

namespace Sys2Proof.Claims

/-- The sequencer of tile `t` can execute its next instruction, for the admitted job `jb` under handle `j`. -/
def SeqRuns (s : State) (t j : Nat) (jb : Job) : Prop := s.seqJob t = some j ∧ s.job? j = some jb

end Sys2Proof.Claims

open Sys2Proof.Claims

/-! ### The block as a whole -/

/-- A step takes the command at the front of the queue and runs it on the state with the queue's rest. -/
def Obligations.StepRunsTheFrontCommand : Prop :=
  ∀ (c : Instr) (rest : List Instr) (s : State), step { s with pending := c :: rest } = exec c { s with pending := rest }

/-- With no command waiting, the block idles: the watch clock counts one cycle and nothing else changes (the model's choice, log 4). -/
def Obligations.EmptyQueueIdles : Prop :=
  ∀ s : State, s.pending = [] → step s = .next { s with now := s.now + 1 }

/-! ### Memory -/

/-- A byte read after a byte is written: the value at the address written, the old byte everywhere else. -/
def Obligations.MemoryReadAfterWrite : Prop :=
  ∀ (m : List Host.Cell) (a : Nat) (bs : Bytes) (b : Nat),
    Memory.read (Memory.writes m a bs) b = if a ≤ b ∧ b < a + bs.length then bs.getD (b - a) 0 else Memory.read m b

/-! ### Transfers, signal counters, tile power (01) -/

/-- Move descriptors (R14, R25 to R31): a checked one is queued behind the others under a fresh number; one whose turn has come, whose bytes
may move, leaves the queue, its rows are copied, and the counter it names at the destination is signalled. The sequencer's signal-counter
instructions (R28): a wait whose operand the count has reached goes on, another waits; a waiting one goes on once it is reached;
read-counter takes the raw count, zero-extended. A count has reached an operand where their difference modulo 2^32 is zero or positive as
a signed number. -/
def Obligations.MoveCommands : Prop :=
  (
  (∀ (t : TileNo) (d : Bytes) (s : State) (j : Nat) (jb : Job), SeqRuns s t j jb → moveCheck s jb d = none →
    (s.tile t).moves.length < 16 → ∃ u, exec (.moveIssue t d false) s = .next u ∧
      (u.tile t).moves = (s.tile t).moves ++ [⟨(s.tile t).moveSeq, j, d⟩] ∧ (u.tile t).moveSeq = (s.tile t).moveSeq + 1 ∧
      u = { s with tiles := u.tiles, dies := u.dies }) ∧
  (∀ (t : TileNo) (n : Nat) (s : State) (e : MoveEntry), (s.tile t).moves.find? (fun e => e.id == n) = some e →
    (mvFence e.desc = true → ∀ x ∈ (s.tile t).moves, e.id ≤ x.id) →
    (∀ r ∈ mvRowList e.desc, s.outstanding false r.1 (mvRow e.desc) = false ∧ s.outstanding true r.2 (mvRow e.desc) = false) →
    s.moveAccess e.desc = .go → s.moveSealFault e.desc = none →
    (faSpace (mvDst e.desc) = 1 → (s.tile (faTile (mvDst e.desc))).job = some e.job) →
    exec (.moveDelivered t n) s = .next
      (let s := s.modTile t (fun x => { x with moves := x.moves.filter (fun y => y.id ≠ e.id) })
       let s := (mvRowList e.desc).foldl (fun s r => s.moveRow e.job (mvRow e.desc) r) s
       let s := if mvSignal e.desc then s.signal e.job (faDie (mvDst e.desc)) (mvCounter e.desc) else s
       s.retryMove t))) ∧
  (
  (∀ (t : TileNo) (c : Fin 256) (k : W32) (s : State) (j : Nat) (jb : Job), SeqRuns s t j jb →
    0 ≤ ((s.die (dieOf t)).signal c - k).toInt → exec (.waitCounter t c k) s = .next s) ∧
  (∀ (t : TileNo) (c : Fin 256) (k : W32) (s : State) (j : Nat) (jb : Job), SeqRuns s t j jb →
    ((s.die (dieOf t)).signal c - k).toInt < 0 →
    exec (.waitCounter t c k) s = .next (s.modTile t (fun x => { x with seqWait := some (.counter c k) }))) ∧
  (∀ (t : TileNo) (c : Nat) (k : W32) (s : State), (s.tile t).seqWait = some (.counter c k) →
    0 ≤ ((s.die (dieOf t)).signal c - k).toInt →
    exec (.waitCounterResume t) s = .next (s.modTile t (fun x => { x with seqWait := none }))) ∧
  (∀ (t : TileNo) (c : Fin 256) (rd : RegNo) (s : State) (j : Nat) (jb : Job), SeqRuns s t j jb → ∃ u,
    exec (.readCounter t c rd) s = .next u ∧ (u.tile t).g rd = (if rd = 0 then 0 else ((s.die (dieOf t)).signal c).setWidth 64) ∧
    (∀ r : RegNo, r ≠ rd → (u.tile t).g r = (s.tile t).g r) ∧ u = { s with tiles := u.tiles }))

/-- Tile power states (R37, R38): gating and retention of a tile without work, a wake begun on a ready die, a wake done, which is counted by
the state it left and raises the longest wake; a wake from Off finds clean zeros in SRAM. The supply-sag stretch (R39): it is held as a
cause of its own; a die that no cause stretched before counts one stretch, and the die is stretched for as long as any cause remains. -/
def Obligations.TilePowerCommands : Prop :=
  (
  (∀ (t : TileNo) (s : State), (s.tile t).power = .running → s.idle t = true →
    exec (.tileGate t) s = .next (s.modTile t (fun x => { x with power := .gated }))) ∧
  (∀ (t : TileNo) (s : State), ((s.tile t).power = .gated ∨ ((s.tile t).power = .running ∧ s.idle t = true)) →
    exec (.tileRetention t) s = .next (s.modTile t (fun x => { x with power := .retention }))) ∧
  (∀ (t : TileNo) (s : State) (w : WakeFrom), (s.die (dieOf t)).state = .ready → s.isRetired (.tile t) = false →
    (s.tile t).power = (match w with | .gated => .gated | .retention => .retention | .off => .off) →
    exec (.tileWake t) s = .next (s.modTile t (fun x => { x with power := .waking w }))) ∧
  (∀ (t : TileNo) (ns : Nat) (s : State) (w : WakeFrom), (s.tile t).power = .waking w → ∃ u,
    exec (.tileWakeDone t ns) s = .next u ∧ (u.tile t).power = .running ∧
    (w = .off → ∀ i < 0x200000, Memory.read u.mem (sramFa t i) = 0) ∧ (w ≠ .off → u.mem = s.mem) ∧
    u.count (dkey (dieOf t) 2 (match w with | .gated => 1 | .retention => 2 | .off => 3)) =
      (s.count (dkey (dieOf t) 2 (match w with | .gated => 1 | .retention => 2 | .off => 3)) + 1) % 2 ^ 64 ∧
    ns % 2 ^ 32 ≤ u.count (dkey (dieOf t) 2 4) ∧
    u = { s with tiles := u.tiles, cnt := u.cnt, mem := u.mem, poison := u.poison })) ∧
  (
  (∀ (d : DieNo) (s : State), (s.die d).powered = true → ∃ u, exec (.droopStretch d) s = .next u ∧
    u.die d = { s.die d with droop := true } ∧
    u.count (dkey d 0 8) = (if (s.die d).stretched then s.count (dkey d 0 8) else (s.count (dkey d 0 8) + 1) % 2 ^ 64) ∧
    u = { s with dies := u.dies, cnt := u.cnt }) ∧
  (∀ (d : DieNo) (s : State), ∃ u, exec (.stretchRelease d) s = .next u ∧ u.die d = { s.die d with droop := false } ∧
    (u.die d).stretched = ((s.die d).governor || (s.die d).throttle) ∧ u = { s with dies := u.dies }))

/-! ### The matrix array (02) -/

/-- Pass descriptors (R46, R48, R57, R60, R65): a checked pass is queued; the pass at the head starts when no earlier results of another shape
are outstanding and none of its accumulator tiles drains, and these become ACTIVE; with its last column the queue entry frees and memory
has changed in the accumulator words of the pass alone; when its results are in, a DRAIN pass makes its tiles DRAINING and queues their
drains. The contributions are formed at PASS_LAST_COLUMN (the model's choice, log 14). What an INT pass adds to an element of the
accumulator file (R51, R52): with INIT the exact sum replaces the element, else it is added to it, saturated at the INT32 bounds, which is
counted; no other byte of memory changes. A drain (R60, R120): the next unit goes into the hamper if it has room, and with unit 31 the
accumulator tile is FREE; into a full hamper it does not go, and a held cycle is counted. -/
def Obligations.PassCommands : Prop :=
  (
  (∀ (t : TileNo) (d : Bytes) (s : State) (j : Nat) (jb : Job), SeqRuns s t j jb → s.arrayLive t = true →
    passCheck s t jb d = none → (s.tile t).passLoad < 16 → ∃ u, exec (.passIssue t d false) s = .next u ∧
      (u.tile t).passQ = (s.tile t).passQ ++ [d] ∧ (u.tile t).passRun = (s.tile t).passRun ∧ u = { s with tiles := u.tiles }) ∧
  (∀ (t : TileNo) (fb ds : Nat) (s : State) (d : Bytes) (rest : List Bytes), (s.tile t).passQ = d :: rest →
    (s.tile t).passRun = none → s.tileWorks t = true → s.arrayLive t = true →
    (∀ p ∈ (s.tile t).passDone, psMode p = psMode d) → (∀ a ∈ passTiles d, (s.tile t).accState a ≠ .draining) →
    s.notArrived t (psStat d) (if psKeep d then 0 else psStatBytes d) = false → ∃ u,
    exec (.passStart t fb ds) s = .next u ∧ (u.tile t).passQ = rest ∧ (u.tile t).passRun = some ⟨d, 0⟩ ∧
    (∀ a ∈ passTiles d, (u.tile t).accState a = .active) ∧
    u.count (dkey (dieOf t) 5 5) % 2 ^ 64 = (s.count (dkey (dieOf t) 5 5) + fb) % 2 ^ 64 ∧ u = { s with tiles := u.tiles, cnt := u.cnt }) ∧
  (∀ (t : TileNo) (fb : Nat) (faulty : List Nat) (s : State) (p : PassRun), (s.tile t).passRun = some p → s.tileWorks t = true →
    (∀ r ∈ psReads p.desc (statOf (s.tile t).statAddr p.desc), s.notArrived t r.1 r.2 = false) → ∃ u,
    exec (.passLastColumn t fb faulty) s = .next u ∧ (u.tile t).passRun = none ∧
    (u.tile t).passDone = (s.tile t).passDone ++ [p.desc] ∧ u.jobs = s.jobs ∧ u.reqs = s.reqs ∧
    ∀ a, (∀ m < psH p.desc, ∀ k < psCols p.desc,
        a < sramFa t (accBase + 4 * accIndex p.desc m k) ∨ sramFa t (accBase + 4 * accIndex p.desc m k) + 4 ≤ a) →
      Memory.read u.mem a = Memory.read s.mem a) ∧
  (∀ (t : TileNo) (s : State) (d : Bytes) (rest : List Bytes), (s.tile t).passDone = d :: rest → ∃ u,
    exec (.passResultsDone t) s = .next u ∧ (u.tile t).passDone = rest ∧
    (passDrains d = true → (u.tile t).drains = (s.tile t).drains ++ drainsOf d ∧
      ∀ a ∈ passTiles d, (u.tile t).accState a = .draining) ∧
    (passDrains d = false → (u.tile t).drains = (s.tile t).drains) ∧
    u.count (dkey (dieOf t) 5 4) = (s.count (dkey (dieOf t) 5 4) + 1) % 2 ^ 64 ∧ u = { s with tiles := u.tiles, cnt := u.cnt })) ∧
  (
  ∀ (s : State) (t : Nat) (d : Bytes) (i : Nat) (v : Int),
    let a := sramFa t (accBase + 4 * i)
    let sum : Int := if psInit d then v else (BitVec.ofNat 32 (leNat (Memory.reads s.mem a 4))).toInt + v
    let w : W32 := if sum > 2147483647 then 0x7FFFFFFF else if sum < -2147483648 then 0x80000000 else BitVec.ofInt 32 sum
    let u := s.accUpdate t d i false (.int v false)
    Memory.reads u.mem a 4 = leBytes 4 w.toNat ∧ (∀ b, b < a ∨ a + 4 ≤ b → Memory.read u.mem b = Memory.read s.mem b) ∧
    u.count (dkey (dieOf t) 5 8) =
      if sum > 2147483647 ∨ sum < -2147483648 then (s.count (dkey (dieOf t) 5 8) + 1) % 2 ^ 64 else s.count (dkey (dieOf t) 5 8)) ∧
  (
  (∀ (t : TileNo) (s : State) (e : Drain) (rest : List Drain), (s.tile t).drains = e :: rest →
    (s.tile t).hamper.overwrite = false → (s.tile t).hamper.dropping = false →
    (s.tile t).hamper.items.length < (s.tile t).hamper.depth → ∃ u, exec (.drainUnit t) s = .next u ∧
    (u.tile t).hamper = { (s.tile t).hamper with items := (s.tile t).hamper.items ++ [drainItem s t e] } ∧
    (u.tile t).drains = (if e.unit = 31 then rest else { e with unit := e.unit + 1 } :: rest) ∧
    (u.tile t).accState e.acc = (if e.unit = 31 then .free else (s.tile t).accState e.acc) ∧
    u = { s with tiles := u.tiles, cnt := u.cnt }) ∧
  (∀ (t : TileNo) (s : State) (e : Drain) (rest : List Drain), (s.tile t).drains = e :: rest →
    (s.tile t).hamper.overwrite = false → (s.tile t).hamper.depth ≤ (s.tile t).hamper.items.length →
    exec (.drainUnit t) s = .next (s.bump (dkey (dieOf t) 7 3) 1)))

/-! ### The vector engine (03, 04) -/

namespace Sys2Proof.Claims

/-- A vector instruction of tile `t` that the sequencer can issue executes at once: nothing is queued before it, and the checks of R100
let it go on. -/
def VectorGoes (s : State) (t : Nat) (c : VCode) (o : VOp) : Prop :=
  ∃ j jb, SeqRuns s t j jb ∧ (s.tile t).vwait = none ∧ (s.tile t).vq = [] ∧ s.vectorCheck t jb c o = .go

/-- What a vector instruction that touches no memory can change: tiles, counters, draws, and what a fault-log record changes. -/
def VectorFrame (s u : State) (t : Nat) : Prop :=
  (∀ i, i ≠ t → u.tile i = s.tile i) ∧
  u = { s with tiles := u.tiles, cnt := u.cnt, free := u.free, sent := u.sent, kop := u.kop, qps := u.qps, flog := u.flog,
               flogSeq := u.flogSeq, ledger := { s.ledger with sumPending := u.ledger.sumPending } }

/-- The integer instructions of R104, R105 with what each makes of a lane of va and of operand b. -/
def intLanes : List ((TileNo → VOp → Instr) × VCode × (VOp → W32 → W32 → W32)) :=
  [(.vadd, .vadd, fun o a b => if o.sat && decide (a.toInt + b.toInt > 2147483647) then 0x7FFFFFFF
      else if o.sat && decide (a.toInt + b.toInt < -2147483648) then 0x80000000 else a + b),
   (.vsub, .vsub, fun o a b => if o.sat && decide (a.toInt - b.toInt > 2147483647) then 0x7FFFFFFF
      else if o.sat && decide (a.toInt - b.toInt < -2147483648) then 0x80000000 else a - b),
   (.vmul, .vmul, fun _ a b => a * b),
   (.vmin, .vmin, fun _ a b => if a.toInt < b.toInt then a else b),
   (.vmax, .vmax, fun _ a b => if a.toInt < b.toInt then b else a),
   (.vand, .vand, fun _ a b => a &&& b),
   (.vor, .vor, fun _ a b => a ||| b),
   (.vxor, .vxor, fun _ a b => a ^^^ b),
   (.vshl, .vshl, fun _ a b => a <<< (b.toNat % 32)),
   (.vshr, .vshr, fun _ a b => a >>> (b.toNat % 32)),
   (.vsra, .vsra, fun _ a b => a.sshiftRight (b.toNat % 32)),
   (.vcmp, .vcmp, fun o a b => boolWord (intCond o.var.toNat a b))]

/-- The floating-point and approximation instructions of R103, R105, R109 with their result on a lane. -/
def fpLanes : List ((TileNo → VOp → Instr) × VCode × (VOp → W32 → W32 → FRes)) :=
  [(.vfadd, .vfadd, fun _ a b => fpAdd a b), (.vfsub, .vfsub, fun _ a b => fpSub a b), (.vfmul, .vfmul, fun _ a b => fpMul a b),
   (.vfmin, .vfmin, fun _ a b => ⟨fpMin a b, {}⟩), (.vfmax, .vfmax, fun _ a b => ⟨fpMax a b, {}⟩),
   (.vfdiv, .vfdiv, fun _ a b => fpDiv a b), (.vscale, .vscale, fun _ a b => fpScale a b.toNat),
   (.vfcmp, .vfcmp, fun o a b => ⟨boolWord (fpCond o.var.toNat a b), {}⟩)]

/-- The instructions of one source: magnitude, negation, root, and the functions of R109, which yield a free value within the bound. -/
def unLanes : List ((TileNo → VOp → Instr) × VCode × (W32 → FRes)) :=
  [(.vfabs, .vfabs, fun a => ⟨a &&& 0x7FFFFFFF, {}⟩), (.vfneg, .vfneg, fun a => ⟨a ^^^ 0x80000000, {}⟩), (.vfsqrt, .vfsqrt, fpSqrt),
   (.vexp, .vexp, fun a => fpExp (Config.approx (opcode .vexp) a) a), (.vexp2, .vexp2, fun a => fpExp2 (Config.approx (opcode .vexp2) a) a),
   (.vlog, .vlog, fun a => fpLog (Config.approx (opcode .vlog) a) a), (.vlog2, .vlog2, fun a => fpLog2 (Config.approx (opcode .vlog2) a) a),
   (.vrcp, .vrcp, fun a => fpRcp (Config.approx (opcode .vrcp) a) a), (.vrsqrt, .vrsqrt, fun a => fpRsqrt (Config.approx (opcode .vrsqrt) a) a),
   (.vtanh, .vtanh, fun a => fpTanh (Config.approx (opcode .vtanh) a) a), (.vsigm, .vsigm, fun a => fpSigm (Config.approx (opcode .vsigm) a) a),
   (.vsilu, .vsilu, fun a => fpSilu (Config.approx (opcode .vsilu) a) a), (.vgelu, .vgelu, fun a => fpGelu (Config.approx (opcode .vgelu) a) a),
   (.vsin, .vsin, fun a => fpSin (Config.approx (opcode .vsin) a) a), (.vcos, .vcos, fun a => fpCos (Config.approx (opcode .vcos) a) a)]

end Sys2Proof.Claims

/-- The instruction word (R98): every field of the 128-bit word lies where the layout puts it, the word is stored as 16 bytes, little-endian,
and a word decodes to the instruction and the operands it was made from; an unassigned opcode decodes to nothing (R100). -/
def Obligations.VectorInstructionWord : Prop :=
  (∀ (c : VCode) (o : VOp), decodeVector (encodeVector c o) = some (c, o) ∧ (vectorBytes c o).length = 16 ∧
    (let w := leNat (vectorBytes c o)
     bits w 120 8 = (opcode c).toNat ∧ bits w 116 4 = o.fmtA.toNat ∧ bits w 112 4 = o.fmtD.toNat ∧ bits w 107 5 = o.vd.toNat ∧
     bits w 102 5 = o.va.toNat ∧ bits w 97 5 = o.vb.toNat ∧ bits w 92 5 = o.vc.toNat ∧ bits w 87 5 = o.sa.toNat ∧
     bits w 82 5 = o.sb.toNat ∧ bits w 77 5 = o.sd.toNat ∧ bit w 76 = o.sat ∧ bit w 75 = o.stoch ∧ bit w 74 = o.bcast ∧
     bits w 70 4 = o.var.toNat ∧ bits w 64 6 = o.resv.toNat ∧ bits w 0 64 = o.imm.toNat)) ∧
  ∀ w : BitVec 128, (∀ c, opcode c ≠ w.extractLsb' 120 8) → decodeVector w = none

/-- The integer instructions (R96, R103, R104, R105): every lane below VL takes the result on the lanes of a and b, poisoned if either is;
every other lane, register and general register keeps its value, and of VSR only OF and PS can change. -/
def Obligations.VectorIntegerLanes : Prop :=
  intLanes.map (fun e => (opcode e.2.1).toNat) = [0x60, 0x61, 0x62, 0x63, 0x64, 0x65, 0x66, 0x67, 0x68, 0x69, 0x6A, 0x81] ∧
  ∀ e ∈ intLanes, ∀ (t : TileNo) (o : VOp) (s : State), VectorGoes s t e.2.1 o → ∃ u, exec (e.1 t o) s = .next u ∧
    (∀ i, i < (s.tile t).vl → i < 128 → (u.tile t).lane o.vd.toNat i =
      ⟨e.2.2 o ((s.tile t).lane o.va.toNat i).v ((s.tile t).opB o i).v,
        ((s.tile t).lane o.va.toNat i).p || ((s.tile t).opB o i).p⟩) ∧
    (∀ i, (s.tile t).vl ≤ i → (u.tile t).lane o.vd.toNat i = if i < 128 then (s.tile t).lane o.vd.toNat i else {}) ∧
    (∀ r, r ≠ o.vd.toNat → (u.tile t).vreg r = (s.tile t).vreg r) ∧ (u.tile t).gpr = (s.tile t).gpr ∧
    (u.tile t).vsr &&& 0xFFFFFFED = (s.tile t).vsr &&& 0xFFFFFFED ∧ VectorFrame s u t

/-- The FP32 instructions of two operands (R97, R103, R105): every lane below VL takes the result on the lanes of a and b, and VSR gains the
conditions all lanes met, and PS where a result is poisoned. -/
def Obligations.VectorFloatLanes : Prop :=
  ∀ e ∈ fpLanes, ∀ (t : TileNo) (o : VOp) (s : State), VectorGoes s t e.2.1 o → ∃ u, exec (e.1 t o) s = .next u ∧
    (∀ i, i < (s.tile t).vl → i < 128 → (u.tile t).lane o.vd.toNat i =
      ⟨(e.2.2 o ((s.tile t).lane o.va.toNat i).v ((s.tile t).opB o i).v).v,
        ((s.tile t).lane o.va.toNat i).p || ((s.tile t).opB o i).p⟩) ∧
    (∀ r, r ≠ o.vd.toNat → (u.tile t).vreg r = (s.tile t).vreg r) ∧ (u.tile t).gpr = (s.tile t).gpr ∧
    (u.tile t).vsr = (s.tile t).vsr |||
      (joinFlags ((List.range (s.tile t).vl).map (fun i =>
        (e.2.2 o ((s.tile t).lane o.va.toNat i).v ((s.tile t).opB o i).v).f))).word
      ((List.range (s.tile t).vl).any (fun i => ((s.tile t).lane o.va.toNat i).p || ((s.tile t).opB o i).p)) ∧
    VectorFrame s u t

/-- The FP32 instructions of one operand, the functions of R109, and the fused multiply-add, whose third operand is vc (R97, R103). A function
approximation gives no value of its own (R109): whatever the free value, a finite result of VEXP other than by overflow or underflow lies
within two units in the last place of the exponential as the model forms it, or is that exponential rounded. -/
def Obligations.VectorFunctionLanes : Prop :=
  (
  (∀ e ∈ unLanes, ∀ (t : TileNo) (o : VOp) (s : State), VectorGoes s t e.2.1 o → ∃ u, exec (e.1 t o) s = .next u ∧
    (∀ i, i < (s.tile t).vl → i < 128 → (u.tile t).lane o.vd.toNat i =
      ⟨(e.2.2 ((s.tile t).lane o.va.toNat i).v).v, ((s.tile t).lane o.va.toNat i).p⟩) ∧
    (∀ r, r ≠ o.vd.toNat → (u.tile t).vreg r = (s.tile t).vreg r) ∧ (u.tile t).gpr = (s.tile t).gpr ∧ VectorFrame s u t) ∧
  (∀ (t : TileNo) (o : VOp) (s : State), VectorGoes s t .vfma o → ∃ u, exec (.vfma t o) s = .next u ∧
    (∀ i, i < (s.tile t).vl → i < 128 → (u.tile t).lane o.vd.toNat i =
      ⟨(fpFma ((s.tile t).lane o.va.toNat i).v ((s.tile t).opB o i).v ((s.tile t).lane o.vc.toNat i).v).v,
        ((s.tile t).lane o.va.toNat i).p || ((s.tile t).opB o i).p || ((s.tile t).lane o.vc.toNat i).p⟩) ∧
    (∀ r, r ≠ o.vd.toNat → (u.tile t).vreg r = (s.tile t).vreg r) ∧ (u.tile t).gpr = (s.tile t).gpr ∧ VectorFrame s u t)) ∧
  (
  ∀ (cand a : W32) (n : Bool) (x : Dy), fval a = .fin n x → Dy.lt ⟨887228, 0⟩ (x.mul ⟨10000, 0⟩) = false →
    (x.mul ⟨100, 0⟩).lt ⟨-10397, 0⟩ = false →
    let r := roundFp32 (decide ((dyExp x).m < 0)) (dyExp x)
    fpExp cand a = r ∨ ((fpExp cand a).v = cand ∧ within (dyOf cand) (dyExp x) ⟨2, ulpExp r.v⟩ = true))

namespace Sys2Proof.Claims

/-- The instructions that move lanes (R105, R106), with what lane `i` of vd becomes. -/
def moveLanes : List ((TileNo → VOp → Instr) × VCode × (Tile → VOp → Nat → Lane)) :=
  [(.vsel, .vsel, fun x o i =>
      let k := x.lane o.vc.toNat i
      let r := if k.p || k.v ≠ 0 then x.lane o.va.toNat i else x.opB o i
      ⟨r.v, r.p || k.p⟩),
   (.vidx, .vidx, fun _ _ i => ⟨BitVec.ofNat 32 i, false⟩),
   (.vperm, .vperm, fun x o i =>
      let k := x.lane o.vb.toNat i
      if k.v.toNat < 128 then ⟨(x.lane o.va.toNat k.v.toNat).v, (x.lane o.va.toNat k.v.toNat).p || k.p⟩ else ⟨0, k.p⟩),
   (.vslideup, .vslideup, fun x o i =>
      let n := (x.g o.sb.toNat + o.imm).toNat
      if i < n then x.lane o.vd.toNat i else
        ⟨(x.lane o.va.toNat (i - n)).v, (x.lane o.va.toNat (i - n)).p || x.gp o.sb.toNat⟩),
   (.vslidedn, .vslidedn, fun x o i =>
      let n := (x.g o.sb.toNat + o.imm).toNat
      if i + n < x.vl then ⟨(x.lane o.va.toNat (i + n)).v, (x.lane o.va.toNat (i + n)).p || x.gp o.sb.toNat⟩
      else ⟨0, x.gp o.sb.toNat⟩),
   (.vbcast, .vbcast, fun x o _ => ⟨(x.g o.sa.toNat + o.imm).setWidth 32, x.gp o.sa.toNat⟩),
   (.vzip, .vzip, fun x o i => if i % 2 = 0 then x.lane o.va.toNat (i / 2) else x.lane o.vb.toNat (i / 2))]

/-- The reductions of R107, with what they make of the lanes of va below VL; the sum of FP32 lanes is taken in the order the draw gives. -/
def reductions : List ((TileNo → VOp → Instr) × VCode × (VOp → Nat → List W32 → W64)) :=
  [(.vfrsum, .vfrsum, fun _ k l => (if l.any isNan then qnan else fpSum k l).setWidth 64),
   (.vfrmax, .vfrmax, fun o _ l => ((if o.var = 0 then l else l.map (· &&& 0x7FFFFFFF)).foldl fpMax
      (if o.var = 0 then 0xFF800000 else 0)).setWidth 64),
   (.vfrmin, .vfrmin, fun _ _ l => (l.foldl fpMin 0x7F800000).setWidth 64),
   (.vfrargmax, .vfrargmax, fun _ _ l => match argMax l with | some (i, _) => BitVec.ofNat 64 i | none => 0xFFFFFFFFFFFFFFFF),
   (.vrsum, .vrsum, fun _ _ l => BitVec.ofInt 64 ((l.map (·.toInt)).sum)),
   (.vrmax, .vrmax, fun _ _ l => BitVec.ofInt 64 (l.foldl (fun a v => max a v.toInt) (-2147483648))),
   (.vrmin, .vrmin, fun _ _ l => BitVec.ofInt 64 (l.foldl (fun a v => min a v.toInt) 2147483647))]

/-- The loads of R102, with the SRAM offset of element `i`. -/
def wordLoads : List ((TileNo → VOp → Instr) × VCode × (Tile → VOp → Nat → W64)) :=
  [(.vld, .vld, fun x o i => x.g o.sa.toNat + o.imm + BitVec.ofNat 64 (4 * i)),
   (.vlds, .vlds, fun x o i => x.g o.sa.toNat + o.imm + x.g o.sb.toNat * BitVec.ofNat 64 i),
   (.vldx, .vldx, fun x o i => x.g o.sa.toNat + o.imm + (x.lane o.vb.toNat i).v.setWidth 64)]

/-- The stores of R102, likewise. -/
def wordStores : List ((TileNo → VOp → Instr) × VCode × (Tile → VOp → Nat → W64)) :=
  [(.vst, .vst, fun x o i => x.g o.sa.toNat + o.imm + BitVec.ofNat 64 (4 * i)),
   (.vsts, .vsts, fun x o i => x.g o.sa.toNat + o.imm + x.g o.sb.toNat * BitVec.ofNat 64 i),
   (.vstx, .vstx, fun x o i => x.g o.sa.toNat + o.imm + (x.lane o.vb.toNat i).v.setWidth 64)]

end Sys2Proof.Claims

/-- The lane moves of R105 and R106: vd below VL as the list says, every other register and general register as before. Packing by selection
and by width (R105, R106): VCOMPRESS puts the selected lanes low and zeros above, VEXPAND puts packed lanes at the selected places, and
both write the count of selected lanes to gpr[sd]; VUNZIP parts even from odd lanes; VUNPACK takes element `i` of the register's bits, and
VPACK's words hold them again. -/
def Obligations.VectorLaneMoves : Prop :=
  (
  ∀ e ∈ moveLanes, ∀ (t : TileNo) (o : VOp) (s : State), VectorGoes s t e.2.1 o → ∃ u, exec (e.1 t o) s = .next u ∧
    (∀ i, i < (s.tile t).vl → i < 128 → (u.tile t).lane o.vd.toNat i = e.2.2 (s.tile t) o i) ∧
    (∀ r, r ≠ o.vd.toNat → (u.tile t).vreg r = (s.tile t).vreg r) ∧ (u.tile t).gpr = (s.tile t).gpr ∧ VectorFrame s u t) ∧
  (
  (∀ (t : TileNo) (o : VOp) (s : State), VectorGoes s t .vcompress o → ∃ u, exec (.vcompress t o) s = .next u ∧
    (∀ i, i < (s.tile t).vl → i < 128 → ((u.tile t).lane o.vd.toNat i).v =
      match ((s.tile t).selected o.vb.toNat)[i]? with | some k => ((s.tile t).lane o.va.toNat k).v | none => 0) ∧
    (u.tile t).g o.sd.toNat = (if o.sd = 0 then 0 else BitVec.ofNat 64 ((s.tile t).selected o.vb.toNat).length) ∧
    VectorFrame s u t) ∧
  (∀ (t : TileNo) (o : VOp) (s : State), VectorGoes s t .vexpand o → ∃ u, exec (.vexpand t o) s = .next u ∧
    (∀ i, i < (s.tile t).vl → i < 128 → i ∉ (s.tile t).selected o.vb.toNat →
      (u.tile t).lane o.vd.toNat i = (s.tile t).lane o.vd.toNat i) ∧
    (∀ k i, k < 128 → i < 128 → ((s.tile t).selected o.vb.toNat)[k]? = some i →
      ((u.tile t).lane o.vd.toNat i).v = ((s.tile t).lane o.va.toNat k).v) ∧
    (u.tile t).g o.sd.toNat = (if o.sd = 0 then 0 else BitVec.ofNat 64 ((s.tile t).selected o.vb.toNat).length) ∧
    VectorFrame s u t) ∧
  (∀ (t : TileNo) (o : VOp) (s : State), VectorGoes s t .vunzip o → ∃ u, exec (.vunzip t o) s = .next u ∧
    (∀ i, i < 128 → 2 * i < (s.tile t).vl → (u.tile t).lane o.vd.toNat i = (s.tile t).lane o.va.toNat (2 * i)) ∧
    (∀ i, i < 128 → 2 * i + 1 < (s.tile t).vl →
      (u.tile t).lane (o.vd.toNat + 1) i = (s.tile t).lane o.va.toNat (2 * i + 1)) ∧
    (u.tile t).gpr = (s.tile t).gpr ∧ VectorFrame s u t) ∧
  (∀ (t : TileNo) (o : VOp) (s : State), VectorGoes s t .vunpack o → ∃ u, exec (.vunpack t o) s = .next u ∧
    (∀ i, i < (s.tile t).vl → i < 128 → ((u.tile t).lane o.vd.toNat i).v = BitVec.ofNat 32
      (bits (((List.range 128).map (fun k => ((s.tile t).lane o.va.toNat k).v.toNat * 2 ^ (32 * k))).sum)
        (i * width o.fmtA.toNat) (width o.fmtA.toNat))) ∧
    (u.tile t).gpr = (s.tile t).gpr ∧ VectorFrame s u t) ∧
  (∀ (t : TileNo) (o : VOp) (s : State), VectorGoes s t .vpack o → ∃ u, exec (.vpack t o) s = .next u ∧
    (∀ k, k < (s.tile t).vl → k < 128 → ((u.tile t).lane o.vd.toNat k).v =
      if k < ceilDiv ((s.tile t).vl * width o.fmtD.toNat) 32 then BitVec.ofNat 32
        (bits (((List.range (s.tile t).vl).map (fun i =>
          ((s.tile t).lane o.va.toNat i).v.toNat % 2 ^ width o.fmtD.toNat * 2 ^ (i * width o.fmtD.toNat))).sum) (32 * k) 32)
      else 0) ∧
    (u.tile t).gpr = (s.tile t).gpr ∧ VectorFrame s u t))

/-- The reductions (R107): gpr[sd] takes the value the list says of the lanes below VL, unless it is gpr[0], which stays zero; the vector
registers and the other general registers keep their values. -/
def Obligations.VectorReductions : Prop :=
  reductions.map (fun e => (opcode e.2.1).toNat) = [0xC0, 0xC1, 0xC2, 0xC3, 0xC4, 0xC5, 0xC6] ∧
  (∀ (o : VOp) (k : Nat), reductions.map (fun e => (e.2.2 o k []).toNat) =
    [0, if o.var = 0 then 0xFF800000 else 0, 0x7F800000, 0xFFFFFFFFFFFFFFFF, 0, 2 ^ 64 - 2 ^ 31, 2 ^ 31 - 1]) ∧
  ∀ e ∈ reductions, ∀ (t : TileNo) (o : VOp) (s : State), VectorGoes s t e.2.1 o → ∃ u, exec (e.1 t o) s = .next u ∧
    (u.tile t).g o.sd.toNat = (if o.sd = 0 then 0 else
      e.2.2 o s.free ((List.range (s.tile t).vl).map (fun i => ((s.tile t).lane o.va.toNat i).v))) ∧
    (o.sd ≠ 0 → (u.tile t).gp o.sd.toNat = (List.range (s.tile t).vl).any (fun i => ((s.tile t).lane o.va.toNat i).p)) ∧
    (∀ r, r ≠ o.sd.toNat → (u.tile t).g r = (s.tile t).g r) ∧ (u.tile t).vregs = (s.tile t).vregs ∧ VectorFrame s u t

/-- The word loads (R102): every lane below VL takes the little-endian word at its offset in the tile's SRAM; memory is unchanged. The word
stores (R102): a lane's word lies at its offset unless a higher lane stores to a byte of it; every byte outside the stored words is
unchanged, and so is every register. The packed load and store (R44, R102): element `i` of `w` bits lies from bit i·w of the operand,
lowest bits first. -/
def Obligations.VectorMemory : Prop :=
  (
  ∀ e ∈ wordLoads, ∀ (t : TileNo) (o : VOp) (s : State), VectorGoes s t e.2.1 o → ∃ u, exec (e.1 t o) s = .next u ∧
    (∀ i, i < (s.tile t).vl → i < 128 → ((u.tile t).lane o.vd.toNat i).v =
      BitVec.ofNat 32 (leNat (Memory.reads s.mem (sramFa t (e.2.2 (s.tile t) o i).toNat) 4))) ∧
    (∀ r, r ≠ o.vd.toNat → (u.tile t).vreg r = (s.tile t).vreg r) ∧ (u.tile t).gpr = (s.tile t).gpr ∧ VectorFrame s u t) ∧
  (
  ∀ e ∈ wordStores, ∀ (t : TileNo) (o : VOp) (s : State), VectorGoes s t e.2.1 o → ∃ u, exec (e.1 t o) s = .next u ∧
    (∀ i, i < (s.tile t).vl →
      (∀ k, i < k → k < (s.tile t).vl → (e.2.2 (s.tile t) o i).toNat + 4 ≤ (e.2.2 (s.tile t) o k).toNat ∨
        (e.2.2 (s.tile t) o k).toNat + 4 ≤ (e.2.2 (s.tile t) o i).toNat) →
      Memory.reads u.mem (sramFa t (e.2.2 (s.tile t) o i).toNat) 4 = leBytes 4 ((s.tile t).lane o.va.toNat i).v.toNat) ∧
    (∀ a, (∀ i, i < (s.tile t).vl → a < sramFa t (e.2.2 (s.tile t) o i).toNat ∨ sramFa t (e.2.2 (s.tile t) o i).toNat + 4 ≤ a) →
      Memory.read u.mem a = Memory.read s.mem a) ∧
    (u.tile t).vregs = (s.tile t).vregs ∧ (u.tile t).gpr = (s.tile t).gpr ∧ u.jobs = s.jobs ∧ u.dies = s.dies) ∧
  (
  (∀ (t : TileNo) (o : VOp) (s : State), VectorGoes s t .vldp o → ∃ u, exec (.vldp t o) s = .next u ∧
    (∀ i, i < (s.tile t).vl → i < 128 → ((u.tile t).lane o.vd.toNat i).v = BitVec.ofNat 32
      (bits (leNat (Memory.reads s.mem (sramFa t ((s.tile t).g o.sa.toNat + o.imm).toNat)
        (ceilDiv ((s.tile t).vl * width o.fmtA.toNat) 8))) (i * width o.fmtA.toNat) (width o.fmtA.toNat))) ∧
    (∀ r, r ≠ o.vd.toNat → (u.tile t).vreg r = (s.tile t).vreg r) ∧ (u.tile t).gpr = (s.tile t).gpr ∧ VectorFrame s u t) ∧
  (∀ (t : TileNo) (o : VOp) (s : State), VectorGoes s t .vstp o → ∃ u, exec (.vstp t o) s = .next u ∧
    (let a := sramFa t ((s.tile t).g o.sa.toNat + o.imm).toNat
     let n := (s.tile t).vl * width o.fmtD.toNat / 8
     Memory.reads u.mem a n = leBytes n ((List.range (s.tile t).vl).map (fun i =>
       ((s.tile t).lane o.va.toNat i).v.toNat % 2 ^ width o.fmtD.toNat * 2 ^ (i * width o.fmtD.toNat))).sum ∧
     ∀ b, b < a ∨ a + n ≤ b → Memory.read u.mem b = Memory.read s.mem b) ∧
    (u.tile t).vregs = (s.tile t).vregs ∧ (u.tile t).gpr = (s.tile t).gpr ∧ u.jobs = s.jobs ∧ u.dies = s.dies))

/-- The control instructions of R101 and the hamper's (R121, R123): VNOP and VFENCE leave the registers; SETVL sets VL to the least of gpr[sa]
+ imm and 128 and writes it to gpr[sd]; VSTAT reads VSR and clears it if asked; HSTAT reads the counts of units and packets; HRINSE
empties the hamper; HPOP waits for its units. An HPOP completes (R115, R121): once enough units wait and no header segment is beyond
correction, the units it pops leave the hamper, their words are the lanes of vd below VL, their valid bits those of the next register
where asked, and the others stay in order. -/
def Obligations.VectorControl : Prop :=
  (
  (∀ (t : TileNo) (o : VOp) (s : State), VectorGoes s t .vnop o → ∃ u, exec (.vnop t o) s = .next u ∧ u.tile t = s.tile t ∧
    VectorFrame s u t) ∧
  (∀ (t : TileNo) (o : VOp) (s : State), VectorGoes s t .vfence o → ∃ u, exec (.vfence t o) s = .next u ∧ u.tile t = s.tile t ∧
    VectorFrame s u t) ∧
  (∀ (t : TileNo) (o : VOp) (s : State), VectorGoes s t .setvl o → ∃ u, exec (.setvl t o) s = .next u ∧
    (u.tile t).vl = min ((s.tile t).g o.sa.toNat + o.imm).toNat 128 ∧
    (o.sd ≠ 0 → (u.tile t).g o.sd.toNat = BitVec.ofNat 64 (u.tile t).vl) ∧
    (∀ r, r ≠ o.sd.toNat → (u.tile t).g r = (s.tile t).g r) ∧ (u.tile t).vregs = (s.tile t).vregs ∧ VectorFrame s u t) ∧
  (∀ (t : TileNo) (o : VOp) (s : State), VectorGoes s t .vstat o → ∃ u, exec (.vstat t o) s = .next u ∧
    (o.sd ≠ 0 → (u.tile t).g o.sd.toNat = (s.tile t).vsr.setWidth 64) ∧
    (u.tile t).vsr = (if o.var = 1 then 0 else (s.tile t).vsr) ∧
    (∀ r, r ≠ o.sd.toNat → (u.tile t).g r = (s.tile t).g r) ∧ (u.tile t).vregs = (s.tile t).vregs ∧ VectorFrame s u t) ∧
  (∀ (t : TileNo) (o : VOp) (s : State), VectorGoes s t .hstat o → ∃ u, exec (.hstat t o) s = .next u ∧
    (o.sd ≠ 0 → (u.tile t).g o.sd.toNat =
      BitVec.ofNat 64 ((s.tile t).hamper.items.length + ((s.tile t).hamper.items.filter (·.last)).length * 2 ^ 16)) ∧
    (u.tile t).hamper = (s.tile t).hamper ∧ (u.tile t).vregs = (s.tile t).vregs ∧ VectorFrame s u t) ∧
  (∀ (t : TileNo) (o : VOp) (s : State), VectorGoes s t .hrinse o → ∃ u, exec (.hrinse t o) s = .next u ∧
    u.tile t = { s.tile t with hamper := (s.tile t).hamper.rinse } ∧ (u.tile t).hamper.items = [] ∧
    (u.tile t).drains = (s.tile t).drains ∧ VectorFrame s u t) ∧
  (∀ (t : TileNo) (o : VOp) (s : State), VectorGoes s t .hpop o → ∃ u, exec (.hpop t o) s = .next u ∧
    u.tile t = { s.tile t with vwait := some (.hpop, o) } ∧ VectorFrame s u t)) ∧
  (
  ∀ (t : TileNo) (errs : List SegFault) (s : State) (o : VOp) (j : Nat), (s.tile t).vwait = some (.hpop, o) → (s.tile t).job = some j →
    (s.tile t).power = .running → (s.tile t).vq = [] → (s.tile t).seqWait = none →
    hpopReady ((s.tile t).vl / 32) (s.tile t).hamper.items = true →
    (∀ e ∈ errsIn (popUnits ((s.tile t).vl / 32) (s.tile t).hamper.items) errs, e.double = true → e.seg < 16) →
    ∃ u, exec (.hpopComplete t errs) s = .next u ∧
    (let us := popUnits ((s.tile t).vl / 32) (s.tile t).hamper.items
     us ++ (u.tile t).hamper.items = (s.tile t).hamper.items ∧ (u.tile t).vwait = none ∧
     (∀ i, i < (s.tile t).vl → i < 128 → ∀ x, us[i / 32]? = some x →
       ((u.tile t).lane o.vd.toNat i).v = BitVec.ofNat 32 (bits (x.segs.getD (i % 32 / 2) 0).toNat (32 * (i % 32 % 2)) 32) ∧
       (o.var ≠ 0 → (u.tile t).lane (o.vd.toNat + 1) i = ⟨boolWord (bit (x.segs.getD 16 0).toNat (i % 32)), false⟩)) ∧
     (o.sd ≠ 0 → (u.tile t).g o.sd.toNat = hpopHeader us)) ∧ VectorFrame s u t)

/-- Conversion (R85 to R89, R108): every lane below VL takes its pattern, cut to the source format, converted to the destination format, to
nearest even or stochastically with a draw of its own; saturated and NaN-zeroed elements are counted. A vector access that waited on
accumulator tiles proceeds once its checks let it (R58); its instruction is executed as if just issued. Scale-site instructions (R81):
opening fixes the scale and marks the step open; closing puts step_amax into the history, moves its head on and marks the step closed;
quantising writes the lanes' patterns, and the record and scale bytes alone in memory. -/
def Obligations.VectorConversion : Prop :=
  (
  ∀ (t : TileNo) (o : VOp) (s : State), VectorGoes s t .vcvt o → ∃ u, exec (.vcvt t o) s = .next u ∧
    (∀ i, i < (s.tile t).vl → i < 128 → (u.tile t).lane o.vd.toNat i =
      ⟨BitVec.ofNat 32 (convert o.fmtA.toNat o.fmtD.toNat
          (if o.stoch then .stochastic (Config.freeNat (s.free + i)) else .nearest) o.sat
          (((s.tile t).lane o.va.toNat i).v.toNat % 2 ^ width o.fmtA.toNat)).p, ((s.tile t).lane o.va.toNat i).p⟩) ∧
    (∀ r, r ≠ o.vd.toNat → (u.tile t).vreg r = (s.tile t).vreg r) ∧ (u.tile t).gpr = (s.tile t).gpr ∧
    u.free = s.free + (s.tile t).vl ∧ VectorFrame s u t) ∧
  (
  ∀ (t : TileNo) (s : State) (c : VCode) (o : VOp) (j : Nat) (jb : Job), (s.tile t).vwait = some (c, o) → c ≠ .hpop →
    (s.tile t).job = some j → s.job? j = some jb → (s.tile t).vq = [] →
    (let s' := s.modTile t (fun x => { x with vwait := none })
     s'.vectorCheck t jb c o = .go → exec (.accAccessResume t) s = .next
      (((((s'.tbump t 7 1 1).vectorEffect t c o)).runQueue t 33).retryVector t))) ∧
  (
  (∀ (t : TileNo) (o : VOp) (s : State), VectorGoes s t .siteopen o → ∃ u, exec (.siteopen t o) s = .next u ∧
    (let a := sramFa t ((s.tile t).g o.sa.toNat + o.imm).toNat
     Memory.reads u.mem a 96 = (siteOpen (Memory.reads s.mem a 96) s.free).1 ∧ Memory.read u.mem (a + 10) = 1 ∧
     ∀ b, b < a ∨ a + 96 ≤ b → Memory.read u.mem b = Memory.read s.mem b) ∧
    (u.tile t).vregs = (s.tile t).vregs ∧ (u.tile t).gpr = (s.tile t).gpr ∧ u.jobs = s.jobs) ∧
  (∀ (t : TileNo) (o : VOp) (s : State), VectorGoes s t .siteclose o → ∃ u, exec (.siteclose t o) s = .next u ∧
    (let a := sramFa t ((s.tile t).g o.sa.toNat + o.imm).toNat
     Memory.reads u.mem a 96 = (siteClose (Memory.reads s.mem a 96)).1 ∧ Memory.read u.mem (a + 10) = 0 ∧
     ∀ b, b < a ∨ a + 96 ≤ b → Memory.read u.mem b = Memory.read s.mem b) ∧
    (u.tile t).vregs = (s.tile t).vregs ∧ (u.tile t).gpr = (s.tile t).gpr ∧ u.jobs = s.jobs) ∧
  (∀ (t : TileNo) (o : VOp) (s : State), VectorGoes s t .siteq o → ∃ u, exec (.siteq t o) s = .next u ∧
    (let a := sramFa t ((s.tile t).g o.sa.toNat + o.imm).toNat
     let r := Memory.reads s.mem a 96
     (∀ i, i < (s.tile t).vl → i < 128 → ((u.tile t).lane o.vd.toNat i).v = BitVec.ofNat 32
       (siteElem r (if o.stoch then .stochastic (Config.freeNat (s.free + i)) else .nearest)
         ((s.tile t).lane o.va.toNat i).v).1.p) ∧
     ∀ b, (b < a ∨ a + 96 ≤ b) → (b < sramFa t ((s.tile t).g o.sb.toNat).toNat ∨
         sramFa t ((s.tile t).g o.sb.toNat).toNat + (s.tile t).vl / 32 ≤ b) → Memory.read u.mem b = Memory.read s.mem b) ∧
    (u.tile t).gpr = (s.tile t).gpr ∧ u.jobs = s.jobs))

/-! ### The queue macro (04 R113 to R118) -/

/-- A write to an instance of the queue macro (R117, R118): with room the item joins the waiting ones at the end; a full instance under hold
keeps what it has and its producer is held; a full one under overwrite-oldest loses its oldest item, and the rest of that item's packet
with it as it reaches the head; an item of such a packet that is written to the empty instance is lost too. A read of an instance (R115):
the oldest item is delivered, its data segments beyond correction as poisoned words, and leaves; a header segment beyond correction rinses
the instance instead. A rinse (R116) empties it at once. An instance never holds more items than its depth (R113): a write that succeeds
keeps the bound. -/
def Obligations.QueueMacro : Prop :=
  (
  ∀ (i : QueueId) (item : QItem) (s : State) (q : Queue), s.queue? i = some q →
    (q.items.length < q.depth → q.dropping = false → ∃ u, exec (.queueWrite i item) s = .next u ∧
      u.queue? i = some { q with items := q.items ++ [item] } ∧ u.jobs = s.jobs ∧ u.dies = s.dies ∧ u.mem = s.mem) ∧
    (∀ o r, q.depth ≤ q.items.length → q.overwrite = true → q.items = o :: r → ∃ u, exec (.queueWrite i item) s = .next u ∧
      u.queue? i = some (Queue.settle { q with lost := q.lost + 1, dropping := !o.last } (r ++ [item])) ∧
      (o.last = true → u.queue? i = some { q with lost := q.lost + 1, dropping := false, items := r ++ [item] }) ∧
      (o.last = false → ∃ x k, u.queue? i = some x ∧ k ≤ (r ++ [item]).length ∧ x.items = (r ++ [item]).drop k ∧ x.lost = q.lost + 1 + k ∧
        (∀ y ∈ (r ++ [item]).take (k - 1), y.last = false) ∧ (x.dropping = true → x.items = []) ∧
        (x.dropping = false → ∃ y, (r ++ [item])[k - 1]? = some y ∧ y.last = true)) ∧
      u.jobs = s.jobs ∧ u.dies = s.dies ∧ u.mem = s.mem) ∧
    (q.items = [] → q.dropping = true → 0 < q.depth → ∃ u, exec (.queueWrite i item) s = .next u ∧
      u.queue? i = some { q with lost := q.lost + 1, dropping := !item.last } ∧ u.jobs = s.jobs ∧ u.dies = s.dies ∧ u.mem = s.mem) ∧
    (q.depth ≤ q.items.length → q.overwrite = false → exec (.queueWrite i item) s = .next (s.hamperCount i 3 1))) ∧
  (
  (∀ (i : QueueId) (errs : List SegFault) (s : State) (q : Queue) (it : QItem) (rest : List QItem), s.queue? i = some q →
    q.items = it :: rest → q.dropping = false → (∀ e ∈ errs, e.double = true → e.item = 0 → e.seg < dataSegs i) → ∃ u x,
    exec (.queueRead i errs) s = .next u ∧ u.queue? i = some x ∧ x.items = rest ∧ x.lost = q.lost ∧ x.rinses = q.rinses ∧
    u.sent = .item i it ((errs.filter (fun e => e.item == 0 && decide (e.seg ≤ it.segs.length) && e.double)).map (·.seg)) :: s.sent ∧
    u.jobs = s.jobs ∧ u.dies = s.dies ∧ u.mem = s.mem) ∧
  (∀ (t : TileNo) (n : Nat) (s : State) (it : QItem) (rest : List QItem), (s.tile t).hamper.items = it :: rest → (s.tile t).job = none →
    16 ≤ n → n ≤ it.segs.length → ∃ u, exec (.queueRead (.hamper t) [⟨0, n, true⟩]) s = .next u ∧ (u.tile t).hamper.items = [] ∧
    (u.tile t).hamper.rinses = (s.tile t).hamper.rinses + 1 ∧ u = { s with tiles := u.tiles, cnt := u.cnt }) ∧
  (∀ (i : QueueId) (s : State) (q : Queue), s.queue? i = some q → ∃ u, exec (.queueRinse i) s = .next u ∧
    u.queue? i = some { q with items := [], dropping := false, rinses := q.rinses + 1 } ∧
    u.jobs = s.jobs ∧ u.dies = s.dies ∧ u.mem = s.mem)) ∧
  (
  ∀ (q q' : Queue) (i : QItem), q.items.length ≤ q.depth → q.write i = some q' → q'.depth = q.depth ∧ q'.items.length ≤ q'.depth)

/-! ### Selection (05) -/

/-- The selection commands (R127, R130 to R137): issue queues a checked descriptor; OPEN opens its slot; FEED and MERGE run every element
through the slot in order; CLOSE writes the list where the descriptor says, and nowhere else, and closes the slot; select-wait waits while
the slot is open or a queued descriptor names it. Entering an element (R133): a list holds at most `k` entries, each id once, and a list
that was not full and held no entry of the id gains one. -/
def Obligations.SelectionCommands : Prop :=
  (
  (∀ (t : TileNo) (d : Bytes) (s : State) (j : Nat) (jb : Job), SeqRuns s t j jb → selCheck (s.tile t) t jb d = none →
    (s.tile t).selQ.length < 8 → ∃ u, exec (.selIssue t d false) s = .next u ∧ (u.tile t).selQ = (s.tile t).selQ ++ [d] ∧
    u = { s with tiles := u.tiles, cnt := u.cnt }) ∧
  (∀ (t : TileNo) (s : State) (d : Bytes) (j : Nat) (jb : Job), s.selHead t 1 = some (d, j, jb) → ∃ u,
    exec (.selOpen t) s = .next u ∧ KMap.find (u.tile t).slots (slSlot d) = some
      { k := slK d, int32 := slFmt d == 10, asc := bit (field d 5 1) 0, rowLen := slRowLen d, req := BitVec.ofNat 32 (field d 12 4),
        refused := decide (slRowLen d > 16777216) } ∧ u = { s with tiles := u.tiles, cnt := u.cnt, reqs := u.reqs }) ∧
  (∀ (t : TileNo) (s : State) (d : Bytes) (j : Nat) (jb : Job) (sl : SelSlot), s.selHead t 2 = some (d, j, jb) →
    KMap.find (s.tile t).slots (slSlot d) = some sl → sl.refused = false → sl.received + slCount d ≤ sl.rowLen →
    (s.tile t).accAccess (slAddr d) (4 * slCount d) = .go → s.notArrived t (slAddr d) (4 * slCount d) = false →
    (slExplicit d = true → s.notArrived t (slIds d) (8 * slCount d) = false) → ∃ u, exec (.selFeed t) s = .next u ∧
    KMap.find (u.tile t).slots (slSlot d) = some ((s.feedElems t d).foldl SelSlot.take
      { sl with received := sl.received + slCount d, examined := sl.examined + slCount d }) ∧
    u.mem = s.mem ∧ u.jobs = s.jobs ∧ u.reqs = s.reqs) ∧
  (∀ (t : TileNo) (s : State) (d : Bytes) (j : Nat) (jb : Job) (sl : SelSlot), s.selHead t 3 = some (d, j, jb) →
    KMap.find (s.tile t).slots (slSlot d) = some sl → sl.refused = false →
    (let a := slAddr d
     let h := Memory.reads s.mem (sramFa t a) 32
     let n := field h 0 2
     s.notArrived t a 32 = false → s.poisonedRange (sramFa t a) 32 = false → headerOk h sl = true → a + 32 + 16 * n ≤ accBase →
     jb.ownsSram t a (32 + 16 * n) = true → sl.received + n ≤ sl.rowLen → s.notArrived t (a + 32) (16 * n) = false → ∃ u,
     exec (.selMerge t) s = .next u ∧
     KMap.find (u.tile t).slots (slSlot d) = some
       { (s.listElems t a n).foldl SelSlot.take
          { sl.absorb h with received := sl.received + n, examined := sl.examined + n } with refused := field h 4 1 == 15 } ∧
     u.mem = s.mem ∧ u.jobs = s.jobs)) ∧
  (∀ (t : TileNo) (s : State) (d : Bytes) (j : Nat) (jb : Job) (sl : SelSlot), s.selHead t 4 = some (d, j, jb) →
    KMap.find (s.tile t).slots (slSlot d) = some sl → ∃ u, exec (.selClose t) s = .next u ∧
    KMap.find (u.tile t).slots (slSlot d) = none ∧ Memory.reads u.mem (sramFa t (slAddr d)) sl.bytes.length = sl.bytes ∧
    (∀ a, a < sramFa t (slAddr d) ∨ sramFa t (slAddr d) + sl.bytes.length ≤ a → Memory.read u.mem a = Memory.read s.mem a) ∧
    u.jobs = s.jobs) ∧
  (∀ (t : TileNo) (slot : Fin 8) (s : State) (j : Nat) (jb : Job), SeqRuns s t j jb → exec (.selectWait t slot) s = .next
    (if (KMap.find (s.tile t).slots slot).isSome || (s.tile t).selQ.any (fun d => slSlot d == slot) then
      s.modTile t (fun x => { x with seqWait := some (.select slot) }) else s)) ∧
  (∀ (t : TileNo) (slot : Nat) (s : State), (s.tile t).seqWait = some (.select slot) → (s.tile t).slotBusy slot = false →
    exec (.selectWaitResume t) s = .next (s.modTile t (fun x => { x with seqWait := none })))) ∧
  (
  ∀ (sl : SelSlot) (e : SelEntry), sl.entries.length ≤ sl.k → (sl.entries.map (·.id)).Nodup →
    ((sl.enter e).1.entries.length ≤ sl.k ∧ ((sl.enter e).1.entries.map (·.id)).Nodup ∧
     (sl.entries.length < sl.k → (∀ x ∈ sl.entries, x.id ≠ e.id) → (sl.enter e).1.entries.length = sl.entries.length + 1 ∧
       e ∈ (sl.enter e).1.entries)))

/-! ### Stack memory (06, 15) -/

/-- A channel's request slots (R147 to R150): a waiting read of a sealed page that its bank has room for takes a slot; a read that returns,
and a write that is done, free theirs and leave memory and jobs as they are. The write-backs a controller owes (R407, R409): the oldest
leaves; one overtaken by a newer write is discarded and counted, another is made, and marks its whole sector where the sector was beyond
correction. -/
def Obligations.StackRequests : Prop :=
  (
  (∀ (d : DieNo) (ch : Fin 32) (s : State) (q : Nat) (r : StackReq), (s.die d).state = .ready → q < 439 →
    KMap.find (s.die d).issueQ q = some [r] → (∀ k, k ≠ q → KMap.getOr [] (s.die d).issueQ k = []) →
    r.write = false → r.held = false → r.requester = q → s.sealedAt (r.granule * 256) = true →
    (s.chanOf d (r.granule * 256 % 2 ^ 40)).1 = ch → (KMap.getOr [] (s.die d).slots ch).length < 192 →
    s.bankLoad d ch (s.chanOf d (r.granule * 256 % 2 ^ 40)).2 < 32 → ∃ u, exec (.stackRequestGrant d ch) s = .next u ∧
    KMap.getOr [] (u.die d).slots ch = KMap.getOr [] (s.die d).slots ch ++ [r] ∧ KMap.getOr [] (u.die d).issueQ q = [] ∧
    u = { s with dies := u.dies, cnt := u.cnt }) ∧
  (∀ (d : DieNo) (ch : Fin 32) (slot : Nat) (reads : List (List SectorFault)) (s : State) (r : StackReq),
    (KMap.getOr [] (s.die d).slots ch)[slot]? = some r → r.write = false → ∃ u,
    exec (.stackReadReturn d ch slot reads) s = .next u ∧ KMap.getOr [] (u.die d).slots ch =
      (KMap.getOr [] (s.die d).slots ch).take slot ++ (KMap.getOr [] (s.die d).slots ch).drop (slot + 1) ∧
    u.mem = s.mem ∧ u.poison = s.poison ∧ u.jobs = s.jobs ∧ u.tiles = s.tiles) ∧
  (∀ (d : DieNo) (ch : Fin 32) (slot : Nat) (s : State) (r : StackReq),
    (KMap.getOr [] (s.die d).slots ch)[slot]? = some r → r.write = true →
    exec (.stackWriteDone d ch slot) s = .next (s.modDie d (fun x =>
      { x with slots := KMap.put x.slots ch
                ((KMap.getOr [] (s.die d).slots ch).take slot ++ (KMap.getOr [] (s.die d).slots ch).drop (slot + 1)) })))) ∧
  (
  ∀ (d : DieNo) (s : State) (w : StackWb) (rest : List StackWb), (s.die d).wbs = w :: rest → ∃ u,
    exec (.stackWriteback d) s = .next u ∧ (u.die d).wbs = rest ∧
    (w.cancelled = true → u.poison = s.poison ∧ u.count (dkey d 3 8) = (s.count (dkey d 3 8) + 1) % 2 ^ 64) ∧
    (w.cancelled = false → u.count (dkey d 3 7) = (s.count (dkey d 3 7) + 1) % 2 ^ 64 ∧
      (w.poisoned = true → ∀ i < 8, w.granule * 64 + w.sector * 8 + i ∈ u.poison) ∧ (w.poisoned = false → u.poison = s.poison)) ∧
    u = { s with dies := u.dies, cnt := u.cnt, poison := u.poison })

/-- The sequencer's accesses to tier 1 (R153, R157): a load of a sealed page that the cache does not hold puts its granule there and asks for
it, one the cache holds changes nothing; a store ends the job BAD_DESCRIPTOR. Commit fences and recycles (R154 to R158): a fence on pages
that are all SEALED completes at once, another waits; when the writes it covers are in, its pages are SEALED and the sequencer goes on. A
recycle is asked for, and when no accepted read is outstanding the page is FREE and no cache holds a granule of it. -/
def Obligations.PagesAndTierOne : Prop :=
  (
  (∀ (t : TileNo) (a : Fa) (s : State) (j : Nat) (jb : Job), SeqRuns s t j jb → s.faValid a.toNat = true → faSpace a.toNat = 0 →
    jb.mayRead a.toNat 1 = true → ⟨a.toNat / 256, s.ownerOf a.toNat⟩ ∉ (s.tile t).dcache → s.sealedAt a.toNat = true → ∃ u,
    exec (.seqTier1Load t a) s = .next u ∧ ⟨a.toNat / 256, s.ownerOf a.toNat⟩ ∈ (u.tile t).dcache ∧
    (∀ l ∈ (s.tile t).dcache, l.granule ≠ a.toNat / 256 → l ∈ (u.tile t).dcache) ∧ u = { s with tiles := u.tiles, dies := u.dies }) ∧
  (∀ (t : TileNo) (a : Fa) (s : State) (j : Nat) (jb : Job), SeqRuns s t j jb → s.faValid a.toNat = true → faSpace a.toNat = 0 →
    jb.mayRead a.toNat 1 = true → ⟨a.toNat / 256, s.ownerOf a.toNat⟩ ∈ (s.tile t).dcache → exec (.seqTier1Load t a) s = .next s) ∧
  (∀ (t : TileNo) (a : Fa) (s : State) (j : Nat) (jb : Job), SeqRuns s t j jb → exec (.seqTier1Store t a) s = .next
    (s.refuseJob j .badDescriptor
      { kind := 4, resource := 9, die := dieOf t, tile := tileOf t, reason := 5, fa := a.toNat }))) ∧
  (
  (∀ (t : TileNo) (a : Fa) (n : Nat) (s : State) (j : Nat) (jb : Job) (l : Nat) (bases : List Nat), SeqRuns s t j jb →
    jb.fenceRange a.toNat n = some (l, bases) → exec (.commitFence t a n) s = .next
      (if bases.all s.sealedAt then s else s.modTile t (fun x => { x with seqWait := some (.fence a.toNat n) }))) ∧
  (∀ (t : TileNo) (s : State) (a n j : Nat) (jb : Job) (l : Nat) (bases : List Nat), (s.tile t).seqWait = some (.fence a n) →
    (s.tile t).job = some j → s.job? j = some jb → jb.fenceRange a n = some (l, bases) →
    s.fencePending t (bases.headD a) (bases.length * 2 ^ l) = false → ∃ u, exec (.commitFenceDone t) s = .next u ∧
    (∀ b ∈ bases, u.sealedAt b = true) ∧ (u.tile t).seqWait = none ∧ u = { s with pages := u.pages, tiles := u.tiles, cnt := u.cnt }) ∧
  (∀ (t : TileNo) (a : Fa) (s : State) (j : Nat) (jb : Job) (l : Nat) (bases : List Nat), SeqRuns s t j jb →
    jb.fenceRange a.toNat 1 = some (l, bases) → s.sealedAt a.toNat = true → exec (.pageRecycle t a) s = .next
      { s with pages := s.pages.map (fun p => if bases.contains p.base then { p with recycling := true } else p) }) ∧
  (∀ (d : DieNo) (a : Fa) (s : State) (p : Page), s.page? a.toNat = some p → p.recycling = true → faDie p.base = d →
    s.outstanding false p.base (2 ^ p.log2) = false → ∃ u, exec (.pageRecycleDone d a) s = .next u ∧
    u.pages = s.pages.filter (fun q => q.base ≠ p.base) ∧
    (∀ t, ∀ l ∈ (u.tile t).dcache, ¬ (p.base / 256 ≤ l.granule ∧ l.granule < (p.base + 2 ^ p.log2) / 256)) ∧
    u = { s with pages := u.pages, tiles := u.tiles }))

/-! ### The stream feeder (06) -/

/-- The stream feeder (R160 to R163): a checked schedule starts from its first entry; an entry within the lead, whose destination is free and
which passes its checks, is issued; one that arrives has its bytes in the window and is marked arrived; released entries count, and waits
end with arrival. -/
def Obligations.StreamCommands : Prop :=
  (∀ (t : TileNo) (a : BitVec 21) (s : State) (j : Nat) (jb : Job), SeqRuns s t j jb →
    s.poisonedRange (sramFa t a.toNat) 32 = false → headerCheck jb t a.toNat (Memory.reads s.mem (sramFa t a.toNat) 32) = none → ∃ u,
    exec (.streamStart t a) s = .next u ∧ (u.tile t).stream = some ⟨a.toNat, 0, 0, [], []⟩ ∧
    (∀ i ∈ (u.tile t).arrived, i ∈ (s.tile t).arrived) ∧ u = { s with tiles := u.tiles }) ∧
  (∀ (t : TileNo) (s : State) (st : Stream) (j : Nat) (jb : Job) (e : Bytes), (s.tile t).stream = some st → (s.tile t).job = some j →
    s.job? j = some jb → s.streamEntry t st st.issued = some e → s.tileWorks t = true →
    st.issued < st.released + shLead (Memory.reads s.mem (sramFa t st.hdr) 32) →
    (∀ k < st.issued - st.released, seOverlap ((s.streamEntry t st (st.released + k)).getD []) e = false) →
    s.poisonedRange (sramFa t (st.hdr + 32 + 32 *
      (entryPlace (Memory.reads s.mem (sramFa t st.hdr) 32) st.issued).getD 0)) 32 = false →
    entryCheck s jb (Memory.reads s.mem (sramFa t st.hdr) 32) e = none → (∀ r ∈ seSrcs e, s.sealedRange r.1 r.2 = true) → ∃ u,
    exec (.streamEntryIssue t) s = .next u ∧
    (u.tile t).stream = some { st with issued := st.issued + 1, flight := st.flight ++ [st.issued] } ∧
    u = { s with tiles := u.tiles, dies := u.dies }) ∧
  (∀ (t : TileNo) (n : Nat) (s : State) (st : Stream) (e : Bytes), (s.tile t).stream = some st → s.streamEntry t st n = some e →
    n ∈ st.flight → (s.tile t).power = .running → (∀ r ∈ seSrcs e, s.outstanding false r.1 r.2 = false) → (s.tile t).vwait = none → ∃ u,
    exec (.streamEntryArrived t n) s = .next u ∧
    (u.tile t).stream = some { st with flight := st.flight.filter (· ≠ n), arrived := st.arrived ++ [n] } ∧
    (∀ a ∈ seDsts e, ∀ i, a.1 / 64 ≤ i → i < (a.1 + a.2 + 63) / 64 → i ∈ (u.tile t).arrived) ∧
    (sePatch e = false → seScales e = false → Memory.reads u.mem (sramFa t (seDst e)) (seLen e) = s.bytesAt (seSrc e) (seLen e)) ∧
    u.jobs = s.jobs) ∧
  (∀ (t : TileNo) (n : Nat) (s : State) (j : Nat) (jb : Job) (st : Stream), SeqRuns s t j jb → (s.tile t).stream = some st →
    st.released + n ≤ st.issued → ∃ u, exec (.streamRelease t n) s = .next u ∧
    (u.tile t).stream = some { st with released := st.released + n, arrived := st.arrived.filter (fun i => decide (st.released + n ≤ i)) } ∧
    u = { s with tiles := u.tiles }) ∧
  (∀ (t : TileNo) (n : Nat) (s : State) (j : Nat) (jb : Job), SeqRuns s t j jb → exec (.streamWait t n) s = .next
    (if (s.tile t).entryArrived n then s else s.modTile t (fun x => { x with seqWait := some (.stream n) }))) ∧
  (∀ (t : TileNo) (n : Nat) (s : State), (s.tile t).seqWait = some (.stream n) → (s.tile t).entryArrived n = true →
    exec (.streamWaitResume t) s = .next (s.modTile t (fun x => { x with seqWait := none })))

/-! ### The gather engine (06) -/

/-- Gather descriptors (R166 to R168): ADDR and INDEX ones that pass their check join the engine; the oldest with an element to issue asks for
it; one whose elements are all back is written and leaves, and its counter is signalled; gather-wait waits for one still there. Transfers
to and from host windows (R170, R171): a checked one on a queue pair in RTS joins the engine and its READ, or its WRITE of the device's
bytes, goes out at the window's address; one the link cannot carry leaves, and the requests of its job end with the cause. -/
def Obligations.GatherCommands : Prop :=
  (
  (∀ e ∈ [(Instr.gatherAddr, 1), (Instr.gatherIndex, 2)], ∀ (t : TileNo) (d : Bytes) (s : State) (j : Nat) (jb : Job),
    SeqRuns s t j jb → gdOp d = e.2 → gatherCheck s jb t d = none → s.gathersFull t = false → ∃ u, exec (e.1 t d false) s = .next u ∧
    (u.die (dieOf t)).gathers = (s.die (dieOf t)).gathers ++
      [{ id := (s.die (dieOf t)).gatherSeq, tile := t, job := j, desc := d, pos := 0, landed := 0, host := none, acked := false }] ∧
    (u.die (dieOf t)).gatherSeq = (s.die (dieOf t)).gatherSeq + 1 ∧ u = { s with dies := u.dies }) ∧
  (∀ (d : DieNo) (s : State) (g : Gather) (jb : Job) (a : Nat), s.nextGather d = some g → s.job? g.job = some jb →
    (let entry := gdEntryAt g.tile g.desc g.pos
     s.notArrived g.tile (faSram entry) (gdEntry g.desc) = false → s.poisonedRange entry (gdEntry g.desc) = false →
     s.elemAddr g.tile g.desc g.pos = some a → faSpace a = 0 → s.faRange a (gdElem g.desc) = true →
     jb.mayRead a (gdElem g.desc) = true → s.sealedRange a (gdElem g.desc) = true →
     (s.die d).gatherReads + (granulesOf a (gdElem g.desc)).length ≤ 2048 → ∃ u, exec (.gatherElementIssue d) s = .next u ∧
     (u.die d).gathers = (s.die d).gathers.map (fun x => if x.id = g.id then { x with pos := x.pos + 1 } else x) ∧
     u = { s with dies := u.dies })) ∧
  (∀ (d : DieNo) (n : Nat) (s : State) (g : Gather), (s.die d).gathers.find? (fun g => g.id == n) = some g →
    (s.tile g.tile).power = .running → (s.tile g.tile).job = some g.job → gdIsHost g.desc = false → gdCount g.desc ≤ g.pos →
    s.elementsBack g = true → exec (.gatherComplete d n) s = .next ((s.landElements g).endGather d g)) ∧
  (∀ (t : TileNo) (n : Nat) (s : State) (j : Nat) (jb : Job), SeqRuns s t j jb → exec (.gatherWait t n) s = .next
    (if (s.die (dieOf t)).gathers.any (fun g => g.id == n && g.tile == t) then
      s.modTile t (fun x => { x with seqWait := some (.gather n) }) else s)) ∧
  (∀ (t : TileNo) (n : Nat) (s : State), (s.tile t).seqWait = some (.gather n) →
    (s.die (dieOf t)).gathers.any (fun g => g.id == n && g.tile == t) = false →
    exec (.gatherWaitResume t) s = .next (s.modTile t (fun x => { x with seqWait := none })))) ∧
  (
  (∀ (t : TileNo) (d : Bytes) (x : Transfer) (s : State) (j : Nat) (jb : Job) (w : Window), SeqRuns s t j jb → gdOp d = 3 →
    hostCheck s jb t d = none → (faSpace (hdLocal d) = 0 → s.writableRange (hdLocal d) (hdBytes d) = true) →
    s.gathersFull t = false → jb.windowOf d = some w → s.qpCause w.qp = none → ∃ u,
    exec (.gatherHostRead t d false x) s = .next u ∧
    u.sent = .rdmaRead w.qp (w.base + BitVec.ofNat 64 (hdOffset d)) w.rkey (hdBytes d) :: s.sent ∧
    (u.die (dieOf t)).gathers = (s.die (dieOf t)).gathers ++
      [{ id := (s.die (dieOf t)).gatherSeq, tile := t, job := j, desc := d, pos := 0, landed := 0, host := some x, acked := false }] ∧
    u = { s with dies := u.dies, qps := u.qps, sent := u.sent, cnt := u.cnt }) ∧
  (∀ (t : TileNo) (d : Bytes) (s : State) (j : Nat) (jb : Job) (w : Window), SeqRuns s t j jb → gdOp d = 4 →
    hostCheck s jb t d = none → (faSpace (hdLocal d) = 0 → s.sealedRange (hdLocal d) (hdBytes d) = true) →
    s.gathersFull t = false → jb.windowOf d = some w → s.qpCause w.qp = none → s.poisonedRange (hdLocal d) (hdBytes d) = false → ∃ u,
    exec (.gatherHostWrite t d false) s = .next u ∧
    u.sent = .rdmaWrite w.qp (w.base + BitVec.ofNat 64 (hdOffset d)) w.rkey (s.hostBytes (hdLocal d) (hdBytes d)) none :: s.sent ∧
    (u.die (dieOf t)).gathers = (s.die (dieOf t)).gathers ++
      [{ id := (s.die (dieOf t)).gatherSeq, tile := t, job := j, desc := d, pos := 0, landed := 0, host := none, acked := false }] ∧
    u = { s with dies := u.dies, qps := u.qps, sent := u.sent, cnt := u.cnt }) ∧
  (∀ (t : TileNo) (n : Nat) (s : State) (g : Gather) (jb : Job) (w : Window) (c : Cause),
    (s.die (dieOf t)).gathers.find? (fun g => g.id == n && g.tile == t.val) = some g → s.job? g.job = some jb →
    jb.windowOf g.desc = some w → gdIsHost g.desc = true → g.host = some (.failed c) →
    exec (.hostTransferFail t n) s = .next
      ((((s.dropOut w.qp (.gather (dieOf t) g.id)).dropGather (dieOf t) g).failReqs g.job (causeStatus c)).retryGathers (dieOf t))))

/-! ### Integrity (15) and faults (16) -/

/-- SRAM write-backs and the SRAM sweep (R411, R416): the oldest write-back leaves and is counted as made or discarded; the sweep of a Running
tile's row moves its row on. The stack sweep and the soak fill (R412, R414, R415): each sweep read counts and moves to the next granule,
or starts a new pass and counts the old one; a die whose PHYs are trained enters the fill; with its end the die is ready and its stack
bytes are zero. -/
def Obligations.IntegrityCommands : Prop :=
  (
  (∀ (t : TileNo) (s : State) (w : SramWb) (rest : List SramWb), (s.tile t).sramWb = w :: rest → exec (.sramWriteback t) s = .next
    ((s.modTile t (fun x => { x with sramWb := rest })).bump (dkey (dieOf t) 3 (if w.cancelled then 8 else 7)) 1)) ∧
  (∀ (t : TileNo) (errs : List SramFault) (s : State), (s.tile t).power = .running → (s.die (dieOf t)).state = .ready → ∃ u,
    exec (.lintSramRow t errs) s = .next u ∧ (u.tile t).lintRow = ((s.tile t).lintRow + 1) % 1024 ∧
    (errs = [] → u.poison = s.poison ∧ (u.tile t).sramWb = (s.tile t).sramWb) ∧ u.mem = s.mem ∧
    u = { s with tiles := u.tiles, dies := u.dies, cnt := u.cnt, poison := u.poison })) ∧
  (
  (∀ (d : DieNo) (errs : List SectorFault) (late : Bool) (s : State), (s.die d).state = .ready → ∃ u,
    exec (.lintRead d errs late) s = .next u ∧
    (u.die d).lintPos = (if (s.die d).lintPos + 1 < s.passGranules d then (s.die d).lintPos + 1 else 0) ∧
    u.count (dkey d 3 9) = (s.count (dkey d 3 9) + 1) % 2 ^ 64 ∧
    (s.passGranules d ≤ (s.die d).lintPos + 1 → u.count (dkey d 3 0xA) = (s.count (dkey d 3 0xA) + 1) % 2 ^ 64) ∧
    u.mem = s.mem ∧ u.jobs = s.jobs) ∧
  (∀ (d : DieNo) (s : State), (s.die d).phy = true → (s.die d).state = .off → s.isRetired (.die d) = false → ∃ u,
    exec (.soakFill d) s = .next u ∧ (u.die d).state = .soak ∧ u.mem = s.mem ∧ u.jobs = s.jobs ∧ u.tiles = s.tiles) ∧
  (∀ (d : DieNo) (ms : Nat) (s : State), (s.die d).state = .soak → (s.die d).rebuild = false → ∃ u,
    exec (.soakFillDone d ms) s = .next u ∧ (u.die d).state = .ready ∧
    (∀ i < 2 ^ 40, Memory.read u.mem (stackFa d i) = 0) ∧ (∀ i < 144, u.tile (144 * d + i) = {}) ∧
    (∀ a, a < d * 2 ^ 42 ∨ (d + 1) * 2 ^ 42 ≤ a → Memory.read u.mem a = Memory.read s.mem a)))

/-- Darning (R418 to R420): the row whose repair is due takes the lowest free spare of its channel, the entry is in force, and a ledger write
that succeeds keeps it; with no spare left the request is refused, which is counted, and the channel's retirement is queued. Repairs come
due (R432, R433): a resource whose events within its window reach its threshold, unless its repair waits already or it is gone, joins the
queue and its events are spent; so does a lane that loses lock. -/
def Obligations.RepairCommands : Prop :=
  (
  (∀ (d : DieNo) (ch : Fin 32) (bank : Fin 16) (row n : Nat) (ok : Bool) (s : State), s.nextRepair d (.row ch bank row) = true →
    s.popRepair.channelGoing d ch = false → s.freeSpare d ch = some n → ∃ u, exec (.remap d ch bank row ok) s = .next u ∧
    ⟨d, ch, bank, n, row⟩ ∈ (u.die d).remaps ∧ u.repairs = s.repairs.drop 1 ∧ u.flogSeq = s.flogSeq + 1 ∧
    (ok = true → ⟨d, ch, bank, n, row⟩ ∈ u.ledger.remaps) ∧
    (ok = false → u.ledger.remaps = s.ledger.remaps ∧ u.count (dkey d 3 0xF) = (s.count (dkey d 3 0xF) + 1) % 2 ^ 64) ∧
    u.mem = s.mem ∧ u.jobs = s.jobs) ∧
  (∀ (d : DieNo) (ch : Fin 32) (bank : Fin 16) (row : Nat) (ok : Bool) (s : State), s.nextRepair d (.row ch bank row) = true →
    s.popRepair.channelGoing d ch = false → s.freeSpare d ch = none → ∃ u, exec (.remap d ch bank row ok) s = .next u ∧
    (u.die d).remaps = (s.die d).remaps ∧ (ch.val, bank.val, row) ∈ (u.die d).remapRefused ∧
    u.repairs = s.repairs.drop 1 ++ [⟨d, .channel ch, s.now⟩] ∧
    u.count (dkey d 3 0xE) = (s.count (dkey d 3 0xE) + 1) % 2 ^ 64)) ∧
  (
  (∀ (d : DieNo) (res : Resource) (s : State), (s.threshold res).1 ≤ s.eventCount d res → s.repairMoot d res = false → ∃ u,
    exec (.thresholdReached d res) s = .next u ∧ ⟨d, res, s.now⟩ ∈ u.repairs ∧ (∀ r ∈ s.repairs, r ∈ u.repairs) ∧
    u.repairs.length = s.repairs.length + 1 ∧ (u.die d).events = (s.die d).events.filter (fun e => e.res ≠ res) ∧
    u = { s with repairs := u.repairs, dies := u.dies }) ∧
  (∀ (d : DieNo) (dir : Fin 4) (lane : Nat) (s : State), s.linkRetired d dir = false → lane < 34 →
    s.repairMoot d (.lane dir lane) = false → ∃ u, exec (.linkLockLoss d dir lane) s = .next u ∧
    ⟨d, .lane dir lane, s.now⟩ ∈ u.repairs ∧ u.repairs.length = s.repairs.length + 1 ∧ u = { s with repairs := u.repairs, dies := u.dies }))

/-- Links (R429, R431, R434, R435): a flit error replays at most eight times, then its direction retrains; the end of a retrain; a lane
retired is recorded, and both directions of a link that stays retrain; a link whose direction fell below eight lanes leaves the routes.
Retirements (R434 to R439, R445): each is recorded in the retired-resource map and the resource is gone: a retired array is not live, a
retired tile is Off with nothing in it, a retired die is off and unpowered, a die with a retired channel has no page records and, while it
has other channels and was ready, fills again. -/
def Obligations.LinksAndRetirements : Prop :=
  (
  (∀ (d : DieNo) (dir : Fin 4) (lanes : List Nat) (n : Nat) (s : State), s.linkRetired d dir = false → ∃ u,
    exec (.linkFlitError d dir lanes n) s = .next u ∧ u.count (dkey d 1 3) % 2 ^ 64 = (s.count (dkey d 1 3) + min n 8) % 2 ^ 64 ∧
    (dir.val ∈ (u.die d).retraining ↔ (dir.val ∈ (s.die d).retraining ∨ 8 < n)) ∧ u = { s with dies := u.dies, cnt := u.cnt }) ∧
  (∀ (d : DieNo) (dir : Fin 4) (failed : List Nat) (s : State), dir.val ∈ (s.die d).retraining → ∃ u,
    exec (.linkRetrainDone d dir failed false) s = .next u ∧ dir.val ∉ (u.die d).retraining ∧
    (failed = [] → u.repairs = s.repairs) ∧ u = { s with dies := u.dies, repairs := u.repairs }) ∧
  (∀ (d e : DieNo) (dir : Fin 4) (lane : Nat) (s : State), s.nextRepair d (.lane dir lane) = true → neighbour d dir = some e.val → ∃ u,
    exec (.laneRetire d dir lane) s = .next u ∧ u.isRetired (.lane d dir lane) = true ∧ u.repairs = s.repairs.drop 1 ∧
    (u.linkRetired d dir = false → dir.val ∈ (u.die d).retraining ∧ opposite dir ∈ (u.die e).retraining) ∧
    u.count (dkey d 4 6) = (s.count (dkey d 4 6) + 1) % 2 ^ 64 ∧ u.jobs = s.jobs ∧ u.mem = s.mem) ∧
  (∀ (d e : DieNo) (dir : Fin 4) (s : State), neighbour d dir = some e.val → s.linkRetired d dir = true →
    linkKey d dir ∉ s.routed → ∃ u, exec (.linkRetire d dir) s = .next u ∧ linkKey d dir ∈ u.routed ∧
    linkKey e (opposite dir) ∈ u.routed ∧ (∀ k ∈ s.routed, k ∈ u.routed))) ∧
  (
  (∀ (t : TileNo) (s : State), s.nextRepair (dieOf t) (.array ⟨tileOf t, Nat.mod_lt _ (by decide)⟩) = true → s.arrayLive t = true → ∃ u,
    exec (.arrayRetire t) s = .next u ∧ u.isRetired (.array t) = true ∧ u.arrayLive t = false ∧ u.repairs = s.repairs.drop 1) ∧
  (∀ (t : TileNo) (s : State), s.nextTile t = true → ∃ u, exec (.tileRetire t) s = .next u ∧ u.isRetired (.tile t) = true ∧
    u.arrayLive t = false ∧ u.tile t = {} ∧ u.repairs = s.repairs.drop 1) ∧
  (∀ (d : DieNo) (ch : Fin 32) (s : State), s.nextRepair d (.channel ch) = true → ∃ u, exec (.channelRetire d ch) s = .next u ∧
    u.isRetired (.channel d ch) = true ∧ (∀ p ∈ u.pages, faDie p.base ≠ d) ∧ ch.val ∉ u.liveChannels d ∧
    ((s.die d).state = .ready → u.liveChannels d ≠ [] → (u.die d).state = .soak)) ∧
  (∀ (d : DieNo) (s : State), s.isRetired (.die d) = false → s.dieSpent d = true → ∃ u, exec (.dieRetire d) s = .next u ∧
    u.isRetired (.die d) = true ∧ (u.die d).powered = false ∧ (u.die d).state = .off ∧ ∀ i < 144, u.tile (144 * d + i) = {}))

/-! ### Object writes (13) -/

namespace Sys2Proof.Claims

/-- A write of an object may act (R365, R366): its session is open, the owner rule lets it, no earlier message is at work on the object, and
none of the conditions of R365 holds, nor one of the object's own. -/
def WriteMay (s : State) (r : Requester) (idx sub : Nat) (v : Bytes) (own : List Status) : Prop :=
  ∃ sn, s.session? r.sid = some sn ∧ s.notOwner sn.role r.src = false ∧ s.objBusy (okey idx sub) = false ∧
    firstStatus (s.writeConds sn.role idx sub (objType idx sub) v ++ own) = .ok

/-- The newest thing sent is the reply to a request, with a status. -/
def Replied (u : State) (r : Requester) (st : Status) : Prop :=
  ∃ (m : KReply) (rest : List Sent), u.sent = .kop m :: rest ∧ m.status = st ∧ m.sid = r.sid ∧ m.seq = r.seq ∧ m.port = r.port ∧ m.dst = r.src

end Sys2Proof.Claims

/-! ### Tenancy (14) -/

/-- Contexts and domains (R380 to R382): each write that may act is done and answered OK: a context is created in a live domain, a context
that holds nothing goes with its event queue, a domain is created under its next generation, one that nothing names is destroyed and keeps
its generation, and a job handle without a job takes a domain. Region tables (R383, R384): a deletion and an imported entry are in force
when they are answered; an OWN entry takes its place at once and is answered when its range has been filled with zeros under its domain's
key, whereupon messages that waited begin. -/
def Obligations.DomainsAndRegions : Prop :=
  (
  (∀ (r : Requester) (v : Bytes) (s : State), WriteMay s r 0x2320 3 v [] → field v 0 2 ≠ 0 → zeros v 4 4 = true →
    s.domainLive (field v 2 2) = true → s.contextLive (field v 0 2) = false → ∃ u, exec (.contextSetup r v) s = .next u ∧
    u.contexts = s.contexts.put (field v 0 2) (field v 2 2) ∧ Replied u r .ok ∧
    u = { s with contexts := u.contexts, cnt := u.cnt, sent := u.sent, kop := u.kop }) ∧
  (∀ (r : Requester) (v : Bytes) (s : State), WriteMay s r 0x2320 4 v [] → leNat v ≠ 0 → s.contextLive (leNat v) = true →
    s.contextInUse (leNat v) = false → ∃ u, exec (.contextDelete r v) s = .next u ∧ u.contexts = s.contexts.del (leNat v) ∧
    u.events = s.events.del (leNat v) ∧ Replied u r .ok ∧
    u = { s with contexts := u.contexts, events := u.events, cnt := u.cnt, sent := u.sent, kop := u.kop }) ∧
  (∀ (r : Requester) (v : Bytes) (s : State), WriteMay s r 0x2320 5 v [] → leNat v ≠ 0 → s.domainLive (leNat v) = false → ∃ u,
    exec (.domainCreate r v) s = .next u ∧ u.domainLive (leNat v) = true ∧ u.domainGen (leNat v) = (s.domainGen (leNat v) + 1) % 2 ^ 32 ∧
    (∀ d, d ≠ leNat v → KMap.find u.domains d = KMap.find s.domains d) ∧ Replied u r .ok ∧
    u = { s with domains := u.domains, cnt := u.cnt, sent := u.sent, kop := u.kop }) ∧
  (∀ (r : Requester) (v : Bytes) (s : State), WriteMay s r 0x2320 6 v [] → leNat v ≠ 0 → s.domainLive (leNat v) = true →
    s.domainInUse (leNat v) = false → ∃ u, exec (.domainDestroy r v) s = .next u ∧ u.domainLive (leNat v) = false ∧
    u.domainGen (leNat v) = s.domainGen (leNat v) ∧ (∀ d, d ≠ leNat v → KMap.find u.domains d = KMap.find s.domains d) ∧
    Replied u r .ok ∧ u = { s with domains := u.domains, cnt := u.cnt, sent := u.sent, kop := u.kop }) ∧
  (∀ (j : Fin 256) (r : Requester) (v : Bytes) (s : State), WriteMay s r (jobDomainObj j).1 (jobDomainObj j).2 v [] →
    s.domainLive (leNat v) = true → s.job? j = none → ∃ u, exec (.jobDomainWrite j r v) s = .next u ∧
    u.jobDomain j = leNat v ∧ Replied u r .ok ∧ u = { s with objs := u.objs, cnt := u.cnt, sent := u.sent, kop := u.kop })) ∧
  (
  (∀ (r : Requester) (v : Bytes) (s : State), WriteMay s r 0x2320 7 v [] → s.regionBad v = false → s.domainLive (rgDomain v) = true →
    (rgKind v = 2 → s.domainLive (rgOwner v) = true) → s.regionRefused v = false → ∃ u, exec (.regionWrite r v) s = .next u ∧
    u.regions = s.regions.filter (fun x => ¬ (x.domain = rgDomain v ∧ x.slot = rgSlot v)) ++ (if rgKind v = 0 then [] else [regionOf v]) ∧
    (rgKind v = 1 → u.fills = s.fills ++ [(r, regionOf v)]) ∧ (rgKind v ≠ 1 → u.fills = s.fills ∧ Replied u r .ok) ∧
    u = { s with regions := u.regions, fills := u.fills, cnt := u.cnt, sent := u.sent, kop := u.kop }) ∧
  (∀ (r : Requester) (e : RegionEntry) (rest : List (Requester × RegionEntry)) (sn : Session) (s : State), s.fills = (r, e) :: rest →
    s.session? r.sid = some sn → ∃ u : State, exec .regionFillDone s = .next u.wake ∧ u.fills = rest ∧
    Replied u r .ok ∧ (∀ a, Memory.read u.mem a = if e.base ≤ a ∧ a < e.base + e.length then 0 else Memory.read s.mem a) ∧
    (∀ g, e.base / 256 ≤ g → g < (e.base + e.length) / 256 → u.keyAt g = some (s.keyNow (e.base / 256)))))

/-- Keys, reports and the seal (R395, R398, R399, R401): a role key is on its way into the ledger; a nonce starts a report's signing and takes
the old report away; a signed report is readable, one number on; the seal's first fuse goes into programming. -/
def Obligations.KeysReportsSeal : Prop :=
  (∀ (r : Requester) (v : Bytes) (s : State), WriteMay s r 0x2900 1 v [] → field v 0 1 ≠ 0 → field v 0 1 ≤ 3 → zeros v 1 3 = true →
    ¬ (field v 0 1 = 3 ∧ zeros v 4 32 = true) → exec (.roleKeyWrite r v) s = .next (s.persist r (okey 0x2900 1) v)) ∧
  (∀ (r : Requester) (v : Bytes) (s : State), WriteMay s r 0x2910 1 v [] → s.boot.signing = none → ∃ u,
    exec (.attestNonce r v) s = .next u ∧ u.boot = { s.boot with signing := some (s.reportBody v), report := none } ∧ Replied u r .ok ∧
    u = { s with boot := u.boot, cnt := u.cnt, sent := u.sent, kop := u.kop }) ∧
  (∀ (b : Bytes) (s : State), s.boot.signing = some b → ∃ u, exec .attestSigned s = .next u ∧
    u.boot = { s.boot with signing := none, report := some (b ++ Config.slhSign s.fuses.dus b), reportSeq := s.boot.reportSeq + 1 } ∧
    u = { s with boot := u.boot, cnt := u.cnt }) ∧
  (∀ (r : Requester) (v : Bytes) (s : State), WriteMay s r 0x2901 2 v [] → leNat v = (crc32c s.fuses.serial).toNat →
    s.tap.debugOpen = false → exec (.sealBlow r v) s = .next { s with fuses := { s.fuses with blowing := some (.seal r false) } })

/-! ### Claims, sessions, objects (12, 13) -/

/-- A claim (R344, R345): a claim that passes its first checks probes for its unit on every ready port; without a conflict the record and the
owner are installed, with one the module stays as it was, and messages that waited then begin; a release takes both away. Sessions that
close (R362): after CLOSE_OTHERS the writer's session alone is open; an idle session closes with its transfers. -/
def Obligations.ClaimsAndSessions : Prop :=
  (
  (∀ (r : Requester) (v : Bytes) (s : State) (sn : Session), s.session? r.sid = some sn → WriteMay s r 0x1100 4 v [] →
    s.claimConds sn.role v = [] → ∃ u, exec (.claimWrite r v) s = .next u ∧ u.kop.probe = some ⟨v, r, false⟩ ∧
    u.kop.claimed = s.kop.claimed ∧ u = { s with kop := u.kop, sent := u.sent, cnt := u.cnt }) ∧
  (∀ (s : State) (p : Probe), s.kop.probe = some p → ∃ u : State, exec (.claimProbeEnd false) s = .next u.wake ∧
    u.kop.claimed = true ∧ u.kop.owner = p.r.src ∧ u.kop.record = p.record ∧ u.kop.probe = none ∧
    ∀ x ∈ u.kop.sessions, x.role = 3 ∨ x.src = p.r.src ∨ x.sid = 0) ∧
  (∀ (s : State) (p : Probe), s.kop.probe = some p → ∃ u : State, exec (.claimProbeEnd true) s = .next u.wake ∧
    u.kop.claimed = s.kop.claimed ∧ u.kop.owner = s.kop.owner ∧ u.kop.record = s.kop.record ∧ u.kop.probe = none) ∧
  (∀ (r : Requester) (s : State), WriteMay s r 0x1100 7 [0x01] [] → (s.kop.claimed = true → s.anyQpInUse = false) → ∃ u,
    exec (.releaseClaim r [0x01]) s = .next u ∧ u.kop.claimed = false ∧ u.kop.owner = 0 ∧ u.kop.record = [] ∧ Replied u r .ok ∧
    u = { s with cnt := u.cnt, sent := u.sent, kop := u.kop })) ∧
  (
  (∀ (r : Requester) (s : State), WriteMay s r 0x1110 5 [0x01] [] → ∃ u, exec (.closeOthers r [0x01]) s = .next u ∧
    (∀ x ∈ u.kop.sessions, x.sid = r.sid) ∧ (∃ x ∈ u.kop.sessions, x.sid = r.sid) ∧ Replied u r .ok) ∧
  (∀ (sid : W32) (s : State), (∃ x ∈ s.kop.sessions, x.sid = sid) → ∃ u, exec (.sessionIdleExpiry sid) s = .next u ∧
    (∀ x ∈ u.kop.sessions, x.sid ≠ sid) ∧ (∀ x ∈ s.kop.sessions, x.sid ≠ sid → ∃ y ∈ u.kop.sessions, y.sid = x.sid) ∧
    (∀ x ∈ u.kop.transfers, x.sid ≠ sid)))

/-- The counter-clear writes, listed with the object's index for a die, its sub-index, and its runs of counters: 0x01 sets the object's
counters to zero, every other counter keeps its value but for the frames sent on the port of the reply, and the write is answered OK. A
write of an object with no behaviour of its own (R352, R354): an RW object holds the value when the write is answered; an RWP object's
value goes to the ledger first, and nothing else changes. -/
def Obligations.ObjectWrites : Prop :=
  (
  ∀ e ∈ ([(.arrayCountersClear, fun d => 0x3005 + 16 * d, 0xA, [(4, 9)]), (.formatCountersClear, fun d => 0x3006 + 16 * d, 6, [(1, 5)]),
       (.veCountersClear, fun d => 0x3007 + 16 * d, 8, [(1, 7)]), (.selCountersClear, fun d => 0x3008 + 16 * d, 9, [(1, 8)]),
       (.memCountersClear, fun d => 0x3009 + 16 * d, 0xE, [(1, 0xC)]), (fun _ => .searchCountersClear, fun _ => 0x2500, 0xD, [(2, 0xC)]),
       (.tableCountersClear, fun d => 0x300A + 16 * d, 8, [(1, 7)]), (fun _ => .textCountersClear, fun _ => 0x2600, 8, [(2, 7)]),
       (.textdieCountersClear, fun d => 0x300B + 16 * d, 7, [(1, 5)]),
       (fun _ => .genCountersClear, fun _ => 0x2700, 0x11, [(4, 0xA), (0xC, 0x10)]),
       (fun _ => .schedCountersClear, fun _ => 0x2203, 0xB, [(1, 3), (5, 0xA)]), (fun _ => .ringCountersClear, fun _ => 0x2300, 0x17, [(0x11, 0x16)]),
       (fun _ => .portCountersClear .a, fun _ => 0x2401, 0x11, [(4, 0x10)]), (fun _ => .portCountersClear .b, fun _ => 0x2402, 0x11, [(4, 0x10)]),
       (fun _ => .kopCountersClear, fun _ => 0x1110, 0xD, [(6, 0xC)]), (.dieCountersClear, fun d => 0x3000 + 16 * d, 9, [(8, 8)]),
       (.linkCountersClear, fun d => 0x3001 + 16 * d, 5, [(3, 4)]), (fun _ => .tenancyCountersClear, fun _ => 0x2320, 0xC, [(9, 0xB)]),
       (.integrityCountersClear, fun d => 0x3003 + 16 * d, 0x10, [(1, 0xB), (0xE, 0xF)]),
       (.thermalCountersClear, fun d => 0x300C + 16 * d, 6, [(4, 5)]), (.retireCountersClear, fun d => 0x3004 + 16 * d, 7, [(5, 6)]),
       (.clockCountersClear, fun d => 0x3002 + 16 * d, 6, [(1, 5)]), (fun _ => .fwCountersClear, fun _ => 0x2800, 9, [(7, 8)])] :
    List ((DieNo → Requester → Bytes → Instr) × (Nat → Nat) × Nat × List (Nat × Nat))), ∀ (d : DieNo) (r : Requester) (s : State), WriteMay s r (e.2.1 d) e.2.2.1 [0x01] [] → ∃ u,
    exec (e.1 d r [0x01]) s = .next u ∧
    (∀ k, k ≠ okey (portIndex r.port) 5 → u.count k =
      if e.2.2.2.any (fun (lo, hi) => decide (okey (e.2.1 d) lo ≤ k) && decide (k ≤ okey (e.2.1 d) hi)) then 0 else s.count k) ∧
    Replied u r .ok ∧ u = { s with cnt := u.cnt, sent := u.sent, kop := u.kop }) ∧
  (
  ∀ (r : Requester) (i : W16) (sub ty : Byte) (v : Bytes) (s : State) (o : ObjRow), objRow i.toNat sub.toNat = some o →
    ty.toNat = o.typ → clearsOf i.toNat sub.toNat = none → s.writeHost r i.toNat sub.toNat v = none →
    s.writeModule r i.toNat sub.toNat v = none → okey i.toNat sub.toNat ∉ [okey 0x1110 3, okey 0x2300 5, okey 0x2300 9] →
    s.plainBad (okey i.toNat sub.toNat) v = false → WriteMay s r i.toNat sub.toNat v [] →
    (o.acc = .rwp → exec (.objectWrite r i sub ty v) s = .next (s.persist r (okey i.toNat sub.toNat) v)) ∧
    (o.acc = .rw → ∃ u, exec (.objectWrite r i sub ty v) s = .next u ∧
      KMap.find u.objs (okey i.toNat sub.toNat) = some v ∧ (∀ k, k ≠ okey i.toNat sub.toNat → KMap.find u.objs k = KMap.find s.objs k) ∧
      Replied u r .ok ∧ u = { s with objs := u.objs, cnt := u.cnt, sent := u.sent, kop := u.kop }))

/-! ### KOP messages (12, 13) -/

namespace Sys2Proof.Claims

/-- A KOP message reaches its meaning (R346, R356, R357, R361): its port is up, it is well formed, its session is open and its tag verifies,
its sequence number is fresh in the window, its sender is not shut out by the owner rule, and no reserved field is set. `s1` is the state with
the datagram counted and the number accepted, `sn` the session as it then is. -/
def KopRuns (s : State) (m : KMsg) (type : Byte) (s1 : State) (sn : Session) : Prop :=
  ∃ s0 sn0, s.intake m = .taken s0 ∧ s0.session? m.sid = some sn0 ∧ tagOk m type sn0.key = true ∧ m.seq ≠ 0 ∧
    ({ sn0 with last := s0.now } : Session).check m.seq = .run sn ∧
    s1 = (s0.modSession m.sid (fun x => { x with last := s0.now })).modSession m.sid (fun _ => sn) ∧
    s1.notOwner sn.role m.src = false ∧ kopReserved m = false

/-- The newest thing sent is a reply with a status and a payload. -/
def RepliedWith (u : State) (m : KMsg) (type : Byte) (st : Status) (payload : Bytes) : Prop :=
  ∃ (k : KReply) (rest : List Sent), u.sent = .kop k :: rest ∧ k.type = type ∧ k.status = st ∧ k.sid = m.sid ∧ k.seq = m.seq ∧
    k.payload = payload

end Sys2Proof.Claims

/-- The window of sequence numbers (R361): a number once accepted is not run again while the window holds it, and the highest accepted never
falls. -/
def Obligations.SequenceWindow : Prop :=
  ∀ (x y : Session) (q : W32), x.check q = .run y →
    (∀ z, y.check q ≠ .run z) ∧ x.high.toNat ≤ y.high.toNat ∧ q ∈ y.accepted ∧ q ∈ y.executing ∧
    (∀ n ∈ x.accepted, y.high.toNat ≤ n.toNat + 63 → n ∈ y.accepted)

/-- READ and WRITE messages, and a pop of events (R341, R364, R365): a READ that may be served is answered OK with the object's value; a WRITE
is the write of the object it names; a pop takes at most 32 of the oldest items of the selected queue. The other messages of a session,
and OPEN (R345, R358, R359, R362): CLOSE closes the session; NOTIFY is answered BAD_DESCRIPTOR; CLAIM starts the probe; an OPEN whose tag
verifies, from no session of the same source and nonce, opens a session under the role's key and the next session number. -/
def Obligations.KopMessages : Prop :=
  (
  (∀ (m : KMsg) (s s1 : State) (sn : Session) (o : ObjRow), KopRuns s m 1 s1 sn → m.payload.length = 4 → field m.payload 3 1 = 0 →
    (let i := field m.payload 0 2
     let k := field m.payload 2 1
     s1.session? m.sid = some sn → s1.objBusy (okey i k) = false → firstStatus (s1.readConds sn i k) = .ok → ¬ (i = 0x2300 ∧ k = 0xD) →
     objRow i k = some o → (s1.objValue sn i k o).length ≤ 1152 → ∃ u, exec (.kopRead m) s = .next u ∧
     RepliedWith u m 1 .ok (valuePrefix i k (objType i k) (s1.objValue sn i k o).length ++ s1.objValue sn i k o))) ∧
  (∀ (m : KMsg) (s s1 : State) (sn : Session), KopRuns s m 2 s1 sn → 8 ≤ m.payload.length →
    field m.payload 4 2 = m.payload.length - 8 → zeros m.payload 6 2 = true → exec (.kopWrite m) s = .next
      (s1.writeObject (requesterOf m) (field m.payload 0 2) (field m.payload 2 1) (field m.payload 3 1) (m.payload.drop 8))) ∧
  (∀ (r : Requester) (s : State) (sn : Session) (q : QueueId) (x : Queue), s.session? r.sid = some sn →
    s.objBusy (okey 0x2300 0xD) = false → firstStatus (s.readConds sn 0x2300 0xD) = .ok → s.selected sn = some q →
    s.queue? q = some x → x.dropping = false → (s.popEvents sn).1.length ≤ 1152 → ∃ u y, exec (.eventPop r) s = .next u ∧
    u.queue? q = some y ∧ y.items = x.items.drop (min x.items.length 32) ∧ Replied u r .ok)) ∧
  (
  (∀ (m : KMsg) (s s1 : State) (sn : Session), KopRuns s m 9 s1 sn → m.payload = [] → ∃ u, exec (.kopClose m) s = .next u ∧
    (∀ x ∈ u.kop.sessions, x.sid ≠ m.sid) ∧ ∀ x ∈ u.kop.transfers, x.sid ≠ m.sid) ∧
  (∀ (m : KMsg) (s s1 : State) (sn : Session), KopRuns s m 5 s1 sn → s1.session? m.sid = some sn → ∃ u,
    exec (.kopNotifyIn m) s = .next u ∧ RepliedWith u m 5 .badDescriptor []) ∧
  (∀ (m : KMsg) (s s1 : State) (sn : Session), KopRuns s m 7 s1 sn → s1.session? m.sid = some sn → s1.objBusy (okey 0x1100 4) = false →
    s1.claimConds sn.role m.payload = [] → ∃ u, exec (.claim m) s = .next u ∧
    u.kop.probe = some ⟨m.payload, requesterOf m, true⟩ ∧ u.kop.claimed = s.kop.claimed) ∧
  (∀ (m : KMsg) (nonce key : Bytes) (s s1 : State), s.intake m = .taken s1 → readyBit s1 1 = true → 1 ≤ field m.payload 0 1 →
    field m.payload 0 1 ≤ 4 → s1.roleKey (field m.payload 0 1) = some key → tagOk m 8 key = true → openShape m = true →
    (∀ x ∈ s.kop.sessions, ¬ (x.src = m.src ∧ x.nonce = slice m.payload 4 16)) → s1.openDenied m (field m.payload 0 1) = false →
    s.kop.sessions.length < 16 → ∃ u sn, exec (.kopOpen m nonce) s = .next u ∧ u.kop.sessions = s.kop.sessions ++ [sn] ∧
    sn.sid = s.kop.nextSid ∧ sn.role = field m.payload 0 1 ∧
    sn.key = hmac key (ascii "KOP1" ++ slice m.payload 4 16 ++ nonce ++ leBytes 4 s.kop.nextSid.toNat) ∧
    u.kop.nextSid = s.kop.nextSid + 1 ∧ u = { s with kop := u.kop, sent := u.sent, cnt := u.cnt }))

/-- Finding the module (R342, R343, R357): an IDENTIFY for it waits for its delay; then each ready port answers it; a port whose address no
other node holds becomes ready under it; a malformed datagram on a port that is up is counted and does nothing else. -/
def Obligations.IdentifyAndAddresses : Prop :=
  (∀ (m : KMsg) (s s1 : State), s.intake m = .taken s1 → kopReserved m = false → m.sid = 0 → zeros m.tag 0 32 = true →
    m.payload.length = 4 → zeros m.payload 2 2 = true → (field m.payload 0 2 = 0 ∨ field m.payload 0 2 = s1.unitShown) → ∃ u,
    exec (.identify m) s = .next u ∧ u.kop.identifies = s.kop.identifies ++ [m] ∧ u = { s with kop := u.kop, cnt := u.cnt }) ∧
  (∀ (n : Nat) (s : State) (m : KMsg), s.kop.identifies[n]? = some m → ∃ u, exec (.identifyReply n) s = .next u ∧
    u.kop.identifies = s.kop.identifies.eraseIdx n ∧
    (∀ p, s.kopUp p = true → .identifyReply p m.src m.seq (s.identity p) ∈ u.sent) ∧
    u = { s with kop := u.kop, sent := u.sent, cnt := u.cnt }) ∧
  (∀ (p : Port) (iid : W64) (s : State), (s.port p).ready = false → (s.port p).rate ≠ 0 → (s.port p).dadTries ≤ 3 →
    s.boot.mode ≠ .none_ → ∃ u, exec (.dadComplete p false iid) s = .next u ∧ (u.port p).ready = true ∧
    (u.port p).iid = some (s.dadId p iid) ∧ u.mem = s.mem ∧ u.jobs = s.jobs) ∧
  (∀ (p : Port) (dport : W16) (d : Bytes) (s : State), s.kopUp p = true → dport.toNat = s.kop.portActive →
    (d.length < 48 ∨ 1232 < d.length) → ∃ u, exec (.kopMalformed p dport d) s = .next u ∧
    u.count (okey 0x1110 7) = (s.count (okey 0x1110 7) + 1) % 2 ^ 64 ∧ u.count (okey 0x1110 6) = (s.count (okey 0x1110 6) + 1) % 2 ^ 64 ∧
    u = { s with cnt := u.cnt })

/-- Block reads (R367, R369, R370): an INITIATE that may be served takes a snapshot; a SEGMENT answers its part of the snapshot; an END and an
ABORT close the transfer. Block writes (R365, R367, R368, R370): an INITIATE that may be served opens the transfer; a SEGMENT is held; an
END of a complete value with the right CRC is the write of the object; an ABORT, and 10 s without a message, close the transfer. -/
def Obligations.BlockTransfers : Prop :=
  (
  (∀ (m : KMsg) (s s1 : State) (sn : Session) (o : ObjRow), KopRuns s m 3 s1 sn → bkShape m.payload = true → bkOp m.payload = 1 →
    m.payload.length = 16 → bkSize m.payload = 0 → bkCrc m.payload = 0 → s1.session? m.sid = some sn →
    s1.objBusy (bkKey m.payload) = false → firstStatus (s1.readConds sn (bkIdx m.payload) (bkSub m.payload)) = .ok →
    objRow (bkIdx m.payload) (bkSub m.payload) = some o → o.typ = 8 → bkKey m.payload ≠ okey 0x2300 0xD →
    (∀ t ∈ s1.kop.transfers, t.sid ≠ m.sid) → s1.kop.transfers.length < 4 → ∃ u, exec (.rbInitiate m) s = .next u ∧
    (let v := s1.objValue sn (bkIdx m.payload) (bkSub m.payload) o
     u.kop.transfers = s1.kop.transfers ++ [⟨m.sid, false, bkKey m.payload, v.length, [], v, s1.now⟩] ∧
     RepliedWith u m 3 .ok (blockHeader 1 (bkIdx m.payload) (bkSub m.payload) v.length (crc32c v).toNat))) ∧
  (∀ (m : KMsg) (s s1 : State) (sn : Session) (x : BlockTransfer), KopRuns s m 3 s1 sn → s1.session? m.sid = some sn →
    s1.transfer? (requesterOf m) false m.payload = some x → bkShape m.payload = true → bkOp m.payload = 2 → m.payload.length = 16 →
    bkCrc m.payload = 0 → bkSize m.payload % 1024 = 0 → bkSize m.payload < x.total → ∃ u, exec (.rbSegment m) s = .next u ∧
    RepliedWith u m 3 .ok (blockHeader 2 (bkIdx m.payload) (bkSub m.payload) (bkSize m.payload) 0 ++
      slice x.snapshot (bkSize m.payload) (min 1024 (x.total - bkSize m.payload)))) ∧
  (∀ (m : KMsg) (s s1 : State) (sn : Session) (x : BlockTransfer), KopRuns s m 3 s1 sn → s1.session? m.sid = some sn →
    s1.transfer? (requesterOf m) false m.payload = some x → bkShape m.payload = true → bkOp m.payload = 3 → m.payload.length = 16 →
    bkCrc m.payload = 0 → ∃ u, exec (.rbEnd m) s = .next u ∧ u.kop.transfers = s1.kop.transfers.filter (fun t => t.sid ≠ m.sid) ∧
    RepliedWith u m 3 .ok (blockHeader 3 (bkIdx m.payload) (bkSub m.payload) 0 0)) ∧
  (∀ (m : KMsg) (s s1 : State) (sn : Session) (x : BlockTransfer), KopRuns s m 3 s1 sn → s1.session? m.sid = some sn →
    s1.transfer? (requesterOf m) false m.payload = some x → bkShape m.payload = true → bkOp m.payload = 4 → m.payload.length = 16 →
    bkCrc m.payload = 0 → bkSize m.payload = 0 → ∃ u, exec (.rbAbort m) s = .next u ∧
    (∀ t ∈ u.kop.transfers, t.sid ≠ m.sid) ∧ RepliedWith u m 3 .ok (blockHeader 4 (bkIdx m.payload) (bkSub m.payload) 0 0))) ∧
  (
  (∀ (m : KMsg) (s s1 : State) (sn : Session), KopRuns s m 4 s1 sn → s1.session? m.sid = some sn → bkShape m.payload = true →
    bkOp m.payload = 1 → m.payload.length = 16 → bkCrc m.payload = 0 →
    firstStatus (s1.initConds sn (bkIdx m.payload) (bkSub m.payload) (bkSize m.payload)) = .ok → ∃ u, exec (.wbInitiate m) s = .next u ∧
    u.kop.transfers = s1.kop.transfers ++ [⟨m.sid, true, bkKey m.payload, bkSize m.payload, [], [], s1.now⟩] ∧
    RepliedWith u m 4 .ok (blockHeader 1 (bkIdx m.payload) (bkSub m.payload) (bkSize m.payload) 0)) ∧
  (∀ (m : KMsg) (ok : Bool) (s s1 : State) (sn : Session) (x : BlockTransfer), KopRuns s m 4 s1 sn → s1.session? m.sid = some sn →
    s1.transfer? (requesterOf m) true m.payload = some x → bkShape m.payload = true → bkOp m.payload = 2 → bkCrc m.payload = 0 →
    bkSize m.payload % 1024 = 0 → bkSize m.payload < x.total → m.payload.length - 16 = min 1024 (x.total - bkSize m.payload) →
    x.key ≠ stageKey → x.sid = m.sid → ∃ u y, exec (.wbSegment m ok) s = .next u ∧ y ∈ u.kop.transfers ∧ y.sid = m.sid ∧
    KMap.find y.segs (bkSize m.payload) = some (m.payload.drop 16) ∧
    RepliedWith u m 4 .ok (blockHeader 2 (bkIdx m.payload) (bkSub m.payload) (bkSize m.payload) 0)) ∧
  (∀ (m : KMsg) (s s1 : State) (sn : Session) (x : BlockTransfer), KopRuns s m 4 s1 sn →
    s1.transfer? (requesterOf m) true m.payload = some x → bkShape m.payload = true → bkOp m.payload = 3 → m.payload.length = 16 →
    bkSize m.payload = x.total → x.missing = none → x.key ≠ stageKey → (crc32c (x.segs.flatMap (·.2))).toNat = bkCrc m.payload →
    exec (.wbEnd m) s = .next
      (let t := (s1.setTransfer { x with last := s1.now }).dropTransfer x.sid
       ({ t with kop := { t.kop with blockEnds := t.kop.blockEnds ++ [(requesterOf m, x.key)] } } : State).writeObject (requesterOf m)
         (bkIdx m.payload) (bkSub m.payload) 8 (x.segs.flatMap (·.2)))) ∧
  (∀ (m : KMsg) (s s1 : State) (sn : Session) (x : BlockTransfer), KopRuns s m 4 s1 sn → s1.session? m.sid = some sn →
    s1.transfer? (requesterOf m) true m.payload = some x → bkShape m.payload = true → bkOp m.payload = 4 → m.payload.length = 16 →
    bkCrc m.payload = 0 → bkSize m.payload = 0 → ∃ u, exec (.wbAbort m) s = .next u ∧
    (∀ t ∈ u.kop.transfers, t.sid ≠ m.sid) ∧ RepliedWith u m 4 .ok (blockHeader 4 (bkIdx m.payload) (bkSub m.payload) 0 0)) ∧
  (∀ (sid : W32) (s : State), (∃ t ∈ s.kop.transfers, t.sid = sid) → ∃ u, exec (.blockTimeout sid) s = .next u ∧
    (∀ t ∈ u.kop.transfers, t.sid ≠ sid) ∧ u.count (okey 0x1110 0xC) = (s.count (okey 0x1110 0xC) + 1) % 2 ^ 64))

/-! ### Vector search (07) -/

/-- Searches (R176, R186 to R190, R195): a SEARCH stage whose block is in order, and whose query bytes have come where the host gives them,
pins the collection's current version and epoch and joins its batch; the batch that closes leaves the list, and each of its queries has a
result whose header gives the epoch it ran under; the result becomes the stage's output and is counted. -/
def Obligations.SearchCommands : Prop :=
  (∀ (req : W32) (bs : Bytes) (s : State) (x : Request) (c : Coll), s.atStage req 2 = some x → x.search = none →
    (let b := rdBlock x.desc 3 256
     s.coll? (sbColl b) = some c → searchBlockBad b = false → (sbHost b = false → x.qvec.length = c.dim) →
     (sbMinEpoch b = 0 ∨ sbMinEpoch b ≤ c.epoch) → ∃ u, exec (.searchAdmit req (.data bs)) s = .next u ∧
     u.req? req = some { x with search := some ⟨sbColl b, c.epoch, c.cur.num,
       if sbHost b then wordsOfBytes bs c.dim else x.qvec, false, none⟩ } ∧
     u.coll? (sbColl b) = some { c with cur := { c.cur with pins := c.cur.pins ++ [req] }, batch := c.batch ++ [req] } ∧
     u = { s with reqs := u.reqs, colls := u.colls })) ∧
  (∀ (coll : Fin 256) (s : State) (c : Coll), s.coll? coll = some c → s.batchOf c ≠ [] → ∃ u, exec (.batchClose coll) s = .next u ∧
    u.coll? coll = some { c with batch := c.batch.filter (fun r => !((s.batchOf c).contains r)) } ∧
    (∀ r ∈ s.batchOf c, ∀ x se, s.req? r = some x → x.search = some se → ∃ y se' bs, u.req? r = some y ∧ y.search = some se' ∧
      se'.result = some bs ∧ slice bs 0 6 = leBytes 6 se.epoch) ∧
    u = { s with reqs := u.reqs, colls := u.colls, free := u.free, cnt := u.cnt }) ∧
  (∀ (req : W32) (s : State) (x : Request) (bs : Bytes), s.atStage req 2 = some x → x.search.bind (·.result) = some bs →
    x.stageOutput ≠ bs → ∃ u y, exec (.searchResult req) s = .next u ∧ u.req? req = some y ∧ y.stageOutput = bs ∧
    (field bs 6 1 = 2 → .poisoned ∈ y.conds) ∧ (field bs 6 1 = 3 → .degraded ∈ y.conds) ∧
    (field bs 6 1 ≠ 2 → field bs 6 1 ≠ 3 → y = { x with stageOutput := bs }) ∧
    u.count (okey 0x2500 2) = (s.count (okey 0x2500 2) + 1) % 2 ^ 64 ∧ u = { s with reqs := u.reqs, cnt := u.cnt })

/-- Updates and folds of a collection (R191 to R194, R197, R198): a valid update takes the next epoch, its entries become side slots of that
epoch, and its entry completes OK; a fold's switch publishes the next version under the next epoch and keeps the old one, or is held while
an older one is pinned; an older version that no query pins goes with the side slots the fold took in. -/
def Obligations.UpdatesAndFolds : Prop :=
  (∀ (coll : Fin 256) (src : DieNo) (bs : Bytes) (s : State) (r : W32) (x : Request) (c : Coll), s.updateOf coll = some (r, x) →
    s.req? r = some x → s.coll? coll = some c → updateBlockBad x.block = false →
    (let n := ubCount x.block
     let len := 32 + 4 * c.dim
     s.windowConds (s.reqContext x) (field x.block 8 2) (field x.block 16 8) (n * len) false = [] →
     (∀ i < n, updateEntryBad c.dim (slice bs (i * len) len) = false) → c.side.length + n ≤ c.sideCap → c.epoch + 1 ≤ 0xFFFFFFFFFFFF →
     ∃ u c' y, exec (.updateCommit coll src (.data bs)) s = .next u ∧ u.coll? coll = some c' ∧ c'.epoch = c.epoch + 1 ∧
     c'.side.length = c.side.length + n ∧ c'.side.take c.side.length = c.side ∧
     (∀ sd ∈ c'.side.drop c.side.length, sd.epoch = c.epoch + 1) ∧ u.req? r = some y ∧ y.state = .writing ∧ .ok ∈ y.conds ∧
     y.resultBytes = leBytes 6 (c.epoch + 1) ++ [0, 0] ++ leBytes 4 n ++ [0, 0, 0, 0] ∧
     u.count (okey 0x2500 0x0B) = (s.count (okey 0x2500 0x0B) + 1) % 2 ^ 64 ∧ u.mem = s.mem ∧ u.jobs = s.jobs)) ∧
  (∀ (coll : Fin 256) (f : FoldRequest) (s : State) (c : Coll) (jb : Job), s.coll? coll = some c → s.job? f.job = some jb →
    jb.state ≠ .ended → c.held = none → c.old.any (fun v => !v.pins.isEmpty) = true →
    exec (.foldSwitch coll f) s = .next { s with colls := s.colls.put coll { c with held := some f } }) ∧
  (∀ (coll : Fin 256) (f : FoldRequest) (s : State) (c c' : Coll) (jb : Job) (cmd : Instr), s.coll? coll = some c →
    ((cmd = .foldSwitch coll f ∧ s.job? f.job = some jb ∧ jb.state ≠ .ended ∧ c.held = none) ∨
     (cmd = .foldSwitchRelease coll ∧ c.held = some f)) → c.old.any (fun v => !v.pins.isEmpty) = false →
    (let s' := s.releaseVersion coll c
     s'.coll? coll = some c' → s'.foldOk (s'.foldVersion c' f) = true → c'.epoch + 1 ≤ 0xFFFFFFFFFFFF → f.foldEpoch ≤ c'.epoch → ∃ u,
     exec cmd s = .next u ∧
     u.coll? coll = some { c' with cur := s'.foldVersion c' f, old := some c'.cur, held := none, epoch := c'.epoch + 1 } ∧ u.count (okey 0x2500 0x0C) = (s.count (okey 0x2500 0x0C) + 1) % 2 ^ 64 ∧
     u = { s' with colls := u.colls, cnt := u.cnt })) ∧
  (∀ (coll : Fin 256) (s : State) (c : Coll) (v : CollVersion), s.coll? coll = some c → c.old = some v → v.pins = [] → ∃ u c',
    exec (.versionRelease coll) s = .next u ∧ u.coll? coll = some c' ∧ c'.old = none ∧ c'.epoch = c.epoch ∧ c'.cur.num = c.cur.num ∧
    c'.side = c.side.filter (fun sd => decide (c.cur.foldEpoch < sd.epoch)) ∧ u = { s with colls := u.colls, pages := u.pages })

/-! ### Embedding tables (08) -/

/-- Lookups (R207 to R212): an EMBED stage's lookup with a block in order and indices in range pins the table's version; the lookup's end
stores the pooled vector, zeros where its index list was poisoned, releases the pin, and is counted on the home die. Serving modes,
staging, builds and switches of tables (R213 to R218): a mode write turns SERVICE on or off; a valid batch joins the table's log in order
and completes OK; a build empties the log into the next version; a switch publishes that version and keeps the old one, or is held while
an older one is pinned; an older version without pins goes. -/
def Obligations.TableCommands : Prop :=
  (
  (∀ (req : W32) (tr : Transfer) (s : State) (x : Request) (t : ETable) (xs : List Nat) (ws : List W32) (p : Bool),
    s.atStage req 1 = some x → rdHas x.desc 2 = true → x.lookup = none → x.sketch = [] →
    (let b := rdBlock x.desc 2 64
     s.table? (lbTable b) = some t → lookupBlockBad b = false → lookupInput b x.query s.free tr = .ok (xs, ws, p) →
     (p = true ∨ xs.all t.indexOk = true) → ∃ u, exec (.lookupAdmit req tr) s = .next u ∧
     u.req? req = some { x with lookup := some ⟨lbTable b, t.cur.num, !t.service, x.home, xs, ws, p⟩ } ∧
     u.table? (lbTable b) = some { t with cur := { t.cur with pins := t.cur.pins ++ [req] } } ∧
     u = { s with reqs := u.reqs, tables := u.tables, free := u.free })) ∧
  (∀ (req : W32) (s : State) (x : Request) (l : Lookup) (t : ETable), s.atStage req 1 = some x → x.lookup = some l →
    s.table? l.table = some t →
    (let b := rdBlock x.desc 2 64
     let es := List.zip l.indices l.weights
     let es := if lbPool b = 0 ∨ l.raw = true then es else es.foldl (mergeIndex t s.free) []
     ∃ u y, exec (.lookupDone req) s = .next u ∧ u.req? req = some y ∧ y.lookup = none ∧
     (l.poisonIdx = true → y.sketch = List.replicate t.dim 0 ∧ .poisoned ∈ y.conds) ∧
     (l.poisonIdx = false → y.sketch = outRound b (s.pooled t (t.version l.version) b s.free es).1 ∧
       ((s.pooled t (t.version l.version) b s.free es).2.1 = true → .poisoned ∈ y.conds)) ∧
     u.table? l.table = some { t with cur := t.cur.unpin req, old := t.old.map (·.unpin req) } ∧
     u = { s with reqs := u.reqs, tables := u.tables, free := u.free, cnt := u.cnt }))) ∧
  (
  (∀ (r : Requester) (v : Bytes) (s : State) (t : ETable), WriteMay s r 0x2520 2 v [] → bits (leNat v) 10 6 = 0 →
    s.table? (leNat v % 1024) = some t → (leNat v / 2 ^ 16 = 1 ∨ (leNat v / 2 ^ 16 = 2 ∧ t.cur.hotBuilt = true)) → ∃ u,
    exec (.tableModeWrite r v) s = .next u ∧
    u.table? (leNat v % 1024) = some { t with service := decide (leNat v / 2 ^ 16 = 2) } ∧
    Replied u r .ok ∧ u = { s with tables := u.tables, cnt := u.cnt, sent := u.sent, kop := u.kop }) ∧
  (∀ (table : Fin 1024) (bs : Bytes) (s : State) (r : W32) (x : Request) (t : ETable), s.stageOf table = some (r, x) →
    s.req? r = some x → s.table? table = some t → stageBlockBad x.block = false →
    (let n := tbCount x.block
     let sub := field x.block 4 1
     let len := 8 + 4 * t.dim
     ¬ (sub = 1 ∧ t.composed = false) →
     s.windowConds (s.reqContext x) (field x.block 20 2) (field x.block 24 8) (n * len) false = [] →
     (∀ i < n, zeros (slice bs (i * len) len) 4 4 = true ∧ field (slice bs (i * len) len) 0 4 < t.rows sub) →
     t.staging ≠ .none_ → t.log.length + n ≤ t.logCap → ∃ u t' y,
     exec (.stageBatch table (.data bs)) s = .next u ∧ u.table? table = some t' ∧
     t'.log = t.log ++ (List.range n).map (fun i => stageEntry x.block x.home t.arrivals t.dim i (slice bs (i * len) len)) ∧
     t' = { t with log := t'.log, arrivals := t.arrivals + 1 } ∧ u.req? r = some y ∧ y.state = .writing ∧ .ok ∈ y.conds ∧ u.mem = s.mem ∧ u.jobs = s.jobs)) ∧
  (∀ (table : Fin 1024) (b : BuildRequest) (s : State) (t : ETable), s.table? table = some t → t.staging = .open_ → t.built = none →
    t.held = none → ∃ u v, exec (.tableBuild table b) s = .next u ∧
    u.table? table = some { t with staging := .building, log := [], built := some v } ∧ v.num = t.cur.num + 1 ∧
    v.baseA = b.baseA.toNat ∧ v.baseB = b.baseB.toNat ∧ v.hotSel = !t.cur.hotSel ∧ v.hotA.length + v.hotB.length ≤ t.hotCap ∧
    v.pins = []) ∧
  (∀ (table : Fin 1024) (s : State) (t : ETable) (v : TabVersion) (cmd : Instr), s.table? table = some t →
    ((cmd = .tableSwitch table ∧ t.built = some v) ∨ (cmd = .tableSwitchRelease table ∧ t.held = some v)) →
    (t.old.any (fun o => !o.pins.isEmpty) = true → exec cmd s = .next (s.setTable table { t with built := none, held := some v })) ∧
    (t.old.any (fun o => !o.pins.isEmpty) = false → exec cmd s = .next ((s.releaseTable table t).setTable table
      { t with old := some t.cur, cur := v, built := none, held := none, staging := .open_ }))) ∧
  (∀ (table : Fin 1024) (s : State) (t : ETable) (v : TabVersion), s.table? table = some t → t.old = some v → v.pins = [] → ∃ u,
    exec (.tableVersionRelease table) s = .next u ∧ u.table? table = some { t with old := none } ∧
    u = { s with tables := u.tables, pages := u.pages }))

/-! ### The text engine (09) -/

/-- The text engine's caches, queue and tokens (R228, R230 to R234, R247): a miss whose read has come puts its granule first in its set of at
most 16; an input queue takes arrivals up to 64; a request's lanes become its segments' tokens, and its prompt and query are those of the
segments in order, and it waits for its next stage. The order in which the cache is touched is the model's choice (log 59). Directives and
spellings (R236, R239 to R244): before the first token the directive bans by the prompt alone; an emitted id's bytes are taken into the
output, with the stop strings watched; the directive after it bans by prompt and emitted tokens, or none once a stop string is complete,
and goes on with a forced tail. A stop string ends an output (R242, R243): what a spelling adds never goes beyond the limit, and once an
entered byte completes a stop string, the output ends there, with the string or without it, and nothing is held back. -/
def Obligations.TextCommands : Prop :=
  (
  (∀ (d : DieNo) (a : Fa) (s : State), a.toNat / 256 ∈ (s.die d).vcacheMiss → s.outstanding false (a.toNat / 256 * 256) 256 = false →
    ∃ u, exec (.vcacheFill d a) s = .next u ∧ a.toNat / 256 ∉ (u.die d).vcacheMiss ∧
    (KMap.getOr [] (u.die d).vcache (vset (a.toNat / 256))).head? = some (a.toNat / 256) ∧
    (KMap.getOr [] (u.die d).vcache (vset (a.toNat / 256))).length ≤ 16 ∧ u = { s with dies := u.dies }) ∧
  (∀ (d : DieNo) (qs : List Nat) (s : State), (s.die d).textQ.length ≤ 64 → ∃ u, exec (.textInput d qs) s = .next u ∧
    (u.die d).textQ.length ≤ 64 ∧ (s.die d).textQ <+: (u.die d).textQ ∧ u = { s with dies := u.dies }) ∧
  (∀ (d : DieNo) (q : Fin 148) (s : State), (s.die d).textQ.length < 64 → ∃ u, exec (.textInput d [q]) s = .next u ∧
    (u.die d).textQ = (s.die d).textQ ++ [q.val] ∧ (u.die d).textArb = (q.val + 1) % 148) ∧
  (∀ (req : W32) (lanes : List Transfer) (ls : List Bytes) (s : State) (x : Request) (v : Vocab), s.req? req = some x →
    x.state = .tokenising → ((rdSegments x.desc).filter (fun g => g.kind == 1)).length ≤ lanes.length → laneBytes lanes = .ok ls →
    x.vocabPin.bind s.vocab? = some v →
    (∀ g ∈ rdSegments x.desc, g.kind = 3 → (KMap.find s.templates g.a).isSome = true) →
    (let toks := (shareLanes (rdSegments x.desc) ls).map (s.segTokens (v.copy (v.worker x.home)))
     (∀ g ∈ granuleSet (toks.flatMap (·.2)), s.poisonedRange (g * 256) 256 = false) → ∃ u, exec (.tokenise req lanes) s = .next u ∧
     u.req? req = some (s.toStage (x.tokenised (toks.map (·.1)) (rdSegments x.desc))) ∧
     u = { s with reqs := u.reqs, dies := u.dies, cnt := u.cnt, qps := u.qps }))) ∧
  (
  (∀ (req : W32) (s : State) (x : Request) (t : TextRec), s.req? req = some x → x.text = some t → t.directive = none → t.emitted = [] →
    x.promptKnown = true → ∃ u, exec (.directiveStep0 req) s = .next u ∧
    u.req? req = some { x with text := some { t with directive := some ⟨0, none, false, banSet t.block x.prompt⟩ } } ∧
    u = { s with reqs := u.reqs, cnt := u.cnt }) ∧
  (∀ (req id : W32) (s : State) (x : Request) (t : TextRec) (d vb : Nat), s.atStage req 5 = some x → x.text = some t →
    s.textCopy x = some (d, vb) → t.emitted.getLast? = some id.toNat → t.count + 1 = t.emitted.length →
    (id.toNat < s.vhdr vb 4 → s.isUnused vb id.toNat = false → s.poisonedRange (s.idAt vb id.toNat) 8 = false ∧
      s.poisonedRange (s.spellAt vb id.toNat).1 (s.spellAt vb id.toNat).2 = false) → ∃ u,
    exec (.detokenise req id) s = .next u ∧
    u.req? req = some { x with text := some (t.spell (textLimit x x.textOff)
      (if s.vhdr vb 4 ≤ id.toNat ∨ s.isUnused vb id.toNat = true ∨ s.isControl vb id.toNat = true then [] else s.spelling vb id.toNat)) } ∧
    (u.die d).textQ = (s.die d).textQ.drop 1 ∧ u = { s with reqs := u.reqs, dies := u.dies, cnt := u.cnt }) ∧
  (∀ (req : W32) (s : State) (x : Request) (t : TextRec) (d vb : Nat), s.atStage req 5 = some x → x.text = some t →
    s.textCopy x = some (d, vb) → t.directive = none → t.emitted ≠ [] → t.count = t.emitted.length → ∃ u y t' dir,
    exec (.directive req) s = .next u ∧ u.req? req = some y ∧ y.text = some t' ∧ t'.directive = some dir ∧
    dir.step = t.emitted.length ∧ dir.stop = t.stop.isSome ∧
    dir.bans = (if t.stop.isSome then [] else banSet t.block (x.prompt ++ t.emitted)) ∧
    (t.stop = none → t.forcing = none → dir.force = (triggered t.block t.emitted).bind (fun e => (forceTail t.block e)[0]?)) ∧
    (t.stop.isSome = true → dir.force = none) ∧ t'.out ++ t'.held = t.out ++ t.held ∧ u = { s with reqs := u.reqs, cnt := u.cnt })) ∧
  (
  ∀ (t : TextRec) (limit : Nat) (bs : Bytes), (t.out ++ t.held).length ≤ limit →
    ((t.spell limit bs).out ++ (t.spell limit bs).held).length ≤ limit ∧ (t.spell limit bs).count = t.count + 1 ∧
    (t.stop = none → ∀ j off, (t.spell limit bs).stop = some (j, off) → (t.spell limit bs).held = [] ∧ j < xbStops t.block ∧
      (bit (field t.block 1 1) 0 = true → xbStop t.block j <:+ (t.spell limit bs).out) ∧
      (bit (field t.block 1 1) 0 = false → (t.spell limit bs).out.length = off)))

/-! ### Requests: stages, generation, output (10) -/

/-- A request's way through its stages (R251 to R254, R267, R268): a descriptor that meets every check is accepted: its vocabulary is pinned
and it waits for its tokens or its first stage; the stage it waits for starts when the job that serves it is RUNNING, or, where that job
is no Q job, has not ended (the model's choice, log 160); a stage that ends OK or DEGRADED with its output hands over to the next, at the
job that serves that, or ends the request OK. An EMBED stage's output is the dense vector with the sketch vector behind it; a RERANK
stage's the list of the candidates that have a passage, by score; a PACK stage's the length of the prompt with the passages that fit its
budget. -/
def Obligations.RequestStages : Prop :=
  (∀ (req : W32) (bs : Bytes) (s : State) (x : Request), s.req? req = some x → x.kind = 1 → x.state = .fetching →
    (let d := slice bs 0 x.length
     (s.dropReads req).requestConds { x with state := .checking } d = [] → ∃ u y, exec (.descriptorRead req (.data bs)) s = .next u ∧
     u.req? req = some y ∧ y.desc = d ∧ y.vocabPin = some (rdVocab d) ∧ y.state = (if rdHas d 0 then .tokenising else .stageWait) ∧
     (rdHas d 0 = true → y = { x with desc := d, vocabPin := y.vocabPin, state := .tokenising }) ∧
     (∀ k, rdHas d 0 = false → nextStage { x with desc := d } = some k → y =
       { x with desc := d, vocabPin := y.vocabPin, state := .stageWait, stage := k, job := (s.stageJob d k).getD 0xFFFF }) ∧
     (∀ v, s.vocab? (rdVocab d) = some v → u.vocab? (rdVocab d) = some { v with pins := v.pins ++ [req] }) ∧
     u = { s with reqs := u.reqs, vocabs := u.vocabs, qps := u.qps, sent := u.sent, cnt := u.cnt })) ∧
  (∀ (req : W32) (s : State) (x : Request) (k j : Nat) (jb : Job), s.req? req = some x → x.kind = 1 → x.state = .stageWait →
    x.stage = k → s.stageJob x.desc k = some j → s.job? j = some jb → (jb.state = .running ∨ jb.cls ≠ 1 ∧ jb.state ≠ .ended) →
    exec (.stageAdmit req) s = .next (s.setReq req { x with state := .stage, job := j, stageOutput := [] })) ∧
  (∀ (req : W32) (b : Byte) (st : Status) (s : State) (x : Request), s.req? req = some x → Status.ofCode b.toNat = some st →
    (st = .ok ∨ st = .degraded) → x.kind = 1 → x.state = .stage → x.stage ≠ 5 → x.stageOutput ≠ [] → (∀ c ∈ x.conds, c = .degraded) →
    ∃ u y, exec (.stageHandoff req b) s = .next u ∧ u.req? req = some y ∧ (st = .degraded → .degraded ∈ y.conds) ∧
    (∀ k, nextStage x = some k → y.state = .stageWait ∧ y.stage = k ∧ y.job = (s.stageJob x.desc k).getD 0xFFFF ∧
      u = { s with reqs := u.reqs }) ∧
    (nextStage x = none → y.state = .writing ∧ .ok ∈ y.conds ∧ u.mem = s.mem ∧ u.jobs = s.jobs)) ∧
  (∀ (req : W32) (dense : List W32) (s : State) (x : Request) (m : Model), s.atStage req 1 = some x → s.model? (embModel x.desc) = some m →
    x.query.length ≤ m.context → dense.length = m.outDim → (rdHas x.desc 2 = true → x.sketch ≠ []) →
    exec (.embedStage req dense) s = .next
      (s.setReq req { x with qvec := dense ++ x.sketch, stageOutput := bytesOfWords (dense ++ x.sketch) })) ∧
  (∀ (req : W32) (scores : List W32) (s : State) (x : Request) (m : Model) (st : Store), s.atStage req 3 = some x →
    (let b := rdBlock x.desc 4 64
     let cands := (listIds x.searchList).take (field b 6 2)
     s.model? (rrModel x.desc) = some m → s.store? (field b 4 2) = some st → x.query.length < m.context → x.stageOutput = [] →
     cands.length ≤ scores.length → ∃ u y sl, exec (.rerankStage req scores) s = .next u ∧ u.req? req = some y ∧ y.stageOutput = y.rerank ∧
     y.rerank = SelSlot.bytes sl ∧ sl.k = field b 8 2 ∧ sl.asc = false ∧
     (∀ e ∈ sl.entries, ∃ id ∈ cands, e.id = BitVec.ofNat 64 id ∧ (s.passage st id).isSome = true) ∧
     y.missing = x.missing + (cands.filter (fun id => (s.passage st id).isNone)).length ∧ u = { s with reqs := u.reqs, cnt := u.cnt })) ∧
  (∀ (req : W32) (s : State) (x : Request) (st : Store) (wrap sep : List Nat), s.atStage req 4 = some x → x.stageOutput = [] →
    (let b := rdBlock x.desc 5 64
     let named := fun (h : Nat) (ts : List Nat) => (h = 0xFFFF ∧ ts = []) ∨ (h ≠ 0xFFFF ∧ (s.template? h).map (·.tokens) = some ts)
     s.store? (field b 2 2) = some st → named (field b 4 2) wrap → named (field b 6 2) sep →
     (x.segTokens.map (·.length)).sum ≤ field b 8 4 → ∃ u y, exec (.packStage req) s = .next u ∧ u.req? req = some y ∧
     y.prompt = packedPrompt (rdSegments x.desc) x.segTokens
       ((if bit (field b 1 1) 1 then y.packedList.reverse else y.packedList).flatMap (fun ts => wrap ++ ts ++ sep)) ∧
     y.packed = y.packedList.length ∧ y.packed ≤ field b 12 2 ∧
     (x.segTokens.map (·.length)).sum + (y.packedList.map (fun ts => wrap.length + ts.length + sep.length)).sum ≤ field b 8 4 ∧
     y.stageOutput = leBytes 4 y.prompt.length ∧ u = { s with reqs := u.reqs, cnt := u.cnt }))

/-- Generation (R266, R268, R270, R271, R275, R281, R284): a request admitted takes a text-engine record of its model's text die, or ends
REFUSED_FIT where all 2,048 are taken; it gets a slot and its KV pages where no other waits and they are free, its allowed list stored,
else it joins its model's queue; the first of the queue gets them when they are free; one that waited too long ends REFUSED_FIT; prefill
counts the prompt; a decode step emits the forced id, or the best or the drawn one of the allowed ids with a number for a logit. -/
def Obligations.Generation : Prop :=
  (∀ (req : W32) (tr : Transfer) (s : State) (x : Request) (m : Model) (allowed : Option (List Nat)), s.atStage req 5 = some x →
    s.model? (genModel x.desc) = some m → x.kv = none → req ∉ m.kvQueue → x.prompt.length + genMaxNew x.desc ≤ m.context →
    (let b := rdBlock x.desc 6 64
     (genFlag x.desc 2 = true → (KMap.find s.patches (field b 8 4)).isSome = true) →
     (genFlag x.desc 0 = true → (s.grammar? (field b 6 2)).isSome = true) → s.allowedList x tr = .ok allowed →
     (2048 ≤ s.recordsOf m.textDie → ∃ u y, exec (.generateAdmit req tr) s = .next u ∧ u.req? req = some y ∧ y.state = .writing ∧
       .refusedFit ∈ y.conds ∧ u.count (okey 0x2600 6) = (s.count (okey 0x2600 6) + 1) % 2 ^ 64) ∧
     (s.recordsOf m.textDie < 2048 → ∃ u y t,
     exec (.generateAdmit req tr) s = .next u ∧ u.req? req = some y ∧ y.allowed = allowed ∧
     y.text = some t ∧ t.die = m.textDie ∧ t.block = x.textBlock ∧ t.emitted = [] ∧ t.out = [] ∧ t.held = [] ∧
     t.hem = (if genFlag x.desc 0 then (s.grammar? (field b 6 2)).map (·.start) else none) ∧
     y.patch = (if genFlag x.desc 2 then some (field b 8 4) else none) ∧
     (m.kvQueue = [] → s.kvFits (genModel x.desc) m x = true → y.kv = some (kvNeed m x) ∧
       (allowed = none → u = { s with reqs := u.reqs, patches := u.patches }) ∧
       (∀ ids, allowed = some ids → ∃ a, y.listAt = some a ∧ u.mem = Memory.writes s.mem a (ids.flatMap (leBytes 4)) ∧ u.jobs = s.jobs)) ∧
     (¬ (m.kvQueue = [] ∧ s.kvFits (genModel x.desc) m x = true) → y.kv = none ∧
       u.model? (genModel x.desc) = some { m with kvQueue := m.kvQueue ++ [req] } ∧
       u = { s with reqs := u.reqs, patches := u.patches, models := u.models, cnt := u.cnt })))) ∧
  (∀ (h : Fin 256) (s : State) (m : Model) (r : W32) (rest : List W32) (x : Request), s.model? h = some m → m.kvQueue = r :: rest →
    s.req? r = some x → s.kvFits h m x = true → x.allowed = none → exec (.kvReserveGrant h) s = .next
      (({ s with models := s.models.put h { m with kvQueue := rest } } : State).setReq r { x with kv := some (kvNeed m x) })) ∧
  (∀ (h : Fin 256) (s : State) (m : Model) (r : W32) (rest : List W32) (x : Request) (ids : List Nat), s.model? h = some m →
    m.kvQueue = r :: rest → s.req? r = some x → s.kvFits h m x = true → x.allowed = some ids → ∃ u a, exec (.kvReserveGrant h) s = .next u ∧
    u.req? r = some { x with kv := some (kvNeed m x), listAt := some a } ∧ u.model? h = some { m with kvQueue := rest } ∧
    u.mem = Memory.writes s.mem a (ids.flatMap (leBytes 4)) ∧ u.jobs = s.jobs) ∧
  (∀ (req : W32) (s : State) (x : Request) (m : Model), s.atStage req 5 = some x → s.model? (genModel x.desc) = some m →
    req ∈ m.kvQueue → ∃ u y, exec (.kvWaitExpiry req) s = .next u ∧ u.req? req = some y ∧ y.state = .writing ∧ .refusedFit ∈ y.conds ∧
    (∀ h m', u.model? h = some m' → req ∉ m'.kvQueue) ∧ u = { s with reqs := u.reqs, colls := u.colls, models := u.models }) ∧
  (∀ (req : W32) (s : State) (x : Request), s.atStage req 5 = some x → x.kv.isSome = true → x.prefilled = false → ∃ u,
    exec (.prefillDone req) s = .next u ∧ u.req? req = some { x with prefilled := true } ∧
    u.count (okey 0x2700 7) % 2 ^ 64 = (s.count (okey 0x2700 7) + x.prompt.length) % 2 ^ 64 ∧ u = { s with reqs := u.reqs, cnt := u.cnt }) ∧
  (∀ (req : W32) (z : List Logit) (s : State) (x : Request) (t : TextRec) (dir : Directive) (die vb : Nat), s.atStage req 5 = some x →
    x.text = some t → s.textCopy x = some (die, vb) → t.directive = some dir → x.generating = true → dir.step = t.emitted.length →
    dir.stop = false → z.length = s.vhdr vb 4 →
    (let allowed := (List.range z.length).filter (fun i => s.idAllowed x vb i && !(dir.bans.contains i))
     let num := allowed.filter (fun i => !(isNan (z.getD i ⟨0, false⟩).z))
     let b := rdBlock x.desc 6 64
     let best := bestIds (if genSample x.desc then (if field b 20 2 = 0 then 256 else field b 20 2) else 1) z num
     (∀ i ∈ allowed, (z.getD i ⟨0, false⟩).poison = false) →
     (∀ id, (dir.force = some id ∧ id ∈ allowed) ∨
         (dir.force = none ∧ best ≠ [] ∧ id = if genSample x.desc then sampleId s.free b z num best else best.headD 0) → ∃ u y t',
       exec (.decodeStep req z) s = .next u ∧ u.req? req = some y ∧ y.generated = x.generated ++ [id] ∧ y.text = some t' ∧
       t'.emitted = t.emitted ++ [id] ∧ t'.directive = none ∧ t'.out = t.out ∧
       u.count (okey 0x2700 5) = (s.count (okey 0x2700 5) + 1) % 2 ^ 64 ∧
       u.count (okey 0x2700 6) % 2 ^ 64 = (s.count (okey 0x2700 6) + if dir.force.isSome then 1 else 0) % 2 ^ 64 ∧
       u = { s with reqs := u.reqs, cnt := u.cnt, free := u.free })))

/-- Outputs and completions (R285 to R287, R334 to R336, R509): an output goes out once to its window, or not at all where the request has
none; one that fails is noted; a settled request's completion goes to the slot its ring's count names, with the phase of that pass; once
that write is acknowledged (the model's reading, log 95) the request is released with its pins; where it cannot be written, the loss is
counted and the request released. -/
def Obligations.OutputsAndCompletions : Prop :=
  (∀ (req : W32) (s : State) (x : Request), s.req? req = some x → x.state = .writing → x.outDone = false → x.noOutput = true →
    exec (.outputWrite req) s = .next (s.setReq req { x with outDone := true, written := 0 })) ∧
  (∀ (req : W32) (s : State) (x : Request) (w : Window), s.req? req = some x → x.state = .writing → x.outDone = false →
    x.noOutput = false → s.window? x.ctx (rdOutWindow x.desc) = some w → s.qpCause w.qp = none → ∃ u, exec (.outputWrite req) s = .next u ∧
    u.sent = .rdmaWrite w.qp (w.base + BitVec.ofNat 64 (rdOutOffset x.desc)) w.rkey (x.output req) none :: s.sent ∧
    u.req? req = some { x with outDone := true, written := (x.output req).length, outstanding := x.outstanding + 1 } ∧
    u = { s with reqs := u.reqs, qps := u.qps, sent := u.sent, cnt := u.cnt }) ∧
  (∀ (req : W32) (c : Cause) (s : State) (x : Request), s.req? req = some x → x.state = .writing → x.outstanding ≠ 0 → ∃ u y,
    exec (.outputWriteFail req c) s = .next u ∧ u.req? req = some y ∧ causeStatus c ∈ y.conds ∧ y.outFailed = true ∧ y.written = 0 ∧
    y.outstanding = x.outstanding - 1 ∧ u = { s with reqs := u.reqs, qps := u.qps }) ∧
  (∀ (req : W32) (s : State) (x : Request) (c : CompRing), s.req? req = some x → s.cring? x.cring = some c → x.settled = true →
    s.cringUp c = true → ∃ u imm, exec (.completionWrite req) s = .next u ∧
    u.req? req = some { x with completing := true } ∧
    u.cring? x.cring = some { c with written := c.written + 1, reserved := c.reserved - 1 } ∧
    u.sent = .rdmaWrite c.qp (c.hostAddr + BitVec.ofNat 64 (64 * (c.written.toNat % 2 ^ c.depthLog))) c.hostRkey (s.completion req x c) imm
      :: s.sent ∧ imm.isSome = c.imm ∧
    (x.resultBytes = [] ∨ x.resultBytes.length = 16 → (s.completion req x c).length = 64 ∧
      field (s.completion req x c) 63 1 = (if c.written.toNat / 2 ^ c.depthLog % 2 = 0 then 1 else 0)) ∧
    (∀ r', r' ≠ req → u.req? r' = s.req? r') ∧
    u = { s with reqs := u.reqs, crings := u.crings, qps := u.qps, sent := u.sent, cnt := u.cnt }) ∧
  (∀ (req : W32) (s : State) (x : Request), s.req? req = some x →
    (let u := s.ackOp (.completion req)
     u.req? req = none ∧ (∀ r', r' ≠ req → u.req? r' = s.req? r') ∧
     u.count (okey 0x2300 0x15) = (s.count (okey 0x2300 0x15) + 1) % 2 ^ 64 ∧ (∀ h v, u.vocab? h = some v → req ∉ v.pins) ∧
     u.mem = s.mem ∧ u.jobs = s.jobs ∧ u.sent = s.sent)) ∧
  (∀ (req : W32) (s : State) (x : Request), s.req? req = some x → x.settled = true →
    (∀ c, s.cring? x.cring = some c → s.cringUp c = false) → ∃ u, exec (.completionLost req) s = .next u ∧ u.req? req = none ∧
    u.count (okey 0x2300 0x16) = (s.count (okey 0x2300 0x16) + 1) % 2 ^ 64 ∧ u.sent = s.sent ∧
    (∀ r', r' ≠ req → u.req? r' = s.req? r') ∧ u.mem = s.mem ∧ u.jobs = s.jobs)

/-! ### Rings (12) -/

/-- Rings, windows and the event queues' selection (R327, R328, R337, R341): each write that may act makes or takes away what it names, or
selects or rinses the session's queue, and is answered OK. Doorbells (R332, R333): with the ring's key and a good format, TAIL announces
entries up to the ring's size, HEAD takes completions back, CANCEL cancels an index not yet fetched, or the request of one that was; a
wrong key is counted, and the ring moves nowhere. -/
def Obligations.RingsAndDoorbells : Prop :=
  (
  (∀ (r : Requester) (v : Bytes) (s : State), WriteMay s r 0x2300 3 v [] → s.ringSetupBad v = false →
    (s.die (ringDie (rsRing v))).state = .ready → s.ringRefused v = false → ∃ u, exec (.ringSetup r v) s = .next u ∧ Replied u r .ok ∧
    (rsComp v = false → (∃ x, u.ring? (rsRing v) = some x ∧ x.depthLog = rsDepth v ∧ x.ctx = rsContext v ∧ x.link = rsLink v ∧ x.head = 0 ∧
      x.tail = 0 ∧ x.slots = []) ∧ u.crings = s.crings) ∧
    (rsComp v = true → (∃ c, u.cring? (rsRing v) = some c ∧ c.depthLog = rsDepth v ∧ c.ctx = rsContext v ∧ c.qp = rsLink v ∧ c.written = 0 ∧
      c.reserved = 0) ∧ u.rings = s.rings) ∧
    u = { s with rings := u.rings, crings := u.crings, cnt := u.cnt, sent := u.sent, kop := u.kop }) ∧
  (∀ (r : Requester) (v : Bytes) (s : State), WriteMay s r 0x2300 4 v [] → ringSelOk (leNat v) = true →
    (let n := leNat v % 2 ^ 18
     (bit (leNat v) 24 = false → (s.ring? n).isSome = true → s.boundJob n = none → ∃ u, exec (.ringTeardown r v) s = .next u ∧
       u.ring? n = none ∧ Replied u r .ok ∧ u = { s with rings := u.rings, reqs := u.reqs, cnt := u.cnt, sent := u.sent, kop := u.kop }) ∧
     (bit (leNat v) 24 = true → (s.cring? n).isSome = true → (∀ e ∈ s.rings, e.2.link ≠ n) → ∃ u, exec (.ringTeardown r v) s = .next u ∧
       u.cring? n = none ∧ Replied u r .ok ∧ u = { s with crings := u.crings, cnt := u.cnt, sent := u.sent, kop := u.kop }))) ∧
  (∀ (r : Requester) (v : Bytes) (s : State), WriteMay s r 0x2300 0x0C v [] → s.evSelBad (leNat v) = false → ∃ u,
    exec (.eventSelect r v) s = .next u ∧ Replied u r .ok ∧ (∀ sn, u.session? r.sid = some sn → sn.evSel = BitVec.ofNat 32 (leNat v)) ∧
    u = { s with cnt := u.cnt, sent := u.sent, kop := u.kop }) ∧
  (∀ (r : Requester) (s : State) (q : QueueId) (x : Queue), WriteMay s r 0x2300 0x0E [0x01] [] → s.selectedBy r = some (q, x) → ∃ u y,
    exec (.eventRinse r [0x01]) s = .next u ∧ u.queue? q = some y ∧ y.items = [] ∧ y.rinses = x.rinses + 1 ∧ Replied u r .ok ∧
    u.mem = s.mem ∧ u.jobs = s.jobs)) ∧
  (
  (∀ (n : Fin 262144) (d : Bytes) (s : State) (x : ReqRing), s.ring? n = some x → d.length = 16 → dbKey d = x.key → zeros d 13 3 = true →
    (dbKind d = 1 → 0 < countDiff (dbValue d) x.tail → (dbValue d - x.head).toNat ≤ 2 ^ x.depthLog → exec (.doorbellTail n d) s = .next
      (s.setRing n { x with tail := dbValue d, tails := x.tails ++ [(dbValue d, s.now)] })) ∧
    (dbKind d = 3 → countDiff (dbValue d) x.tail < 0 → 0 ≤ countDiff (dbValue d) x.head → ∃ u y, exec (.doorbellCancel n d) s = .next u ∧
      u.ring? n = some y ∧ dbValue d ∈ y.cancelled ∧ (∀ i ∈ y.cancelled, i ∈ x.cancelled ∨ i = dbValue d) ∧ y.head = x.head ∧
      y.tail = x.tail ∧ u = { s with rings := u.rings }) ∧
    (∀ h q, dbKind d = 3 → countDiff (dbValue d) x.tail < 0 → countDiff (dbValue d) x.head < 0 →
      s.reqs.find? (fun e => e.2.ring == n.val && e.2.index == dbValue d) = some (h, q) → q.live = true → exec (.doorbellCancel n d) s = .next
      { s with reqs := s.reqs.put h { q with cancelled := true } })) ∧
  (∀ (n : Fin 262144) (d : Bytes) (s : State) (c : CompRing), s.cring? n = some c → d.length = 16 → dbKey d = c.key → zeros d 13 3 = true →
    dbKind d = 2 → 0 < countDiff (dbValue d) c.hostHead → countDiff (dbValue d) c.written ≤ 0 → exec (.doorbellHead n d) s = .next
      (s.setCring n { c with hostHead := dbValue d })) ∧
  (∀ (n : Fin 262144) (d : Bytes) (s : State) (x : ReqRing), s.ring? n = some x → d.length = 16 → dbKey d ≠ x.key → dbKind d ≠ 3 → ∃ u,
    exec (.doorbellTail n d) s = .next u ∧ u.ring? n = some { x with keyFaults := x.keyFaults + 1 } ∧
    u.count (okey 0x2300 0x11) = (s.count (okey 0x2300 0x11) + 1) % 2 ^ 64 ∧
    u = { s with rings := u.rings, events := u.events, cnt := u.cnt }))

/-- The fetch of entries (R329 to R331): the ring's head and its completion ring's reserved count move on by one, and a request stands for the
entry; a NOP completes at fetch; a REQUEST whose window serves reads its descriptor; an UPDATE and a STAGE go to the job that serves what
they name. -/
def Obligations.EntryFetches : Prop :=
  (∀ (n : Fin 262144) (s : State) (x : ReqRing) (c : CompRing), s.fetchable n = some (x, c) →
    (let f := s.fetch n x c
     let k := field (x.entry x.head) 0 1
     (∃ y, f.2.2.ring? n = some y ∧ y.head = x.head + 1 ∧ y.tail = x.tail ∧ y.slots = x.slots) ∧
     f.2.2.cring? x.link = some { c with reserved := c.reserved + 1 } ∧ f.2.1.ring = n ∧ f.2.1.index = x.head ∧ f.2.1.kind = k ∧
     f.2.1.tag = BitVec.ofNat 64 (field (x.entry x.head) 8 8) ∧ (entryBad (x.entry x.head) = true → .badDescriptor ∈ f.2.1.conds) ∧
     (x.head ∈ x.cancelled → .cancelled ∈ f.2.1.conds) ∧
     f.2.2.count (okey 0x2300 0x14) = (s.count (okey 0x2300 0x14) + 1) % 2 ^ 64 ∧
     f.2.2 = { s with rings := f.2.2.rings, crings := f.2.2.crings, cnt := f.2.2.cnt, nextHandle := f.2.2.nextHandle } ∧
     ((k = 0 ∨ 3 < k) → exec (.entryNop n) s = .next (f.2.2.setReq f.1 f.2.1)) ∧
     (k = 1 → f.2.1.conds ≠ [] → exec (.entryRequest n) s = .next (f.2.2.setReq f.1 f.2.1)) ∧
     (∀ w, k = 1 → f.2.1.conds = [] → f.2.2.entryConds f.2.1 = [] → s.window? x.ctx f.2.1.window = some w → s.qpCause w.qp = none → ∃ u,
       exec (.entryRequest n) s = .next u ∧ u.req? f.1 = some { f.2.1 with atFetch := false, outDone := false, state := .fetching } ∧
       u.sent = .rdmaRead w.qp (w.base + f.2.1.offset) w.rkey f.2.1.length :: s.sent ∧
       u = { f.2.2 with reqs := u.reqs, qps := u.qps, sent := u.sent, cnt := u.cnt }) ∧
     (k = 2 → f.2.1.conds = [] → (s.coll? (ubColl f.2.1.block)).map (·.job) = some f.2.1.job →
       exec (.entryUpdate n) s = .next (f.2.2.setReq f.1 { f.2.1 with state := .stage, atFetch := false })) ∧
     (k = 3 → f.2.1.conds = [] → (s.table? (tbTable f.2.1.block)).map (·.job) = some f.2.1.job →
       exec (.entryStage n) s = .next (f.2.2.setReq f.1 { f.2.1 with state := .stage, atFetch := false }))))

/-! ### Host ports and queue pairs (12) -/

/-- A port's link (R317): down, it comes up at the rate its lanes give under its mode, and its LINK bit is set; a failed lane leaves the half
that trains, or takes the link down; a mode written goes to the ledger. Pause and frames (R316, R318, R319, R511): XOFF goes out at 640
KiB and XON at 384 KiB of a lossless priority; a received pause is honoured unless pause is being ignored, which a storm starts and 1 s
ends; every frame on a port that is up is counted, and one cut short of the buffer, fragmented or for a queue pair not in RTS is counted
as dropped. -/
def Obligations.PortCommands : Prop :=
  (
  (∀ (p : Port) (lanes l : Byte) (rate : Nat) (s : State) (cmd : Instr), (s.port p).rate = 0 → s.mayTrain p = true →
    (cmd = .portLinkUp p lanes ∨ (cmd = .portRetry p lanes ∧ (s.port p).downRaised = true)) →
    trainRate (s.portMode p) lanes = some (rate, l) → ∃ u, exec cmd s = .next u ∧
    u.port p = { s.port p with rate := rate, lanes := l, downRaised := false } ∧
    (s.recovery = false → readyBit u (5 + p.code) = true) ∧ u.mem = s.mem ∧ u.jobs = s.jobs ∧ u.tiles = s.tiles) ∧
  (∀ (p : Port) (lanes : Byte) (s : State), (s.port p).rate ≠ 0 → lanesTrain (s.port p).lanes lanes = false → ∃ u,
    exec (.laneFailFallback p lanes) s = .next u ∧
    (∀ half, fallbackTo (s.portMode p) (s.port p).rate (s.port p).lanes lanes = some half →
      u.port p = { s.port p with rate := 400, lanes := half }) ∧
    (fallbackTo (s.portMode p) (s.port p).rate (s.port p).lanes lanes = none →
      u.port p = { s.port p with rate := 0, lanes := 0, downRaised := true } ∧ readyBit u (5 + p.code) = false) ∧
    u.count (okey (portIndex p) 0x10) = (s.count (okey (portIndex p) 0x10) + 1) % 2 ^ 64 ∧ u.mem = s.mem ∧ u.jobs = s.jobs ∧
    u.tiles = s.tiles) ∧
  (∀ (p : Port) (r : Requester) (v : Bytes) (s : State), WriteMay s r (portIndex p) 1 v [] → leNat v ≤ 2 →
    exec (.portModeWrite p r v) s = .next (s.persist r (okey (portIndex p) 1) v))) ∧
  (
  (∀ (p : Port) (second : Bool) (held : Nat) (s : State), held ≤ 393216 → ((s.port p).pfc second).xoff = true → ∃ u,
    exec (.pfcXon p second held) s = .next u ∧ (u.port p).pfc second = { (s.port p).pfc second with xoff := false } ∧
    (u.port p).pfc (!second) = (s.port p).pfc (!second) ∧ u.sent = .pfc p (s.losslessPrio second) false :: s.sent ∧
    u = { s with portA := u.portA, portB := u.portB, sent := u.sent, cnt := u.cnt }) ∧
  (∀ (p : Port) (prio : Fin 8) (pause second : Bool) (s : State), (s.port p).rate ≠ 0 → s.lossless prio = some second →
    ((s.port p).pfc second).ignoring = false → ∃ u, exec (.pfcReceive p prio pause) s = .next u ∧
    (u.port p).pfc second = { (s.port p).pfc second with paused := pause } ∧
    u.count (okey (portIndex p) 9) = (s.count (okey (portIndex p) 9) + 1) % 2 ^ 64 ∧
    u = { s with portA := u.portA, portB := u.portB, cnt := u.cnt }) ∧
  (∀ (p : Port) (second : Bool) (s : State), ((s.port p).pfc second).paused = true → ((s.port p).pfc second).ignoring = false → ∃ u,
    exec (.pauseStorm p second) s = .next u ∧
    (u.port p).pfc second = { (s.port p).pfc second with paused := false, ignoring := true } ∧
    u.count (okey (portIndex p) 0x0B) = (s.count (okey (portIndex p) 0x0B) + 1) % 2 ^ 64 ∧ u.mem = s.mem ∧ u.jobs = s.jobs) ∧
  (∀ (p : Port) (second : Bool) (s : State), ((s.port p).pfc second).ignoring = true → exec (.pauseHonourResume p second) s = .next
    (s.setPfc p second { (s.port p).pfc second with ignoring := false })) ∧
  (∀ (p : Port) (f : Frame) (s : State), (s.port p).rate ≠ 0 → ∃ u, exec (.frameReceive p f) s = .next u ∧
    u.count (okey (portIndex p) 4) = (s.count (okey (portIndex p) 4) + 1) % 2 ^ 64 ∧
    (frameCut f = true ∨ f.kind = .fragment ∨ (∃ n, f.kind = .roce n ∧ ∀ q, qpOfQpn n.toNat = some q → s.rts q = none) →
      u.count (okey (portIndex p) 8) = (s.count (okey (portIndex p) 8) + 1) % 2 ^ 64) ∧
    (frameCut f = true → u = { s with cnt := u.cnt }) ∧
    (∀ second, frameCut f = false → s.lossless (framePrio f) = some second → 655360 ≤ f.buffered →
      ((u.port p).pfc second).xoff = true) ∧ u.mem = s.mem ∧ u.jobs = s.jobs))

/-- Queue pairs (R319 to R323, R326): a setup that may act gives a queue pair in RTS, and a reset takes it away with the windows that name it;
a CNP halves the send rate, not below 1 Gbit/s, and a recovery raises it by a twentieth of the line rate; acknowledged operations leave; a
NAK or a timeout sends the oldest again, or ends the queue pair in ERROR; a refused operation is answered with a NAK and the queue pair is
in ERROR; an inbound WRITE of entries lands in the ring's slots and is acknowledged. -/
def Obligations.QueuePairs : Prop :=
  (∀ (r : Requester) (v : Bytes) (s : State), WriteMay s r 0x2300 7 v [] → s.qpSetupBad v = false →
    s.routable (qpPortOf v) (bit (qpFlags v) 0) = true → readyBit s (5 + (qpPortOf v).code) = true → s.qp? (qpNumber v) = none →
    (bit (qpFlags v) 1 = true → ∀ e ∈ s.qps, ¬ (e.2.admin = true ∧ e.2.port = qpPortOf v)) → ∃ u, exec (.qpSetup r v) s = .next u ∧
    u.qp? (qpNumber v) = some (s.newQp v) ∧ Replied u r .ok ∧ u = { s with qps := u.qps, cnt := u.cnt, sent := u.sent, kop := u.kop }) ∧
  (∀ (r : Requester) (v : Bytes) (s : State), WriteMay s r 0x2300 8 v [] → leNat v ≤ 16383 → (s.qp? (leNat v)).isSome = true → ∃ u,
    exec (.qpReset r v) s = .next u ∧ u.qp? (leNat v) = none ∧ (∀ e ∈ u.windows, e.2.qp ≠ leNat v) ∧ Replied u r .ok) ∧
  (∀ (r : Requester) (v : Bytes) (s : State), WriteMay s r 0x2300 0x0B v [] → s.windowBad v = false → ∃ u,
    exec (.windowSetup r v) s = .next u ∧
    u.window? (field v 0 2) (field (slice v 4 32) 24 2) =
      (if field (slice v 4 32) 8 8 = 0 then none else some (contextWindow (slice v 4 32))) ∧ Replied u r .ok ∧
    u = { s with windows := u.windows, cnt := u.cnt, sent := u.sent, kop := u.kop }) ∧
  (∀ (qp : Fin 16384) (s : State) (x : Qp), s.rts qp = some x → s.lineRate x.port ≠ 0 → exec (.cnpReceive qp) s = .next
    ((s.setQp qp { x with rateKbps := max (min x.rateKbps (s.lineRate x.port) / 2) 1000000 }).bump (okey (portIndex x.port) 0x0F) 1)) ∧
  (∀ (qp : Fin 16384) (s : State) (x : Qp), s.rts qp = some x → s.lineRate x.port ≠ 0 → exec (.rateRecover qp) s = .next
    (s.setQp qp { x with rateKbps := min (x.rateKbps + s.lineRate x.port / 20) (s.lineRate x.port) })) ∧
  (∀ (qp : Fin 16384) (n : Nat) (s : State) (x : Qp), s.rts qp = some x → ∃ u, exec (.ackReceive qp n) s = .next u ∧
    u.qp? qp = some { x with out := x.out.drop n, tries := 0, rnrTries := 0 } ∧ u.mem = s.mem ∧ u.sent = s.sent) ∧
  (∀ (qp : Fin 16384) (k : NakKind) (s : State) (x : Qp), s.rts qp = some x →
    (k = .rnr → x.rnrRetry ≠ 7 ∧ x.rnrRetry ≤ x.rnrTries) → ∃ u y, exec (.nakReceive qp k) s = .next u ∧ u.qp? qp = some y ∧
    y.state = .error ∧ y.cause = (if k = .remoteAccess then .accessDenied else .retryExhausted) ∧ y.out = []) ∧
  (∀ (qp : Fin 16384) (s : State) (x : Qp) (o : OutOp) (rest : List OutOp), s.rts qp = some x → x.out = o :: rest →
    (x.rnrRetry = 7 ∨ x.rnrTries < x.rnrRetry) → ∃ u n, exec (.nakReceive qp .rnr) s = .next u ∧ u.sent = .retransmit qp n :: s.sent ∧
    u.qp? qp = some { x with rnrTries := x.rnrTries + 1, retransmissions := x.retransmissions + n }) ∧
  (∀ (qp : Fin 16384) (s : State) (x : Qp) (o : OutOp) (rest : List OutOp), s.rts qp = some x → x.out = o :: rest →
    (x.tries < x.retryCnt → ∃ u n, exec (.retransmitTimeout qp) s = .next u ∧ u.sent = .retransmit qp n :: s.sent ∧
      u.qp? qp = some { x with tries := x.tries + 1, retransmissions := x.retransmissions + n }) ∧
    (x.retryCnt ≤ x.tries → ∃ u y, exec (.retransmitTimeout qp) s = .next u ∧ u.qp? qp = some y ∧ y.state = .error ∧
      y.cause = .retryExhausted ∧ y.out = [])) ∧
  (∀ (p : Port) (qp : Fin 16384) (s : State) (x : Qp), (s.port p).rate ≠ 0 → s.rts qp = some x → ∃ u y,
    exec (.roceOpRefused p qp) s = .next u ∧ .nak qp true ∈ u.sent ∧ u.qp? qp = some y ∧ y.state = .error ∧ y.cause = .retryExhausted ∧ y.out = []) ∧
  (∀ (p : Port) (qp : Fin 16384) (rkey : W32) (va : W64) (data : Bytes) (s : State) (x : Qp), (s.port p).rate ≠ 0 → s.rts qp = some x →
    (∀ n slot y, rkey = x.rkey → s.writeTarget x.ctx va.toNat data.length = some (.entries n slot) → s.ring? n = some y → ∃ u,
      exec (.roceWriteIn p qp rkey va data) s = .next u ∧ u.sent = .ack qp :: s.sent ∧
      u.qp? qp = some { x with recvPsn := x.recvPsn + BitVec.ofNat 24 (packets data.length) } ∧
      u.ring? n = some { y with slots := putSlots y.slots slot data } ∧
      u = { s with qps := u.qps, sent := u.sent, cnt := u.cnt, rings := u.rings }) ∧
    (rkey ≠ x.rkey ∨ s.writeTarget x.ctx va.toNat data.length = none → ∃ u y, exec (.roceWriteIn p qp rkey va data) s = .next u ∧
      .nak qp false ∈ u.sent ∧ u.qp? qp = some y ∧ y.state = .error ∧ y.cause = .accessDenied ∧ u.rings = s.rings))

/-! ### Jobs and the schedule (11) -/

/-- Partitions, loads, unloads, endings (R290, R291, R295 to R299, R306): a partition that overlaps no other and holds no job is set or
removed with its cycle table; a load reads its image, and an image without a fault is admitted; an unload frees the handle, or waits for
the save of a job that holds tiles; a job whose last tile executes job-end ends OK and leaves its tiles. -/
def Obligations.JobCommands : Prop :=
  (∀ (n : Fin 16) (r : Requester) (v : Bytes) (s : State), WriteMay s r 0x2201 (n + 1) v [] → partBad v = false →
    (∀ e ∈ s.parts, e.1 ≠ n → e.2.meets (partOf v) = false) → (∀ e ∈ s.jobs, e.2.part ≠ n) → ∃ u, exec (.partitionWrite n r v) s = .next u ∧
    u.part? n = (if (partOf v).rows = 0 then none else some (partOf v)) ∧ KMap.find u.objs (okey 0x2201 (n + 1)) = some v ∧
    (∀ i : Nat, i ≠ n → u.part? i = s.part? i) ∧ Replied u r .ok ∧
    u = { s with parts := u.parts, objs := u.objs, cnt := u.cnt, sent := u.sent, kop := u.kop }) ∧
  (∀ (r : Requester) (v : Bytes) (s : State), WriteMay s r 0x2200 2 v [] → s.loadBad v = false → ∃ u, exec (.jobLoad r v) s = .next u ∧
    u.load = some ⟨r, v, s.jobDomain (ldHandle v)⟩ ∧
    u.sent = .rdmaRead (ldQp v) (BitVec.ofNat 64 (field v 0 8)) (BitVec.ofNat 32 (field v 12 4)) (field v 8 4) :: s.sent ∧
    u = { s with load := u.load, sent := u.sent, qps := u.qps, cnt := u.cnt }) ∧
  (∀ (img : Bytes) (s : State) (ld : Load), s.load = some ld → s.fills = [] → img.length = field ld.cmd 8 4 →
    s.partNotReady (field img 3 1) = false → formatFault img (jobOf img ld.domain) = none →
    s.imageFault (ldHandle ld.cmd) img (jobOf img ld.domain) = none → exec (.jobAdmit (.data img)) s = .next
      ((s.admitJob (ldHandle ld.cmd) img (jobOf img ld.domain)).endLoad ld .ok 0 0xFF).wake) ∧
  (∀ (r : Requester) (v : Bytes) (s : State) (jb : Job), WriteMay s r 0x2200 4 v [] → s.job? (leNat v) = some jb → jb.unload = false → ∃ u,
    exec (.jobUnload r v) s = .next u ∧ Replied u r .ok ∧
    ((jb.state = .running ∨ jb.state = .saving) ∧ jb.resident = false → u.job? (leNat v) = some { jb with unload := true }) ∧
    (¬ ((jb.state = .running ∨ jb.state = .saving) ∧ jb.resident = false) → u.job? (leNat v) = none)) ∧
  (∀ (t : TileNo) (s : State) (j : Nat) (jb : Job), SeqRuns s t j jb → jb.unload = false →
    ((∃ d ∈ jb.tiles, d.tile ≠ t ∧ d.tile ∉ jb.endedTiles) →
      exec (.jobEndInstr t) s = .next (s.setJob j { jb with endedTiles := NSet.add jb.endedTiles t })) ∧
    ((∀ d ∈ jb.tiles, d.tile = t ∨ d.tile ∈ jb.endedTiles) → ∃ u jb', exec (.jobEndInstr t) s = .next u ∧ u.job? j = some jb' ∧
      jb'.state = .ended ∧ jb'.endStatus = .ok ∧ ∀ d ∈ jb.tiles, (u.tile d.tile).job ≠ some j)) ∧
  (∀ (r : Requester) (v : Bytes) (s : State), WriteMay s r 0x2200 5 v [] → ∃ u, exec (.privilegedWrite r v) s = .next u ∧
    (∀ j, u.privileged j = bit (leNat v) j) ∧ Replied u r .ok ∧ u = { s with objs := u.objs, cnt := u.cnt, sent := u.sent, kop := u.kop })

/-- Cycle tables and slot boundaries (R301 to R304, R310): a table that may act begins its cycle, or waits for the cycle in progress to end; a
cycle that ends is counted, and the next begins with slot 0 under the table that waited, or the partition is left without one, its count
of cycles back at zero (the model's choice, log 162); each boundary begins the next slot, at which a job that is no longer served starts
its save or gives its restore up. -/
def Obligations.CycleCommands : Prop :=
  (∀ (n : Fin 16) (r : Requester) (v : Bytes) (s : State) (pt : Partition), WriteMay s r 0x2210 (n + 1) v [] → s.tableBad n v = false →
    s.tableRefused n (tableOfBytes v) = false → s.part? n = some pt → ∃ u p, exec (.cycleTableWrite n r v) s = .next u ∧ Replied u r .ok ∧
    u.part? n = some p ∧ (pt.table.isSome = true → p = { pt with next := some (tableOfBytes v) } ∧
      u = { s with parts := u.parts, cnt := u.cnt, sent := u.sent, kop := u.kop }) ∧
    (pt.table = none → (tableOfBytes v).slots ≠ [] → p.table = some (tableOfBytes v) ∧ p.next = none ∧ p.slot = 0) ∧
    (pt.table = none → (tableOfBytes v).slots = [] → p = pt)) ∧
  (∀ (n : Fin 16) (s : State) (pt : Partition) (t : CycleTable), s.part? n = some pt → pt.table = some t → t.slots.length ≤ pt.slot + 1 →
    ∃ u p, exec (.cycleStart n) s = .next u ∧ u.part? n = some p ∧ p.next = none ∧ p.slot = 0 ∧
    p.cycles = (if (pt.next.getD t).slots = [] then 0 else (pt.cycles + 1) % 2 ^ 64) ∧ p.table = (if (pt.next.getD t).slots = [] then none else some (pt.next.getD t)) ∧ u.objs = s.objs) ∧
  (∀ (n : Fin 16) (s : State) (pt : Partition) (t : CycleTable), s.part? n = some pt → pt.table = some t → pt.slot + 1 < t.slots.length →
    ∃ u p, exec (.slotBoundary n) s = .next u ∧ u.part? n = some p ∧ p.slot = pt.slot + 1 ∧ p.table = some t ∧ p.cycles = pt.cycles ∧
    u.objs = s.objs) ∧
  (∀ (s : State) (rs : List Nat) (j : Nat) (jb : Job), s.job? j = some jb →
    (jb.resident = true → s.boundaryJob rs j = s) ∧
    (jb.resident = false → ∃ jb', (s.boundaryJob rs j).job? j = some jb' ∧
      jb'.state = (match jb.state, rs.contains j with
        | .running, false => .saving
        | .restoring, false => .idle
        | st, _ => st) ∧ jb'.tiles = jb.tiles ∧ jb'.regions = jb.regions))

/-- Saves and restores (R298, R304 to R308): with its tiles saved a job is IDLE, or RESTORING where the running slot serves it and no other
job stands in its way; a restore that waits begins once no job with tiles on its dies is SAVING, that of a B job after those of Q and G
jobs; a cheap point saves its tile by the point's entry where it may, else in full, as a gap that ran out does; a restore puts the job's
tiles back and it runs. -/
def Obligations.SavesAndRestores : Prop :=
  (∀ (j : Fin 256) (s : State) (jb : Job), s.job? j = some jb → jb.state = .saving → jb.cheapWait = [] → jb.unload = false →
    (∀ t ∈ jb.savePending, s.fencing t = false) → ∃ u jb', exec (.saveDone j) s = .next u ∧ u.job? j = some jb' ∧
    (((s.part? jb.part).map (fun p => p.residents.contains j.val)) ≠ some true ∨ jb.resident = true → jb'.state = .idle) ∧
    (((s.part? jb.part).map (fun p => p.residents.contains j.val)) = some true → jb.resident = false →
      (∀ e ∈ s.jobs, e.1 ≠ j → e.2.sharesDie jb = true → e.2.state = .running ∨ e.2.state = .ended) → jb'.state = .restoring) ∧
    jb'.savePending = [] ∧ jb'.tiles = jb.tiles ∧ u.parts = s.parts ∧ u.objs = s.objs) ∧
  (∀ (s : State) (j : Nat) (jb : Job), s.job? j = some jb → ∃ jb', s.beginRestores.job? j = some jb' ∧
    (jb.cls ≠ 3 → s.mayRestore j jb = true → jb' = { jb with state := .restoring }) ∧
    (s.awaitsRestore j jb = false ∨ (∃ e ∈ s.jobs, e.1 ≠ j ∧ e.2.state = .saving ∧ e.2.sharesDie jb = true) → jb' = jb)) ∧
  (∀ (t : TileNo) (point : W32) (s : State) (j : Nat) (jb : Job) (e : CheapEntry), SeqRuns s t j jb → jb.state = .saving →
    jb.cheapFor point t = some e → exec (.cheapPoint t point) s = .next
      (if s.cheapValid t then s.saveAs t j (s.cheapRec t e) else (s.saveFull t j).bump (okey 0x2203 3) 1)) ∧
  (∀ (t : TileNo) (s : State) (j : Nat) (jb : Job), (s.tile t).job = some j → s.job? j = some jb → jb.state = .saving →
    t.val ∈ jb.cheapWait → s.fencing t = false → exec (.cheapGapExpiry t) s = .next ((s.saveFull t j).bump (okey 0x2203 3) 1)) ∧
  (∀ (s : State) (t j : Nat) (jb : Job) (rec : SaveRec), s.job? j = some jb → ∃ jb', (s.saveAs t j rec).job? j = some jb' ∧
    KMap.find jb'.saved t = some rec ∧ t ∉ jb'.cheapWait ∧ ((s.saveAs t j rec).tile t).job = none ∧
    ∀ i < sramEnd, Memory.read (s.saveAs t j rec).mem (sramFa t i) = 0) ∧
  (∀ (j : Fin 256) (s : State) (jb : Job), s.job? j = some jb → jb.state = .restoring → (jb.started = true ∨ jb.streams = []) →
    (∀ d ∈ jb.tiles, (s.tile d.tile).job = none ∧ (s.die (dieOf d.tile)).state = .ready) → ∃ u jb', exec (.restoreDone j) s = .next u ∧
    u.job? j = some jb' ∧ jb'.state = .running ∧ jb'.saved = [] ∧
    (∀ d ∈ jb.tiles, (KMap.find jb.saved d.tile).isSome = true → (u.tile d.tile).job = some j.val ∧ (u.tile d.tile).power = .running))

/-- Steps and the watchdog (R300, R311, R312): the lead tile waits for its grant; a grant that fits lets the step run, one that does not is
counted; a step ends; its first watchdog expiry leads to one re-run; a wait beyond the limit ends the job RETRY_EXHAUSTED. -/
def Obligations.StepCommands : Prop :=
  (∀ (t : TileNo) (s : State) (j : Nat) (jb : Job), s.leadJob t = some (j, jb) → ∃ u, exec (.stepBegin t) s = .next u ∧
    u.job? j = some { jb with asked := true } ∧ (u.tile t).seqWait = some .stepBegin ∧ u = { s with jobs := u.jobs, tiles := u.tiles }) ∧
  (∀ (j : Fin 256) (us : Nat) (s : State) (jb : Job), s.job? j = some jb → jb.state = .running → jb.asked = true →
    (s.stepFits jb us = true → jb.step = .none_ ∨ jb.step = .asked → ∃ u, exec (.stepGrant j us) s = .next u ∧
      u.job? j = some { jb with step := .running, asked := false } ∧ (∀ d ∈ jb.tiles, (u.tile d.tile).seqWait ≠ some .stepBegin) ∧
      u = { s with jobs := u.jobs, tiles := u.tiles }) ∧
    (s.stepFits jb us = true → jb.step = .rerunPending → ∃ u, exec (.stepGrant j us) s = .next u ∧
      u.job? j = some { jb with step := .rerunRunning } ∧ u = { s with jobs := u.jobs, tiles := u.tiles }) ∧
    (s.stepFits jb us = false → jb.step = .none_ → exec (.stepGrant j us) s = .next
      ((s.setJob j { jb with step := .asked }).bump (okey 0x2203 8) 1))) ∧
  (∀ (t : TileNo) (s : State) (j : Nat) (jb : Job), s.leadJob t = some (j, jb) → 
    (jb.step = .running → exec (.stepEnd t) s = .next (s.setJob j { jb with step := .none_ })) ∧
    (jb.step = .rerunRunning → ∃ u, exec (.stepEnd t) s = .next u ∧ u.job? j = some { jb with step := .none_ } ∧
      (jb.asked = true → (u.tile t).seqWait = some .stepBegin) ∧ u = { s with jobs := u.jobs, tiles := u.tiles })) ∧
  (∀ (j : Fin 256) (s : State) (jb : Job), s.job? j = some jb → jb.step = .running → ∃ u, exec (.watchdogExpiry j) s = .next u ∧
    u.job? j = some { jb with expiries := jb.expiries + 1, step := .rerunPending } ∧
    u.count (okey 0x2203 9) = (s.count (okey 0x2203 9) + 1) % 2 ^ 64 ∧ u.flogSeq = s.flogSeq + 1 ∧
    (∀ d ∈ jb.tiles, (u.tile d.tile).passQ = [] ∧ (u.tile d.tile).passRun = none ∧ (u.tile d.tile).moves = [] ∧ (u.tile d.tile).selQ = []) ∧
    u.mem = s.mem ∧ u.reqs = s.reqs) ∧
  (∀ (j : Fin 256) (s : State) (jb : Job), s.job? j = some jb → jb.step = .rerunRunning → ∃ u, exec (.watchdogExpiry j) s = .next u ∧
    u.job? j = some { jb with expiries := jb.expiries + 1, step := .none_ } ∧
    u.count (okey 0x2203 9) = (s.count (okey 0x2203 9) + 1) % 2 ^ 64 ∧ u.flogSeq = s.flogSeq + 1 ∧
    (∀ r ∈ s.batchReqs j, ∀ y, u.req? r = some y → y.state = .writing) ∧ u.mem = s.mem) ∧
  (∀ (t : TileNo) (s : State) (j : Nat) (jb : Job), (s.tile t).job = some j → s.job? j = some jb → jb.state = .running →
    jb.unload = false → (s.tile t).timedWait = true → ∃ u jb', exec (.waitLimitExpiry t) s = .next u ∧ u.job? j = some jb' ∧
    jb'.state = .ended ∧ jb'.endStatus = .retryExhausted ∧ (∀ d ∈ jb.tiles, (u.tile d.tile).job ≠ some j) ∧
    u.count (okey 0x2203 0x0A) = (s.count (okey 0x2203 0x0A) + 1) % 2 ^ 64)

/-! ### Resets, bring-up, supply (17, 16, 19) -/

/-- What module resets do (R453 to R456, R458): a KOP reset is answered and begins later, cold outranking warm; a cold reset leaves no job,
request, session or memory, raises the ledger's count, and holds for its cause; a warm one keeps counters, the claim, logs and stack
memory, which a power loss does not; a reset pin waits for a fuse that is being programmed. -/
def Obligations.ModuleResets : Prop :=
  (∀ (r : Requester) (v : Bytes) (s : State) (cmd : Instr) (k : ResetKind),
    ((cmd = .moduleResetWarm r v ∧ v = [0x01] ∧ k = .warm) ∨ (cmd = .moduleResetCold r v ∧ v = [0x02] ∧ k = .cold)) →
    WriteMay s r 0x1200 1 v [] → ∃ u, exec cmd s = .next u ∧ Replied u r .ok ∧
    u.boot = { s.boot with pendingReset := some (if s.boot.pendingReset = some .cold then .cold else k) } ∧
    u = { s with boot := u.boot, cnt := u.cnt, sent := u.sent, kop := u.kop }) ∧
  (∀ s : State, s.fuses.blowing = none →
    (s.boot.pendingReset = some .warm → exec .moduleResetBegin s = .next (s.warm 4)) ∧
    (s.boot.pendingReset = some .cold → exec .moduleResetBegin s = .next
      ((s.cold 5 []).leaveCold s.power.bootSel s.power.clkSel true))) ∧
  (∀ (s : State) (cause : Nat) (hold : List Hold), (s.cold cause hold).jobs = [] ∧ (s.cold cause hold).reqs = [] ∧
    (s.cold cause hold).kop.sessions = [] ∧ (s.cold cause hold).kop.claimed = false ∧ (s.cold cause hold).mem = [] ∧
    (s.cold cause hold).cnt = [] ∧ (s.cold cause hold).power.hold = hold ∧ (s.cold cause hold).boot.lastReset = cause ∧
    (s.cold cause hold).ledger.coldResets = (s.ledger.coldResets + 1) % 2 ^ 64 ∧
    (s.cold cause hold).ledger.retired = s.ledger.retired ∧ (s.cold cause hold).fuses.rollback = s.fuses.rollback ∧
    (s.cold cause hold).fuses.seal0 = s.fuses.seal0 ∧ (s.cold cause hold).fuses.seal1 = s.fuses.seal1) ∧
  (∀ (s : State) (cause : Nat), (s.warm cause).jobs = [] ∧ (s.warm cause).reqs = [] ∧ (s.warm cause).kop.sessions = [] ∧
    (s.warm cause).kop.claimed = s.kop.claimed ∧ (s.warm cause).kop.owner = s.kop.owner ∧ (s.warm cause).kop.record = s.kop.record ∧
    (s.warm cause).flog = s.flog ∧ (s.warm cause).boot.lastReset = cause ∧
    (∀ k, k ≠ okey 0x1202 3 → (s.warm cause).count k = s.count k) ∧
    (s.warm cause).count (okey 0x1202 3) = (s.count (okey 0x1202 3) + 1) % 2 ^ 64 ∧
    (∀ a, Memory.read (s.warm cause).mem a = if faSpace a = 0 then Memory.read s.mem a else 0)) ∧
  (∀ s : State, s.power.good = true → s.extest = false → .resetN ∉ s.power.hold →
    (s.fuses.blowing = none → exec .resetNAssert s = .next (s.cold 2 [.resetN])) ∧
    (s.fuses.blowing.isSome = true → ∃ u, exec .resetNAssert s = .next u ∧ .resetN ∈ u.fuses.deferred ∧ u = { s with fuses := u.fuses })) ∧
  (∀ s : State, s.power.good = true → ∃ u, exec .powerGoodLoss s = .next u ∧ u.power.good = false ∧ u.power.hold = [.power] ∧ u.mem = [] ∧
    u.jobs = [] ∧ u.tap = {} ∧ u.boot.lastReset = 1 ∧ u.ledger.coldResets = (s.ledger.coldResets + 1) % 2 ^ 64) ∧
  (∀ (mv : Nat) (b k : BitVec 2) (ok : Bool) (s : State) (cmd : Instr),
    ((cmd = .powerGood mv b k ok ∧ s.power.good = false ∧ s.power.charged = true ∧ 46000 ≤ mv ∧ mv ≤ 58000) ∨
     (cmd = .resetNRelease b k ok ∧ s.power.good = true ∧ .resetN ∈ s.power.hold) ∨
     (cmd = .refRecover b k ∧ ok = true ∧ s.power.good = true ∧ .reference ∈ s.power.hold)) → ∃ u, exec cmd s = .next u ∧
    u.power.good = true ∧ u.power.bootSel = b ∧ u.power.clkSel = k ∧
    u.power.hold = (if k = 3 then [.clkSel] else if k ≠ 0 ∧ ok = false then [.reference] else []) ∧
    u = { s with power := u.power, boot := u.boot }) ∧
  (∀ s : State, s.power.good = true → s.power.hold = [] → s.power.clkSel ≠ 0 → ∃ u, exec .refLoss s = .next u ∧
    u.power.hold = [.reference] ∧ u.boot.lastReset = 6 ∧ u.count (okey 0x2000 2) = (s.count (okey 0x2000 2) + 1) % 2 ^ 64) ∧
  (∀ s : State, s.power.good = true → s.power.hold = [] → s.boot.mode ≠ .none_ → s.fuses.blowing = none →
    (s.boot.watchdogRecent = none → exec .mcWatchdog s = .next (s.warm 3)) ∧
    (∀ t, s.boot.watchdogRecent = some t → s.now ≤ t + 10 * watchHz → exec .mcWatchdog s = .next
      ((s.cold 3 []).leaveCold s.power.bootSel s.power.clkSel true))) ∧
  (∀ s : State, s.power.good = true → s.power.hold = [] → ∃ u, exec .mcUncorrectable s = .next u ∧ u.boot.lastReset = 7 ∧ u.jobs = [] ∧
    u.flogSeq = s.flogSeq + 1)

/-- Die, tile and context resets (R441, R453, R456 to R458): a die's reset clears it and takes it to Off until it is answered; a tile's zeroes
it; a context's stops its rings, and once its requests are gone its queue pairs are in RESET and its rings run again; an escalated die
ends its jobs and is reset. -/
def Obligations.PartResets : Prop :=
  (∀ (d : DieNo) (r : Requester) (v : Bytes) (s : State), leNat v = d.val → WriteMay s r 0x1200 2 v [] → s.isRetired (.die d) = false →
    s.dieTooHot d = false → (∀ e ∈ s.holders, e.2.onDie d = false) → (∀ e ∈ s.rings, ringDie e.1 ≠ d) →
    (∀ e ∈ s.boot.dieResets, e.1 ≠ d) → ∃ u, exec (.dieReset r v) s = .next u ∧ (d.val, r) ∈ u.boot.dieResets ∧ (u.die d).state = .off ∧
    (u.die d).pll = false ∧ (u.die d).phy = false ∧ (∀ i < 144, u.tile (144 * d + i) = {}) ∧ (∀ p ∈ u.pages, faDie p.base ≠ d) ∧
    u.jobs = s.jobs) ∧
  (∀ (t : TileNo) (r : Requester) (v : Bytes) (s : State), leNat v = t.val → WriteMay s r 0x1200 3 v [] → s.isRetired (.tile t) = false →
    s.isRetired (.die (dieOf t)) = false → (s.die (dieOf t)).state = .ready → (∀ e ∈ s.holders, (e.2.tileDecl t).isNone = true) → ∃ u,
    exec (.tileReset r v) s = .next u ∧ u.tile t = { power := (s.tile t).power, job := (s.tile t).job, hamper := (s.tile t).hamper.rinse,
                                                     lintRow := (s.tile t).lintRow } ∧
    (∀ i < sramEnd, Memory.read u.mem (sramFa t i) = 0) ∧ Replied u r .ok ∧ u.jobs = s.jobs) ∧
  (∀ (r : Requester) (v : Bytes) (s : State), WriteMay s r 0x1200 4 v [] → leNat v ≠ 0 → s.contextLive (leNat v) = true →
    (∀ e ∈ s.boot.ctxResets, e.1 ≠ leNat v) → ∃ u, exec (.contextReset r v) s = .next u ∧ (leNat v, r) ∈ u.boot.ctxResets ∧
    (∀ n x, s.ring? n = some x → u.ring? n = some (x.stop (leNat v))) ∧ u.mem = s.mem ∧ u.jobs = s.jobs) ∧
  (∀ (c : W16) (s : State), (∃ e ∈ s.boot.ctxResets, e.1 = c.toNat) → (∀ e ∈ s.reqs, e.2.ctx ≠ c.toNat) → ∃ u, exec (.contextResetDone c) s = .next u ∧
    (∀ q x, u.qp? q = some x → x.ctx ≠ c.toNat) ∧ (∀ n x, s.ring? n = some x → u.ring? n = some (x.restart c.toNat)) ∧
    (∃ q, KMap.find u.events c.toNat = some q ∧ q.items = []) ∧ (∀ e ∈ u.boot.ctxResets, e.1 ≠ c.toNat) ∧ u.windows = s.windows) ∧
  (∀ (d : DieNo) (s : State) (cmd : Instr), (cmd = .stewardLockup d ∨ cmd = .stewardUncorrectable d) → s.isRetired (.die d) = false →
    ((s.die d).state = .ready ∨ (s.die d).state = .soak) → ∃ u, exec cmd s = .next u ∧ (u.die d).state = .off ∧
    (∀ i < 144, u.tile (144 * d + i) = {}) ∧ (∀ j jb, s.job? j = some jb → jb.onDie d = true → jb.state ≠ .ended →
      ∀ jb', u.job? j = some jb' → jb'.state = .ended))

/-- Bring-up (R396, R451, R459, R460, R464): the boot ROM starts the module as its straps say; the attestation key sets ATTEST; dies get power
by eights, once the coolant is qualified; a die's PLL locks with its parts in order; its PHYs trained, it gets its remaps. -/
def Obligations.BringUp : Prop :=
  (∀ (ok : Bool) (s : State), s.power.good = true → s.power.hold = [] → s.boot.mode = .none_ → ∃ u, exec (.bootRom ok) s = .next u ∧
    (s.power.bootSel = 1 → u.boot.mode = .network ∧ u.boot.waiting = true) ∧
    (s.power.bootSel = 2 ∨ s.power.bootSel = 3 → u.boot.mode = .recovery) ∧
    (s.ledger.act.bank0 = none → s.ledger.act.bank1 = none → s.power.bootSel = 0 → u.boot.mode = .recovery) ∧
    (s.power.bootSel ≠ 0 → readyBit u 0 = true ∧ readyBit u 1 = true ∧ u.mem = s.mem)) ∧
  (∀ s : State, s.boot.mode ≠ .none_ → s.recovery = false → readyBit s 1 = true → readyBit s 2 = false → ∃ u, exec .akDerived s = .next u ∧
    readyBit u 2 = true ∧ u = { s with boot := u.boot, kop := u.kop, sent := u.sent, cnt := u.cnt }) ∧
  (∀ s : State, s.running = true → s.power.coolantOk = true → s.power.coolantHold = false → s.power.groups < 8 → ∃ u,
    exec .diePowerGroup s = .next u ∧ u.power = { s.power with groups := s.power.groups + 1 } ∧
    (∀ i < 8, s.isRetired (.die (8 * s.power.groups + i)) = false → (u.die (8 * s.power.groups + i)).powered = true) ∧
    u = { s with power := u.power, dies := u.dies }) ∧
  (∀ (d : DieNo) (ok : Bool) (s : State), s.running = true → (s.die d).powered = true → (s.die d).pll = false → (s.die d).state = .off →
    s.isRetired (.die d) = false → s.imagePartOk 2 = true → s.imagePartOk 3 = true → s.imagePartOk 4 = true → ∃ u,
    exec (.diePllLock d ok) s = .next u ∧ (u.die d).pll = true ∧ 2 ∈ u.boot.measured ∧ 3 ∈ u.boot.measured ∧ 4 ∈ u.boot.measured ∧
    u = { s with dies := u.dies, boot := u.boot, cnt := u.cnt }) ∧
  (∀ (d : DieNo) (s : State), s.running = true → (s.die d).pll = true → (s.die d).phy = false → (s.die d).state = .off →
    s.isRetired (.die d) = false → ∃ u, exec (.phyTrained d true) s = .next u ∧ (u.die d).phy = true ∧
    (u.die d).remaps = s.ledger.remaps.filter (fun e => e.die == d.val) ∧ ((s.die d).skipFill = true → (u.die d).state = .ready) ∧
    u.mem = s.mem ∧ u.jobs = s.jobs)

/-- Power (R442, R447; 19 R487, R488, R497): above the limit the governor stretches a die, below 95 % of it releases one; a supply trip
stretches every powered die and is logged; the bus's voltage is in its band, and beyond its limits power-good goes. -/
def Obligations.SupplyCommands : Prop :=
  (∀ (d : DieNo) (w : Nat) (s : State), s.running = true → s.powerLimit < w → (s.die d).powered = true → (s.die d).stretched = false → ∃ u,
    exec (.governorStretch d w) s = .next u ∧ u.die d = { s.die d with governor := true } ∧
    u.count (dkey d 0xC 5) = (s.count (dkey d 0xC 5) + 1) % 2 ^ 64 ∧ u.count (dkey d 0 8) = (s.count (dkey d 0 8) + 1) % 2 ^ 64 ∧
    u.power = { s.power with watts := w, peak := max s.power.peak w } ∧ u = { s with dies := u.dies, power := u.power, cnt := u.cnt }) ∧
  (∀ (d : DieNo) (w : Nat) (s : State), s.running = true → 100 * w < 95 * s.powerLimit → (s.die d).governor = true → ∃ u,
    exec (.governorRelease d w) s = .next u ∧ u.die d = { s.die d with governor := false } ∧
    u.power = { s.power with watts := w, peak := max s.power.peak w } ∧ u = { s with dies := u.dies, power := u.power, cnt := u.cnt }) ∧
  (∀ (w : Nat) (s : State), s.running = true → 19000 < w → ∃ u, exec (.supplyTrip w) s = .next u ∧ u.power.tripAlert = true ∧
    (∀ d, (s.die d).powered = true → (u.die d).governor = true) ∧ u.flogSeq = s.flogSeq + 1 ∧
    u.count (okey 0x2080 8) = (s.count (okey 0x2080 8) + 1) % 2 ^ 64 ∧ u.mem = s.mem ∧ u.jobs = s.jobs) ∧
  (∀ s : State, exec .supplyTripAlertEnd s = .next { s with power := { s.power with tripAlert := false } }) ∧
  (∀ (mv : Nat) (s : State), s.power.good = false → ∃ u, exec (.busInsert mv) s = .next u ∧ u.power.charged = true ∧ u.power.busMv = mv ∧
    u.power.band = (if mv < 44000 then .under else if mv < 48000 then .low else if mv ≤ 58000 then .operating
      else if mv ≤ 60000 then .high else .over) ∧ u = { s with power := u.power }) ∧
  (∀ (mv : Nat) (s : State) (cmd : Instr) (b : BusBand),
    ((cmd = .busHighBand mv ∧ b = .high ∧ s.power.good = true ∧ 58000 < mv ∧ mv ≤ 60000) ∨
     (cmd = .busHighBandExit mv ∧ b = .operating ∧ s.power.band = .high ∧ 48000 ≤ mv ∧ mv ≤ 58000) ∨
     (cmd = .busLowBand mv ∧ b = .low ∧ s.power.good = true ∧ 44000 ≤ mv ∧ mv < 48000) ∨
     (cmd = .busLowRecover mv ∧ b = .operating ∧ s.power.band = .low ∧ 48000 ≤ mv ∧ mv ≤ 58000)) →
    exec cmd s = .next { s with power := { s.power with busMv := mv, band := b } }) ∧
  (∀ (mv : Nat) (s : State) (cmd : Instr) (b : BusBand), s.power.good = true →
    ((cmd = .busOvervolt mv ∧ b = .over ∧ 60000 < mv) ∨ (cmd = .busUndervolt mv ∧ b = .under ∧ mv < 44000)) → ∃ u, exec cmd s = .next u ∧
    u.power.good = false ∧ u.power.band = b ∧ u.power.busMv = mv ∧ u.power.hold = [.power] ∧ u.mem = [] ∧ u.jobs = [])

/-- Temperature and coolant (R443; 19 R492, R494): a crossing of a die's warning threshold is noted and, upward, logged; a throttled die is
stretched until it has cooled; a tripped one ends its jobs and is held; coolant outside its limits holds every powered die, and back in
its range lets those that have cooled come up. -/
def Obligations.ThermalCommands : Prop :=
  (∀ (d : DieNo) (temp : Int) (s : State), (s.die d).powered = true → ∃ u, exec (.thermalWarn d temp) s = .next u ∧ (u.die d).temp = temp ∧
    (s.dieWarn ≤ temp → (s.die d).thermal = 0 → (u.die d).thermal = 1 ∧ u.flogSeq = s.flogSeq + 1) ∧
    (temp < s.dieWarn → (s.die d).thermal = 1 → (u.die d).thermal = 0 ∧ u = { s with dies := u.dies }) ∧ u.mem = s.mem ∧ u.jobs = s.jobs) ∧
  (∀ (d : DieNo) (temp : Int) (s : State), (s.die d).powered = true → s.dieThrottle ≤ temp → (s.die d).thermal < 2 → ∃ u,
    exec (.thermalThrottle d temp) s = .next u ∧ (u.die d).temp = temp ∧ (u.die d).thermal = 2 ∧ (u.die d).throttle = true ∧
    u.count (dkey d 0xC 4) = (s.count (dkey d 0xC 4) + 1) % 2 ^ 64 ∧ u.mem = s.mem ∧ u.jobs = s.jobs) ∧
  (∀ (d : DieNo) (temp : Int) (s : State), temp < s.dieThrottle - 500 → (s.die d).thermal = 2 → ∃ u,
    exec (.thermalThrottleEnd d temp) s = .next u ∧ (u.die d).throttle = false ∧
    (u.die d).thermal = (if s.dieWarn ≤ temp then 1 else 0) ∧ u = { s with dies := u.dies, cnt := u.cnt }) ∧
  (∀ (d : DieNo) (temp : Int) (s : State), (s.die d).powered = true → 11500 ≤ temp → (s.die d).thermal ≠ 3 →
    s.isRetired (.die d) = false → ∃ u, exec (.thermalTrip d temp) s = .next u ∧ (u.die d).state = .held ∧ (u.die d).thermal = 3 ∧
    (u.die d).temp = temp ∧ (∀ i < 144, u.tile (144 * d + i) = {})) ∧
  (∀ (inlet outlet : Int) (flow : Nat) (fault : Bool) (s : State), s.awake = true → s.power.coolantHold = false →
    coolantOutside inlet flow fault = true → ∃ u, exec (.coolantHold inlet outlet flow fault) s = .next u ∧ u.power.coolantHold = true ∧
    u.power.inlet = inlet ∧ u.power.flow = flow ∧
    (∀ d, (s.die d).powered = true → s.isRetired (.die d) = false → (u.die d).state = .held ∧ d ∈ u.power.heldDies)) ∧
  (∀ (inlet outlet : Int) (flow : Nat) (s : State), s.awake = true → s.power.coolantHold = true → coolantInRange inlet flow = true → ∃ u,
    exec (.coolantRelease inlet outlet flow) s = .next u ∧ u.power.coolantHold = false ∧ u.power.coolantOk = true ∧
    (∀ d ∈ u.power.heldDies, d ∈ s.power.heldDies ∧ 9000 < (u.die d).temp)) ∧
  (∀ (d : DieNo) (temp : Int) (s : State), s.awake = true → s.power.coolantHold = false → temp ≤ 9000 → d.val ∈ s.power.heldDies → ∃ u,
    exec (.heldDieCooled d temp) s = .next u ∧ (u.die d).state = .off ∧ (u.die d).temp = temp ∧ d.val ∉ u.power.heldDies) ∧
  (∀ (inlet outlet : Int) (flow : Nat) (s : State), s.awake = true → s.power.coolantOk = false → s.power.coolantHold = false →
    coolantInRange inlet flow = true → exec (.coolantQualified inlet outlet flow) s = .next
      { s with power := { s.power with inlet := inlet, outlet := outlet, flow := flow, coolantOk := true } })

/-! ### Firmware, fuses, the ledger, the log, the TAP (18, 17, 16, 19) -/

/-- Firmware update (R474 to R478, R481): a prepare erases its blocks of the slot the record does not name, or empties network boot's memory;
an erase that read back ends EMPTY, another fails staging; an activation, a confirm and a revert of what they may act on have their record
written, fuses first where the release needs them. An activation whose slot fails its checks fails staging with the reason of the first
check that failed (whether an SLH-DSA signature verifies is a free value, log 2). -/
def Obligations.FirmwareCommands : Prop :=
  (∀ (r : Requester) (v : Bytes) (s : State), WriteMay s r 0x2801 1 v [] → 8 ≤ leNat v → leNat v ≤ s.stageMax → s.prepareRefused = false →
    ∃ u, exec (.stagePrepare r v) s = .next u ∧ Replied u r .ok ∧ u.boot.stage.prepared = leNat v ∧
    (s.networkWait = true → u.boot.stage.state = .empty ∧ u.boot.stage.erased = leNat v ∧ u.boot.image = [] ∧ u.ledger = s.ledger) ∧
    (s.networkWait = false → u.boot.stage.state = .erasing ∧ u.boot.stage.targetB = s.stageTarget ∧
      (∀ a, KMap.find u.ledger.flash a = if slotBase s.stageTarget ≤ a ∧ a < slotBase s.stageTarget + leNat v * blockBytes then none
        else KMap.find s.ledger.flash a)) ∧
    u = { s with boot := u.boot, ledger := u.ledger, cnt := u.cnt, sent := u.sent, kop := u.kop }) ∧
  (∀ s : State, s.boot.stage.state = .erasing → exec (.prepareEraseDone none) s = .next
    (s.setStage { s.boot.stage with state := .empty, erased := s.boot.stage.prepared })) ∧
  (∀ (b : Nat) (s : State), s.boot.stage.state = .erasing → b < s.boot.stage.prepared → ∃ u, exec (.prepareEraseDone (some b)) s = .next u ∧
    u.boot.stage.state = .failed ∧ u.boot.stage.reason = 8 ∧ u.boot.stage.bad = BitVec.ofNat 32 b ∧
    u.count (okey 0x2800 8) = (s.count (okey 0x2800 8) + 1) % 2 ^ 64 ∧ u.flogSeq = s.flogSeq + 1) ∧
  (∀ (r : Requester) (v : Bytes) (s : State) (cmd : Instr),
    ((cmd = .activateWarm r v ∧ v = [0x01]) ∨ (cmd = .activateCold r v ∧ v = [0x02]) ∨ (cmd = .activateDefer r v ∧ v = [0x03])) →
    WriteMay s r 0x2801 4 v [] → s.boot.mode ≠ .network → s.boot.stage.state = .verified → ∃ u, exec cmd s = .next u ∧
    (s.slotFault s.ledger.flash (slotBase s.boot.stage.targetB) = none →
      u.ledger = { s.ledger with actWrite := some (.activate r (leNat v) s.activation) } ∧
      u.boot = { s.boot with stage := { s.boot.stage with state := .activating } } ∧ u = { s with boot := u.boot, ledger := u.ledger }) ∧
    (∀ f, s.slotFault s.ledger.flash (slotBase s.boot.stage.targetB) = some f → u.boot.stage.state = .failed ∧ u.boot.stage.reason = f.1 ∧
      Replied u r .badDescriptor ∧ u.ledger.actWrite = s.ledger.actWrite ∧ u.ledger.act = s.ledger.act)) ∧
  (∀ (r : Requester) (s : State) (a : ActRec), WriteMay s r 0x2801 5 [0x01] [] → s.boot.mode ≠ .network → s.act? = some a →
    a.trial = true →
    (s.fuses.rollback < s.slotRollback a.slotB → exec (.confirm r [0x01]) s = .next
      { s with fuses := { s.fuses with blowing := some (.rollback r (s.slotRollback a.slotB)) } }) ∧
    (s.slotRollback a.slotB ≤ s.fuses.rollback → exec (.confirm r [0x01]) s = .next
      { s with ledger := { s.ledger with actWrite := some (.confirm r { a with trial := false, attempts := 0 }) } })) ∧
  (∀ (r : Requester) (s : State) (a : ActRec), WriteMay s r 0x2801 5 [0x02] [] → s.boot.mode ≠ .network → s.act? = some a →
    a.trial = true → s.revertBarred = false → exec (.revert r [0x02]) s = .next
      { s with ledger := { s.ledger with actWrite := some (.revert r a.reverted) } })

/-- Fuses and the ledger (R465, R401, R473, R481; 19 R498): a seal fuse that was programmed is blown, the second after the first; a rollback
fuse raises the counter; a write of the object banks that succeeded puts its copy in force and is answered, one that failed leaves the
copy in force; so does the record's; an erase that ends frees its bank; then messages that waited begin. -/
def Obligations.FusesAndLedger : Prop :=
  (∀ (s : State) (r : Requester), s.fuses.blowing = some (.seal r false) → s.fuses.deferred = [] → ∃ u : State,
    exec (.fuseProgramDone true) s = .next u.wake ∧
    u = { s with fuses := { s.fuses with seal0 := true, blowing := some (.seal r true) } }) ∧
  (∀ (s : State) (r : Requester) (sn : Session), s.fuses.blowing = some (.seal r true) → s.fuses.deferred = [] →
    s.session? r.sid = some sn → ∃ u : State, exec (.fuseProgramDone true) s = .next u.wake ∧ Replied u r .ok ∧
    u.fuses = { s.fuses with seal1 := true, blowing := none } ∧ u = { s with fuses := u.fuses, cnt := u.cnt, sent := u.sent, kop := u.kop }) ∧
  (∀ (s : State) (r : Requester) (n : Nat), s.fuses.blowing = some (.rollback r n) → s.fuses.deferred = [] →
    s.fuses.rollback + 1 < n → ∃ u : State, exec (.fuseProgramDone true) s = .next u.wake ∧
    u = { s with fuses := { s.fuses with rollback := s.fuses.rollback + 1 } }) ∧
  (∀ (s : State) (w : LedgerWrite) (sn : Session), s.ledger.objWrite = some w → s.ledger.obj.erasing = false →
    s.session? w.r.sid = some sn → ∃ u : State, exec (.ledgerWriteDone true true) s = .next u.settleStage.wake ∧
    Replied u w.r .ok ∧ u.ledger.obj = s.ledger.obj.commit w.body ∧
    (w.key ≠ okey 0x2900 1 → KMap.find u.objs w.key = some w.v ∧ ∀ k, k ≠ w.key → KMap.find u.objs k = KMap.find s.objs k)) ∧
  (∀ (s : State) (w : LedgerWrite) (sn : Session), s.ledger.objWrite = some w → s.ledger.obj.erasing = false →
    s.session? w.r.sid = some sn → ∃ u : State, exec (.ledgerWriteDone true false) s = .next u.settleStage.wake ∧
    Replied u w.r .retryExhausted ∧ u.ledger.obj.current = s.ledger.obj.current ∧ u.objs = s.objs) ∧
  (∀ (s : State) (r : Requester) (a : ActRec) (sn : Session), s.ledger.actWrite = some (.confirm r a) → s.ledger.act.erasing = false →
    s.session? r.sid = some sn → ∃ u : State, exec (.ledgerWriteDone false true) s = .next u.wake ∧ Replied u r .ok ∧
    u.ledger.act = s.ledger.act.commit a ∧ u.ledger.actWrite = none) ∧
  (∀ s : State, s.ledger.act.erasing = true → exec (.ledgerEraseDone false) s = .next
    { s with ledger := { s.ledger with act := s.ledger.act.erased } }) ∧
  (∀ s : State, s.ledger.obj.erasing = true → ∃ u, exec (.ledgerEraseDone true) s = .next u ∧ u.ledger.obj = s.ledger.obj.erased ∧
    u = { s with ledger := u.ledger })

/-- The fault log's summary and its rinse (R445, R446): the records since the last summary are counted by kind and the last 64 of the kinds
kept stay; a rinse empties the log's queue. The TAP (R500 to R502; 14 R401, R402): while power-good is asserted each instruction is
selected, IDCODE shifts the identification out, EXTEST loads the boundary register, and Test-Logic-Reset closes a debug connection; a
debug code opens one only while the seal is open. -/
def Obligations.LogAndTapCommands : Prop :=
  (
  (∀ s : State, ∃ u, exec .ledgerSummaryWrite s = .next u ∧ u.ledger.sumPending = [] ∧ u.ledger.sumRecs.length ≤ 64 ∧
    (∀ r ∈ u.ledger.sumRecs, r ∈ s.ledger.sumRecs ∨ (r ∈ s.ledger.sumPending ∧ keptKind (field r 5 1) = true)) ∧
    (∀ k, (s.ledger.sumPending.length + KMap.getOr 0 s.ledger.sumCounts k < 2 ^ 64) → KMap.getOr 0 u.ledger.sumCounts k =
      KMap.getOr 0 s.ledger.sumCounts k + (s.ledger.sumPending.filter (fun r => field r 5 1 == k)).length) ∧
    u = { s with ledger := u.ledger }) ∧
  (∀ (r : Requester) (s : State), WriteMay s r 0x6000 4 [0x01] [] → ∃ u, exec (.logRinse r [0x01]) s = .next u ∧ u.flog = s.flog.rinse ∧
    Replied u r .ok ∧ u = { s with flog := u.flog, cnt := u.cnt, sent := u.sent, kop := u.kop })) ∧
  (
  ∀ s : State, s.power.good = true →
    exec .tapExtest s = .next { s with tap := { s.tap with ir := 0x00 } } ∧
    exec .tapBypass s = .next { s with tap := { s.tap with ir := 0xFF } } ∧
    (∃ u, exec .tapIdcode s = .next u ∧ u.tap = { s.tap with ir := 0x02 } ∧ u.sent = .tdo 0x1A6408C3 :: s.sent ∧
      u = { s with tap := u.tap, sent := u.sent }) ∧
    exec .tapTestLogicReset s = .next { s with tap := { s.tap with ir := 0x02, debugOpen := false } } ∧
    (∀ bits : Byte, s.tap.ir = 0x00 → exec (.tapUpdateDr bits) s = .next { s with tap := { s.tap with boundary := some bits } }) ∧
    (∀ code : Byte, 0x10 ≤ code → code ≤ 0x3F → ∃ u, exec (.tapVendorDebug code) s = .next u ∧
      (s.sealBlown = true → u = { s with tap := { s.tap with ir := 0xFF } }) ∧
      (s.sealBlown = false → u = { s with tap := { s.tap with ir := code, debugOpen := true }, boot := { s.boot with debugOpened := true } })))

/-! ### Reset and what every command keeps -/

/-- Memory keeps its canonical form, addresses rising and no byte listed that reads as zero, through every step. That an unlisted byte reads
as zero is the model's choice (log 8). -/
def Obligations.MemoryStaysCanonical : Prop :=
  ∀ s s' : State, Memory.wf s.mem = true → step s = .next s' → Memory.wf s'.mem = true

/-- The module right after reset (R450, R453, R345, R362): it serves nothing yet: no job, request, session, ring or context, no die ready,
nothing in memory, not claimed, nothing waiting. That nothing is in memory is the model's choice (log 8). State after reset has its memory
in canonical form and no debug connection open. -/
def Obligations.ResetState : Prop :=
  (
  State.reset.pending = [] ∧ State.reset.boot.mode = .none_ ∧ State.reset.boot.ready = 0 ∧ State.reset.jobs = [] ∧ State.reset.reqs = [] ∧
  State.reset.kop.sessions = [] ∧ State.reset.kop.claimed = false ∧ State.reset.rings = [] ∧ State.reset.contexts = [] ∧
  State.reset.mem = [] ∧ (∀ d, (State.reset.die d).state = .off) ∧ State.reset.sealBlown = false ∧ State.reset.tap.debugOpen = false ∧
  State.reset.portA.rate = 0 ∧ State.reset.portB.rate = 0) ∧
  (
  Memory.wf State.reset.mem = true ∧ (State.reset.sealBlown = true → State.reset.tap.debugOpen = false))

/-- A sealed module stays sealed, and its rollback counter never falls (R401, R473): no step takes a blown seal fuse or a counted rollback
fuse back, and once the seal is blown and no debug connection is open, none ever opens (R402). -/
def Obligations.SealIsForGood : Prop :=
  ∀ s s' : State, step s = .next s' → s.fuses.rollback ≤ s'.fuses.rollback ∧ (s.sealBlown = true → s'.sealBlown = true) ∧
    (s.sealBlown = true → s.tap.debugOpen = false → s'.tap.debugOpen = false)

/-- Commands wait in order (the model's queue): a step with commands waiting takes the first and leaves the others as they were. The queue is
the model's own (log 1). -/
def Obligations.QueueInOrder : Prop :=
  ∀ (c : Instr) (rest : List Instr) (s s' : State), s.pending = c :: rest → step s = .next s' → s'.pending = rest
end

