-- ==== Sys2Proof/Laws/Maps.lean ====
section
/-! SUPPORT. Finite maps and sets: what a lookup finds after a change, and that every change keeps the keys strictly rising. -/

namespace Sys2Proof.Machine

theorem KMap.find_put {α : Type} (m : KMap α) (k i : Nat) (v : α) :
    KMap.find (KMap.put m k v) i = if k = i then some v else KMap.find m i := by
  induction m with
  | nil => simp [KMap.put, KMap.find]
  | cons e m ih =>
    obtain ⟨a, w⟩ := e
    simp only [KMap.put]
    split
    · simp [KMap.find]
    · split
      · subst a; simp only [KMap.find]; split <;> rfl
      · simp only [KMap.find, ih]
        split
        · rename_i h1; subst h1; split <;> simp_all
        · rfl

@[simp] theorem KMap.find_put_self {α : Type} (m : KMap α) (k : Nat) (v : α) : KMap.find (KMap.put m k v) k = some v := by
  simp [KMap.find_put]

@[simp] theorem KMap.getOr_put_self {α : Type} (d : α) (m : KMap α) (k : Nat) (v : α) : KMap.getOr d (KMap.put m k v) k = v := by
  simp [KMap.getOr]

theorem KMap.getOr_put {α : Type} (d : α) (m : KMap α) (k i : Nat) (v : α) :
    KMap.getOr d (KMap.put m k v) i = if k = i then v else KMap.getOr d m i := by
  simp only [KMap.getOr, KMap.find_put]; split <;> rfl

theorem KMap.find_filter {α : Type} (m : KMap α) (p : Nat → Bool) (i : Nat) :
    KMap.find (m.filter (fun e => p e.1)) i = if p i then KMap.find m i else none := by
  induction m with
  | nil => simp [KMap.find]
  | cons e m ih =>
    obtain ⟨a, w⟩ := e
    simp only [List.filter_cons]
    split
    · simp only [KMap.find, ih]; split
      · rename_i h1 h2; subst h2; simp [h1]
      · rfl
    · rename_i h; simp only [ih, KMap.find]
      split
      · split
        · rename_i h1 h2; subst h2; simp_all
        · rfl
      · rfl

theorem KMap.find_del {α : Type} (m : KMap α) (k i : Nat) :
    KMap.find (KMap.del m k) i = if k = i then none else KMap.find m i := by
  have h := KMap.find_filter m (fun x => decide (x ≠ k)) i
  unfold KMap.del
  rw [h]
  by_cases hk : k = i <;> simp [hk]
  intro h2; exact absurd h2.symm hk

theorem KMap.find_delRange {α : Type} (m : KMap α) (lo hi i : Nat) :
    KMap.find (KMap.delRange m lo hi) i = if lo ≤ i ∧ i < hi then none else KMap.find m i := by
  have h := KMap.find_filter m (fun x => decide (¬ (lo ≤ x ∧ x < hi))) i
  unfold KMap.delRange
  rw [h]
  by_cases hk : lo ≤ i ∧ i < hi <;> simp [hk]

/-- Strictly rising keys, said of every pair in order. -/
theorem KMap.sorted_iff {α : Type} (m : KMap α) : KMap.sorted m = true ↔ m.Pairwise (fun a b => a.1 < b.1) := by
  induction m with
  | nil => simp [KMap.sorted]
  | cons e m ih =>
    obtain ⟨a, v⟩ := e
    cases m with
    | nil => simp [KMap.sorted]
    | cons f m =>
      obtain ⟨b, w⟩ := f
      simp only [KMap.sorted, Bool.and_eq_true, decide_eq_true_eq, ih]
      constructor
      · rintro ⟨h, hp⟩
        refine List.pairwise_cons.2 ⟨fun x hx => ?_, hp⟩
        rcases List.mem_cons.1 hx with rfl | hx
        · exact h
        · exact Nat.lt_trans h ((List.pairwise_cons.1 hp).1 x hx)
      · intro hp
        exact ⟨(List.pairwise_cons.1 hp).1 _ (List.mem_cons_self ..), (List.pairwise_cons.1 hp).2⟩

theorem KMap.sorted_filter {α : Type} (m : KMap α) (p : Nat × α → Bool) (h : KMap.sorted m = true) :
    KMap.sorted (m.filter p) = true :=
  (KMap.sorted_iff _).2 (((KMap.sorted_iff m).1 h).sublist List.filter_sublist)

theorem KMap.sorted_del {α : Type} (m : KMap α) (k : Nat) (h : KMap.sorted m = true) : KMap.sorted (KMap.del m k) = true :=
  KMap.sorted_filter m _ h

theorem KMap.sorted_delRange {α : Type} (m : KMap α) (lo hi : Nat) (h : KMap.sorted m = true) :
    KMap.sorted (KMap.delRange m lo hi) = true :=
  KMap.sorted_filter m _ h

theorem KMap.mem_put {α : Type} (m : KMap α) (k : Nat) (v : α) (e : Nat × α) (h : e ∈ KMap.put m k v) :
    e = (k, v) ∨ e ∈ m := by
  induction m with
  | nil => simpa [KMap.put] using h
  | cons f m ih =>
    obtain ⟨a, w⟩ := f
    simp only [KMap.put] at h
    split at h
    · simpa using h
    · split at h
      · rcases List.mem_cons.1 h with h | h
        · exact .inl h
        · exact .inr (List.mem_cons_of_mem _ h)
      · rcases List.mem_cons.1 h with h | h
        · exact .inr (h ▸ List.mem_cons_self ..)
        · rcases ih h with h | h
          · exact .inl h
          · exact .inr (List.mem_cons_of_mem _ h)

theorem KMap.sorted_put {α : Type} (m : KMap α) (k : Nat) (v : α) (h : KMap.sorted m = true) :
    KMap.sorted (KMap.put m k v) = true := by
  rw [KMap.sorted_iff] at h ⊢
  induction m with
  | nil => simp [KMap.put]
  | cons f m ih =>
    obtain ⟨a, w⟩ := f
    obtain ⟨ha, hm⟩ := List.pairwise_cons.1 h
    simp only [KMap.put]
    split
    · rename_i hk
      refine List.pairwise_cons.2 ⟨fun x hx => ?_, h⟩
      rcases List.mem_cons.1 hx with rfl | hx
      · exact hk
      · exact Nat.lt_trans hk (ha x hx)
    · split
      · rename_i hk; subst hk; exact List.pairwise_cons.2 ⟨ha, hm⟩
      · rename_i h1 h2
        refine List.pairwise_cons.2 ⟨fun x hx => ?_, ih hm⟩
        rcases KMap.mem_put m k v x hx with rfl | hx
        · show a < k; omega
        · exact ha x hx

theorem NSet.mem_add (s : NSet) (k i : Nat) : i ∈ NSet.add s k ↔ i = k ∨ i ∈ s := by
  induction s with
  | nil => simp [NSet.add]
  | cons x s ih =>
    simp only [NSet.add]
    split
    · simp
    · split
      · rename_i h; subst h; simp
      · simp only [List.mem_cons, ih]; tauto

theorem NSet.mem_del (s : NSet) (k i : Nat) : i ∈ NSet.del s k ↔ i ∈ s ∧ i ≠ k := by simp [NSet.del]

theorem NSet.mem_delRange (s : NSet) (lo hi i : Nat) : i ∈ NSet.delRange s lo hi ↔ i ∈ s ∧ ¬ (lo ≤ i ∧ i < hi) := by
  simp [NSet.delRange]; omega

end Sys2Proof.Machine
end

