-- ==== Sys2Proof/Laws/Memory.lean ====
section
/-! SUPPORT. Byte memory: what a read finds after a write, and that every memory operation keeps the canonical form. -/

namespace Sys2Proof.Machine

theorem Memory.read_write (m : List Host.Cell) (a : Nat) (v : Byte) (b : Nat) :
    Memory.read (Memory.write m a v) b = if a = b then v else Memory.read m b := by
  unfold Memory.write Memory.read KMap.getOr
  split
  · rename_i h; subst h; rw [KMap.find_del]; split <;> rfl
  · rw [KMap.find_put]; split <;> rfl

theorem Memory.read_zero (m : List Host.Cell) (a n b : Nat) :
    Memory.read (Memory.zero m a n) b = if a ≤ b ∧ b < a + n then 0 else Memory.read m b := by
  unfold Memory.zero Memory.read KMap.getOr
  rw [KMap.find_delRange]; split <;> rfl

theorem Memory.wf_iff (m : List Host.Cell) :
    Memory.wf m = true ↔ KMap.sorted m = true ∧ ∀ c ∈ m, c.2 ≠ Memory.unlisted := by
  simp [Memory.wf]

/-- A single byte written keeps the canonical form. -/
@[simp] theorem Memory.wf_write (m : List Host.Cell) (a : Nat) (v : Byte) (h : Memory.wf m = true) :
    Memory.wf (Memory.write m a v) = true := by
  rw [Memory.wf_iff] at h ⊢
  unfold Memory.write
  split
  · exact ⟨KMap.sorted_del m a h.1, fun c hc => h.2 c (List.mem_of_mem_filter hc)⟩
  · rename_i hv
    refine ⟨KMap.sorted_put m a v h.1, fun c hc => ?_⟩
    rcases KMap.mem_put m a v c hc with rfl | hc
    · exact hv
    · exact h.2 c hc

/-- A run of bytes written keeps the canonical form. -/
@[simp] theorem Memory.wf_writes (m : List Host.Cell) (a : Nat) (bs : Bytes) (h : Memory.wf m = true) :
    Memory.wf (Memory.writes m a bs) = true := by
  induction bs generalizing m a with
  | nil => exact h
  | cons b bs ih => exact ih _ _ (Memory.wf_write m a b h)

/-- A part of memory kept, the rest at zero, is in the canonical form. -/
@[simp] theorem Memory.wf_filter (m : List Host.Cell) (p : Host.Cell → Bool) (h : Memory.wf m = true) : Memory.wf (m.filter p) = true := by
  rw [Memory.wf_iff] at h ⊢
  exact ⟨KMap.sorted_filter m p h.1, fun c hc => h.2 c (List.mem_of_mem_filter hc)⟩

/-- A run set to zero keeps the canonical form. -/
@[simp] theorem Memory.wf_zero (m : List Host.Cell) (a n : Nat) (h : Memory.wf m = true) : Memory.wf (Memory.zero m a n) = true :=
  Memory.wf_filter m _ h

/-- Memory at reset is in the canonical form. -/
theorem State.reset_mem_wf : Memory.wf State.reset.mem = true := rfl

end Sys2Proof.Machine
end

