-- ==== Sys2Proof/Laws/State.lean ====
section
/-! SUPPORT. The state under its plain updates: one lemma per field an update leaves, and what the field it writes holds after. -/

namespace Sys2Proof.Machine

/-! `State.setTile` -/

@[simp] theorem State.setTile_pending (s : State) (t : Nat) (x : Tile) : (s.setTile t x).pending = s.pending := rfl
@[simp] theorem State.setTile_free (s : State) (t : Nat) (x : Tile) : (s.setTile t x).free = s.free := rfl
@[simp] theorem State.setTile_sent (s : State) (t : Nat) (x : Tile) : (s.setTile t x).sent = s.sent := rfl
@[simp] theorem State.setTile_now (s : State) (t : Nat) (x : Tile) : (s.setTile t x).now = s.now := rfl
@[simp] theorem State.setTile_cnt (s : State) (t : Nat) (x : Tile) : (s.setTile t x).cnt = s.cnt := rfl
@[simp] theorem State.setTile_objs (s : State) (t : Nat) (x : Tile) : (s.setTile t x).objs = s.objs := rfl
@[simp] theorem State.setTile_fuses (s : State) (t : Nat) (x : Tile) : (s.setTile t x).fuses = s.fuses := rfl
@[simp] theorem State.setTile_ledger (s : State) (t : Nat) (x : Tile) : (s.setTile t x).ledger = s.ledger := rfl
@[simp] theorem State.setTile_power (s : State) (t : Nat) (x : Tile) : (s.setTile t x).power = s.power := rfl
@[simp] theorem State.setTile_tap (s : State) (t : Nat) (x : Tile) : (s.setTile t x).tap = s.tap := rfl
@[simp] theorem State.setTile_boot (s : State) (t : Nat) (x : Tile) : (s.setTile t x).boot = s.boot := rfl
@[simp] theorem State.setTile_kop (s : State) (t : Nat) (x : Tile) : (s.setTile t x).kop = s.kop := rfl
@[simp] theorem State.setTile_portA (s : State) (t : Nat) (x : Tile) : (s.setTile t x).portA = s.portA := rfl
@[simp] theorem State.setTile_portB (s : State) (t : Nat) (x : Tile) : (s.setTile t x).portB = s.portB := rfl
@[simp] theorem State.setTile_qps (s : State) (t : Nat) (x : Tile) : (s.setTile t x).qps = s.qps := rfl
@[simp] theorem State.setTile_rings (s : State) (t : Nat) (x : Tile) : (s.setTile t x).rings = s.rings := rfl
@[simp] theorem State.setTile_crings (s : State) (t : Nat) (x : Tile) : (s.setTile t x).crings = s.crings := rfl
@[simp] theorem State.setTile_windows (s : State) (t : Nat) (x : Tile) : (s.setTile t x).windows = s.windows := rfl
@[simp] theorem State.setTile_events (s : State) (t : Nat) (x : Tile) : (s.setTile t x).events = s.events := rfl
@[simp] theorem State.setTile_modEvents (s : State) (t : Nat) (x : Tile) : (s.setTile t x).modEvents = s.modEvents := rfl
@[simp] theorem State.setTile_flog (s : State) (t : Nat) (x : Tile) : (s.setTile t x).flog = s.flog := rfl
@[simp] theorem State.setTile_flogSeq (s : State) (t : Nat) (x : Tile) : (s.setTile t x).flogSeq = s.flogSeq := rfl
@[simp] theorem State.setTile_contexts (s : State) (t : Nat) (x : Tile) : (s.setTile t x).contexts = s.contexts := rfl
@[simp] theorem State.setTile_domains (s : State) (t : Nat) (x : Tile) : (s.setTile t x).domains = s.domains := rfl
@[simp] theorem State.setTile_regions (s : State) (t : Nat) (x : Tile) : (s.setTile t x).regions = s.regions := rfl
@[simp] theorem State.setTile_fills (s : State) (t : Nat) (x : Tile) : (s.setTile t x).fills = s.fills := rfl
@[simp] theorem State.setTile_parts (s : State) (t : Nat) (x : Tile) : (s.setTile t x).parts = s.parts := rfl
@[simp] theorem State.setTile_jobs (s : State) (t : Nat) (x : Tile) : (s.setTile t x).jobs = s.jobs := rfl
@[simp] theorem State.setTile_load (s : State) (t : Nat) (x : Tile) : (s.setTile t x).load = s.load := rfl
@[simp] theorem State.setTile_lastLoad (s : State) (t : Nat) (x : Tile) : (s.setTile t x).lastLoad = s.lastLoad := rfl
@[simp] theorem State.setTile_arb (s : State) (t : Nat) (x : Tile) : (s.setTile t x).arb = s.arb := rfl
@[simp] theorem State.setTile_dies (s : State) (t : Nat) (x : Tile) : (s.setTile t x).dies = s.dies := rfl
@[simp] theorem State.setTile_mem (s : State) (t : Nat) (x : Tile) : (s.setTile t x).mem = s.mem := rfl
@[simp] theorem State.setTile_poison (s : State) (t : Nat) (x : Tile) : (s.setTile t x).poison = s.poison := rfl
@[simp] theorem State.setTile_keyed (s : State) (t : Nat) (x : Tile) : (s.setTile t x).keyed = s.keyed := rfl
@[simp] theorem State.setTile_pages (s : State) (t : Nat) (x : Tile) : (s.setTile t x).pages = s.pages := rfl
@[simp] theorem State.setTile_repairs (s : State) (t : Nat) (x : Tile) : (s.setTile t x).repairs = s.repairs := rfl
@[simp] theorem State.setTile_routed (s : State) (t : Nat) (x : Tile) : (s.setTile t x).routed = s.routed := rfl
@[simp] theorem State.setTile_colls (s : State) (t : Nat) (x : Tile) : (s.setTile t x).colls = s.colls := rfl
@[simp] theorem State.setTile_tables (s : State) (t : Nat) (x : Tile) : (s.setTile t x).tables = s.tables := rfl
@[simp] theorem State.setTile_vocabs (s : State) (t : Nat) (x : Tile) : (s.setTile t x).vocabs = s.vocabs := rfl
@[simp] theorem State.setTile_models (s : State) (t : Nat) (x : Tile) : (s.setTile t x).models = s.models := rfl
@[simp] theorem State.setTile_stores (s : State) (t : Nat) (x : Tile) : (s.setTile t x).stores = s.stores := rfl
@[simp] theorem State.setTile_templates (s : State) (t : Nat) (x : Tile) : (s.setTile t x).templates = s.templates := rfl
@[simp] theorem State.setTile_grammars (s : State) (t : Nat) (x : Tile) : (s.setTile t x).grammars = s.grammars := rfl
@[simp] theorem State.setTile_patches (s : State) (t : Nat) (x : Tile) : (s.setTile t x).patches = s.patches := rfl
@[simp] theorem State.setTile_reqs (s : State) (t : Nat) (x : Tile) : (s.setTile t x).reqs = s.reqs := rfl
@[simp] theorem State.setTile_nextHandle (s : State) (t : Nat) (x : Tile) : (s.setTile t x).nextHandle = s.nextHandle := rfl

/-! `State.modTile` -/

@[simp] theorem State.modTile_pending (s : State) (t : Nat) (f : Tile → Tile) : (s.modTile t f).pending = s.pending := rfl
@[simp] theorem State.modTile_free (s : State) (t : Nat) (f : Tile → Tile) : (s.modTile t f).free = s.free := rfl
@[simp] theorem State.modTile_sent (s : State) (t : Nat) (f : Tile → Tile) : (s.modTile t f).sent = s.sent := rfl
@[simp] theorem State.modTile_now (s : State) (t : Nat) (f : Tile → Tile) : (s.modTile t f).now = s.now := rfl
@[simp] theorem State.modTile_cnt (s : State) (t : Nat) (f : Tile → Tile) : (s.modTile t f).cnt = s.cnt := rfl
@[simp] theorem State.modTile_objs (s : State) (t : Nat) (f : Tile → Tile) : (s.modTile t f).objs = s.objs := rfl
@[simp] theorem State.modTile_fuses (s : State) (t : Nat) (f : Tile → Tile) : (s.modTile t f).fuses = s.fuses := rfl
@[simp] theorem State.modTile_ledger (s : State) (t : Nat) (f : Tile → Tile) : (s.modTile t f).ledger = s.ledger := rfl
@[simp] theorem State.modTile_power (s : State) (t : Nat) (f : Tile → Tile) : (s.modTile t f).power = s.power := rfl
@[simp] theorem State.modTile_tap (s : State) (t : Nat) (f : Tile → Tile) : (s.modTile t f).tap = s.tap := rfl
@[simp] theorem State.modTile_boot (s : State) (t : Nat) (f : Tile → Tile) : (s.modTile t f).boot = s.boot := rfl
@[simp] theorem State.modTile_kop (s : State) (t : Nat) (f : Tile → Tile) : (s.modTile t f).kop = s.kop := rfl
@[simp] theorem State.modTile_portA (s : State) (t : Nat) (f : Tile → Tile) : (s.modTile t f).portA = s.portA := rfl
@[simp] theorem State.modTile_portB (s : State) (t : Nat) (f : Tile → Tile) : (s.modTile t f).portB = s.portB := rfl
@[simp] theorem State.modTile_qps (s : State) (t : Nat) (f : Tile → Tile) : (s.modTile t f).qps = s.qps := rfl
@[simp] theorem State.modTile_rings (s : State) (t : Nat) (f : Tile → Tile) : (s.modTile t f).rings = s.rings := rfl
@[simp] theorem State.modTile_crings (s : State) (t : Nat) (f : Tile → Tile) : (s.modTile t f).crings = s.crings := rfl
@[simp] theorem State.modTile_windows (s : State) (t : Nat) (f : Tile → Tile) : (s.modTile t f).windows = s.windows := rfl
@[simp] theorem State.modTile_events (s : State) (t : Nat) (f : Tile → Tile) : (s.modTile t f).events = s.events := rfl
@[simp] theorem State.modTile_modEvents (s : State) (t : Nat) (f : Tile → Tile) : (s.modTile t f).modEvents = s.modEvents := rfl
@[simp] theorem State.modTile_flog (s : State) (t : Nat) (f : Tile → Tile) : (s.modTile t f).flog = s.flog := rfl
@[simp] theorem State.modTile_flogSeq (s : State) (t : Nat) (f : Tile → Tile) : (s.modTile t f).flogSeq = s.flogSeq := rfl
@[simp] theorem State.modTile_contexts (s : State) (t : Nat) (f : Tile → Tile) : (s.modTile t f).contexts = s.contexts := rfl
@[simp] theorem State.modTile_domains (s : State) (t : Nat) (f : Tile → Tile) : (s.modTile t f).domains = s.domains := rfl
@[simp] theorem State.modTile_regions (s : State) (t : Nat) (f : Tile → Tile) : (s.modTile t f).regions = s.regions := rfl
@[simp] theorem State.modTile_fills (s : State) (t : Nat) (f : Tile → Tile) : (s.modTile t f).fills = s.fills := rfl
@[simp] theorem State.modTile_parts (s : State) (t : Nat) (f : Tile → Tile) : (s.modTile t f).parts = s.parts := rfl
@[simp] theorem State.modTile_jobs (s : State) (t : Nat) (f : Tile → Tile) : (s.modTile t f).jobs = s.jobs := rfl
@[simp] theorem State.modTile_load (s : State) (t : Nat) (f : Tile → Tile) : (s.modTile t f).load = s.load := rfl
@[simp] theorem State.modTile_lastLoad (s : State) (t : Nat) (f : Tile → Tile) : (s.modTile t f).lastLoad = s.lastLoad := rfl
@[simp] theorem State.modTile_arb (s : State) (t : Nat) (f : Tile → Tile) : (s.modTile t f).arb = s.arb := rfl
@[simp] theorem State.modTile_dies (s : State) (t : Nat) (f : Tile → Tile) : (s.modTile t f).dies = s.dies := rfl
@[simp] theorem State.modTile_mem (s : State) (t : Nat) (f : Tile → Tile) : (s.modTile t f).mem = s.mem := rfl
@[simp] theorem State.modTile_poison (s : State) (t : Nat) (f : Tile → Tile) : (s.modTile t f).poison = s.poison := rfl
@[simp] theorem State.modTile_keyed (s : State) (t : Nat) (f : Tile → Tile) : (s.modTile t f).keyed = s.keyed := rfl
@[simp] theorem State.modTile_pages (s : State) (t : Nat) (f : Tile → Tile) : (s.modTile t f).pages = s.pages := rfl
@[simp] theorem State.modTile_repairs (s : State) (t : Nat) (f : Tile → Tile) : (s.modTile t f).repairs = s.repairs := rfl
@[simp] theorem State.modTile_routed (s : State) (t : Nat) (f : Tile → Tile) : (s.modTile t f).routed = s.routed := rfl
@[simp] theorem State.modTile_colls (s : State) (t : Nat) (f : Tile → Tile) : (s.modTile t f).colls = s.colls := rfl
@[simp] theorem State.modTile_tables (s : State) (t : Nat) (f : Tile → Tile) : (s.modTile t f).tables = s.tables := rfl
@[simp] theorem State.modTile_vocabs (s : State) (t : Nat) (f : Tile → Tile) : (s.modTile t f).vocabs = s.vocabs := rfl
@[simp] theorem State.modTile_models (s : State) (t : Nat) (f : Tile → Tile) : (s.modTile t f).models = s.models := rfl
@[simp] theorem State.modTile_stores (s : State) (t : Nat) (f : Tile → Tile) : (s.modTile t f).stores = s.stores := rfl
@[simp] theorem State.modTile_templates (s : State) (t : Nat) (f : Tile → Tile) : (s.modTile t f).templates = s.templates := rfl
@[simp] theorem State.modTile_grammars (s : State) (t : Nat) (f : Tile → Tile) : (s.modTile t f).grammars = s.grammars := rfl
@[simp] theorem State.modTile_patches (s : State) (t : Nat) (f : Tile → Tile) : (s.modTile t f).patches = s.patches := rfl
@[simp] theorem State.modTile_reqs (s : State) (t : Nat) (f : Tile → Tile) : (s.modTile t f).reqs = s.reqs := rfl
@[simp] theorem State.modTile_nextHandle (s : State) (t : Nat) (f : Tile → Tile) : (s.modTile t f).nextHandle = s.nextHandle := rfl

/-! `State.setDie` -/

@[simp] theorem State.setDie_pending (s : State) (d : Nat) (x : Die) : (s.setDie d x).pending = s.pending := rfl
@[simp] theorem State.setDie_free (s : State) (d : Nat) (x : Die) : (s.setDie d x).free = s.free := rfl
@[simp] theorem State.setDie_sent (s : State) (d : Nat) (x : Die) : (s.setDie d x).sent = s.sent := rfl
@[simp] theorem State.setDie_now (s : State) (d : Nat) (x : Die) : (s.setDie d x).now = s.now := rfl
@[simp] theorem State.setDie_cnt (s : State) (d : Nat) (x : Die) : (s.setDie d x).cnt = s.cnt := rfl
@[simp] theorem State.setDie_objs (s : State) (d : Nat) (x : Die) : (s.setDie d x).objs = s.objs := rfl
@[simp] theorem State.setDie_fuses (s : State) (d : Nat) (x : Die) : (s.setDie d x).fuses = s.fuses := rfl
@[simp] theorem State.setDie_ledger (s : State) (d : Nat) (x : Die) : (s.setDie d x).ledger = s.ledger := rfl
@[simp] theorem State.setDie_power (s : State) (d : Nat) (x : Die) : (s.setDie d x).power = s.power := rfl
@[simp] theorem State.setDie_tap (s : State) (d : Nat) (x : Die) : (s.setDie d x).tap = s.tap := rfl
@[simp] theorem State.setDie_boot (s : State) (d : Nat) (x : Die) : (s.setDie d x).boot = s.boot := rfl
@[simp] theorem State.setDie_kop (s : State) (d : Nat) (x : Die) : (s.setDie d x).kop = s.kop := rfl
@[simp] theorem State.setDie_portA (s : State) (d : Nat) (x : Die) : (s.setDie d x).portA = s.portA := rfl
@[simp] theorem State.setDie_portB (s : State) (d : Nat) (x : Die) : (s.setDie d x).portB = s.portB := rfl
@[simp] theorem State.setDie_qps (s : State) (d : Nat) (x : Die) : (s.setDie d x).qps = s.qps := rfl
@[simp] theorem State.setDie_rings (s : State) (d : Nat) (x : Die) : (s.setDie d x).rings = s.rings := rfl
@[simp] theorem State.setDie_crings (s : State) (d : Nat) (x : Die) : (s.setDie d x).crings = s.crings := rfl
@[simp] theorem State.setDie_windows (s : State) (d : Nat) (x : Die) : (s.setDie d x).windows = s.windows := rfl
@[simp] theorem State.setDie_events (s : State) (d : Nat) (x : Die) : (s.setDie d x).events = s.events := rfl
@[simp] theorem State.setDie_modEvents (s : State) (d : Nat) (x : Die) : (s.setDie d x).modEvents = s.modEvents := rfl
@[simp] theorem State.setDie_flog (s : State) (d : Nat) (x : Die) : (s.setDie d x).flog = s.flog := rfl
@[simp] theorem State.setDie_flogSeq (s : State) (d : Nat) (x : Die) : (s.setDie d x).flogSeq = s.flogSeq := rfl
@[simp] theorem State.setDie_contexts (s : State) (d : Nat) (x : Die) : (s.setDie d x).contexts = s.contexts := rfl
@[simp] theorem State.setDie_domains (s : State) (d : Nat) (x : Die) : (s.setDie d x).domains = s.domains := rfl
@[simp] theorem State.setDie_regions (s : State) (d : Nat) (x : Die) : (s.setDie d x).regions = s.regions := rfl
@[simp] theorem State.setDie_fills (s : State) (d : Nat) (x : Die) : (s.setDie d x).fills = s.fills := rfl
@[simp] theorem State.setDie_parts (s : State) (d : Nat) (x : Die) : (s.setDie d x).parts = s.parts := rfl
@[simp] theorem State.setDie_jobs (s : State) (d : Nat) (x : Die) : (s.setDie d x).jobs = s.jobs := rfl
@[simp] theorem State.setDie_load (s : State) (d : Nat) (x : Die) : (s.setDie d x).load = s.load := rfl
@[simp] theorem State.setDie_lastLoad (s : State) (d : Nat) (x : Die) : (s.setDie d x).lastLoad = s.lastLoad := rfl
@[simp] theorem State.setDie_arb (s : State) (d : Nat) (x : Die) : (s.setDie d x).arb = s.arb := rfl
@[simp] theorem State.setDie_tiles (s : State) (d : Nat) (x : Die) : (s.setDie d x).tiles = s.tiles := rfl
@[simp] theorem State.setDie_mem (s : State) (d : Nat) (x : Die) : (s.setDie d x).mem = s.mem := rfl
@[simp] theorem State.setDie_poison (s : State) (d : Nat) (x : Die) : (s.setDie d x).poison = s.poison := rfl
@[simp] theorem State.setDie_keyed (s : State) (d : Nat) (x : Die) : (s.setDie d x).keyed = s.keyed := rfl
@[simp] theorem State.setDie_pages (s : State) (d : Nat) (x : Die) : (s.setDie d x).pages = s.pages := rfl
@[simp] theorem State.setDie_repairs (s : State) (d : Nat) (x : Die) : (s.setDie d x).repairs = s.repairs := rfl
@[simp] theorem State.setDie_routed (s : State) (d : Nat) (x : Die) : (s.setDie d x).routed = s.routed := rfl
@[simp] theorem State.setDie_colls (s : State) (d : Nat) (x : Die) : (s.setDie d x).colls = s.colls := rfl
@[simp] theorem State.setDie_tables (s : State) (d : Nat) (x : Die) : (s.setDie d x).tables = s.tables := rfl
@[simp] theorem State.setDie_vocabs (s : State) (d : Nat) (x : Die) : (s.setDie d x).vocabs = s.vocabs := rfl
@[simp] theorem State.setDie_models (s : State) (d : Nat) (x : Die) : (s.setDie d x).models = s.models := rfl
@[simp] theorem State.setDie_stores (s : State) (d : Nat) (x : Die) : (s.setDie d x).stores = s.stores := rfl
@[simp] theorem State.setDie_templates (s : State) (d : Nat) (x : Die) : (s.setDie d x).templates = s.templates := rfl
@[simp] theorem State.setDie_grammars (s : State) (d : Nat) (x : Die) : (s.setDie d x).grammars = s.grammars := rfl
@[simp] theorem State.setDie_patches (s : State) (d : Nat) (x : Die) : (s.setDie d x).patches = s.patches := rfl
@[simp] theorem State.setDie_reqs (s : State) (d : Nat) (x : Die) : (s.setDie d x).reqs = s.reqs := rfl
@[simp] theorem State.setDie_nextHandle (s : State) (d : Nat) (x : Die) : (s.setDie d x).nextHandle = s.nextHandle := rfl

/-! `State.modDie` -/

@[simp] theorem State.modDie_pending (s : State) (d : Nat) (f : Die → Die) : (s.modDie d f).pending = s.pending := rfl
@[simp] theorem State.modDie_free (s : State) (d : Nat) (f : Die → Die) : (s.modDie d f).free = s.free := rfl
@[simp] theorem State.modDie_sent (s : State) (d : Nat) (f : Die → Die) : (s.modDie d f).sent = s.sent := rfl
@[simp] theorem State.modDie_now (s : State) (d : Nat) (f : Die → Die) : (s.modDie d f).now = s.now := rfl
@[simp] theorem State.modDie_cnt (s : State) (d : Nat) (f : Die → Die) : (s.modDie d f).cnt = s.cnt := rfl
@[simp] theorem State.modDie_objs (s : State) (d : Nat) (f : Die → Die) : (s.modDie d f).objs = s.objs := rfl
@[simp] theorem State.modDie_fuses (s : State) (d : Nat) (f : Die → Die) : (s.modDie d f).fuses = s.fuses := rfl
@[simp] theorem State.modDie_ledger (s : State) (d : Nat) (f : Die → Die) : (s.modDie d f).ledger = s.ledger := rfl
@[simp] theorem State.modDie_power (s : State) (d : Nat) (f : Die → Die) : (s.modDie d f).power = s.power := rfl
@[simp] theorem State.modDie_tap (s : State) (d : Nat) (f : Die → Die) : (s.modDie d f).tap = s.tap := rfl
@[simp] theorem State.modDie_boot (s : State) (d : Nat) (f : Die → Die) : (s.modDie d f).boot = s.boot := rfl
@[simp] theorem State.modDie_kop (s : State) (d : Nat) (f : Die → Die) : (s.modDie d f).kop = s.kop := rfl
@[simp] theorem State.modDie_portA (s : State) (d : Nat) (f : Die → Die) : (s.modDie d f).portA = s.portA := rfl
@[simp] theorem State.modDie_portB (s : State) (d : Nat) (f : Die → Die) : (s.modDie d f).portB = s.portB := rfl
@[simp] theorem State.modDie_qps (s : State) (d : Nat) (f : Die → Die) : (s.modDie d f).qps = s.qps := rfl
@[simp] theorem State.modDie_rings (s : State) (d : Nat) (f : Die → Die) : (s.modDie d f).rings = s.rings := rfl
@[simp] theorem State.modDie_crings (s : State) (d : Nat) (f : Die → Die) : (s.modDie d f).crings = s.crings := rfl
@[simp] theorem State.modDie_windows (s : State) (d : Nat) (f : Die → Die) : (s.modDie d f).windows = s.windows := rfl
@[simp] theorem State.modDie_events (s : State) (d : Nat) (f : Die → Die) : (s.modDie d f).events = s.events := rfl
@[simp] theorem State.modDie_modEvents (s : State) (d : Nat) (f : Die → Die) : (s.modDie d f).modEvents = s.modEvents := rfl
@[simp] theorem State.modDie_flog (s : State) (d : Nat) (f : Die → Die) : (s.modDie d f).flog = s.flog := rfl
@[simp] theorem State.modDie_flogSeq (s : State) (d : Nat) (f : Die → Die) : (s.modDie d f).flogSeq = s.flogSeq := rfl
@[simp] theorem State.modDie_contexts (s : State) (d : Nat) (f : Die → Die) : (s.modDie d f).contexts = s.contexts := rfl
@[simp] theorem State.modDie_domains (s : State) (d : Nat) (f : Die → Die) : (s.modDie d f).domains = s.domains := rfl
@[simp] theorem State.modDie_regions (s : State) (d : Nat) (f : Die → Die) : (s.modDie d f).regions = s.regions := rfl
@[simp] theorem State.modDie_fills (s : State) (d : Nat) (f : Die → Die) : (s.modDie d f).fills = s.fills := rfl
@[simp] theorem State.modDie_parts (s : State) (d : Nat) (f : Die → Die) : (s.modDie d f).parts = s.parts := rfl
@[simp] theorem State.modDie_jobs (s : State) (d : Nat) (f : Die → Die) : (s.modDie d f).jobs = s.jobs := rfl
@[simp] theorem State.modDie_load (s : State) (d : Nat) (f : Die → Die) : (s.modDie d f).load = s.load := rfl
@[simp] theorem State.modDie_lastLoad (s : State) (d : Nat) (f : Die → Die) : (s.modDie d f).lastLoad = s.lastLoad := rfl
@[simp] theorem State.modDie_arb (s : State) (d : Nat) (f : Die → Die) : (s.modDie d f).arb = s.arb := rfl
@[simp] theorem State.modDie_tiles (s : State) (d : Nat) (f : Die → Die) : (s.modDie d f).tiles = s.tiles := rfl
@[simp] theorem State.modDie_mem (s : State) (d : Nat) (f : Die → Die) : (s.modDie d f).mem = s.mem := rfl
@[simp] theorem State.modDie_poison (s : State) (d : Nat) (f : Die → Die) : (s.modDie d f).poison = s.poison := rfl
@[simp] theorem State.modDie_keyed (s : State) (d : Nat) (f : Die → Die) : (s.modDie d f).keyed = s.keyed := rfl
@[simp] theorem State.modDie_pages (s : State) (d : Nat) (f : Die → Die) : (s.modDie d f).pages = s.pages := rfl
@[simp] theorem State.modDie_repairs (s : State) (d : Nat) (f : Die → Die) : (s.modDie d f).repairs = s.repairs := rfl
@[simp] theorem State.modDie_routed (s : State) (d : Nat) (f : Die → Die) : (s.modDie d f).routed = s.routed := rfl
@[simp] theorem State.modDie_colls (s : State) (d : Nat) (f : Die → Die) : (s.modDie d f).colls = s.colls := rfl
@[simp] theorem State.modDie_tables (s : State) (d : Nat) (f : Die → Die) : (s.modDie d f).tables = s.tables := rfl
@[simp] theorem State.modDie_vocabs (s : State) (d : Nat) (f : Die → Die) : (s.modDie d f).vocabs = s.vocabs := rfl
@[simp] theorem State.modDie_models (s : State) (d : Nat) (f : Die → Die) : (s.modDie d f).models = s.models := rfl
@[simp] theorem State.modDie_stores (s : State) (d : Nat) (f : Die → Die) : (s.modDie d f).stores = s.stores := rfl
@[simp] theorem State.modDie_templates (s : State) (d : Nat) (f : Die → Die) : (s.modDie d f).templates = s.templates := rfl
@[simp] theorem State.modDie_grammars (s : State) (d : Nat) (f : Die → Die) : (s.modDie d f).grammars = s.grammars := rfl
@[simp] theorem State.modDie_patches (s : State) (d : Nat) (f : Die → Die) : (s.modDie d f).patches = s.patches := rfl
@[simp] theorem State.modDie_reqs (s : State) (d : Nat) (f : Die → Die) : (s.modDie d f).reqs = s.reqs := rfl
@[simp] theorem State.modDie_nextHandle (s : State) (d : Nat) (f : Die → Die) : (s.modDie d f).nextHandle = s.nextHandle := rfl

/-! `State.setJob` -/

@[simp] theorem State.setJob_pending (s : State) (j : Nat) (x : Job) : (s.setJob j x).pending = s.pending := rfl
@[simp] theorem State.setJob_free (s : State) (j : Nat) (x : Job) : (s.setJob j x).free = s.free := rfl
@[simp] theorem State.setJob_sent (s : State) (j : Nat) (x : Job) : (s.setJob j x).sent = s.sent := rfl
@[simp] theorem State.setJob_now (s : State) (j : Nat) (x : Job) : (s.setJob j x).now = s.now := rfl
@[simp] theorem State.setJob_cnt (s : State) (j : Nat) (x : Job) : (s.setJob j x).cnt = s.cnt := rfl
@[simp] theorem State.setJob_objs (s : State) (j : Nat) (x : Job) : (s.setJob j x).objs = s.objs := rfl
@[simp] theorem State.setJob_fuses (s : State) (j : Nat) (x : Job) : (s.setJob j x).fuses = s.fuses := rfl
@[simp] theorem State.setJob_ledger (s : State) (j : Nat) (x : Job) : (s.setJob j x).ledger = s.ledger := rfl
@[simp] theorem State.setJob_power (s : State) (j : Nat) (x : Job) : (s.setJob j x).power = s.power := rfl
@[simp] theorem State.setJob_tap (s : State) (j : Nat) (x : Job) : (s.setJob j x).tap = s.tap := rfl
@[simp] theorem State.setJob_boot (s : State) (j : Nat) (x : Job) : (s.setJob j x).boot = s.boot := rfl
@[simp] theorem State.setJob_kop (s : State) (j : Nat) (x : Job) : (s.setJob j x).kop = s.kop := rfl
@[simp] theorem State.setJob_portA (s : State) (j : Nat) (x : Job) : (s.setJob j x).portA = s.portA := rfl
@[simp] theorem State.setJob_portB (s : State) (j : Nat) (x : Job) : (s.setJob j x).portB = s.portB := rfl
@[simp] theorem State.setJob_qps (s : State) (j : Nat) (x : Job) : (s.setJob j x).qps = s.qps := rfl
@[simp] theorem State.setJob_rings (s : State) (j : Nat) (x : Job) : (s.setJob j x).rings = s.rings := rfl
@[simp] theorem State.setJob_crings (s : State) (j : Nat) (x : Job) : (s.setJob j x).crings = s.crings := rfl
@[simp] theorem State.setJob_windows (s : State) (j : Nat) (x : Job) : (s.setJob j x).windows = s.windows := rfl
@[simp] theorem State.setJob_events (s : State) (j : Nat) (x : Job) : (s.setJob j x).events = s.events := rfl
@[simp] theorem State.setJob_modEvents (s : State) (j : Nat) (x : Job) : (s.setJob j x).modEvents = s.modEvents := rfl
@[simp] theorem State.setJob_flog (s : State) (j : Nat) (x : Job) : (s.setJob j x).flog = s.flog := rfl
@[simp] theorem State.setJob_flogSeq (s : State) (j : Nat) (x : Job) : (s.setJob j x).flogSeq = s.flogSeq := rfl
@[simp] theorem State.setJob_contexts (s : State) (j : Nat) (x : Job) : (s.setJob j x).contexts = s.contexts := rfl
@[simp] theorem State.setJob_domains (s : State) (j : Nat) (x : Job) : (s.setJob j x).domains = s.domains := rfl
@[simp] theorem State.setJob_regions (s : State) (j : Nat) (x : Job) : (s.setJob j x).regions = s.regions := rfl
@[simp] theorem State.setJob_fills (s : State) (j : Nat) (x : Job) : (s.setJob j x).fills = s.fills := rfl
@[simp] theorem State.setJob_parts (s : State) (j : Nat) (x : Job) : (s.setJob j x).parts = s.parts := rfl
@[simp] theorem State.setJob_load (s : State) (j : Nat) (x : Job) : (s.setJob j x).load = s.load := rfl
@[simp] theorem State.setJob_lastLoad (s : State) (j : Nat) (x : Job) : (s.setJob j x).lastLoad = s.lastLoad := rfl
@[simp] theorem State.setJob_arb (s : State) (j : Nat) (x : Job) : (s.setJob j x).arb = s.arb := rfl
@[simp] theorem State.setJob_dies (s : State) (j : Nat) (x : Job) : (s.setJob j x).dies = s.dies := rfl
@[simp] theorem State.setJob_tiles (s : State) (j : Nat) (x : Job) : (s.setJob j x).tiles = s.tiles := rfl
@[simp] theorem State.setJob_mem (s : State) (j : Nat) (x : Job) : (s.setJob j x).mem = s.mem := rfl
@[simp] theorem State.setJob_poison (s : State) (j : Nat) (x : Job) : (s.setJob j x).poison = s.poison := rfl
@[simp] theorem State.setJob_keyed (s : State) (j : Nat) (x : Job) : (s.setJob j x).keyed = s.keyed := rfl
@[simp] theorem State.setJob_pages (s : State) (j : Nat) (x : Job) : (s.setJob j x).pages = s.pages := rfl
@[simp] theorem State.setJob_repairs (s : State) (j : Nat) (x : Job) : (s.setJob j x).repairs = s.repairs := rfl
@[simp] theorem State.setJob_routed (s : State) (j : Nat) (x : Job) : (s.setJob j x).routed = s.routed := rfl
@[simp] theorem State.setJob_colls (s : State) (j : Nat) (x : Job) : (s.setJob j x).colls = s.colls := rfl
@[simp] theorem State.setJob_tables (s : State) (j : Nat) (x : Job) : (s.setJob j x).tables = s.tables := rfl
@[simp] theorem State.setJob_vocabs (s : State) (j : Nat) (x : Job) : (s.setJob j x).vocabs = s.vocabs := rfl
@[simp] theorem State.setJob_models (s : State) (j : Nat) (x : Job) : (s.setJob j x).models = s.models := rfl
@[simp] theorem State.setJob_stores (s : State) (j : Nat) (x : Job) : (s.setJob j x).stores = s.stores := rfl
@[simp] theorem State.setJob_templates (s : State) (j : Nat) (x : Job) : (s.setJob j x).templates = s.templates := rfl
@[simp] theorem State.setJob_grammars (s : State) (j : Nat) (x : Job) : (s.setJob j x).grammars = s.grammars := rfl
@[simp] theorem State.setJob_patches (s : State) (j : Nat) (x : Job) : (s.setJob j x).patches = s.patches := rfl
@[simp] theorem State.setJob_reqs (s : State) (j : Nat) (x : Job) : (s.setJob j x).reqs = s.reqs := rfl
@[simp] theorem State.setJob_nextHandle (s : State) (j : Nat) (x : Job) : (s.setJob j x).nextHandle = s.nextHandle := rfl

/-! `State.modJob` -/

@[simp] theorem State.modJob_pending (s : State) (j : Nat) (f : Job → Job) : (s.modJob j f).pending = s.pending := by unfold State.modJob; split <;> rfl
@[simp] theorem State.modJob_free (s : State) (j : Nat) (f : Job → Job) : (s.modJob j f).free = s.free := by unfold State.modJob; split <;> rfl
@[simp] theorem State.modJob_sent (s : State) (j : Nat) (f : Job → Job) : (s.modJob j f).sent = s.sent := by unfold State.modJob; split <;> rfl
@[simp] theorem State.modJob_now (s : State) (j : Nat) (f : Job → Job) : (s.modJob j f).now = s.now := by unfold State.modJob; split <;> rfl
@[simp] theorem State.modJob_cnt (s : State) (j : Nat) (f : Job → Job) : (s.modJob j f).cnt = s.cnt := by unfold State.modJob; split <;> rfl
@[simp] theorem State.modJob_objs (s : State) (j : Nat) (f : Job → Job) : (s.modJob j f).objs = s.objs := by unfold State.modJob; split <;> rfl
@[simp] theorem State.modJob_fuses (s : State) (j : Nat) (f : Job → Job) : (s.modJob j f).fuses = s.fuses := by unfold State.modJob; split <;> rfl
@[simp] theorem State.modJob_ledger (s : State) (j : Nat) (f : Job → Job) : (s.modJob j f).ledger = s.ledger := by unfold State.modJob; split <;> rfl
@[simp] theorem State.modJob_power (s : State) (j : Nat) (f : Job → Job) : (s.modJob j f).power = s.power := by unfold State.modJob; split <;> rfl
@[simp] theorem State.modJob_tap (s : State) (j : Nat) (f : Job → Job) : (s.modJob j f).tap = s.tap := by unfold State.modJob; split <;> rfl
@[simp] theorem State.modJob_boot (s : State) (j : Nat) (f : Job → Job) : (s.modJob j f).boot = s.boot := by unfold State.modJob; split <;> rfl
@[simp] theorem State.modJob_kop (s : State) (j : Nat) (f : Job → Job) : (s.modJob j f).kop = s.kop := by unfold State.modJob; split <;> rfl
@[simp] theorem State.modJob_portA (s : State) (j : Nat) (f : Job → Job) : (s.modJob j f).portA = s.portA := by unfold State.modJob; split <;> rfl
@[simp] theorem State.modJob_portB (s : State) (j : Nat) (f : Job → Job) : (s.modJob j f).portB = s.portB := by unfold State.modJob; split <;> rfl
@[simp] theorem State.modJob_qps (s : State) (j : Nat) (f : Job → Job) : (s.modJob j f).qps = s.qps := by unfold State.modJob; split <;> rfl
@[simp] theorem State.modJob_rings (s : State) (j : Nat) (f : Job → Job) : (s.modJob j f).rings = s.rings := by unfold State.modJob; split <;> rfl
@[simp] theorem State.modJob_crings (s : State) (j : Nat) (f : Job → Job) : (s.modJob j f).crings = s.crings := by unfold State.modJob; split <;> rfl
@[simp] theorem State.modJob_windows (s : State) (j : Nat) (f : Job → Job) : (s.modJob j f).windows = s.windows := by unfold State.modJob; split <;> rfl
@[simp] theorem State.modJob_events (s : State) (j : Nat) (f : Job → Job) : (s.modJob j f).events = s.events := by unfold State.modJob; split <;> rfl
@[simp] theorem State.modJob_modEvents (s : State) (j : Nat) (f : Job → Job) : (s.modJob j f).modEvents = s.modEvents := by unfold State.modJob; split <;> rfl
@[simp] theorem State.modJob_flog (s : State) (j : Nat) (f : Job → Job) : (s.modJob j f).flog = s.flog := by unfold State.modJob; split <;> rfl
@[simp] theorem State.modJob_flogSeq (s : State) (j : Nat) (f : Job → Job) : (s.modJob j f).flogSeq = s.flogSeq := by unfold State.modJob; split <;> rfl
@[simp] theorem State.modJob_contexts (s : State) (j : Nat) (f : Job → Job) : (s.modJob j f).contexts = s.contexts := by unfold State.modJob; split <;> rfl
@[simp] theorem State.modJob_domains (s : State) (j : Nat) (f : Job → Job) : (s.modJob j f).domains = s.domains := by unfold State.modJob; split <;> rfl
@[simp] theorem State.modJob_regions (s : State) (j : Nat) (f : Job → Job) : (s.modJob j f).regions = s.regions := by unfold State.modJob; split <;> rfl
@[simp] theorem State.modJob_fills (s : State) (j : Nat) (f : Job → Job) : (s.modJob j f).fills = s.fills := by unfold State.modJob; split <;> rfl
@[simp] theorem State.modJob_parts (s : State) (j : Nat) (f : Job → Job) : (s.modJob j f).parts = s.parts := by unfold State.modJob; split <;> rfl
@[simp] theorem State.modJob_load (s : State) (j : Nat) (f : Job → Job) : (s.modJob j f).load = s.load := by unfold State.modJob; split <;> rfl
@[simp] theorem State.modJob_lastLoad (s : State) (j : Nat) (f : Job → Job) : (s.modJob j f).lastLoad = s.lastLoad := by unfold State.modJob; split <;> rfl
@[simp] theorem State.modJob_arb (s : State) (j : Nat) (f : Job → Job) : (s.modJob j f).arb = s.arb := by unfold State.modJob; split <;> rfl
@[simp] theorem State.modJob_dies (s : State) (j : Nat) (f : Job → Job) : (s.modJob j f).dies = s.dies := by unfold State.modJob; split <;> rfl
@[simp] theorem State.modJob_tiles (s : State) (j : Nat) (f : Job → Job) : (s.modJob j f).tiles = s.tiles := by unfold State.modJob; split <;> rfl
@[simp] theorem State.modJob_mem (s : State) (j : Nat) (f : Job → Job) : (s.modJob j f).mem = s.mem := by unfold State.modJob; split <;> rfl
@[simp] theorem State.modJob_poison (s : State) (j : Nat) (f : Job → Job) : (s.modJob j f).poison = s.poison := by unfold State.modJob; split <;> rfl
@[simp] theorem State.modJob_keyed (s : State) (j : Nat) (f : Job → Job) : (s.modJob j f).keyed = s.keyed := by unfold State.modJob; split <;> rfl
@[simp] theorem State.modJob_pages (s : State) (j : Nat) (f : Job → Job) : (s.modJob j f).pages = s.pages := by unfold State.modJob; split <;> rfl
@[simp] theorem State.modJob_repairs (s : State) (j : Nat) (f : Job → Job) : (s.modJob j f).repairs = s.repairs := by unfold State.modJob; split <;> rfl
@[simp] theorem State.modJob_routed (s : State) (j : Nat) (f : Job → Job) : (s.modJob j f).routed = s.routed := by unfold State.modJob; split <;> rfl
@[simp] theorem State.modJob_colls (s : State) (j : Nat) (f : Job → Job) : (s.modJob j f).colls = s.colls := by unfold State.modJob; split <;> rfl
@[simp] theorem State.modJob_tables (s : State) (j : Nat) (f : Job → Job) : (s.modJob j f).tables = s.tables := by unfold State.modJob; split <;> rfl
@[simp] theorem State.modJob_vocabs (s : State) (j : Nat) (f : Job → Job) : (s.modJob j f).vocabs = s.vocabs := by unfold State.modJob; split <;> rfl
@[simp] theorem State.modJob_models (s : State) (j : Nat) (f : Job → Job) : (s.modJob j f).models = s.models := by unfold State.modJob; split <;> rfl
@[simp] theorem State.modJob_stores (s : State) (j : Nat) (f : Job → Job) : (s.modJob j f).stores = s.stores := by unfold State.modJob; split <;> rfl
@[simp] theorem State.modJob_templates (s : State) (j : Nat) (f : Job → Job) : (s.modJob j f).templates = s.templates := by unfold State.modJob; split <;> rfl
@[simp] theorem State.modJob_grammars (s : State) (j : Nat) (f : Job → Job) : (s.modJob j f).grammars = s.grammars := by unfold State.modJob; split <;> rfl
@[simp] theorem State.modJob_patches (s : State) (j : Nat) (f : Job → Job) : (s.modJob j f).patches = s.patches := by unfold State.modJob; split <;> rfl
@[simp] theorem State.modJob_reqs (s : State) (j : Nat) (f : Job → Job) : (s.modJob j f).reqs = s.reqs := by unfold State.modJob; split <;> rfl
@[simp] theorem State.modJob_nextHandle (s : State) (j : Nat) (f : Job → Job) : (s.modJob j f).nextHandle = s.nextHandle := by unfold State.modJob; split <;> rfl

/-! `State.setReq` -/

@[simp] theorem State.setReq_pending (s : State) (r : W32) (x : Request) : (s.setReq r x).pending = s.pending := rfl
@[simp] theorem State.setReq_free (s : State) (r : W32) (x : Request) : (s.setReq r x).free = s.free := rfl
@[simp] theorem State.setReq_sent (s : State) (r : W32) (x : Request) : (s.setReq r x).sent = s.sent := rfl
@[simp] theorem State.setReq_now (s : State) (r : W32) (x : Request) : (s.setReq r x).now = s.now := rfl
@[simp] theorem State.setReq_cnt (s : State) (r : W32) (x : Request) : (s.setReq r x).cnt = s.cnt := rfl
@[simp] theorem State.setReq_objs (s : State) (r : W32) (x : Request) : (s.setReq r x).objs = s.objs := rfl
@[simp] theorem State.setReq_fuses (s : State) (r : W32) (x : Request) : (s.setReq r x).fuses = s.fuses := rfl
@[simp] theorem State.setReq_ledger (s : State) (r : W32) (x : Request) : (s.setReq r x).ledger = s.ledger := rfl
@[simp] theorem State.setReq_power (s : State) (r : W32) (x : Request) : (s.setReq r x).power = s.power := rfl
@[simp] theorem State.setReq_tap (s : State) (r : W32) (x : Request) : (s.setReq r x).tap = s.tap := rfl
@[simp] theorem State.setReq_boot (s : State) (r : W32) (x : Request) : (s.setReq r x).boot = s.boot := rfl
@[simp] theorem State.setReq_kop (s : State) (r : W32) (x : Request) : (s.setReq r x).kop = s.kop := rfl
@[simp] theorem State.setReq_portA (s : State) (r : W32) (x : Request) : (s.setReq r x).portA = s.portA := rfl
@[simp] theorem State.setReq_portB (s : State) (r : W32) (x : Request) : (s.setReq r x).portB = s.portB := rfl
@[simp] theorem State.setReq_qps (s : State) (r : W32) (x : Request) : (s.setReq r x).qps = s.qps := rfl
@[simp] theorem State.setReq_rings (s : State) (r : W32) (x : Request) : (s.setReq r x).rings = s.rings := rfl
@[simp] theorem State.setReq_crings (s : State) (r : W32) (x : Request) : (s.setReq r x).crings = s.crings := rfl
@[simp] theorem State.setReq_windows (s : State) (r : W32) (x : Request) : (s.setReq r x).windows = s.windows := rfl
@[simp] theorem State.setReq_events (s : State) (r : W32) (x : Request) : (s.setReq r x).events = s.events := rfl
@[simp] theorem State.setReq_modEvents (s : State) (r : W32) (x : Request) : (s.setReq r x).modEvents = s.modEvents := rfl
@[simp] theorem State.setReq_flog (s : State) (r : W32) (x : Request) : (s.setReq r x).flog = s.flog := rfl
@[simp] theorem State.setReq_flogSeq (s : State) (r : W32) (x : Request) : (s.setReq r x).flogSeq = s.flogSeq := rfl
@[simp] theorem State.setReq_contexts (s : State) (r : W32) (x : Request) : (s.setReq r x).contexts = s.contexts := rfl
@[simp] theorem State.setReq_domains (s : State) (r : W32) (x : Request) : (s.setReq r x).domains = s.domains := rfl
@[simp] theorem State.setReq_regions (s : State) (r : W32) (x : Request) : (s.setReq r x).regions = s.regions := rfl
@[simp] theorem State.setReq_fills (s : State) (r : W32) (x : Request) : (s.setReq r x).fills = s.fills := rfl
@[simp] theorem State.setReq_parts (s : State) (r : W32) (x : Request) : (s.setReq r x).parts = s.parts := rfl
@[simp] theorem State.setReq_jobs (s : State) (r : W32) (x : Request) : (s.setReq r x).jobs = s.jobs := rfl
@[simp] theorem State.setReq_load (s : State) (r : W32) (x : Request) : (s.setReq r x).load = s.load := rfl
@[simp] theorem State.setReq_lastLoad (s : State) (r : W32) (x : Request) : (s.setReq r x).lastLoad = s.lastLoad := rfl
@[simp] theorem State.setReq_arb (s : State) (r : W32) (x : Request) : (s.setReq r x).arb = s.arb := rfl
@[simp] theorem State.setReq_dies (s : State) (r : W32) (x : Request) : (s.setReq r x).dies = s.dies := rfl
@[simp] theorem State.setReq_tiles (s : State) (r : W32) (x : Request) : (s.setReq r x).tiles = s.tiles := rfl
@[simp] theorem State.setReq_mem (s : State) (r : W32) (x : Request) : (s.setReq r x).mem = s.mem := rfl
@[simp] theorem State.setReq_poison (s : State) (r : W32) (x : Request) : (s.setReq r x).poison = s.poison := rfl
@[simp] theorem State.setReq_keyed (s : State) (r : W32) (x : Request) : (s.setReq r x).keyed = s.keyed := rfl
@[simp] theorem State.setReq_pages (s : State) (r : W32) (x : Request) : (s.setReq r x).pages = s.pages := rfl
@[simp] theorem State.setReq_repairs (s : State) (r : W32) (x : Request) : (s.setReq r x).repairs = s.repairs := rfl
@[simp] theorem State.setReq_routed (s : State) (r : W32) (x : Request) : (s.setReq r x).routed = s.routed := rfl
@[simp] theorem State.setReq_colls (s : State) (r : W32) (x : Request) : (s.setReq r x).colls = s.colls := rfl
@[simp] theorem State.setReq_tables (s : State) (r : W32) (x : Request) : (s.setReq r x).tables = s.tables := rfl
@[simp] theorem State.setReq_vocabs (s : State) (r : W32) (x : Request) : (s.setReq r x).vocabs = s.vocabs := rfl
@[simp] theorem State.setReq_models (s : State) (r : W32) (x : Request) : (s.setReq r x).models = s.models := rfl
@[simp] theorem State.setReq_stores (s : State) (r : W32) (x : Request) : (s.setReq r x).stores = s.stores := rfl
@[simp] theorem State.setReq_templates (s : State) (r : W32) (x : Request) : (s.setReq r x).templates = s.templates := rfl
@[simp] theorem State.setReq_grammars (s : State) (r : W32) (x : Request) : (s.setReq r x).grammars = s.grammars := rfl
@[simp] theorem State.setReq_patches (s : State) (r : W32) (x : Request) : (s.setReq r x).patches = s.patches := rfl
@[simp] theorem State.setReq_nextHandle (s : State) (r : W32) (x : Request) : (s.setReq r x).nextHandle = s.nextHandle := rfl

/-! `State.modReq` -/

@[simp] theorem State.modReq_pending (s : State) (r : W32) (f : Request → Request) : (s.modReq r f).pending = s.pending := by unfold State.modReq; split <;> rfl
@[simp] theorem State.modReq_free (s : State) (r : W32) (f : Request → Request) : (s.modReq r f).free = s.free := by unfold State.modReq; split <;> rfl
@[simp] theorem State.modReq_sent (s : State) (r : W32) (f : Request → Request) : (s.modReq r f).sent = s.sent := by unfold State.modReq; split <;> rfl
@[simp] theorem State.modReq_now (s : State) (r : W32) (f : Request → Request) : (s.modReq r f).now = s.now := by unfold State.modReq; split <;> rfl
@[simp] theorem State.modReq_cnt (s : State) (r : W32) (f : Request → Request) : (s.modReq r f).cnt = s.cnt := by unfold State.modReq; split <;> rfl
@[simp] theorem State.modReq_objs (s : State) (r : W32) (f : Request → Request) : (s.modReq r f).objs = s.objs := by unfold State.modReq; split <;> rfl
@[simp] theorem State.modReq_fuses (s : State) (r : W32) (f : Request → Request) : (s.modReq r f).fuses = s.fuses := by unfold State.modReq; split <;> rfl
@[simp] theorem State.modReq_ledger (s : State) (r : W32) (f : Request → Request) : (s.modReq r f).ledger = s.ledger := by unfold State.modReq; split <;> rfl
@[simp] theorem State.modReq_power (s : State) (r : W32) (f : Request → Request) : (s.modReq r f).power = s.power := by unfold State.modReq; split <;> rfl
@[simp] theorem State.modReq_tap (s : State) (r : W32) (f : Request → Request) : (s.modReq r f).tap = s.tap := by unfold State.modReq; split <;> rfl
@[simp] theorem State.modReq_boot (s : State) (r : W32) (f : Request → Request) : (s.modReq r f).boot = s.boot := by unfold State.modReq; split <;> rfl
@[simp] theorem State.modReq_kop (s : State) (r : W32) (f : Request → Request) : (s.modReq r f).kop = s.kop := by unfold State.modReq; split <;> rfl
@[simp] theorem State.modReq_portA (s : State) (r : W32) (f : Request → Request) : (s.modReq r f).portA = s.portA := by unfold State.modReq; split <;> rfl
@[simp] theorem State.modReq_portB (s : State) (r : W32) (f : Request → Request) : (s.modReq r f).portB = s.portB := by unfold State.modReq; split <;> rfl
@[simp] theorem State.modReq_qps (s : State) (r : W32) (f : Request → Request) : (s.modReq r f).qps = s.qps := by unfold State.modReq; split <;> rfl
@[simp] theorem State.modReq_rings (s : State) (r : W32) (f : Request → Request) : (s.modReq r f).rings = s.rings := by unfold State.modReq; split <;> rfl
@[simp] theorem State.modReq_crings (s : State) (r : W32) (f : Request → Request) : (s.modReq r f).crings = s.crings := by unfold State.modReq; split <;> rfl
@[simp] theorem State.modReq_windows (s : State) (r : W32) (f : Request → Request) : (s.modReq r f).windows = s.windows := by unfold State.modReq; split <;> rfl
@[simp] theorem State.modReq_events (s : State) (r : W32) (f : Request → Request) : (s.modReq r f).events = s.events := by unfold State.modReq; split <;> rfl
@[simp] theorem State.modReq_modEvents (s : State) (r : W32) (f : Request → Request) : (s.modReq r f).modEvents = s.modEvents := by unfold State.modReq; split <;> rfl
@[simp] theorem State.modReq_flog (s : State) (r : W32) (f : Request → Request) : (s.modReq r f).flog = s.flog := by unfold State.modReq; split <;> rfl
@[simp] theorem State.modReq_flogSeq (s : State) (r : W32) (f : Request → Request) : (s.modReq r f).flogSeq = s.flogSeq := by unfold State.modReq; split <;> rfl
@[simp] theorem State.modReq_contexts (s : State) (r : W32) (f : Request → Request) : (s.modReq r f).contexts = s.contexts := by unfold State.modReq; split <;> rfl
@[simp] theorem State.modReq_domains (s : State) (r : W32) (f : Request → Request) : (s.modReq r f).domains = s.domains := by unfold State.modReq; split <;> rfl
@[simp] theorem State.modReq_regions (s : State) (r : W32) (f : Request → Request) : (s.modReq r f).regions = s.regions := by unfold State.modReq; split <;> rfl
@[simp] theorem State.modReq_fills (s : State) (r : W32) (f : Request → Request) : (s.modReq r f).fills = s.fills := by unfold State.modReq; split <;> rfl
@[simp] theorem State.modReq_parts (s : State) (r : W32) (f : Request → Request) : (s.modReq r f).parts = s.parts := by unfold State.modReq; split <;> rfl
@[simp] theorem State.modReq_jobs (s : State) (r : W32) (f : Request → Request) : (s.modReq r f).jobs = s.jobs := by unfold State.modReq; split <;> rfl
@[simp] theorem State.modReq_load (s : State) (r : W32) (f : Request → Request) : (s.modReq r f).load = s.load := by unfold State.modReq; split <;> rfl
@[simp] theorem State.modReq_lastLoad (s : State) (r : W32) (f : Request → Request) : (s.modReq r f).lastLoad = s.lastLoad := by unfold State.modReq; split <;> rfl
@[simp] theorem State.modReq_arb (s : State) (r : W32) (f : Request → Request) : (s.modReq r f).arb = s.arb := by unfold State.modReq; split <;> rfl
@[simp] theorem State.modReq_dies (s : State) (r : W32) (f : Request → Request) : (s.modReq r f).dies = s.dies := by unfold State.modReq; split <;> rfl
@[simp] theorem State.modReq_tiles (s : State) (r : W32) (f : Request → Request) : (s.modReq r f).tiles = s.tiles := by unfold State.modReq; split <;> rfl
@[simp] theorem State.modReq_mem (s : State) (r : W32) (f : Request → Request) : (s.modReq r f).mem = s.mem := by unfold State.modReq; split <;> rfl
@[simp] theorem State.modReq_poison (s : State) (r : W32) (f : Request → Request) : (s.modReq r f).poison = s.poison := by unfold State.modReq; split <;> rfl
@[simp] theorem State.modReq_keyed (s : State) (r : W32) (f : Request → Request) : (s.modReq r f).keyed = s.keyed := by unfold State.modReq; split <;> rfl
@[simp] theorem State.modReq_pages (s : State) (r : W32) (f : Request → Request) : (s.modReq r f).pages = s.pages := by unfold State.modReq; split <;> rfl
@[simp] theorem State.modReq_repairs (s : State) (r : W32) (f : Request → Request) : (s.modReq r f).repairs = s.repairs := by unfold State.modReq; split <;> rfl
@[simp] theorem State.modReq_routed (s : State) (r : W32) (f : Request → Request) : (s.modReq r f).routed = s.routed := by unfold State.modReq; split <;> rfl
@[simp] theorem State.modReq_colls (s : State) (r : W32) (f : Request → Request) : (s.modReq r f).colls = s.colls := by unfold State.modReq; split <;> rfl
@[simp] theorem State.modReq_tables (s : State) (r : W32) (f : Request → Request) : (s.modReq r f).tables = s.tables := by unfold State.modReq; split <;> rfl
@[simp] theorem State.modReq_vocabs (s : State) (r : W32) (f : Request → Request) : (s.modReq r f).vocabs = s.vocabs := by unfold State.modReq; split <;> rfl
@[simp] theorem State.modReq_models (s : State) (r : W32) (f : Request → Request) : (s.modReq r f).models = s.models := by unfold State.modReq; split <;> rfl
@[simp] theorem State.modReq_stores (s : State) (r : W32) (f : Request → Request) : (s.modReq r f).stores = s.stores := by unfold State.modReq; split <;> rfl
@[simp] theorem State.modReq_templates (s : State) (r : W32) (f : Request → Request) : (s.modReq r f).templates = s.templates := by unfold State.modReq; split <;> rfl
@[simp] theorem State.modReq_grammars (s : State) (r : W32) (f : Request → Request) : (s.modReq r f).grammars = s.grammars := by unfold State.modReq; split <;> rfl
@[simp] theorem State.modReq_patches (s : State) (r : W32) (f : Request → Request) : (s.modReq r f).patches = s.patches := by unfold State.modReq; split <;> rfl
@[simp] theorem State.modReq_nextHandle (s : State) (r : W32) (f : Request → Request) : (s.modReq r f).nextHandle = s.nextHandle := by unfold State.modReq; split <;> rfl

/-! `State.bump` -/

@[simp] theorem State.bump_pending (s : State) (k n : Nat) : (s.bump k n).pending = s.pending := by unfold State.bump; split <;> rfl
@[simp] theorem State.bump_free (s : State) (k n : Nat) : (s.bump k n).free = s.free := by unfold State.bump; split <;> rfl
@[simp] theorem State.bump_sent (s : State) (k n : Nat) : (s.bump k n).sent = s.sent := by unfold State.bump; split <;> rfl
@[simp] theorem State.bump_now (s : State) (k n : Nat) : (s.bump k n).now = s.now := by unfold State.bump; split <;> rfl
@[simp] theorem State.bump_objs (s : State) (k n : Nat) : (s.bump k n).objs = s.objs := by unfold State.bump; split <;> rfl
@[simp] theorem State.bump_fuses (s : State) (k n : Nat) : (s.bump k n).fuses = s.fuses := by unfold State.bump; split <;> rfl
@[simp] theorem State.bump_ledger (s : State) (k n : Nat) : (s.bump k n).ledger = s.ledger := by unfold State.bump; split <;> rfl
@[simp] theorem State.bump_power (s : State) (k n : Nat) : (s.bump k n).power = s.power := by unfold State.bump; split <;> rfl
@[simp] theorem State.bump_tap (s : State) (k n : Nat) : (s.bump k n).tap = s.tap := by unfold State.bump; split <;> rfl
@[simp] theorem State.bump_boot (s : State) (k n : Nat) : (s.bump k n).boot = s.boot := by unfold State.bump; split <;> rfl
@[simp] theorem State.bump_kop (s : State) (k n : Nat) : (s.bump k n).kop = s.kop := by unfold State.bump; split <;> rfl
@[simp] theorem State.bump_portA (s : State) (k n : Nat) : (s.bump k n).portA = s.portA := by unfold State.bump; split <;> rfl
@[simp] theorem State.bump_portB (s : State) (k n : Nat) : (s.bump k n).portB = s.portB := by unfold State.bump; split <;> rfl
@[simp] theorem State.bump_qps (s : State) (k n : Nat) : (s.bump k n).qps = s.qps := by unfold State.bump; split <;> rfl
@[simp] theorem State.bump_rings (s : State) (k n : Nat) : (s.bump k n).rings = s.rings := by unfold State.bump; split <;> rfl
@[simp] theorem State.bump_crings (s : State) (k n : Nat) : (s.bump k n).crings = s.crings := by unfold State.bump; split <;> rfl
@[simp] theorem State.bump_windows (s : State) (k n : Nat) : (s.bump k n).windows = s.windows := by unfold State.bump; split <;> rfl
@[simp] theorem State.bump_events (s : State) (k n : Nat) : (s.bump k n).events = s.events := by unfold State.bump; split <;> rfl
@[simp] theorem State.bump_modEvents (s : State) (k n : Nat) : (s.bump k n).modEvents = s.modEvents := by unfold State.bump; split <;> rfl
@[simp] theorem State.bump_flog (s : State) (k n : Nat) : (s.bump k n).flog = s.flog := by unfold State.bump; split <;> rfl
@[simp] theorem State.bump_flogSeq (s : State) (k n : Nat) : (s.bump k n).flogSeq = s.flogSeq := by unfold State.bump; split <;> rfl
@[simp] theorem State.bump_contexts (s : State) (k n : Nat) : (s.bump k n).contexts = s.contexts := by unfold State.bump; split <;> rfl
@[simp] theorem State.bump_domains (s : State) (k n : Nat) : (s.bump k n).domains = s.domains := by unfold State.bump; split <;> rfl
@[simp] theorem State.bump_regions (s : State) (k n : Nat) : (s.bump k n).regions = s.regions := by unfold State.bump; split <;> rfl
@[simp] theorem State.bump_fills (s : State) (k n : Nat) : (s.bump k n).fills = s.fills := by unfold State.bump; split <;> rfl
@[simp] theorem State.bump_parts (s : State) (k n : Nat) : (s.bump k n).parts = s.parts := by unfold State.bump; split <;> rfl
@[simp] theorem State.bump_jobs (s : State) (k n : Nat) : (s.bump k n).jobs = s.jobs := by unfold State.bump; split <;> rfl
@[simp] theorem State.bump_load (s : State) (k n : Nat) : (s.bump k n).load = s.load := by unfold State.bump; split <;> rfl
@[simp] theorem State.bump_lastLoad (s : State) (k n : Nat) : (s.bump k n).lastLoad = s.lastLoad := by unfold State.bump; split <;> rfl
@[simp] theorem State.bump_arb (s : State) (k n : Nat) : (s.bump k n).arb = s.arb := by unfold State.bump; split <;> rfl
@[simp] theorem State.bump_dies (s : State) (k n : Nat) : (s.bump k n).dies = s.dies := by unfold State.bump; split <;> rfl
@[simp] theorem State.bump_tiles (s : State) (k n : Nat) : (s.bump k n).tiles = s.tiles := by unfold State.bump; split <;> rfl
@[simp] theorem State.bump_mem (s : State) (k n : Nat) : (s.bump k n).mem = s.mem := by unfold State.bump; split <;> rfl
@[simp] theorem State.bump_poison (s : State) (k n : Nat) : (s.bump k n).poison = s.poison := by unfold State.bump; split <;> rfl
@[simp] theorem State.bump_keyed (s : State) (k n : Nat) : (s.bump k n).keyed = s.keyed := by unfold State.bump; split <;> rfl
@[simp] theorem State.bump_pages (s : State) (k n : Nat) : (s.bump k n).pages = s.pages := by unfold State.bump; split <;> rfl
@[simp] theorem State.bump_repairs (s : State) (k n : Nat) : (s.bump k n).repairs = s.repairs := by unfold State.bump; split <;> rfl
@[simp] theorem State.bump_routed (s : State) (k n : Nat) : (s.bump k n).routed = s.routed := by unfold State.bump; split <;> rfl
@[simp] theorem State.bump_colls (s : State) (k n : Nat) : (s.bump k n).colls = s.colls := by unfold State.bump; split <;> rfl
@[simp] theorem State.bump_tables (s : State) (k n : Nat) : (s.bump k n).tables = s.tables := by unfold State.bump; split <;> rfl
@[simp] theorem State.bump_vocabs (s : State) (k n : Nat) : (s.bump k n).vocabs = s.vocabs := by unfold State.bump; split <;> rfl
@[simp] theorem State.bump_models (s : State) (k n : Nat) : (s.bump k n).models = s.models := by unfold State.bump; split <;> rfl
@[simp] theorem State.bump_stores (s : State) (k n : Nat) : (s.bump k n).stores = s.stores := by unfold State.bump; split <;> rfl
@[simp] theorem State.bump_templates (s : State) (k n : Nat) : (s.bump k n).templates = s.templates := by unfold State.bump; split <;> rfl
@[simp] theorem State.bump_grammars (s : State) (k n : Nat) : (s.bump k n).grammars = s.grammars := by unfold State.bump; split <;> rfl
@[simp] theorem State.bump_patches (s : State) (k n : Nat) : (s.bump k n).patches = s.patches := by unfold State.bump; split <;> rfl
@[simp] theorem State.bump_reqs (s : State) (k n : Nat) : (s.bump k n).reqs = s.reqs := by unfold State.bump; split <;> rfl
@[simp] theorem State.bump_nextHandle (s : State) (k n : Nat) : (s.bump k n).nextHandle = s.nextHandle := by unfold State.bump; split <;> rfl

/-! `State.raiseTo` -/

@[simp] theorem State.raiseTo_pending (s : State) (k n : Nat) : (s.raiseTo k n).pending = s.pending := by unfold State.raiseTo; split <;> rfl
@[simp] theorem State.raiseTo_free (s : State) (k n : Nat) : (s.raiseTo k n).free = s.free := by unfold State.raiseTo; split <;> rfl
@[simp] theorem State.raiseTo_sent (s : State) (k n : Nat) : (s.raiseTo k n).sent = s.sent := by unfold State.raiseTo; split <;> rfl
@[simp] theorem State.raiseTo_now (s : State) (k n : Nat) : (s.raiseTo k n).now = s.now := by unfold State.raiseTo; split <;> rfl
@[simp] theorem State.raiseTo_objs (s : State) (k n : Nat) : (s.raiseTo k n).objs = s.objs := by unfold State.raiseTo; split <;> rfl
@[simp] theorem State.raiseTo_fuses (s : State) (k n : Nat) : (s.raiseTo k n).fuses = s.fuses := by unfold State.raiseTo; split <;> rfl
@[simp] theorem State.raiseTo_ledger (s : State) (k n : Nat) : (s.raiseTo k n).ledger = s.ledger := by unfold State.raiseTo; split <;> rfl
@[simp] theorem State.raiseTo_power (s : State) (k n : Nat) : (s.raiseTo k n).power = s.power := by unfold State.raiseTo; split <;> rfl
@[simp] theorem State.raiseTo_tap (s : State) (k n : Nat) : (s.raiseTo k n).tap = s.tap := by unfold State.raiseTo; split <;> rfl
@[simp] theorem State.raiseTo_boot (s : State) (k n : Nat) : (s.raiseTo k n).boot = s.boot := by unfold State.raiseTo; split <;> rfl
@[simp] theorem State.raiseTo_kop (s : State) (k n : Nat) : (s.raiseTo k n).kop = s.kop := by unfold State.raiseTo; split <;> rfl
@[simp] theorem State.raiseTo_portA (s : State) (k n : Nat) : (s.raiseTo k n).portA = s.portA := by unfold State.raiseTo; split <;> rfl
@[simp] theorem State.raiseTo_portB (s : State) (k n : Nat) : (s.raiseTo k n).portB = s.portB := by unfold State.raiseTo; split <;> rfl
@[simp] theorem State.raiseTo_qps (s : State) (k n : Nat) : (s.raiseTo k n).qps = s.qps := by unfold State.raiseTo; split <;> rfl
@[simp] theorem State.raiseTo_rings (s : State) (k n : Nat) : (s.raiseTo k n).rings = s.rings := by unfold State.raiseTo; split <;> rfl
@[simp] theorem State.raiseTo_crings (s : State) (k n : Nat) : (s.raiseTo k n).crings = s.crings := by unfold State.raiseTo; split <;> rfl
@[simp] theorem State.raiseTo_windows (s : State) (k n : Nat) : (s.raiseTo k n).windows = s.windows := by unfold State.raiseTo; split <;> rfl
@[simp] theorem State.raiseTo_events (s : State) (k n : Nat) : (s.raiseTo k n).events = s.events := by unfold State.raiseTo; split <;> rfl
@[simp] theorem State.raiseTo_modEvents (s : State) (k n : Nat) : (s.raiseTo k n).modEvents = s.modEvents := by unfold State.raiseTo; split <;> rfl
@[simp] theorem State.raiseTo_flog (s : State) (k n : Nat) : (s.raiseTo k n).flog = s.flog := by unfold State.raiseTo; split <;> rfl
@[simp] theorem State.raiseTo_flogSeq (s : State) (k n : Nat) : (s.raiseTo k n).flogSeq = s.flogSeq := by unfold State.raiseTo; split <;> rfl
@[simp] theorem State.raiseTo_contexts (s : State) (k n : Nat) : (s.raiseTo k n).contexts = s.contexts := by unfold State.raiseTo; split <;> rfl
@[simp] theorem State.raiseTo_domains (s : State) (k n : Nat) : (s.raiseTo k n).domains = s.domains := by unfold State.raiseTo; split <;> rfl
@[simp] theorem State.raiseTo_regions (s : State) (k n : Nat) : (s.raiseTo k n).regions = s.regions := by unfold State.raiseTo; split <;> rfl
@[simp] theorem State.raiseTo_fills (s : State) (k n : Nat) : (s.raiseTo k n).fills = s.fills := by unfold State.raiseTo; split <;> rfl
@[simp] theorem State.raiseTo_parts (s : State) (k n : Nat) : (s.raiseTo k n).parts = s.parts := by unfold State.raiseTo; split <;> rfl
@[simp] theorem State.raiseTo_jobs (s : State) (k n : Nat) : (s.raiseTo k n).jobs = s.jobs := by unfold State.raiseTo; split <;> rfl
@[simp] theorem State.raiseTo_load (s : State) (k n : Nat) : (s.raiseTo k n).load = s.load := by unfold State.raiseTo; split <;> rfl
@[simp] theorem State.raiseTo_lastLoad (s : State) (k n : Nat) : (s.raiseTo k n).lastLoad = s.lastLoad := by unfold State.raiseTo; split <;> rfl
@[simp] theorem State.raiseTo_arb (s : State) (k n : Nat) : (s.raiseTo k n).arb = s.arb := by unfold State.raiseTo; split <;> rfl
@[simp] theorem State.raiseTo_dies (s : State) (k n : Nat) : (s.raiseTo k n).dies = s.dies := by unfold State.raiseTo; split <;> rfl
@[simp] theorem State.raiseTo_tiles (s : State) (k n : Nat) : (s.raiseTo k n).tiles = s.tiles := by unfold State.raiseTo; split <;> rfl
@[simp] theorem State.raiseTo_mem (s : State) (k n : Nat) : (s.raiseTo k n).mem = s.mem := by unfold State.raiseTo; split <;> rfl
@[simp] theorem State.raiseTo_poison (s : State) (k n : Nat) : (s.raiseTo k n).poison = s.poison := by unfold State.raiseTo; split <;> rfl
@[simp] theorem State.raiseTo_keyed (s : State) (k n : Nat) : (s.raiseTo k n).keyed = s.keyed := by unfold State.raiseTo; split <;> rfl
@[simp] theorem State.raiseTo_pages (s : State) (k n : Nat) : (s.raiseTo k n).pages = s.pages := by unfold State.raiseTo; split <;> rfl
@[simp] theorem State.raiseTo_repairs (s : State) (k n : Nat) : (s.raiseTo k n).repairs = s.repairs := by unfold State.raiseTo; split <;> rfl
@[simp] theorem State.raiseTo_routed (s : State) (k n : Nat) : (s.raiseTo k n).routed = s.routed := by unfold State.raiseTo; split <;> rfl
@[simp] theorem State.raiseTo_colls (s : State) (k n : Nat) : (s.raiseTo k n).colls = s.colls := by unfold State.raiseTo; split <;> rfl
@[simp] theorem State.raiseTo_tables (s : State) (k n : Nat) : (s.raiseTo k n).tables = s.tables := by unfold State.raiseTo; split <;> rfl
@[simp] theorem State.raiseTo_vocabs (s : State) (k n : Nat) : (s.raiseTo k n).vocabs = s.vocabs := by unfold State.raiseTo; split <;> rfl
@[simp] theorem State.raiseTo_models (s : State) (k n : Nat) : (s.raiseTo k n).models = s.models := by unfold State.raiseTo; split <;> rfl
@[simp] theorem State.raiseTo_stores (s : State) (k n : Nat) : (s.raiseTo k n).stores = s.stores := by unfold State.raiseTo; split <;> rfl
@[simp] theorem State.raiseTo_templates (s : State) (k n : Nat) : (s.raiseTo k n).templates = s.templates := by unfold State.raiseTo; split <;> rfl
@[simp] theorem State.raiseTo_grammars (s : State) (k n : Nat) : (s.raiseTo k n).grammars = s.grammars := by unfold State.raiseTo; split <;> rfl
@[simp] theorem State.raiseTo_patches (s : State) (k n : Nat) : (s.raiseTo k n).patches = s.patches := by unfold State.raiseTo; split <;> rfl
@[simp] theorem State.raiseTo_reqs (s : State) (k n : Nat) : (s.raiseTo k n).reqs = s.reqs := by unfold State.raiseTo; split <;> rfl
@[simp] theorem State.raiseTo_nextHandle (s : State) (k n : Nat) : (s.raiseTo k n).nextHandle = s.nextHandle := by unfold State.raiseTo; split <;> rfl

/-! `State.zeroRange` -/

@[simp] theorem State.zeroRange_pending (s : State) (a n : Nat) : (s.zeroRange a n).pending = s.pending := rfl
@[simp] theorem State.zeroRange_free (s : State) (a n : Nat) : (s.zeroRange a n).free = s.free := rfl
@[simp] theorem State.zeroRange_sent (s : State) (a n : Nat) : (s.zeroRange a n).sent = s.sent := rfl
@[simp] theorem State.zeroRange_now (s : State) (a n : Nat) : (s.zeroRange a n).now = s.now := rfl
@[simp] theorem State.zeroRange_cnt (s : State) (a n : Nat) : (s.zeroRange a n).cnt = s.cnt := rfl
@[simp] theorem State.zeroRange_objs (s : State) (a n : Nat) : (s.zeroRange a n).objs = s.objs := rfl
@[simp] theorem State.zeroRange_fuses (s : State) (a n : Nat) : (s.zeroRange a n).fuses = s.fuses := rfl
@[simp] theorem State.zeroRange_ledger (s : State) (a n : Nat) : (s.zeroRange a n).ledger = s.ledger := rfl
@[simp] theorem State.zeroRange_power (s : State) (a n : Nat) : (s.zeroRange a n).power = s.power := rfl
@[simp] theorem State.zeroRange_tap (s : State) (a n : Nat) : (s.zeroRange a n).tap = s.tap := rfl
@[simp] theorem State.zeroRange_boot (s : State) (a n : Nat) : (s.zeroRange a n).boot = s.boot := rfl
@[simp] theorem State.zeroRange_kop (s : State) (a n : Nat) : (s.zeroRange a n).kop = s.kop := rfl
@[simp] theorem State.zeroRange_portA (s : State) (a n : Nat) : (s.zeroRange a n).portA = s.portA := rfl
@[simp] theorem State.zeroRange_portB (s : State) (a n : Nat) : (s.zeroRange a n).portB = s.portB := rfl
@[simp] theorem State.zeroRange_qps (s : State) (a n : Nat) : (s.zeroRange a n).qps = s.qps := rfl
@[simp] theorem State.zeroRange_rings (s : State) (a n : Nat) : (s.zeroRange a n).rings = s.rings := rfl
@[simp] theorem State.zeroRange_crings (s : State) (a n : Nat) : (s.zeroRange a n).crings = s.crings := rfl
@[simp] theorem State.zeroRange_windows (s : State) (a n : Nat) : (s.zeroRange a n).windows = s.windows := rfl
@[simp] theorem State.zeroRange_events (s : State) (a n : Nat) : (s.zeroRange a n).events = s.events := rfl
@[simp] theorem State.zeroRange_modEvents (s : State) (a n : Nat) : (s.zeroRange a n).modEvents = s.modEvents := rfl
@[simp] theorem State.zeroRange_flog (s : State) (a n : Nat) : (s.zeroRange a n).flog = s.flog := rfl
@[simp] theorem State.zeroRange_flogSeq (s : State) (a n : Nat) : (s.zeroRange a n).flogSeq = s.flogSeq := rfl
@[simp] theorem State.zeroRange_contexts (s : State) (a n : Nat) : (s.zeroRange a n).contexts = s.contexts := rfl
@[simp] theorem State.zeroRange_domains (s : State) (a n : Nat) : (s.zeroRange a n).domains = s.domains := rfl
@[simp] theorem State.zeroRange_regions (s : State) (a n : Nat) : (s.zeroRange a n).regions = s.regions := rfl
@[simp] theorem State.zeroRange_fills (s : State) (a n : Nat) : (s.zeroRange a n).fills = s.fills := rfl
@[simp] theorem State.zeroRange_parts (s : State) (a n : Nat) : (s.zeroRange a n).parts = s.parts := rfl
@[simp] theorem State.zeroRange_jobs (s : State) (a n : Nat) : (s.zeroRange a n).jobs = s.jobs := rfl
@[simp] theorem State.zeroRange_load (s : State) (a n : Nat) : (s.zeroRange a n).load = s.load := rfl
@[simp] theorem State.zeroRange_lastLoad (s : State) (a n : Nat) : (s.zeroRange a n).lastLoad = s.lastLoad := rfl
@[simp] theorem State.zeroRange_arb (s : State) (a n : Nat) : (s.zeroRange a n).arb = s.arb := rfl
@[simp] theorem State.zeroRange_dies (s : State) (a n : Nat) : (s.zeroRange a n).dies = s.dies := rfl
@[simp] theorem State.zeroRange_tiles (s : State) (a n : Nat) : (s.zeroRange a n).tiles = s.tiles := rfl
@[simp] theorem State.zeroRange_keyed (s : State) (a n : Nat) : (s.zeroRange a n).keyed = s.keyed := rfl
@[simp] theorem State.zeroRange_pages (s : State) (a n : Nat) : (s.zeroRange a n).pages = s.pages := rfl
@[simp] theorem State.zeroRange_repairs (s : State) (a n : Nat) : (s.zeroRange a n).repairs = s.repairs := rfl
@[simp] theorem State.zeroRange_routed (s : State) (a n : Nat) : (s.zeroRange a n).routed = s.routed := rfl
@[simp] theorem State.zeroRange_colls (s : State) (a n : Nat) : (s.zeroRange a n).colls = s.colls := rfl
@[simp] theorem State.zeroRange_tables (s : State) (a n : Nat) : (s.zeroRange a n).tables = s.tables := rfl
@[simp] theorem State.zeroRange_vocabs (s : State) (a n : Nat) : (s.zeroRange a n).vocabs = s.vocabs := rfl
@[simp] theorem State.zeroRange_models (s : State) (a n : Nat) : (s.zeroRange a n).models = s.models := rfl
@[simp] theorem State.zeroRange_stores (s : State) (a n : Nat) : (s.zeroRange a n).stores = s.stores := rfl
@[simp] theorem State.zeroRange_templates (s : State) (a n : Nat) : (s.zeroRange a n).templates = s.templates := rfl
@[simp] theorem State.zeroRange_grammars (s : State) (a n : Nat) : (s.zeroRange a n).grammars = s.grammars := rfl
@[simp] theorem State.zeroRange_patches (s : State) (a n : Nat) : (s.zeroRange a n).patches = s.patches := rfl
@[simp] theorem State.zeroRange_reqs (s : State) (a n : Nat) : (s.zeroRange a n).reqs = s.reqs := rfl
@[simp] theorem State.zeroRange_nextHandle (s : State) (a n : Nat) : (s.zeroRange a n).nextHandle = s.nextHandle := rfl

/-! ### What an update leaves in the field it writes -/

@[simp] theorem State.tile_setTile (s : State) (t : Nat) (x : Tile) : (s.setTile t x).tile t = x := by
  simp [State.tile, State.setTile]

theorem State.tile_setTile_ne (s : State) (t i : Nat) (x : Tile) (h : t ≠ i) : (s.setTile t x).tile i = s.tile i := by
  simp [State.tile, State.setTile, KMap.getOr_put, h]

@[simp] theorem State.tile_modTile (s : State) (t : Nat) (f : Tile → Tile) : (s.modTile t f).tile t = f (s.tile t) := by
  simp [State.modTile]

@[simp] theorem State.die_setDie (s : State) (d : Nat) (x : Die) : (s.setDie d x).die d = x := by
  simp [State.die, State.setDie]

theorem State.die_setDie_ne (s : State) (d i : Nat) (x : Die) (h : d ≠ i) : (s.setDie d x).die i = s.die i := by
  simp [State.die, State.setDie, KMap.getOr_put, h]

@[simp] theorem State.die_modDie (s : State) (d : Nat) (f : Die → Die) : (s.modDie d f).die d = f (s.die d) := by
  simp [State.modDie]

@[simp] theorem State.job_setJob (s : State) (j : Nat) (x : Job) : (s.setJob j x).job? j = some x := by
  simp [State.job?, State.setJob]

/-- A counter after a bump of any counter. -/
theorem State.count_bump (s : State) (k n i : Nat) :
    (s.bump k n).count i = if n ≠ 0 ∧ k = i then (s.count i + n) % 2 ^ 64 else s.count i := by
  unfold State.bump
  by_cases h : n = 0
  · simp [h]
  · simp only [h, if_false, State.count, KMap.getOr_put]
    by_cases hk : k = i <;> simp [hk, h]

/-- A bump changes counters only. -/
theorem State.bump_frame (s : State) (k n : Nat) : ∃ c, s.bump k n = { s with cnt := c } := by
  unfold State.bump; split
  · exact ⟨s.cnt, rfl⟩
  · exact ⟨_, rfl⟩

@[simp] theorem State.tile_bump (s : State) (k n t : Nat) : (s.bump k n).tile t = s.tile t := by simp [State.tile]
@[simp] theorem State.die_bump (s : State) (k n d : Nat) : (s.bump k n).die d = s.die d := by simp [State.die]
@[simp] theorem State.job_bump (s : State) (k n j : Nat) : (s.bump k n).job? j = s.job? j := by simp [State.job?]
@[simp] theorem State.die_modTile (s : State) (t d : Nat) (f : Tile → Tile) : (s.modTile t f).die d = s.die d := rfl
@[simp] theorem State.tile_modDie (s : State) (d t : Nat) (f : Die → Die) : (s.modDie d f).tile t = s.tile t := rfl
@[simp] theorem State.job_modTile (s : State) (t j : Nat) (f : Tile → Tile) : (s.modTile t f).job? j = s.job? j := rfl

end Sys2Proof.Machine
end

