-- ==== Sys2Proof/Laws/Keeps.lean ====
section
/-! SUPPORT. What the shared operations over the whole state leave alone: for each, that the queue of waiting commands, the TAP, the fuses and
memory are as before, as far as that holds of it; and that those which do change memory keep its canonical form. -/

open Sys2Proof Sys2Proof.Machine

set_option maxRecDepth 4000

namespace Sys2Proof.Machine
@[simp] theorem foldl_pending {α : Type} (f : State → α → State) (l : List α) (s : State) (h : ∀ s a, (f s a).pending = s.pending) :
    (l.foldl f s).pending = s.pending := by
  induction l generalizing s with
  | nil => rfl
  | cons a l ih => simp [List.foldl, ih, h]

@[simp] theorem ite_pending_eq (c : Prop) [Decidable c] (a b : State) : (if c then a else b).pending = if c then a.pending else b.pending := by
  by_cases h : c <;> simp [h]

@[simp] theorem foldl_tap {α : Type} (f : State → α → State) (l : List α) (s : State) (h : ∀ s a, (f s a).tap = s.tap) :
    (l.foldl f s).tap = s.tap := by
  induction l generalizing s with
  | nil => rfl
  | cons a l ih => simp [List.foldl, ih, h]

@[simp] theorem ite_tap_eq (c : Prop) [Decidable c] (a b : State) : (if c then a else b).tap = if c then a.tap else b.tap := by
  by_cases h : c <;> simp [h]

@[simp] theorem foldl_fuses {α : Type} (f : State → α → State) (l : List α) (s : State) (h : ∀ s a, (f s a).fuses = s.fuses) :
    (l.foldl f s).fuses = s.fuses := by
  induction l generalizing s with
  | nil => rfl
  | cons a l ih => simp [List.foldl, ih, h]

@[simp] theorem ite_fuses_eq (c : Prop) [Decidable c] (a b : State) : (if c then a else b).fuses = if c then a.fuses else b.fuses := by
  by_cases h : c <;> simp [h]

@[simp] theorem foldl_mem {α : Type} (f : State → α → State) (l : List α) (s : State) (h : ∀ s a, (f s a).mem = s.mem) :
    (l.foldl f s).mem = s.mem := by
  induction l generalizing s with
  | nil => rfl
  | cons a l ih => simp [List.foldl, ih, h]

@[simp] theorem ite_mem_eq (c : Prop) [Decidable c] (a b : State) : (if c then a else b).mem = if c then a.mem else b.mem := by
  by_cases h : c <;> simp [h]

@[simp] theorem State.draw_keeps (s : State) : s.draw.2.pending = s.pending ∧ s.draw.2.tap = s.tap ∧ s.draw.2.fuses = s.fuses ∧ s.draw.2.mem = s.mem := ⟨rfl, rfl, rfl, rfl⟩

@[simp] theorem State.drawLanes_keeps (s : State) (n : Nat) : (s.drawLanes n).2.pending = s.pending ∧ (s.drawLanes n).2.tap = s.tap ∧ (s.drawLanes n).2.fuses = s.fuses ∧ (s.drawLanes n).2.mem = s.mem :=
  ⟨rfl, rfl, rfl, rfl⟩

@[simp] theorem State.bump_keeps (s : State) (k n : Nat) :
    (s.bump k n).pending = s.pending ∧ (s.bump k n).tap = s.tap ∧ (s.bump k n).fuses = s.fuses ∧ (s.bump k n).mem = s.mem := by
  unfold State.bump; simp

@[simp] theorem State.raiseTo_keeps (s : State) (k n : Nat) :
    (s.raiseTo k n).pending = s.pending ∧ (s.raiseTo k n).tap = s.tap ∧ (s.raiseTo k n).fuses = s.fuses ∧ (s.raiseTo k n).mem = s.mem := by
  unfold State.raiseTo; simp

@[simp] theorem State.clearCounts_keeps (s : State) (idx lo hi : Nat) :
    (s.clearCounts idx lo hi).pending = s.pending ∧ (s.clearCounts idx lo hi).tap = s.tap ∧ (s.clearCounts idx lo hi).fuses = s.fuses ∧ (s.clearCounts idx lo hi).mem = s.mem := by
  unfold State.clearCounts; simp

@[simp] theorem State.send_keeps (s : State) (m : Sent) :
    (s.send m).pending = s.pending ∧ (s.send m).tap = s.tap ∧ (s.send m).fuses = s.fuses ∧ (s.send m).mem = s.mem := by
  unfold State.send; (repeat' split) <;> simp

@[simp] theorem State.setDie_keeps (s : State) (d : Nat) (x : Die) :
    (s.setDie d x).pending = s.pending ∧ (s.setDie d x).tap = s.tap ∧ (s.setDie d x).fuses = s.fuses ∧ (s.setDie d x).mem = s.mem := by
  unfold State.setDie; simp

@[simp] theorem State.modDie_keeps (s : State) (d : Nat) (f : Die → Die) :
    (s.modDie d f).pending = s.pending ∧ (s.modDie d f).tap = s.tap ∧ (s.modDie d f).fuses = s.fuses ∧ (s.modDie d f).mem = s.mem := by
  unfold State.modDie; simp

@[simp] theorem State.setTile_keeps (s : State) (t : Nat) (x : Tile) :
    (s.setTile t x).pending = s.pending ∧ (s.setTile t x).tap = s.tap ∧ (s.setTile t x).fuses = s.fuses ∧ (s.setTile t x).mem = s.mem := by
  unfold State.setTile; simp

@[simp] theorem State.modTile_keeps (s : State) (t : Nat) (f : Tile → Tile) :
    (s.modTile t f).pending = s.pending ∧ (s.modTile t f).tap = s.tap ∧ (s.modTile t f).fuses = s.fuses ∧ (s.modTile t f).mem = s.mem := by
  unfold State.modTile; simp

@[simp] theorem State.tbump_keeps (s : State) (t k sub n : Nat) :
    (s.tbump t k sub n).pending = s.pending ∧ (s.tbump t k sub n).tap = s.tap ∧ (s.tbump t k sub n).fuses = s.fuses ∧ (s.tbump t k sub n).mem = s.mem := by
  unfold State.tbump; simp

@[simp] theorem State.dbump_keeps (s : State) (d k sub n : Nat) :
    (s.dbump d k sub n).pending = s.pending ∧ (s.dbump d k sub n).tap = s.tap ∧ (s.dbump d k sub n).fuses = s.fuses ∧ (s.dbump d k sub n).mem = s.mem := by
  unfold State.dbump; simp

@[simp] theorem State.stretch_keeps (s : State) (d : Nat) (f : Die → Die) :
    (s.stretch d f).pending = s.pending ∧ (s.stretch d f).tap = s.tap ∧ (s.stretch d f).fuses = s.fuses ∧ (s.stretch d f).mem = s.mem := by
  unfold State.stretch; simp

@[simp] theorem State.keyGranule_keeps (s : State) (g : Nat) :
    (s.keyGranule g).pending = s.pending ∧ (s.keyGranule g).tap = s.tap ∧ (s.keyGranule g).fuses = s.fuses ∧ (s.keyGranule g).mem = s.mem := by
  unfold State.keyGranule; simp

@[simp] theorem State.cancelWbs_keeps (s : State) (a n : Nat) :
    (s.cancelWbs a n).pending = s.pending ∧ (s.cancelWbs a n).tap = s.tap ∧ (s.cancelWbs a n).fuses = s.fuses ∧ (s.cancelWbs a n).mem = s.mem := by
  unfold State.cancelWbs; simp

@[simp] theorem State.store_keeps (s : State) (a : Nat) (bs : Bytes) (marks : List Bool) :
    (s.store a bs marks).pending = s.pending ∧ (s.store a bs marks).tap = s.tap ∧ (s.store a bs marks).fuses = s.fuses := by
  unfold State.store; simp

@[simp] theorem State.storeClean_keeps (s : State) (a : Nat) (bs : Bytes) :
    (s.storeClean a bs).pending = s.pending ∧ (s.storeClean a bs).tap = s.tap ∧ (s.storeClean a bs).fuses = s.fuses := by
  unfold State.storeClean; simp

@[simp] theorem State.copy_keeps (s : State) (src dst n : Nat) :
    (s.copy src dst n).pending = s.pending ∧ (s.copy src dst n).tap = s.tap ∧ (s.copy src dst n).fuses = s.fuses := by
  unfold State.copy; simp

@[simp] theorem State.zeroRange_keeps (s : State) (a n : Nat) :
    (s.zeroRange a n).pending = s.pending ∧ (s.zeroRange a n).tap = s.tap ∧ (s.zeroRange a n).fuses = s.fuses := by
  unfold State.zeroRange; simp

@[simp] theorem notifySession_pending (s sn c b) : (notifySession s sn c b).2.pending = s.pending := by unfold notifySession; simp only []; split <;> simp
@[simp] theorem notifyAll_pending (s c b l) : (notifyAll s c b l).2.pending = s.pending := by
  induction l generalizing s with
  | nil => rfl
  | cons a l ih => simp only [notifyAll]; split <;> simp [ih]

@[simp] theorem notifySession_tap (s sn c b) : (notifySession s sn c b).2.tap = s.tap := by unfold notifySession; simp only []; split <;> simp
@[simp] theorem notifyAll_tap (s c b l) : (notifyAll s c b l).2.tap = s.tap := by
  induction l generalizing s with
  | nil => rfl
  | cons a l ih => simp only [notifyAll]; split <;> simp [ih]

@[simp] theorem notifySession_fuses (s sn c b) : (notifySession s sn c b).2.fuses = s.fuses := by unfold notifySession; simp only []; split <;> simp
@[simp] theorem notifyAll_fuses (s c b l) : (notifyAll s c b l).2.fuses = s.fuses := by
  induction l generalizing s with
  | nil => rfl
  | cons a l ih => simp only [notifyAll]; split <;> simp [ih]

@[simp] theorem notifySession_mem (s sn c b) : (notifySession s sn c b).2.mem = s.mem := by unfold notifySession; simp only []; split <;> simp
@[simp] theorem notifyAll_mem (s c b l) : (notifyAll s c b l).2.mem = s.mem := by
  induction l generalizing s with
  | nil => rfl
  | cons a l ih => simp only [notifyAll]; split <;> simp [ih]

@[simp] theorem State.notify_keeps (s : State) (cls : Nat) (body : Bytes) :
    (s.notify cls body).pending = s.pending ∧ (s.notify cls body).tap = s.tap ∧ (s.notify cls body).fuses = s.fuses ∧ (s.notify cls body).mem = s.mem := by
  unfold State.notify; simp

@[simp] theorem State.notifyReady_keeps (s : State) (idx sub v : Nat) :
    (s.notifyReady idx sub v).pending = s.pending ∧ (s.notifyReady idx sub v).tap = s.tap ∧ (s.notifyReady idx sub v).fuses = s.fuses ∧ (s.notifyReady idx sub v).mem = s.mem := by
  unfold State.notifyReady; simp

@[simp] theorem State.notifyJob_keeps (s : State) (j st endSt : Nat) :
    (s.notifyJob j st endSt).pending = s.pending ∧ (s.notifyJob j st endSt).tap = s.tap ∧ (s.notifyJob j st endSt).fuses = s.fuses ∧ (s.notifyJob j st endSt).mem = s.mem := by
  unfold State.notifyJob; simp

@[simp] theorem State.log_keeps (s : State) (r : LogRec) :
    (s.log r).pending = s.pending ∧ (s.log r).tap = s.tap ∧ (s.log r).fuses = s.fuses ∧ (s.log r).mem = s.mem := by
  unfold State.log; simp

@[simp] theorem State.setJob_keeps (s : State) (j : Nat) (x : Job) :
    (s.setJob j x).pending = s.pending ∧ (s.setJob j x).tap = s.tap ∧ (s.setJob j x).fuses = s.fuses ∧ (s.setJob j x).mem = s.mem := by
  unfold State.setJob; simp

@[simp] theorem State.modJob_keeps (s : State) (j : Nat) (f : Job → Job) :
    (s.modJob j f).pending = s.pending ∧ (s.modJob j f).tap = s.tap ∧ (s.modJob j f).fuses = s.fuses ∧ (s.modJob j f).mem = s.mem := by
  unfold State.modJob; (repeat' split) <;> simp

@[simp] theorem State.await_keeps (s : State) (t : Nat) (w : SeqWait) :
    (s.await t w).pending = s.pending ∧ (s.await t w).tap = s.tap ∧ (s.await t w).fuses = s.fuses ∧ (s.await t w).mem = s.mem := by
  unfold State.await; simp

@[simp] theorem State.resume_keeps (s : State) (t : Nat) :
    (s.resume t).pending = s.pending ∧ (s.resume t).tap = s.tap ∧ (s.resume t).fuses = s.fuses ∧ (s.resume t).mem = s.mem := by
  unfold State.resume; simp

@[simp] theorem State.signal_keeps (s : State) (issuer d c : Nat) :
    (s.signal issuer d c).pending = s.pending ∧ (s.signal issuer d c).tap = s.tap ∧ (s.signal issuer d c).fuses = s.fuses ∧ (s.signal issuer d c).mem = s.mem := by
  unfold State.signal; simp

@[simp] theorem State.openPage_keeps (s : State) (j a : Nat) :
    (s.openPage j a).pending = s.pending ∧ (s.openPage j a).tap = s.tap ∧ (s.openPage j a).fuses = s.fuses ∧ (s.openPage j a).mem = s.mem := by
  unfold State.openPage; (repeat' split) <;> simp

@[simp] theorem State.openRange_keeps (s : State) (j a n : Nat) :
    (s.openRange j a n).pending = s.pending ∧ (s.openRange j a n).tap = s.tap ∧ (s.openRange j a n).fuses = s.fuses ∧ (s.openRange j a n).mem = s.mem := by
  unfold State.openRange; simp

@[simp] theorem State.sealPages_keeps (s : State) (bases : List Nat) (log2 : Nat) :
    (s.sealPages bases log2).pending = s.pending ∧ (s.sealPages bases log2).tap = s.tap ∧ (s.sealPages bases log2).fuses = s.fuses ∧ (s.sealPages bases log2).mem = s.mem := by
  unfold State.sealPages; simp

@[simp] theorem State.freePages_keeps (s : State) (a n : Nat) :
    (s.freePages a n).pending = s.pending ∧ (s.freePages a n).tap = s.tap ∧ (s.freePages a n).fuses = s.fuses ∧ (s.freePages a n).mem = s.mem := by
  unfold State.freePages; simp

@[simp] theorem State.enqueue_keeps (s : State) (d requester : Nat) (write : Bool) (gs : List Nat) :
    (s.enqueue d requester write gs).pending = s.pending ∧ (s.enqueue d requester write gs).tap = s.tap ∧ (s.enqueue d requester write gs).fuses = s.fuses ∧ (s.enqueue d requester write gs).mem = s.mem := by
  unfold State.enqueue; simp

@[simp] theorem State.request_keeps (s : State) (src own : Nat) (write : Bool) (a n : Nat) :
    (s.request src own write a n).pending = s.pending ∧ (s.request src own write a n).tap = s.tap ∧ (s.request src own write a n).fuses = s.fuses ∧ (s.request src own write a n).mem = s.mem := by
  unfold State.request; simp

@[simp] theorem State.setReq_keeps (s : State) (r : W32) (x : Request) :
    (s.setReq r x).pending = s.pending ∧ (s.setReq r x).tap = s.tap ∧ (s.setReq r x).fuses = s.fuses ∧ (s.setReq r x).mem = s.mem := by
  unfold State.setReq; simp

@[simp] theorem State.modReq_keeps (s : State) (r : W32) (f : Request → Request) :
    (s.modReq r f).pending = s.pending ∧ (s.modReq r f).tap = s.tap ∧ (s.modReq r f).fuses = s.fuses ∧ (s.modReq r f).mem = s.mem := by
  unfold State.modReq; (repeat' split) <;> simp

@[simp] theorem State.unpinAll_keeps (s : State) (r : W32) :
    (s.unpinAll r).pending = s.pending ∧ (s.unpinAll r).tap = s.tap ∧ (s.unpinAll r).fuses = s.fuses ∧ (s.unpinAll r).mem = s.mem := by
  unfold State.unpinAll; simp

@[simp] theorem State.leaveQueues_keeps (s : State) (r : W32) :
    (s.leaveQueues r).pending = s.pending ∧ (s.leaveQueues r).tap = s.tap ∧ (s.leaveQueues r).fuses = s.fuses ∧ (s.leaveQueues r).mem = s.mem := by
  unfold State.leaveQueues; simp

@[simp] theorem State.failReq_keeps (s : State) (r : W32) (st : Status) :
    (s.failReq r st).pending = s.pending ∧ (s.failReq r st).tap = s.tap ∧ (s.failReq r st).fuses = s.fuses ∧ (s.failReq r st).mem = s.mem := by
  unfold State.failReq; (repeat' split) <;> simp

@[simp] theorem State.failReqs_keeps (s : State) (j : Nat) (st : Status) :
    (s.failReqs j st).pending = s.pending ∧ (s.failReqs j st).tap = s.tap ∧ (s.failReqs j st).fuses = s.fuses ∧ (s.failReqs j st).mem = s.mem := by
  unfold State.failReqs; simp

@[simp] theorem State.endReqs_keeps (s : State) (j : Nat) (st : Status) :
    (s.endReqs j st).pending = s.pending ∧ (s.endReqs j st).tap = s.tap ∧ (s.endReqs j st).fuses = s.fuses ∧ (s.endReqs j st).mem = s.mem := by
  unfold State.endReqs; simp

@[simp] theorem State.addOut_keeps (s : State) (q : Nat) (o : OutOp) :
    (s.addOut q o).pending = s.pending ∧ (s.addOut q o).tap = s.tap ∧ (s.addOut q o).fuses = s.fuses ∧ (s.addOut q o).mem = s.mem := by
  unfold State.addOut; (repeat' split) <;> simp

@[simp] theorem State.dropOut_keeps (s : State) (q : Nat) (o : OutOp) :
    (s.dropOut q o).pending = s.pending ∧ (s.dropOut q o).tap = s.tap ∧ (s.dropOut q o).fuses = s.fuses ∧ (s.dropOut q o).mem = s.mem := by
  unfold State.dropOut; (repeat' split) <;> simp

@[simp] theorem State.dropReads_keeps (s : State) (r : W32) :
    (s.dropReads r).pending = s.pending ∧ (s.dropReads r).tap = s.tap ∧ (s.dropReads r).fuses = s.fuses ∧ (s.dropReads r).mem = s.mem := by
  unfold State.dropReads; simp

@[simp] theorem State.arrayEvent_keeps (s : State) (t : Nat) :
    (s.arrayEvent t).pending = s.pending ∧ (s.arrayEvent t).tap = s.tap ∧ (s.arrayEvent t).fuses = s.fuses ∧ (s.arrayEvent t).mem = s.mem := by
  unfold State.arrayEvent; simp

@[simp] theorem State.knownAnswer_keeps (s : State) (t : Nat) :
    (s.knownAnswer t).pending = s.pending ∧ (s.knownAnswer t).tap = s.tap ∧ (s.knownAnswer t).fuses = s.fuses ∧ (s.knownAnswer t).mem = s.mem := by
  unfold State.knownAnswer; simp

@[simp] theorem State.blankTile_keeps (s : State) (t : Nat) :
    (s.blankTile t).pending = s.pending ∧ (s.blankTile t).tap = s.tap ∧ (s.blankTile t).fuses = s.fuses := by
  unfold State.blankTile; simp

@[simp] theorem State.zeroTile_keeps (s : State) (t : Nat) :
    (s.zeroTile t).pending = s.pending ∧ (s.zeroTile t).tap = s.tap ∧ (s.zeroTile t).fuses = s.fuses := by
  unfold State.zeroTile; simp

@[simp] theorem State.powerOffIdle_keeps (s : State) (t : Nat) :
    (s.powerOffIdle t).pending = s.pending ∧ (s.powerOffIdle t).tap = s.tap ∧ (s.powerOffIdle t).fuses = s.fuses := by
  unfold State.powerOffIdle; simp

@[simp] theorem State.dropServices_keeps (s : State) (j : Nat) :
    (s.dropServices j).pending = s.pending ∧ (s.dropServices j).tap = s.tap ∧ (s.dropServices j).fuses = s.fuses ∧ (s.dropServices j).mem = s.mem := by
  unfold State.dropServices; simp

@[simp] theorem State.dropHeld_keeps (s : State) (j : Nat) :
    (s.dropHeld j).pending = s.pending ∧ (s.dropHeld j).tap = s.tap ∧ (s.dropHeld j).fuses = s.fuses ∧ (s.dropHeld j).mem = s.mem := by
  unfold State.dropHeld; simp

@[simp] theorem State.endJob_keeps (s : State) (j : Nat) (st : Status) :
    (s.endJob j st).pending = s.pending ∧ (s.endJob j st).tap = s.tap ∧ (s.endJob j st).fuses = s.fuses := by
  refine ⟨?_, ?_, ?_⟩ <;> (unfold State.endJob; repeat' first | (simp; done) | intro _ | refine (foldl_pending _ _ _ ?_).trans ?_ | refine (foldl_tap _ _ _ ?_).trans ?_ | refine (foldl_fuses _ _ _ ?_).trans ?_ | split | (simp; fail_if_success done))

@[simp] theorem State.refuseJob_keeps (s : State) (j : Nat) (st : Status) (rec : LogRec) :
    (s.refuseJob j st rec).pending = s.pending ∧ (s.refuseJob j st rec).tap = s.tap ∧ (s.refuseJob j st rec).fuses = s.fuses := by
  unfold State.refuseJob; simp

@[simp] theorem State.refuseItem_keeps (s : State) (t j : Nat) (st : Status) (reason entry : Nat) (item : Bytes) :
    (s.refuseItem t j st reason entry item).pending = s.pending ∧ (s.refuseItem t j st reason entry item).tap = s.tap ∧ (s.refuseItem t j st reason entry item).fuses = s.fuses := by
  unfold State.refuseItem; simp

@[simp] theorem State.poisonJob_keeps (s : State) (t j : Nat) (item : Bytes) :
    (s.poisonJob t j item).pending = s.pending ∧ (s.poisonJob t j item).tap = s.tap ∧ (s.poisonJob t j item).fuses = s.fuses := by
  unfold State.poisonJob; simp

@[simp] theorem State.sealViolation_keeps (s : State) (j t a : Nat) :
    (s.sealViolation j t a).pending = s.pending ∧ (s.sealViolation j t a).tap = s.tap ∧ (s.sealViolation j t a).fuses = s.fuses := by
  unfold State.sealViolation; simp

@[simp] theorem State.logPoison_keeps (s : State) (t : Nat) (item : Bytes) (fa : Nat) :
    (s.logPoison t item fa).pending = s.pending ∧ (s.logPoison t item fa).tap = s.tap ∧ (s.logPoison t item fa).fuses = s.fuses ∧ (s.logPoison t item fa).mem = s.mem := by
  unfold State.logPoison; simp

@[simp] theorem State.pushPass_keeps (s : State) (t : Nat) (d : Bytes) :
    (s.pushPass t d).pending = s.pending ∧ (s.pushPass t d).tap = s.tap ∧ (s.pushPass t d).fuses = s.fuses ∧ (s.pushPass t d).mem = s.mem := by
  unfold State.pushPass; simp

@[simp] theorem State.retryPass_keeps (s : State) (t : Nat) :
    (s.retryPass t).pending = s.pending ∧ (s.retryPass t).tap = s.tap ∧ (s.retryPass t).fuses = s.fuses ∧ (s.retryPass t).mem = s.mem := by
  unfold State.retryPass; (repeat' split) <;> simp

@[simp] theorem State.accUpdate_keeps (s : State) (t : Nat) (d : Bytes) (idx : Nat) (faulty : Bool) (c : Contrib) :
    (s.accUpdate t d idx faulty c).pending = s.pending ∧ (s.accUpdate t d idx faulty c).tap = s.tap ∧ (s.accUpdate t d idx faulty c).fuses = s.fuses := by
  unfold State.accUpdate; (repeat' split) <;> simp

@[simp] theorem State.applyCols_keeps (s : State) (t : Nat) (d : Bytes) (stat lo hi : Nat) (faulty : List Nat) :
    (s.applyCols t d stat lo hi faulty).pending = s.pending ∧ (s.applyCols t d stat lo hi faulty).tap = s.tap ∧ (s.applyCols t d stat lo hi faulty).fuses = s.fuses := by
  unfold State.applyCols; simp

@[simp] theorem State.sendAdmin_keeps (s : State) (bs : Bytes) :
    (s.sendAdmin bs).pending = s.pending ∧ (s.sendAdmin bs).tap = s.tap ∧ (s.sendAdmin bs).fuses = s.fuses ∧ (s.sendAdmin bs).mem = s.mem := by
  refine ⟨?_, ?_, ?_, ?_⟩ <;> (unfold State.sendAdmin; repeat' first | (simp; done) | intro _ | refine (foldl_pending _ _ _ ?_).trans ?_ | refine (foldl_tap _ _ _ ?_).trans ?_ | refine (foldl_fuses _ _ _ ?_).trans ?_ | refine (foldl_mem _ _ _ ?_).trans ?_ | split)

@[simp] theorem State.modEvent_keeps (s : State) (st : Status) (source port object value ctx : Nat) :
    (s.modEvent st source port object value ctx).pending = s.pending ∧ (s.modEvent st source port object value ctx).tap = s.tap ∧ (s.modEvent st source port object value ctx).fuses = s.fuses ∧ (s.modEvent st source port object value ctx).mem = s.mem := by
  unfold State.modEvent; simp

@[simp] theorem State.ctxEvent_keeps (s : State) (c : Nat) (st : Status) (source port object value : Nat) :
    (s.ctxEvent c st source port object value).pending = s.pending ∧ (s.ctxEvent c st source port object value).tap = s.tap ∧ (s.ctxEvent c st source port object value).fuses = s.fuses ∧ (s.ctxEvent c st source port object value).mem = s.mem := by
  unfold State.ctxEvent; simp

@[simp] theorem State.setQueue_keeps (s : State) (i : QueueId) (q : Queue) :
    (s.setQueue i q).pending = s.pending ∧ (s.setQueue i q).tap = s.tap ∧ (s.setQueue i q).fuses = s.fuses ∧ (s.setQueue i q).mem = s.mem := by
  unfold State.setQueue; (repeat' split) <;> simp

@[simp] theorem State.hamperCount_keeps (s : State) (i : QueueId) (sub n : Nat) :
    (s.hamperCount i sub n).pending = s.pending ∧ (s.hamperCount i sub n).tap = s.tap ∧ (s.hamperCount i sub n).fuses = s.fuses ∧ (s.hamperCount i sub n).mem = s.mem := by
  unfold State.hamperCount; (repeat' split) <;> simp

@[simp] theorem State.headerLost_keeps (s : State) (i : QueueId) :
    (s.headerLost i).pending = s.pending ∧ (s.headerLost i).tap = s.tap ∧ (s.headerLost i).fuses = s.fuses := by
  unfold State.headerLost; (repeat' split) <;> simp

@[simp] theorem State.withReady_keeps (s : State) (on off : Nat) :
    (s.withReady on off).pending = s.pending ∧ (s.withReady on off).tap = s.tap ∧ (s.withReady on off).fuses = s.fuses ∧ (s.withReady on off).mem = s.mem := by
  unfold State.withReady; simp

@[simp] theorem State.setDieState_keeps (s : State) (d : Nat) (st : DieState) :
    (s.setDieState d st).pending = s.pending ∧ (s.setDieState d st).tap = s.tap ∧ (s.setDieState d st).fuses = s.fuses ∧ (s.setDieState d st).mem = s.mem := by
  unfold State.setDieState; simp

@[simp] theorem State.modSession_keeps (s : State) (sid : W32) (f : Session → Session) :
    (s.modSession sid f).pending = s.pending ∧ (s.modSession sid f).tap = s.tap ∧ (s.modSession sid f).fuses = s.fuses ∧ (s.modSession sid f).mem = s.mem := by
  unfold State.modSession; simp

@[simp] theorem State.answer_keeps (s : State) (r : Requester) (type : Byte) (st : Status) (payload : Bytes) :
    (s.answer r type st payload).pending = s.pending ∧ (s.answer r type st payload).tap = s.tap ∧ (s.answer r type st payload).fuses = s.fuses ∧ (s.answer r type st payload).mem = s.mem := by
  unfold State.answer; (repeat' split) <;> simp

@[simp] theorem State.replyWrite_keeps (s : State) (r : Requester) (key : Nat) (st : Status) :
    (s.replyWrite r key st).pending = s.pending ∧ (s.replyWrite r key st).tap = s.tap ∧ (s.replyWrite r key st).fuses = s.fuses ∧ (s.replyWrite r key st).mem = s.mem := by
  unfold State.replyWrite; simp

@[simp] theorem State.objWrite_pending (s : State) (r : Requester) (idx sub : Nat) (v : Bytes) (typ : Nat) (extra : List Status) (act : State → State)
    (h : ∀ s, (act s).pending = s.pending) : (s.objWrite r idx sub v typ extra act).pending = s.pending := by unfold State.objWrite; (repeat' split) <;> simp [h]

@[simp] theorem State.objWrite_tap (s : State) (r : Requester) (idx sub : Nat) (v : Bytes) (typ : Nat) (extra : List Status) (act : State → State)
    (h : ∀ s, (act s).tap = s.tap) : (s.objWrite r idx sub v typ extra act).tap = s.tap := by unfold State.objWrite; (repeat' split) <;> simp [h]

@[simp] theorem State.objWrite_fuses (s : State) (r : Requester) (idx sub : Nat) (v : Bytes) (typ : Nat) (extra : List Status) (act : State → State)
    (h : ∀ s, (act s).fuses = s.fuses) : (s.objWrite r idx sub v typ extra act).fuses = s.fuses := by unfold State.objWrite; (repeat' split) <;> simp [h]

@[simp] theorem State.objWrite_mem (s : State) (r : Requester) (idx sub : Nat) (v : Bytes) (typ : Nat) (extra : List Status) (act : State → State)
    (h : ∀ s, (act s).mem = s.mem) : (s.objWrite r idx sub v typ extra act).mem = s.mem := by unfold State.objWrite; (repeat' split) <;> simp [h]

@[simp] theorem State.objWriteNow_pending (s : State) (r : Requester) (idx sub : Nat) (v : Bytes) (extra : List Status) (act : State → State)
    (h : ∀ s, (act s).pending = s.pending) : (s.objWriteNow r idx sub v extra act).pending = s.pending := by simp [State.objWriteNow, h]

@[simp] theorem State.objWriteNow_tap (s : State) (r : Requester) (idx sub : Nat) (v : Bytes) (extra : List Status) (act : State → State)
    (h : ∀ s, (act s).tap = s.tap) : (s.objWriteNow r idx sub v extra act).tap = s.tap := by simp [State.objWriteNow, h]

@[simp] theorem State.objWriteNow_fuses (s : State) (r : Requester) (idx sub : Nat) (v : Bytes) (extra : List Status) (act : State → State)
    (h : ∀ s, (act s).fuses = s.fuses) : (s.objWriteNow r idx sub v extra act).fuses = s.fuses := by simp [State.objWriteNow, h]

@[simp] theorem State.objWriteNow_mem (s : State) (r : Requester) (idx sub : Nat) (v : Bytes) (extra : List Status) (act : State → State)
    (h : ∀ s, (act s).mem = s.mem) : (s.objWriteNow r idx sub v extra act).mem = s.mem := by simp [State.objWriteNow, h]

@[simp] theorem State.clearWrite_keeps (s : State) (r : Requester) (idx sub : Nat) (v : Bytes) :
    (s.clearWrite r idx sub v).pending = s.pending ∧ (s.clearWrite r idx sub v).tap = s.tap ∧ (s.clearWrite r idx sub v).fuses = s.fuses ∧ (s.clearWrite r idx sub v).mem = s.mem := by
  unfold State.clearWrite; simp

@[simp] theorem State.nextObjWrite_keeps (s : State) :
    s.nextObjWrite.pending = s.pending ∧ s.nextObjWrite.tap = s.tap ∧ s.nextObjWrite.fuses = s.fuses ∧ s.nextObjWrite.mem = s.mem := by
  unfold State.nextObjWrite; (repeat' split) <;> simp

@[simp] theorem State.persist_keeps (s : State) (r : Requester) (key : Nat) (v : Bytes) :
    (s.persist r key v).pending = s.pending ∧ (s.persist r key v).tap = s.tap ∧ (s.persist r key v).fuses = s.fuses ∧ (s.persist r key v).mem = s.mem := by
  unfold State.persist; simp

@[simp] theorem State.writeContextSetup_keeps (s : State) (r : Requester) (v : Bytes) :
    (s.writeContextSetup r v).pending = s.pending ∧ (s.writeContextSetup r v).tap = s.tap ∧ (s.writeContextSetup r v).fuses = s.fuses ∧ (s.writeContextSetup r v).mem = s.mem := by
  unfold State.writeContextSetup; simp

@[simp] theorem State.writeContextDelete_keeps (s : State) (r : Requester) (v : Bytes) :
    (s.writeContextDelete r v).pending = s.pending ∧ (s.writeContextDelete r v).tap = s.tap ∧ (s.writeContextDelete r v).fuses = s.fuses ∧ (s.writeContextDelete r v).mem = s.mem := by
  unfold State.writeContextDelete; simp

@[simp] theorem State.writeDomainCreate_keeps (s : State) (r : Requester) (v : Bytes) :
    (s.writeDomainCreate r v).pending = s.pending ∧ (s.writeDomainCreate r v).tap = s.tap ∧ (s.writeDomainCreate r v).fuses = s.fuses ∧ (s.writeDomainCreate r v).mem = s.mem := by
  unfold State.writeDomainCreate; simp

@[simp] theorem State.writeDomainDestroy_keeps (s : State) (r : Requester) (v : Bytes) :
    (s.writeDomainDestroy r v).pending = s.pending ∧ (s.writeDomainDestroy r v).tap = s.tap ∧ (s.writeDomainDestroy r v).fuses = s.fuses ∧ (s.writeDomainDestroy r v).mem = s.mem := by
  unfold State.writeDomainDestroy; simp

@[simp] theorem State.writeJobDomain_keeps (s : State) (j : Nat) (r : Requester) (v : Bytes) :
    (s.writeJobDomain j r v).pending = s.pending ∧ (s.writeJobDomain j r v).tap = s.tap ∧ (s.writeJobDomain j r v).fuses = s.fuses ∧ (s.writeJobDomain j r v).mem = s.mem := by
  unfold State.writeJobDomain; simp

@[simp] theorem State.applyRegion_keeps (s : State) (r : Requester) (v : Bytes) :
    (s.applyRegion r v).pending = s.pending ∧ (s.applyRegion r v).tap = s.tap ∧ (s.applyRegion r v).fuses = s.fuses ∧ (s.applyRegion r v).mem = s.mem := by
  unfold State.applyRegion; simp

@[simp] theorem State.writeRegion_keeps (s : State) (r : Requester) (v : Bytes) :
    (s.writeRegion r v).pending = s.pending ∧ (s.writeRegion r v).tap = s.tap ∧ (s.writeRegion r v).fuses = s.fuses ∧ (s.writeRegion r v).mem = s.mem := by
  unfold State.writeRegion; simp

@[simp] theorem State.fillRange_keeps (s : State) (base n : Nat) :
    (s.fillRange base n).pending = s.pending ∧ (s.fillRange base n).tap = s.tap ∧ (s.fillRange base n).fuses = s.fuses := by
  unfold State.fillRange; simp

@[simp] theorem State.regionFilled_keeps (s : State) :
    s.regionFilled.pending = s.pending ∧ s.regionFilled.tap = s.tap ∧ s.regionFilled.fuses = s.fuses := by
  unfold State.regionFilled; (repeat' split) <;> simp

@[simp] theorem State.closeSession_keeps (s : State) (sid : W32) :
    (s.closeSession sid).pending = s.pending ∧ (s.closeSession sid).tap = s.tap ∧ (s.closeSession sid).fuses = s.fuses ∧ (s.closeSession sid).mem = s.mem := by
  unfold State.closeSession; simp

@[simp] theorem State.closeSessions_keeps (s : State) (keep : W32) (which : Session → Bool) :
    (s.closeSessions keep which).pending = s.pending ∧ (s.closeSessions keep which).tap = s.tap ∧ (s.closeSessions keep which).fuses = s.fuses ∧ (s.closeSessions keep which).mem = s.mem := by
  unfold State.closeSessions; simp

@[simp] theorem State.writeRoleKey_keeps (s : State) (r : Requester) (v : Bytes) :
    (s.writeRoleKey r v).pending = s.pending ∧ (s.writeRoleKey r v).tap = s.tap ∧ (s.writeRoleKey r v).fuses = s.fuses ∧ (s.writeRoleKey r v).mem = s.mem := by
  unfold State.writeRoleKey; simp

@[simp] theorem State.writeNonce_keeps (s : State) (r : Requester) (v : Bytes) :
    (s.writeNonce r v).pending = s.pending ∧ (s.writeNonce r v).tap = s.tap ∧ (s.writeNonce r v).fuses = s.fuses ∧ (s.writeNonce r v).mem = s.mem := by
  unfold State.writeNonce; simp

@[simp] theorem State.writeSeal_keeps (s : State) (r : Requester) (v : Bytes) :
    (s.writeSeal r v).pending = s.pending ∧ (s.writeSeal r v).tap = s.tap ∧ (s.writeSeal r v).mem = s.mem := by
  unfold State.writeSeal; simp

@[simp] theorem State.setPort_keeps (s : State) (p : Port) (x : PortState) :
    (s.setPort p x).pending = s.pending ∧ (s.setPort p x).tap = s.tap ∧ (s.setPort p x).fuses = s.fuses ∧ (s.setPort p x).mem = s.mem := by
  unfold State.setPort; (repeat' split) <;> simp

@[simp] theorem State.pbump_keeps (s : State) (p : Port) (sub n : Nat) :
    (s.pbump p sub n).pending = s.pending ∧ (s.pbump p sub n).tap = s.tap ∧ (s.pbump p sub n).fuses = s.fuses ∧ (s.pbump p sub n).mem = s.mem := by
  unfold State.pbump; simp

@[simp] theorem State.portEvent_keeps (s : State) (p : Port) (st : Status) :
    (s.portEvent p st).pending = s.pending ∧ (s.portEvent p st).tap = s.tap ∧ (s.portEvent p st).fuses = s.fuses ∧ (s.portEvent p st).mem = s.mem := by
  unfold State.portEvent; simp

@[simp] theorem State.train_keeps (s : State) (p : Port) (lanes : Byte) :
    (s.train p lanes).pending = s.pending ∧ (s.train p lanes).tap = s.tap ∧ (s.train p lanes).fuses = s.fuses ∧ (s.train p lanes).mem = s.mem := by
  unfold State.train; (repeat' split) <;> simp

@[simp] theorem State.restartPort_keeps (s : State) (p : Port) :
    (s.restartPort p).pending = s.pending ∧ (s.restartPort p).tap = s.tap ∧ (s.restartPort p).fuses = s.fuses ∧ (s.restartPort p).mem = s.mem := by
  unfold State.restartPort; simp

@[simp] theorem State.writePortMode_keeps (s : State) (p : Port) (r : Requester) (v : Bytes) :
    (s.writePortMode p r v).pending = s.pending ∧ (s.writePortMode p r v).tap = s.tap ∧ (s.writePortMode p r v).fuses = s.fuses ∧ (s.writePortMode p r v).mem = s.mem := by
  unfold State.writePortMode; simp

@[simp] theorem State.setPfc_keeps (s : State) (p : Port) (second : Bool) (f : PfcState) :
    (s.setPfc p second f).pending = s.pending ∧ (s.setPfc p second f).tap = s.tap ∧ (s.setPfc p second f).fuses = s.fuses ∧ (s.setPfc p second f).mem = s.mem := by
  unfold State.setPfc; simp

@[simp] theorem State.xoff_keeps (s : State) (p : Port) (prio held : Nat) :
    (s.xoff p prio held).pending = s.pending ∧ (s.xoff p prio held).tap = s.tap ∧ (s.xoff p prio held).fuses = s.fuses ∧ (s.xoff p prio held).mem = s.mem := by
  unfold State.xoff; (repeat' split) <;> simp

@[simp] theorem State.setQp_keeps (s : State) (q : Nat) (x : Qp) :
    (s.setQp q x).pending = s.pending ∧ (s.setQp q x).tap = s.tap ∧ (s.setQp q x).fuses = s.fuses ∧ (s.setQp q x).mem = s.mem := by
  unfold State.setQp; simp

@[simp] theorem State.returnCnp_keeps (s : State) (q : Nat) (x : Qp) :
    (s.returnCnp q x).pending = s.pending ∧ (s.returnCnp q x).tap = s.tap ∧ (s.returnCnp q x).fuses = s.fuses ∧ (s.returnCnp q x).mem = s.mem := by
  unfold State.returnCnp; simp

@[simp] theorem State.frameKind_keeps (s : State) (p : Port) (f : Frame) :
    (s.frameKind p f).pending = s.pending ∧ (s.frameKind p f).tap = s.tap ∧ (s.frameKind p f).fuses = s.fuses ∧ (s.frameKind p f).mem = s.mem := by
  unfold State.frameKind; (repeat' split) <;> simp

@[simp] theorem State.startHost_keeps (s : State) (t j id : Nat) (d : Bytes) (w : Window) :
    (s.startHost t j id d w).pending = s.pending ∧ (s.startHost t j id d w).tap = s.tap ∧ (s.startHost t j id d w).fuses = s.fuses ∧ (s.startHost t j id d w).mem = s.mem := by
  unfold State.startHost; simp

@[simp] theorem State.pushGather_keeps (s : State) (t j : Nat) (d : Bytes) (host : Option Transfer) :
    (s.pushGather t j d host).pending = s.pending ∧ (s.pushGather t j d host).tap = s.tap ∧ (s.pushGather t j d host).fuses = s.fuses ∧ (s.pushGather t j d host).mem = s.mem := by
  unfold State.pushGather; (repeat' split) <;> simp

@[simp] theorem State.issueGather_keeps (s : State) (t : Nat) (d : Bytes) (poisoned : Bool) (host : Option Transfer) :
    (s.issueGather t d poisoned host).pending = s.pending ∧ (s.issueGather t d poisoned host).tap = s.tap ∧ (s.issueGather t d poisoned host).fuses = s.fuses := by
  unfold State.issueGather; (repeat' split) <;> simp

theorem landStep_pending (g : Gather) (s : State) (k : Nat) : (match s.elemAddr g.tile g.desc (g.landed + k) with
    | some a => s.copy a (sramFa g.tile (gdDst g.desc + gdElem g.desc * (g.landed + k))) (gdElem g.desc)
    | none => s).pending = s.pending := by split <;> simp

theorem landStep_tap (g : Gather) (s : State) (k : Nat) : (match s.elemAddr g.tile g.desc (g.landed + k) with
    | some a => s.copy a (sramFa g.tile (gdDst g.desc + gdElem g.desc * (g.landed + k))) (gdElem g.desc)
    | none => s).tap = s.tap := by split <;> simp

theorem landStep_fuses (g : Gather) (s : State) (k : Nat) : (match s.elemAddr g.tile g.desc (g.landed + k) with
    | some a => s.copy a (sramFa g.tile (gdDst g.desc + gdElem g.desc * (g.landed + k))) (gdElem g.desc)
    | none => s).fuses = s.fuses := by split <;> simp

@[simp] theorem State.landElements_keeps (s : State) (g : Gather) :
    (s.landElements g).pending = s.pending ∧ (s.landElements g).tap = s.tap ∧ (s.landElements g).fuses = s.fuses :=
  ⟨(State.tbump_keeps _ _ _ _ _).1.trans (foldl_pending _ _ _ (landStep_pending g)),
   (State.tbump_keeps _ _ _ _ _).2.1.trans (foldl_tap _ _ _ (landStep_tap g)),
   (State.tbump_keeps _ _ _ _ _).2.2.1.trans (foldl_fuses _ _ _ (landStep_fuses g))⟩

@[simp] theorem State.modGather_keeps (s : State) (d id : Nat) (f : Gather → Gather) :
    (s.modGather d id f).pending = s.pending ∧ (s.modGather d id f).tap = s.tap ∧ (s.modGather d id f).fuses = s.fuses ∧ (s.modGather d id f).mem = s.mem := by
  unfold State.modGather; simp

@[simp] theorem State.retryGathers_keeps (s : State) (d : Nat) : (s.retryGathers d).pending = s.pending ∧ (s.retryGathers d).tap = s.tap ∧ (s.retryGathers d).fuses = s.fuses ∧ (s.retryGathers d).mem = s.mem :=
  ⟨foldl_pending _ _ _ (fun s i => by dsimp only; split <;> first | rfl | (split <;> simp)),
   foldl_tap _ _ _ (fun s i => by dsimp only; split <;> first | rfl | (split <;> simp)),
   foldl_fuses _ _ _ (fun s i => by dsimp only; split <;> first | rfl | (split <;> simp)),
   foldl_mem _ _ _ (fun s i => by dsimp only; split <;> first | rfl | (split <;> simp))⟩

@[simp] theorem State.dropGather_keeps (s : State) (d : Nat) (g : Gather) :
    (s.dropGather d g).pending = s.pending ∧ (s.dropGather d g).tap = s.tap ∧ (s.dropGather d g).fuses = s.fuses ∧ (s.dropGather d g).mem = s.mem := by
  unfold State.dropGather; simp

@[simp] theorem State.endGather_keeps (s : State) (d : Nat) (g : Gather) :
    (s.endGather d g).pending = s.pending ∧ (s.endGather d g).tap = s.tap ∧ (s.endGather d g).fuses = s.fuses ∧ (s.endGather d g).mem = s.mem := by
  unfold State.endGather; simp

@[simp] theorem State.landHost_keeps (s : State) (d : Nat) (g : Gather) (w : Window) (bs : Bytes) (p : Bool) :
    (s.landHost d g w bs p).pending = s.pending ∧ (s.landHost d g w bs p).tap = s.tap ∧ (s.landHost d g w bs p).fuses = s.fuses := by
  unfold State.landHost; simp

@[simp] theorem State.sectorEvents_keeps (s : State) (d g : Nat) (out : List SectorOutcome) :
    (s.sectorEvents d g out).pending = s.pending ∧ (s.sectorEvents d g out).tap = s.tap ∧ (s.sectorEvents d g out).fuses = s.fuses ∧ (s.sectorEvents d g out).mem = s.mem := by
  refine ⟨?_, ?_, ?_, ?_⟩ <;> (unfold State.sectorEvents; repeat' first | (simp; done) | intro _ | refine (foldl_pending _ _ _ ?_).trans ?_ | refine (foldl_tap _ _ _ ?_).trans ?_ | refine (foldl_fuses _ _ _ ?_).trans ?_ | refine (foldl_mem _ _ _ ?_).trans ?_ | split)

@[simp] theorem State.deliver_keeps (s : State) (d g : Nat) (first out : List SectorOutcome) (all : List (List SectorOutcome)) :
    (s.deliver d g first out all).pending = s.pending ∧ (s.deliver d g first out all).tap = s.tap ∧ (s.deliver d g first out all).fuses = s.fuses ∧ (s.deliver d g first out all).mem = s.mem := by
  unfold State.deliver; simp

@[simp] theorem State.accept_keeps (s : State) (d ch : Nat) (r : StackReq) :
    (s.accept d ch r).pending = s.pending ∧ (s.accept d ch r).tap = s.tap ∧ (s.accept d ch r).fuses = s.fuses := by
  unfold State.accept; (repeat' split) <;> simp

@[simp] theorem State.grantLoop_pending (s : State) (d ch : Nat) (l : List Nat) : (s.grantLoop d ch l).pending = s.pending := by
  induction l generalizing s with
  | nil => rfl
  | cons a l ih => simp only [State.grantLoop, ih]; (repeat' split) <;> simp

@[simp] theorem State.grantLoop_tap (s : State) (d ch : Nat) (l : List Nat) : (s.grantLoop d ch l).tap = s.tap := by
  induction l generalizing s with
  | nil => rfl
  | cons a l ih => simp only [State.grantLoop, ih]; (repeat' split) <;> simp

@[simp] theorem State.grantLoop_fuses (s : State) (d ch : Nat) (l : List Nat) : (s.grantLoop d ch l).fuses = s.fuses := by
  induction l generalizing s with
  | nil => rfl
  | cons a l ih => simp only [State.grantLoop, ih]; (repeat' split) <;> simp

@[simp] theorem State.pushSel_keeps (s : State) (t : Nat) (d : Bytes) :
    (s.pushSel t d).pending = s.pending ∧ (s.pushSel t d).tap = s.tap ∧ (s.pushSel t d).fuses = s.fuses ∧ (s.pushSel t d).mem = s.mem := by
  unfold State.pushSel; simp

@[simp] theorem State.popSel_keeps (s : State) (t : Nat) :
    (s.popSel t).pending = s.pending ∧ (s.popSel t).tap = s.tap ∧ (s.popSel t).fuses = s.fuses ∧ (s.popSel t).mem = s.mem := by
  unfold State.popSel; simp; (repeat' split) <;> simp

@[simp] theorem State.selElem_keeps (s : State) (t slot : Nat) (el : SelElem) :
    (s.selElem t slot el).pending = s.pending ∧ (s.selElem t slot el).tap = s.tap ∧ (s.selElem t slot el).fuses = s.fuses ∧ (s.selElem t slot el).mem = s.mem := by
  unfold State.selElem; (repeat' split) <;> simp

@[simp] theorem State.refuseRow_keeps (s : State) (t slot count : Nat) :
    (s.refuseRow t slot count).pending = s.pending ∧ (s.refuseRow t slot count).tap = s.tap ∧ (s.refuseRow t slot count).fuses = s.fuses ∧ (s.refuseRow t slot count).mem = s.mem := by
  unfold State.refuseRow; (repeat' split) <;> simp

@[simp] theorem State.receive_keeps (s : State) (t slot n : Nat) :
    (s.receive t slot n).pending = s.pending ∧ (s.receive t slot n).tap = s.tap ∧ (s.receive t slot n).fuses = s.fuses ∧ (s.receive t slot n).mem = s.mem := by
  unfold State.receive; simp

@[simp] theorem State.failSearch_keeps (s : State) (r : W32) (st : Status) :
    (s.failSearch r st).pending = s.pending ∧ (s.failSearch r st).tap = s.tap ∧ (s.failSearch r st).fuses = s.fuses ∧ (s.failSearch r st).mem = s.mem := by
  unfold State.failSearch; simp

@[simp] theorem State.pinSearch_keeps (s : State) (r : W32) (x : Request) (a3 : Nat) (c : Coll) (q : List W32) (poison : Bool) :
    (s.pinSearch r x a3 c q poison).pending = s.pending ∧ (s.pinSearch r x a3 c q poison).tap = s.tap ∧ (s.pinSearch r x a3 c q poison).fuses = s.fuses ∧ (s.pinSearch r x a3 c q poison).mem = s.mem := by
  unfold State.pinSearch; simp

@[simp] theorem State.putResult_keeps (s : State) (v : CollVersion) (q : Query) :
    (s.putResult v q).pending = s.pending ∧ (s.putResult v q).tap = s.tap ∧ (s.putResult v q).fuses = s.fuses ∧ (s.putResult v q).mem = s.mem := by
  unfold State.putResult; simp

@[simp] theorem State.doFold_keeps (s : State) (a1 : Nat) (c : Coll) (f : FoldRequest) :
    (s.doFold a1 c f).pending = s.pending ∧ (s.doFold a1 c f).tap = s.tap ∧ (s.doFold a1 c f).fuses = s.fuses ∧ (s.doFold a1 c f).mem = s.mem := by
  unfold State.doFold; simp

@[simp] theorem State.askRecycle_keeps (s : State) (a n : Nat) :
    (s.askRecycle a n).pending = s.pending ∧ (s.askRecycle a n).tap = s.tap ∧ (s.askRecycle a n).fuses = s.fuses ∧ (s.askRecycle a n).mem = s.mem := by
  unfold State.askRecycle; simp

@[simp] theorem State.releaseVersion_keeps (s : State) (a1 : Nat) (c : Coll) :
    (s.releaseVersion a1 c).pending = s.pending ∧ (s.releaseVersion a1 c).tap = s.tap ∧ (s.releaseVersion a1 c).fuses = s.fuses ∧ (s.releaseVersion a1 c).mem = s.mem := by
  unfold State.releaseVersion; (repeat' split) <;> simp

@[simp] theorem State.trySwitch_keeps (s : State) (a1 : Nat) (f : FoldRequest) :
    (s.trySwitch a1 f).pending = s.pending ∧ (s.trySwitch a1 f).tap = s.tap ∧ (s.trySwitch a1 f).fuses = s.fuses ∧ (s.trySwitch a1 f).mem = s.mem := by
  unfold State.trySwitch; simp; (repeat' split) <;> simp

@[simp] theorem State.setTable_keeps (s : State) (a1 : Nat) (t : ETable) :
    (s.setTable a1 t).pending = s.pending ∧ (s.setTable a1 t).tap = s.tap ∧ (s.setTable a1 t).fuses = s.fuses ∧ (s.setTable a1 t).mem = s.mem := by
  unfold State.setTable; simp

@[simp] theorem State.countRows_keeps (s : State) (t : ETable) (v : TabVersion) (service : Bool) (xs : List Nat) :
    (s.countRows t v service xs).pending = s.pending ∧ (s.countRows t v service xs).tap = s.tap ∧ (s.countRows t v service xs).fuses = s.fuses ∧ (s.countRows t v service xs).mem = s.mem := by
  unfold State.countRows; simp

@[simp] theorem State.rawTables_keeps (s : State) (tile : Nat) :
    (s.rawTables tile).pending = s.pending ∧ (s.rawTables tile).tap = s.tap ∧ (s.rawTables tile).fuses = s.fuses ∧ (s.rawTables tile).mem = s.mem := by
  unfold State.rawTables; simp

@[simp] theorem State.writeTableMode_keeps (s : State) (r : Requester) (v : Bytes) :
    (s.writeTableMode r v).pending = s.pending ∧ (s.writeTableMode r v).tap = s.tap ∧ (s.writeTableMode r v).fuses = s.fuses ∧ (s.writeTableMode r v).mem = s.mem := by
  unfold State.writeTableMode; simp; (repeat' split) <;> simp

@[simp] theorem State.buildRow_keeps (s : State) (t : ETable) (sub oldBase newBase r : Nat) :
    (s.buildRow t sub oldBase newBase r).pending = s.pending ∧ (s.buildRow t sub oldBase newBase r).tap = s.tap ∧ (s.buildRow t sub oldBase newBase r).fuses = s.fuses := by
  unfold State.buildRow; simp; (repeat' split) <;> simp

@[simp] theorem State.fillHot_keeps (s : State) (t : ETable) (v : TabVersion) :
    (s.fillHot t v).pending = s.pending ∧ (s.fillHot t v).tap = s.tap ∧ (s.fillHot t v).fuses = s.fuses := by
  unfold State.fillHot; simp

@[simp] theorem State.releaseTable_keeps (s : State) (a1 : Nat) (t : ETable) :
    (s.releaseTable a1 t).pending = s.pending ∧ (s.releaseTable a1 t).tap = s.tap ∧ (s.releaseTable a1 t).fuses = s.fuses ∧ (s.releaseTable a1 t).mem = s.mem := by
  unfold State.releaseTable; (repeat' split) <;> simp

@[simp] theorem State.switchTable_keeps (s : State) (a1 : Nat) (t : ETable) (v : TabVersion) :
    (s.switchTable a1 t v).pending = s.pending ∧ (s.switchTable a1 t v).tap = s.tap ∧ (s.switchTable a1 t v).fuses = s.fuses ∧ (s.switchTable a1 t v).mem = s.mem := by
  unfold State.switchTable; simp

@[simp] theorem State.vtouch_keeps (s : State) (d g : Nat) :
    (s.vtouch d g).pending = s.pending ∧ (s.vtouch d g).tap = s.tap ∧ (s.vtouch d g).fuses = s.fuses ∧ (s.vtouch d g).mem = s.mem := by
  unfold State.vtouch; simp

@[simp] theorem State.deliverDirective_keeps (s : State) (r : W32) (x : Request) (t : TextRec) (d : Directive) :
    (s.deliverDirective r x t d).pending = s.pending ∧ (s.deliverDirective r x t d).tap = s.tap ∧ (s.deliverDirective r x t d).fuses = s.fuses ∧ (s.deliverDirective r x t d).mem = s.mem := by
  unfold State.deliverDirective; simp

@[simp] theorem State.readWindow_keeps (s : State) (r : W32) (ctx num off n : Nat) :
    (s.readWindow r ctx num off n).pending = s.pending ∧ (s.readWindow r ctx num off n).tap = s.tap ∧ (s.readWindow r ctx num off n).fuses = s.fuses ∧ (s.readWindow r ctx num off n).mem = s.mem := by
  unfold State.readWindow; (repeat' split) <;> simp

@[simp] theorem State.acceptDescriptor_pending (s : State) (r : W32) (x : Request) (d : Bytes) : (s.acceptDescriptor r x d).pending = s.pending := by
  simp only [State.acceptDescriptor]
  refine (foldl_pending _ _ _ (fun s a => by simp)).trans ?_
  simp only [State.setReq_pending]; split <;> rfl

@[simp] theorem State.acceptDescriptor_tap (s : State) (r : W32) (x : Request) (d : Bytes) : (s.acceptDescriptor r x d).tap = s.tap := by
  simp only [State.acceptDescriptor]
  refine (foldl_tap _ _ _ (fun s a => by simp)).trans ?_
  simp only [State.setReq_tap]; split <;> rfl

@[simp] theorem State.acceptDescriptor_fuses (s : State) (r : W32) (x : Request) (d : Bytes) : (s.acceptDescriptor r x d).fuses = s.fuses := by
  simp only [State.acceptDescriptor]
  refine (foldl_fuses _ _ _ (fun s a => by simp)).trans ?_
  simp only [State.setReq_fuses]; split <;> rfl

@[simp] theorem State.acceptDescriptor_mem (s : State) (r : W32) (x : Request) (d : Bytes) : (s.acceptDescriptor r x d).mem = s.mem := by
  simp only [State.acceptDescriptor]
  refine (foldl_mem _ _ _ (fun s a => by simp)).trans ?_
  simp only [State.setReq_mem]; split <;> rfl

@[simp] theorem State.sealUsed_keeps (s : State) (jb : Job) (base a n : Nat) :
    (s.sealUsed jb base a n).pending = s.pending ∧ (s.sealUsed jb base a n).tap = s.tap ∧ (s.sealUsed jb base a n).fuses = s.fuses ∧ (s.sealUsed jb base a n).mem = s.mem := by
  unfold State.sealUsed; split <;> simp

@[simp] theorem State.enterBatch_keeps (s : State) (h : Nat) (m : Model) (r : W32) (x : Request) :
    (s.enterBatch h m r x).pending = s.pending ∧ (s.enterBatch h m r x).tap = s.tap ∧ (s.enterBatch h m r x).fuses = s.fuses := by
  unfold State.enterBatch; simp; (repeat' split) <;> simp

@[simp] theorem State.pinPatch_keeps (s : State) (patch : Option Nat) (r : W32) :
    (s.pinPatch patch r).pending = s.pending ∧ (s.pinPatch patch r).tap = s.tap ∧ (s.pinPatch patch r).fuses = s.fuses ∧ (s.pinPatch patch r).mem = s.mem := by
  unfold State.pinPatch; (repeat' split) <;> simp

@[simp] theorem State.emit_keeps (s : State) (r : W32) (x : Request) (t : TextRec) (vb id : Nat) (forced : Bool) :
    (s.emit r x t vb id forced).pending = s.pending ∧ (s.emit r x t vb id forced).tap = s.tap ∧ (s.emit r x t vb id forced).fuses = s.fuses ∧ (s.emit r x t vb id forced).mem = s.mem := by
  unfold State.emit; simp

@[simp] theorem State.outputFailed_keeps (s : State) (r : W32) (st : Status) :
    (s.outputFailed r st).pending = s.pending ∧ (s.outputFailed r st).tap = s.tap ∧ (s.outputFailed r st).fuses = s.fuses ∧ (s.outputFailed r st).mem = s.mem := by
  unfold State.outputFailed; simp

@[simp] theorem State.hostGather_keeps (s : State) (d id : Nat) (f : Gather → Gather) :
    (s.hostGather d id f).pending = s.pending ∧ (s.hostGather d id f).tap = s.tap ∧ (s.hostGather d id f).fuses = s.fuses ∧ (s.hostGather d id f).mem = s.mem := by
  unfold State.hostGather; simp

@[simp] theorem State.loseCompletion_keeps (s : State) (ctx ring : Nat) (index : W32) :
    (s.loseCompletion ctx ring index).pending = s.pending ∧ (s.loseCompletion ctx ring index).tap = s.tap ∧ (s.loseCompletion ctx ring index).fuses = s.fuses ∧ (s.loseCompletion ctx ring index).mem = s.mem := by
  unfold State.loseCompletion; simp

@[simp] theorem State.freeList_keeps (s : State) (r : W32) (x : Request) :
    (s.freeList r x).pending = s.pending ∧ (s.freeList r x).tap = s.tap ∧ (s.freeList r x).fuses = s.fuses ∧ (s.freeList r x).mem = s.mem := by
  unfold State.freeList; (repeat' split) <;> simp

@[simp] theorem State.release_keeps (s : State) (r : W32) (x : Request) :
    (s.release r x).pending = s.pending ∧ (s.release r x).tap = s.tap ∧ (s.release r x).fuses = s.fuses ∧ (s.release r x).mem = s.mem := by
  unfold State.release; (repeat' split) <;> simp

@[simp] theorem State.loseRequest_keeps (s : State) (r : W32) :
    (s.loseRequest r).pending = s.pending ∧ (s.loseRequest r).tap = s.tap ∧ (s.loseRequest r).fuses = s.fuses ∧ (s.loseRequest r).mem = s.mem := by
  unfold State.loseRequest; (repeat' split) <;> simp

@[simp] theorem State.completed_keeps (s : State) (r : W32) :
    (s.completed r).pending = s.pending ∧ (s.completed r).tap = s.tap ∧ (s.completed r).fuses = s.fuses ∧ (s.completed r).mem = s.mem := by
  unfold State.completed; (repeat' split) <;> simp

@[simp] theorem State.failOp_keeps (st : Status) (s : State) (o : OutOp) :
    (State.failOp st s o).pending = s.pending ∧ (State.failOp st s o).tap = s.tap ∧ (State.failOp st s o).fuses = s.fuses ∧ (State.failOp st s o).mem = s.mem := by
  unfold State.failOp; (repeat' split) <;> simp

@[simp] theorem State.ackOp_keeps (s : State) (o : OutOp) :
    (s.ackOp o).pending = s.pending ∧ (s.ackOp o).tap = s.tap ∧ (s.ackOp o).fuses = s.fuses ∧ (s.ackOp o).mem = s.mem := by
  unfold State.ackOp; (repeat' split) <;> simp

@[simp] theorem State.qpError_keeps (s : State) (q : Nat) (cause : Status) :
    (s.qpError q cause).pending = s.pending ∧ (s.qpError q cause).tap = s.tap ∧ (s.qpError q cause).fuses = s.fuses ∧ (s.qpError q cause).mem = s.mem := by
  unfold State.qpError; (repeat' split) <;> simp

@[simp] theorem State.qpToReset_keeps (s : State) (q : Nat) :
    (s.qpToReset q).pending = s.pending ∧ (s.qpToReset q).tap = s.tap ∧ (s.qpToReset q).fuses = s.fuses ∧ (s.qpToReset q).mem = s.mem := by
  unfold State.qpToReset; (repeat' split) <;> simp

@[simp] theorem State.resend_keeps (s : State) (q : Nat) (x : Qp) :
    (s.resend q x).pending = s.pending ∧ (s.resend q x).tap = s.tap ∧ (s.resend q x).fuses = s.fuses ∧ (s.resend q x).mem = s.mem := by
  unfold State.resend; (repeat' split) <;> simp

@[simp] theorem State.writeQpSetup_keeps (s : State) (r : Requester) (v : Bytes) :
    (s.writeQpSetup r v).pending = s.pending ∧ (s.writeQpSetup r v).tap = s.tap ∧ (s.writeQpSetup r v).fuses = s.fuses ∧ (s.writeQpSetup r v).mem = s.mem := by
  unfold State.writeQpSetup; simp

@[simp] theorem State.writeQpReset_keeps (s : State) (r : Requester) (v : Bytes) :
    (s.writeQpReset r v).pending = s.pending ∧ (s.writeQpReset r v).tap = s.tap ∧ (s.writeQpReset r v).fuses = s.fuses ∧ (s.writeQpReset r v).mem = s.mem := by
  unfold State.writeQpReset; simp

@[simp] theorem State.writeWindow_keeps (s : State) (r : Requester) (v : Bytes) :
    (s.writeWindow r v).pending = s.pending ∧ (s.writeWindow r v).tap = s.tap ∧ (s.writeWindow r v).fuses = s.fuses ∧ (s.writeWindow r v).mem = s.mem := by
  unfold State.writeWindow; simp

@[simp] theorem State.setRing_keeps (s : State) (n : Nat) (x : ReqRing) :
    (s.setRing n x).pending = s.pending ∧ (s.setRing n x).tap = s.tap ∧ (s.setRing n x).fuses = s.fuses ∧ (s.setRing n x).mem = s.mem := by
  unfold State.setRing; simp

@[simp] theorem State.setCring_keeps (s : State) (n : Nat) (x : CompRing) :
    (s.setCring n x).pending = s.pending ∧ (s.setCring n x).tap = s.tap ∧ (s.setCring n x).fuses = s.fuses ∧ (s.setCring n x).mem = s.mem := by
  unfold State.setCring; simp

@[simp] theorem State.takeIndex_keeps (s : State) (x : Request) :
    (s.takeIndex x).pending = s.pending ∧ (s.takeIndex x).tap = s.tap ∧ (s.takeIndex x).fuses = s.fuses ∧ (s.takeIndex x).mem = s.mem := by
  unfold State.takeIndex; (repeat' split) <;> simp

@[simp] theorem State.addRing_keeps (s : State) (v : Bytes) :
    (s.addRing v).pending = s.pending ∧ (s.addRing v).tap = s.tap ∧ (s.addRing v).fuses = s.fuses ∧ (s.addRing v).mem = s.mem := by
  unfold State.addRing; simp

@[simp] theorem State.writeRingSetup_keeps (s : State) (r : Requester) (v : Bytes) :
    (s.writeRingSetup r v).pending = s.pending ∧ (s.writeRingSetup r v).tap = s.tap ∧ (s.writeRingSetup r v).fuses = s.fuses ∧ (s.writeRingSetup r v).mem = s.mem := by
  unfold State.writeRingSetup; simp

@[simp] theorem State.dropRing_keeps (s : State) (n : Nat) :
    (s.dropRing n).pending = s.pending ∧ (s.dropRing n).tap = s.tap ∧ (s.dropRing n).fuses = s.fuses ∧ (s.dropRing n).mem = s.mem := by
  unfold State.dropRing; simp

@[simp] theorem State.writeRingTeardown_keeps (s : State) (r : Requester) (v : Bytes) :
    (s.writeRingTeardown r v).pending = s.pending ∧ (s.writeRingTeardown r v).tap = s.tap ∧ (s.writeRingTeardown r v).fuses = s.fuses ∧ (s.writeRingTeardown r v).mem = s.mem := by
  unfold State.writeRingTeardown; simp

@[simp] theorem State.badDoorbell_keeps (s : State) (port ctx ring : Nat) (d : Bytes) :
    (s.badDoorbell port ctx ring d).pending = s.pending ∧ (s.badDoorbell port ctx ring d).tap = s.tap ∧ (s.badDoorbell port ctx ring d).fuses = s.fuses ∧ (s.badDoorbell port ctx ring d).mem = s.mem := by
  unfold State.badDoorbell; simp

@[simp] theorem State.keyMismatch_keeps (s : State) (port ctx ring : Nat) (d : Bytes) :
    (s.keyMismatch port ctx ring d).pending = s.pending ∧ (s.keyMismatch port ctx ring d).tap = s.tap ∧ (s.keyMismatch port ctx ring d).fuses = s.fuses ∧ (s.keyMismatch port ctx ring d).mem = s.mem := by
  unfold State.keyMismatch; simp

@[simp] theorem State.cancelFetched_keeps (s : State) (ring : Nat) (index : W32) :
    (s.cancelFetched ring index).pending = s.pending ∧ (s.cancelFetched ring index).tap = s.tap ∧ (s.cancelFetched ring index).fuses = s.fuses ∧ (s.cancelFetched ring index).mem = s.mem := by
  unfold State.cancelFetched; (repeat' split) <;> simp

@[simp] theorem State.ringTail_keeps (s : State) (port n : Nat) (x : ReqRing) (d : Bytes) :
    (s.ringTail port n x d).pending = s.pending ∧ (s.ringTail port n x d).tap = s.tap ∧ (s.ringTail port n x d).fuses = s.fuses ∧ (s.ringTail port n x d).mem = s.mem := by
  unfold State.ringTail; simp

@[simp] theorem State.ringCancel_keeps (s : State) (port n : Nat) (x : ReqRing) (d : Bytes) :
    (s.ringCancel port n x d).pending = s.pending ∧ (s.ringCancel port n x d).tap = s.tap ∧ (s.ringCancel port n x d).fuses = s.fuses ∧ (s.ringCancel port n x d).mem = s.mem := by
  unfold State.ringCancel; simp

@[simp] theorem State.requestBell_keeps (s : State) (port n : Nat) (d : Bytes) :
    (s.requestBell port n d).pending = s.pending ∧ (s.requestBell port n d).tap = s.tap ∧ (s.requestBell port n d).fuses = s.fuses ∧ (s.requestBell port n d).mem = s.mem := by
  unfold State.requestBell; (repeat' split) <;> simp

@[simp] theorem State.completionBell_keeps (s : State) (port n : Nat) (d : Bytes) :
    (s.completionBell port n d).pending = s.pending ∧ (s.completionBell port n d).tap = s.tap ∧ (s.completionBell port n d).fuses = s.fuses ∧ (s.completionBell port n d).mem = s.mem := by
  unfold State.completionBell; (repeat' split) <;> simp

@[simp] theorem State.applyWrite_keeps (s : State) (port : Nat) (bs : Bytes) (a__internal_hyg0 : WriteTarget) :
    (s.applyWrite port bs a__internal_hyg0).pending = s.pending ∧ (s.applyWrite port bs a__internal_hyg0).tap = s.tap ∧ (s.applyWrite port bs a__internal_hyg0).fuses = s.fuses ∧ (s.applyWrite port bs a__internal_hyg0).mem = s.mem := by
  unfold State.applyWrite; (repeat' split) <;> simp

@[simp] theorem State.admitRequest_keeps (s : State) (a1 : W32) (q : Request) :
    (s.admitRequest a1 q).pending = s.pending ∧ (s.admitRequest a1 q).tap = s.tap ∧ (s.admitRequest a1 q).fuses = s.fuses ∧ (s.admitRequest a1 q).mem = s.mem := by
  unfold State.admitRequest; simp; (repeat' split) <;> simp

@[simp] theorem State.passEntry_keeps (s : State) (a1 : W32) (q : Request) (served : Bool) :
    (s.passEntry a1 q served).pending = s.pending ∧ (s.passEntry a1 q served).tap = s.tap ∧ (s.passEntry a1 q served).fuses = s.fuses ∧ (s.passEntry a1 q served).mem = s.mem := by
  unfold State.passEntry; simp

@[simp] theorem State.writeEventSelect_keeps (s : State) (r : Requester) (v : Bytes) :
    (s.writeEventSelect r v).pending = s.pending ∧ (s.writeEventSelect r v).tap = s.tap ∧ (s.writeEventSelect r v).fuses = s.fuses ∧ (s.writeEventSelect r v).mem = s.mem := by
  unfold State.writeEventSelect; simp

@[simp] theorem State.writeEventRinse_pending (s : State) (r : Requester) (v : Bytes) : (s.writeEventRinse r v).pending = s.pending := by
  unfold State.writeEventRinse; exact State.objWriteNow_pending _ _ _ _ _ _ _ (fun s => by split <;> simp)

@[simp] theorem State.writeEventRinse_tap (s : State) (r : Requester) (v : Bytes) : (s.writeEventRinse r v).tap = s.tap := by
  unfold State.writeEventRinse; exact State.objWriteNow_tap _ _ _ _ _ _ _ (fun s => by split <;> simp)

@[simp] theorem State.writeEventRinse_fuses (s : State) (r : Requester) (v : Bytes) : (s.writeEventRinse r v).fuses = s.fuses := by
  unfold State.writeEventRinse; exact State.objWriteNow_fuses _ _ _ _ _ _ _ (fun s => by split <;> simp)

@[simp] theorem State.writeEventRinse_mem (s : State) (r : Requester) (v : Bytes) : (s.writeEventRinse r v).mem = s.mem := by
  unfold State.writeEventRinse; exact State.objWriteNow_mem _ _ _ _ _ _ _ (fun s => by split <;> simp)

@[simp] theorem State.storeWords_keeps (s : State) (t : Nat) (c : VCode) (o : VOp) :
    (s.storeWords t c o).pending = s.pending ∧ (s.storeWords t c o).tap = s.tap ∧ (s.storeWords t c o).fuses = s.fuses := by
  unfold State.storeWords; simp

@[simp] theorem State.storePacked_keeps (s : State) (t : Nat) (o : VOp) :
    (s.storePacked t o).pending = s.pending ∧ (s.storePacked t o).tap = s.tap ∧ (s.storePacked t o).fuses = s.fuses := by
  unfold State.storePacked; simp

@[simp] theorem State.takeRes_keeps (s : State) (t : Nat) (c : VCode) (o : VOp) (r : VRes) :
    (s.takeRes t c o r).pending = s.pending ∧ (s.takeRes t c o r).tap = s.tap ∧ (s.takeRes t c o r).fuses = s.fuses ∧ (s.takeRes t c o r).mem = s.mem := by
  unfold State.takeRes; simp

@[simp] theorem State.siteEffect_keeps (s : State) (t : Nat) (c : VCode) (o : VOp) (r : Bytes) :
    (s.siteEffect t c o r).pending = s.pending ∧ (s.siteEffect t c o r).tap = s.tap ∧ (s.siteEffect t c o r).fuses = s.fuses := by
  unfold State.siteEffect; simp; (repeat' split) <;> simp

@[simp] theorem State.vectorEffect_keeps (s : State) (t : Nat) (c : VCode) (o : VOp) :
    (s.vectorEffect t c o).pending = s.pending ∧ (s.vectorEffect t c o).tap = s.tap ∧ (s.vectorEffect t c o).fuses = s.fuses := by
  unfold State.vectorEffect; simp; (repeat' split) <;> simp

@[simp] theorem State.execVector_keeps (s : State) (t : Nat) (c : VCode) (o : VOp) :
    (s.execVector t c o).pending = s.pending ∧ (s.execVector t c o).tap = s.tap ∧ (s.execVector t c o).fuses = s.fuses := by
  unfold State.execVector; (repeat' split) <;> simp

@[simp] theorem State.runQueue_pending (s : State) (t n : Nat) : (s.runQueue t n).pending = s.pending := by
  induction n generalizing s with
  | zero => rfl
  | succ n ih => simp only [State.runQueue]; split <;> simp [ih]

@[simp] theorem State.runQueue_tap (s : State) (t n : Nat) : (s.runQueue t n).tap = s.tap := by
  induction n generalizing s with
  | zero => rfl
  | succ n ih => simp only [State.runQueue]; split <;> simp [ih]

@[simp] theorem State.runQueue_fuses (s : State) (t n : Nat) : (s.runQueue t n).fuses = s.fuses := by
  induction n generalizing s with
  | zero => rfl
  | succ n ih => simp only [State.runQueue]; split <;> simp [ih]

@[simp] theorem State.retryVector_keeps (s : State) (t : Nat) :
    (s.retryVector t).pending = s.pending ∧ (s.retryVector t).tap = s.tap ∧ (s.retryVector t).fuses = s.fuses := by
  unfold State.retryVector; (repeat' split) <;> simp

@[simp] theorem State.wakeVector_keeps (s : State) (t : Nat) :
    (s.wakeVector t).pending = s.pending ∧ (s.wakeVector t).tap = s.tap ∧ (s.wakeVector t).fuses = s.fuses := by
  unfold State.wakeVector; (repeat' split) <;> simp

@[simp] theorem State.issueVector_keeps (s : State) (t : Nat) (c : VCode) (o : VOp) :
    (s.issueVector t c o).pending = s.pending ∧ (s.issueVector t c o).tap = s.tap ∧ (s.issueVector t c o).fuses = s.fuses := by
  unfold State.issueVector; (repeat' split) <;> simp

@[simp] theorem State.startStream_keeps (s : State) (t j hdr : Nat) :
    (s.startStream t j hdr).pending = s.pending ∧ (s.startStream t j hdr).tap = s.tap ∧ (s.startStream t j hdr).fuses = s.fuses := by
  unfold State.startStream; simp; (repeat' split) <;> simp

@[simp] theorem State.patchTile_keeps (s : State) (t off fmt : Nat) (sc : Nat → Nat) (blk : Nat × Nat × Bool) :
    (s.patchTile t off fmt sc blk).pending = s.pending ∧ (s.patchTile t off fmt sc blk).tap = s.tap ∧ (s.patchTile t off fmt sc blk).fuses = s.fuses := by
  unfold State.patchTile; simp

@[simp] theorem State.applyPatch_keeps (s : State) (t : Nat) (e : Bytes) :
    (s.applyPatch t e).pending = s.pending ∧ (s.applyPatch t e).tap = s.tap ∧ (s.applyPatch t e).fuses = s.fuses := by
  refine ⟨?_, ?_, ?_⟩ <;> (unfold State.applyPatch; repeat' first | (simp; done) | intro _ | refine (foldl_pending _ _ _ ?_).trans ?_ | refine (foldl_tap _ _ _ ?_).trans ?_ | refine (foldl_fuses _ _ _ ?_).trans ?_ | split)

@[simp] theorem State.withData_keeps (s : State) (jb : Job) :
    (s.withData jb).pending = s.pending ∧ (s.withData jb).tap = s.tap ∧ (s.withData jb).fuses = s.fuses := by
  refine ⟨?_, ?_, ?_⟩ <;> (unfold State.withData; repeat' first | (simp; done) | intro _ | refine (foldl_pending _ _ _ ?_).trans ?_ | refine (foldl_tap _ _ _ ?_).trans ?_ | refine (foldl_fuses _ _ _ ?_).trans ?_ | split)

@[simp] theorem State.jobTo_keeps (s : State) (j : Nat) (st : JobState) :
    (s.jobTo j st).pending = s.pending ∧ (s.jobTo j st).tap = s.tap ∧ (s.jobTo j st).fuses = s.fuses ∧ (s.jobTo j st).mem = s.mem := by
  unfold State.jobTo; (repeat' split) <;> simp

@[simp] theorem State.writePartition_keeps (s : State) (n : Nat) (r : Requester) (v : Bytes) :
    (s.writePartition n r v).pending = s.pending ∧ (s.writePartition n r v).tap = s.tap ∧ (s.writePartition n r v).fuses = s.fuses ∧ (s.writePartition n r v).mem = s.mem := by
  unfold State.writePartition; simp

@[simp] theorem State.loadOutcome_keeps (s : State) (a1 : Nat) (st : Status) (reason sec : Nat) :
    (s.loadOutcome a1 st reason sec).pending = s.pending ∧ (s.loadOutcome a1 st reason sec).tap = s.tap ∧ (s.loadOutcome a1 st reason sec).fuses = s.fuses ∧ (s.loadOutcome a1 st reason sec).mem = s.mem := by
  unfold State.loadOutcome; simp

@[simp] theorem State.startLoad_keeps (s : State) (r : Requester) (v : Bytes) :
    (s.startLoad r v).pending = s.pending ∧ (s.startLoad r v).tap = s.tap ∧ (s.startLoad r v).fuses = s.fuses ∧ (s.startLoad r v).mem = s.mem := by
  unfold State.startLoad; simp

@[simp] theorem State.writeJobLoad_keeps (s : State) (r : Requester) (v : Bytes) :
    (s.writeJobLoad r v).pending = s.pending ∧ (s.writeJobLoad r v).tap = s.tap ∧ (s.writeJobLoad r v).fuses = s.fuses ∧ (s.writeJobLoad r v).mem = s.mem := by
  unfold State.writeJobLoad; simp

@[simp] theorem State.sealQuietly_keeps (s : State) (g : RegionDecl) :
    (s.sealQuietly g).pending = s.pending ∧ (s.sealQuietly g).tap = s.tap ∧ (s.sealQuietly g).fuses = s.fuses ∧ (s.sealQuietly g).mem = s.mem := by
  unfold State.sealQuietly; simp

@[simp] theorem State.placeCode_keeps (s : State) (jb : Job) :
    (s.placeCode jb).pending = s.pending ∧ (s.placeCode jb).tap = s.tap ∧ (s.placeCode jb).fuses = s.fuses := by
  refine ⟨?_, ?_, ?_⟩ <;> (unfold State.placeCode; repeat' first | (simp; done) | intro _ | refine (foldl_pending _ _ _ ?_).trans ?_ | refine (foldl_tap _ _ _ ?_).trans ?_ | refine (foldl_fuses _ _ _ ?_).trans ?_ | split)

@[simp] theorem State.sealSaves_keeps (s : State) (jb : Job) :
    (s.sealSaves jb).pending = s.pending ∧ (s.sealSaves jb).tap = s.tap ∧ (s.sealSaves jb).fuses = s.fuses ∧ (s.sealSaves jb).mem = s.mem := by
  unfold State.sealSaves; simp

@[simp] theorem State.wakeTile_keeps (s : State) (t : Nat) :
    (s.wakeTile t).pending = s.pending ∧ (s.wakeTile t).tap = s.tap ∧ (s.wakeTile t).fuses = s.fuses := by
  unfold State.wakeTile; (repeat' split) <;> simp

@[simp] theorem State.restoreCounters_keeps (s : State) (j : Nat) (jb : Job) (saved : KMap W32) :
    (s.restoreCounters j jb saved).pending = s.pending ∧ (s.restoreCounters j jb saved).tap = s.tap ∧ (s.restoreCounters j jb saved).fuses = s.fuses ∧ (s.restoreCounters j jb saved).mem = s.mem := by
  refine ⟨?_, ?_, ?_, ?_⟩ <;> (unfold State.restoreCounters; repeat' first | (simp; done) | intro _ | refine (foldl_pending _ _ _ ?_).trans ?_ | refine (foldl_tap _ _ _ ?_).trans ?_ | refine (foldl_fuses _ _ _ ?_).trans ?_ | refine (foldl_mem _ _ _ ?_).trans ?_ | split)

@[simp] theorem State.fillTile_keeps (s : State) (t : Nat) (rec : SaveRec) :
    (s.fillTile t rec).pending = s.pending ∧ (s.fillTile t rec).tap = s.tap ∧ (s.fillTile t rec).fuses = s.fuses := by
  unfold State.fillTile; simp

@[simp] theorem State.startStreams_keeps (s : State) (j : Nat) (jb : Job) :
    (s.startStreams j jb).pending = s.pending ∧ (s.startStreams j jb).tap = s.tap ∧ (s.startStreams j jb).fuses = s.fuses := by
  unfold State.startStreams; simp

@[simp] theorem State.startResident_keeps (s : State) (j : Nat) (jb : Job) :
    (s.startResident j jb).pending = s.pending ∧ (s.startResident j jb).tap = s.tap ∧ (s.startResident j jb).fuses = s.fuses := by
  refine ⟨?_, ?_, ?_⟩ <;> (unfold State.startResident; repeat' first | (simp; done) | intro _ | refine (foldl_pending _ _ _ ?_).trans ?_ | refine (foldl_tap _ _ _ ?_).trans ?_ | refine (foldl_fuses _ _ _ ?_).trans ?_ | split | (simp; fail_if_success done))

@[simp] theorem State.startIdle_keeps (s : State) (j : Nat) (jb : Job) :
    (s.startIdle j jb).pending = s.pending ∧ (s.startIdle j jb).tap = s.tap ∧ (s.startIdle j jb).fuses = s.fuses ∧ (s.startIdle j jb).mem = s.mem := by
  unfold State.startIdle; simp

@[simp] theorem State.countTemplate_keeps (s : State) (d : Nat) (reads : List Nat) (b n : Nat) :
    (s.countTemplate d reads b n).pending = s.pending ∧ (s.countTemplate d reads b n).tap = s.tap ∧ (s.countTemplate d reads b n).fuses = s.fuses ∧ (s.countTemplate d reads b n).mem = s.mem := by
  unfold State.countTemplate; simp

theorem loadTemplate_keeps {s t : State} {j jb r} (h : s.loadTemplate j jb r = some t) :
    t.pending = s.pending ∧ t.tap = s.tap ∧ t.fuses = s.fuses ∧ t.mem = s.mem := by
  simp only [State.loadTemplate] at h
  split at h
  · cases h
  · split at h
    · rw [Option.some.injEq] at h; subst h; simp
    · simp at h

theorem loadRecord_pending {s g t : State} {j jb k r} (h : s.loadRecord g j jb k r = some t) : t.pending = s.pending := by
  simp only [State.loadRecord] at h
  (repeat' split at h) <;> (first | (simp only [State.loadColl] at h) | (simp only [State.loadTable] at h) | (simp only [State.loadVocab] at h) | (simp only [State.loadModel] at h) | (simp only [State.loadStore] at h) | exact (loadTemplate_keeps h).1 | (simp only [State.loadGrammar] at h) | (simp only [State.loadPatch] at h) | skip) <;> (repeat' split at h) <;> (first | (cases h; done) | (simp only [Option.some.injEq] at h; subst h; simp; done) | (simp at h; subst h; simp; done))
theorem loadRecords_pending {s t : State} {j jb rs} (h : s.loadRecords j jb rs = some t) : t.pending = s.pending := by
  have key : ∀ (g : State) (l : List (Nat × Bytes)) (acc : Option State), (∀ t, acc = some t → t.pending = s.pending) →
      ∀ t, l.foldl (fun acc e => acc.bind (fun s => s.loadRecord g j jb e.1 e.2)) acc = some t → t.pending = s.pending := by
    intro g l
    induction l with
    | nil => intro acc h; exact h
    | cons a l ih =>
      intro acc h; refine ih _ ?_
      intro t ht
      cases acc with
      | none => cases ht
      | some u => exact (loadRecord_pending ht).trans (h u rfl)
  exact key _ _ _ (fun t ht => by cases ht; rfl) _ h

theorem loadRecord_tap {s g t : State} {j jb k r} (h : s.loadRecord g j jb k r = some t) : t.tap = s.tap := by
  simp only [State.loadRecord] at h
  (repeat' split at h) <;> (first | (simp only [State.loadColl] at h) | (simp only [State.loadTable] at h) | (simp only [State.loadVocab] at h) | (simp only [State.loadModel] at h) | (simp only [State.loadStore] at h) | exact (loadTemplate_keeps h).2.1 | (simp only [State.loadGrammar] at h) | (simp only [State.loadPatch] at h) | skip) <;> (repeat' split at h) <;> (first | (cases h; done) | (simp only [Option.some.injEq] at h; subst h; simp; done) | (simp at h; subst h; simp; done))
theorem loadRecords_tap {s t : State} {j jb rs} (h : s.loadRecords j jb rs = some t) : t.tap = s.tap := by
  have key : ∀ (g : State) (l : List (Nat × Bytes)) (acc : Option State), (∀ t, acc = some t → t.tap = s.tap) →
      ∀ t, l.foldl (fun acc e => acc.bind (fun s => s.loadRecord g j jb e.1 e.2)) acc = some t → t.tap = s.tap := by
    intro g l
    induction l with
    | nil => intro acc h; exact h
    | cons a l ih =>
      intro acc h; refine ih _ ?_
      intro t ht
      cases acc with
      | none => cases ht
      | some u => exact (loadRecord_tap ht).trans (h u rfl)
  exact key _ _ _ (fun t ht => by cases ht; rfl) _ h

theorem loadRecord_fuses {s g t : State} {j jb k r} (h : s.loadRecord g j jb k r = some t) : t.fuses = s.fuses := by
  simp only [State.loadRecord] at h
  (repeat' split at h) <;> (first | (simp only [State.loadColl] at h) | (simp only [State.loadTable] at h) | (simp only [State.loadVocab] at h) | (simp only [State.loadModel] at h) | (simp only [State.loadStore] at h) | exact (loadTemplate_keeps h).2.2.1 | (simp only [State.loadGrammar] at h) | (simp only [State.loadPatch] at h) | skip) <;> (repeat' split at h) <;> (first | (cases h; done) | (simp only [Option.some.injEq] at h; subst h; simp; done) | (simp at h; subst h; simp; done))
theorem loadRecords_fuses {s t : State} {j jb rs} (h : s.loadRecords j jb rs = some t) : t.fuses = s.fuses := by
  have key : ∀ (g : State) (l : List (Nat × Bytes)) (acc : Option State), (∀ t, acc = some t → t.fuses = s.fuses) →
      ∀ t, l.foldl (fun acc e => acc.bind (fun s => s.loadRecord g j jb e.1 e.2)) acc = some t → t.fuses = s.fuses := by
    intro g l
    induction l with
    | nil => intro acc h; exact h
    | cons a l ih =>
      intro acc h; refine ih _ ?_
      intro t ht
      cases acc with
      | none => cases ht
      | some u => exact (loadRecord_fuses ht).trans (h u rfl)
  exact key _ _ _ (fun t ht => by cases ht; rfl) _ h

theorem loadRecord_mem {s g t : State} {j jb k r} (h : s.loadRecord g j jb k r = some t) : t.mem = s.mem := by
  simp only [State.loadRecord] at h
  (repeat' split at h) <;> (first | (simp only [State.loadColl] at h) | (simp only [State.loadTable] at h) | (simp only [State.loadVocab] at h) | (simp only [State.loadModel] at h) | (simp only [State.loadStore] at h) | exact (loadTemplate_keeps h).2.2.2 | (simp only [State.loadGrammar] at h) | (simp only [State.loadPatch] at h) | skip) <;> (repeat' split at h) <;> (first | (cases h; done) | (simp only [Option.some.injEq] at h; subst h; simp; done) | (simp at h; subst h; simp; done))
theorem loadRecords_mem {s t : State} {j jb rs} (h : s.loadRecords j jb rs = some t) : t.mem = s.mem := by
  have key : ∀ (g : State) (l : List (Nat × Bytes)) (acc : Option State), (∀ t, acc = some t → t.mem = s.mem) →
      ∀ t, l.foldl (fun acc e => acc.bind (fun s => s.loadRecord g j jb e.1 e.2)) acc = some t → t.mem = s.mem := by
    intro g l
    induction l with
    | nil => intro acc h; exact h
    | cons a l ih =>
      intro acc h; refine ih _ ?_
      intro t ht
      cases acc with
      | none => cases ht
      | some u => exact (loadRecord_mem ht).trans (h u rfl)
  exact key _ _ _ (fun t ht => by cases ht; rfl) _ h

@[simp] theorem State.admitJob_pending (s : State) (h : Nat) (img : Bytes) (jb : Job) : (s.admitJob h img jb).pending = s.pending := by
  have key : ((s.loadRecords h jb ((imgRecords img).getD [])).getD s).pending = s.pending := by
    cases hx : s.loadRecords h jb ((imgRecords img).getD []) with
    | none => rfl
    | some t => exact loadRecords_pending hx
  simp only [State.admitJob]; split <;> simp [key]

@[simp] theorem State.admitJob_tap (s : State) (h : Nat) (img : Bytes) (jb : Job) : (s.admitJob h img jb).tap = s.tap := by
  have key : ((s.loadRecords h jb ((imgRecords img).getD [])).getD s).tap = s.tap := by
    cases hx : s.loadRecords h jb ((imgRecords img).getD []) with
    | none => rfl
    | some t => exact loadRecords_tap hx
  simp only [State.admitJob]; split <;> simp [key]

@[simp] theorem State.admitJob_fuses (s : State) (h : Nat) (img : Bytes) (jb : Job) : (s.admitJob h img jb).fuses = s.fuses := by
  have key : ((s.loadRecords h jb ((imgRecords img).getD [])).getD s).fuses = s.fuses := by
    cases hx : s.loadRecords h jb ((imgRecords img).getD []) with
    | none => rfl
    | some t => exact loadRecords_fuses hx
  simp only [State.admitJob]; split <;> simp [key]

@[simp] theorem State.endLoad_keeps (s : State) (ld : Load) (st : Status) (reason sec : Nat) :
    (s.endLoad ld st reason sec).pending = s.pending ∧ (s.endLoad ld st reason sec).tap = s.tap ∧ (s.endLoad ld st reason sec).fuses = s.fuses ∧ (s.endLoad ld st reason sec).mem = s.mem := by
  unfold State.endLoad; simp

@[simp] theorem State.admitDone_keeps (s : State) (image : Transfer) :
    (s.admitDone image).pending = s.pending ∧ (s.admitDone image).tap = s.tap ∧ (s.admitDone image).fuses = s.fuses := by
  unfold State.admitDone; simp; (repeat' split) <;> simp

@[simp] theorem State.freeHandle_keeps (s : State) (j : Nat) :
    (s.freeHandle j).pending = s.pending ∧ (s.freeHandle j).tap = s.tap ∧ (s.freeHandle j).fuses = s.fuses ∧ (s.freeHandle j).mem = s.mem := by
  unfold State.freeHandle; (repeat' split) <;> simp

@[simp] theorem State.stopRestore_keeps (s : State) (jb : Job) :
    (s.stopRestore jb).pending = s.pending ∧ (s.stopRestore jb).tap = s.tap ∧ (s.stopRestore jb).fuses = s.fuses := by
  unfold State.stopRestore; simp

@[simp] theorem State.unloadNow_keeps (s : State) (j : Nat) :
    (s.unloadNow j).pending = s.pending ∧ (s.unloadNow j).tap = s.tap ∧ (s.unloadNow j).fuses = s.fuses := by
  unfold State.unloadNow; simp

@[simp] theorem State.beginRestore_keeps (s : State) (j : Nat) :
    (s.beginRestore j).pending = s.pending ∧ (s.beginRestore j).tap = s.tap ∧ (s.beginRestore j).fuses = s.fuses ∧ (s.beginRestore j).mem = s.mem := by
  unfold State.beginRestore; (repeat' split) <;> simp

@[simp] theorem State.beginRestores_keeps (s : State) :
    s.beginRestores.pending = s.pending ∧ s.beginRestores.tap = s.tap ∧ s.beginRestores.fuses = s.fuses ∧ s.beginRestores.mem = s.mem := by
  unfold State.beginRestores; simp

@[simp] theorem State.unload_keeps (s : State) (j : Nat) :
    (s.unload j).pending = s.pending ∧ (s.unload j).tap = s.tap ∧ (s.unload j).fuses = s.fuses := by
  unfold State.unload; (repeat' split) <;> simp

@[simp] theorem State.writeUnload_keeps (s : State) (r : Requester) (v : Bytes) :
    (s.writeUnload r v).pending = s.pending ∧ (s.writeUnload r v).tap = s.tap ∧ (s.writeUnload r v).fuses = s.fuses := by
  unfold State.writeUnload; simp

@[simp] theorem State.writePrivileged_keeps (s : State) (r : Requester) (v : Bytes) :
    (s.writePrivileged r v).pending = s.pending ∧ (s.writePrivileged r v).tap = s.tap ∧ (s.writePrivileged r v).fuses = s.fuses ∧ (s.writePrivileged r v).mem = s.mem := by
  unfold State.writePrivileged; simp

@[simp] theorem State.sramError_keeps (s : State) (t row : Nat) (e : SramFault) :
    (s.sramError t row e).pending = s.pending ∧ (s.sramError t row e).tap = s.tap ∧ (s.sramError t row e).fuses = s.fuses ∧ (s.sramError t row e).mem = s.mem := by
  unfold State.sramError; simp

@[simp] theorem State.lintStack_keeps (s : State) (d pos : Nat) (errs : List SectorFault) :
    (s.lintStack d pos errs).pending = s.pending ∧ (s.lintStack d pos errs).tap = s.tap ∧ (s.lintStack d pos errs).fuses = s.fuses ∧ (s.lintStack d pos errs).mem = s.mem := by
  unfold State.lintStack; simp

@[simp] theorem State.lintSpare_keeps (s : State) (d : Nat) (errs : List SectorFault) :
    (s.lintSpare d errs).pending = s.pending ∧ (s.lintSpare d errs).tap = s.tap ∧ (s.lintSpare d errs).fuses = s.fuses ∧ (s.lintSpare d errs).mem = s.mem := by
  unfold State.lintSpare; simp

@[simp] theorem State.fillStack_keeps (s : State) (d : Nat) :
    (s.fillStack d).pending = s.pending ∧ (s.fillStack d).tap = s.tap ∧ (s.fillStack d).fuses = s.fuses := by
  unfold State.fillStack; simp

@[simp] theorem State.fillTiles_keeps (s : State) (d : Nat) :
    (s.fillTiles d).pending = s.pending ∧ (s.fillTiles d).tap = s.tap ∧ (s.fillTiles d).fuses = s.fuses := by
  unfold State.fillTiles; simp

@[simp] theorem State.refillOwn_keeps (s : State) (d : Nat) :
    (s.refillOwn d).pending = s.pending ∧ (s.refillOwn d).tap = s.tap ∧ (s.refillOwn d).fuses = s.fuses := by
  unfold State.refillOwn; simp

@[simp] theorem State.noteSoak_keeps (s : State) (d ms : Nat) :
    (s.noteSoak d ms).pending = s.pending ∧ (s.noteSoak d ms).tap = s.tap ∧ (s.noteSoak d ms).fuses = s.fuses ∧ (s.noteSoak d ms).mem = s.mem := by
  unfold State.noteSoak; simp

@[simp] theorem State.soakDone_keeps (s : State) (d ms : Nat) :
    (s.soakDone d ms).pending = s.pending ∧ (s.soakDone d ms).tap = s.tap ∧ (s.soakDone d ms).fuses = s.fuses := by
  unfold State.soakDone; simp

@[simp] theorem State.installRemap_keeps (s : State) (e : RemapEntry) (ok : Bool) :
    (s.installRemap e ok).pending = s.pending ∧ (s.installRemap e ok).tap = s.tap ∧ (s.installRemap e ok).fuses = s.fuses ∧ (s.installRemap e ok).mem = s.mem := by
  unfold State.installRemap; simp

@[simp] theorem State.popRepair_keeps (s : State) :
    s.popRepair.pending = s.pending ∧ s.popRepair.tap = s.tap ∧ s.popRepair.fuses = s.fuses ∧ s.popRepair.mem = s.mem := by
  unfold State.popRepair; simp

@[simp] theorem State.notePlaced_keeps (s : State) (js : List Nat) :
    (s.notePlaced js).pending = s.pending ∧ (s.notePlaced js).tap = s.tap ∧ (s.notePlaced js).fuses = s.fuses ∧ (s.notePlaced js).mem = s.mem := by
  unfold State.notePlaced; simp

@[simp] theorem State.placeUrgent_keeps (s : State) (n : Nat) (t : CycleTable) :
    (s.placeUrgent n t).pending = s.pending ∧ (s.placeUrgent n t).tap = s.tap ∧ (s.placeUrgent n t).fuses = s.fuses ∧ (s.placeUrgent n t).mem = s.mem := by
  unfold State.placeUrgent; simp; (repeat' split) <;> simp

@[simp] theorem State.startSave_keeps (s : State) (j : Nat) (jb : Job) :
    (s.startSave j jb).pending = s.pending ∧ (s.startSave j jb).tap = s.tap ∧ (s.startSave j jb).fuses = s.fuses ∧ (s.startSave j jb).mem = s.mem := by
  unfold State.startSave; simp

@[simp] theorem State.boundaryJob_keeps (s : State) (rs : List Nat) (j : Nat) :
    (s.boundaryJob rs j).pending = s.pending ∧ (s.boundaryJob rs j).tap = s.tap ∧ (s.boundaryJob rs j).fuses = s.fuses := by
  unfold State.boundaryJob; (repeat' split) <;> simp

@[simp] theorem State.boundaryJobs_keeps (s : State) (n : Nat) (rs : List Nat) :
    (s.boundaryJobs n rs).pending = s.pending ∧ (s.boundaryJobs n rs).tap = s.tap ∧ (s.boundaryJobs n rs).fuses = s.fuses := by
  unfold State.boundaryJobs; simp

@[simp] theorem State.boundary_keeps (s : State) (n i : Nat) :
    (s.boundary n i).pending = s.pending ∧ (s.boundary n i).tap = s.tap ∧ (s.boundary n i).fuses = s.fuses := by
  unfold State.boundary; (repeat' split) <;> simp

@[simp] theorem State.beginCycle_keeps (s : State) (n : Nat) (t : CycleTable) :
    (s.beginCycle n t).pending = s.pending ∧ (s.beginCycle n t).tap = s.tap ∧ (s.beginCycle n t).fuses = s.fuses := by
  unfold State.beginCycle; (repeat' split) <;> simp

@[simp] theorem State.clearTable_keeps (s : State) (n : Nat) :
    (s.clearTable n).pending = s.pending ∧ (s.clearTable n).tap = s.tap ∧ (s.clearTable n).fuses = s.fuses := by
  unfold State.clearTable; (repeat' split) <;> simp

@[simp] theorem State.countRefused_keeps (s : State) (n : Nat) (granted : NSet) :
    (s.countRefused n granted).pending = s.pending ∧ (s.countRefused n granted).tap = s.tap ∧ (s.countRefused n granted).fuses = s.fuses ∧ (s.countRefused n granted).mem = s.mem := by
  unfold State.countRefused; simp

@[simp] theorem State.takeTable_keeps (s : State) (n : Nat) (t : CycleTable) :
    (s.takeTable n t).pending = s.pending ∧ (s.takeTable n t).tap = s.tap ∧ (s.takeTable n t).fuses = s.fuses := by
  unfold State.takeTable; (repeat' split) <;> simp

@[simp] theorem State.writeCycleTable_keeps (s : State) (n : Nat) (r : Requester) (v : Bytes) :
    (s.writeCycleTable n r v).pending = s.pending ∧ (s.writeCycleTable n r v).tap = s.tap ∧ (s.writeCycleTable n r v).fuses = s.fuses := by
  unfold State.writeCycleTable; simp

@[simp] theorem State.restArray_keeps (s : State) (t : Nat) :
    (s.restArray t).pending = s.pending ∧ (s.restArray t).tap = s.tap ∧ (s.restArray t).fuses = s.fuses := by
  unfold State.restArray; simp; (repeat' split) <;> simp

@[simp] theorem State.restGathers_keeps (s : State) (t : Nat) :
    (s.restGathers t).pending = s.pending ∧ (s.restGathers t).tap = s.tap ∧ (s.restGathers t).fuses = s.fuses := by
  unfold State.restGathers; simp

@[simp] theorem State.saveAs_keeps (s : State) (t j : Nat) (rec : SaveRec) :
    (s.saveAs t j rec).pending = s.pending ∧ (s.saveAs t j rec).tap = s.tap ∧ (s.saveAs t j rec).fuses = s.fuses := by
  unfold State.saveAs; simp

@[simp] theorem State.saveFull_keeps (s : State) (t j : Nat) :
    (s.saveFull t j).pending = s.pending ∧ (s.saveFull t j).tap = s.tap ∧ (s.saveFull t j).fuses = s.fuses := by
  unfold State.saveFull; (repeat' split) <;> simp

@[simp] theorem State.endSave_keeps (s : State) (j : Nat) :
    (s.endSave j).pending = s.pending ∧ (s.endSave j).tap = s.tap ∧ (s.endSave j).fuses = s.fuses := by
  unfold State.endSave; split <;> simp <;> split <;> simp

@[simp] theorem State.reissueStream_keeps (s : State) (t : Nat) :
    (s.reissueStream t).pending = s.pending ∧ (s.reissueStream t).tap = s.tap ∧ (s.reissueStream t).fuses = s.fuses ∧ (s.reissueStream t).mem = s.mem := by
  refine ⟨?_, ?_, ?_, ?_⟩ <;> (unfold State.reissueStream; repeat' first | (simp; done) | intro _ | refine (foldl_pending _ _ _ ?_).trans ?_ | refine (foldl_tap _ _ _ ?_).trans ?_ | refine (foldl_fuses _ _ _ ?_).trans ?_ | refine (foldl_mem _ _ _ ?_).trans ?_ | split)

@[simp] theorem State.restoreTile_keeps (s : State) (j : Nat) (d : TileDecl) (rec : SaveRec) :
    (s.restoreTile j d rec).pending = s.pending ∧ (s.restoreTile j d rec).tap = s.tap ∧ (s.restoreTile j d rec).fuses = s.fuses := by
  unfold State.restoreTile; simp

@[simp] theorem State.resumeSteps_keeps (s : State) (jb : Job) :
    (s.resumeSteps jb).pending = s.pending ∧ (s.resumeSteps jb).tap = s.tap ∧ (s.resumeSteps jb).fuses = s.fuses ∧ (s.resumeSteps jb).mem = s.mem := by
  refine ⟨?_, ?_, ?_, ?_⟩ <;> (unfold State.resumeSteps; repeat' first | (simp; done) | intro _ | refine (foldl_pending _ _ _ ?_).trans ?_ | refine (foldl_tap _ _ _ ?_).trans ?_ | refine (foldl_fuses _ _ _ ?_).trans ?_ | refine (foldl_mem _ _ _ ?_).trans ?_ | split)

@[simp] theorem State.abandonTile_keeps (s : State) (t : Nat) :
    (s.abandonTile t).pending = s.pending ∧ (s.abandonTile t).tap = s.tap ∧ (s.abandonTile t).fuses = s.fuses ∧ (s.abandonTile t).mem = s.mem := by
  unfold State.abandonTile; simp

@[simp] theorem State.holdForRerun_keeps (s : State) (jb : Job) :
    (s.holdForRerun jb).pending = s.pending ∧ (s.holdForRerun jb).tap = s.tap ∧ (s.holdForRerun jb).fuses = s.fuses ∧ (s.holdForRerun jb).mem = s.mem := by
  unfold State.holdForRerun; simp

@[simp] theorem State.abortJobs_keeps (s : State) (which : Job → Bool) :
    (s.abortJobs which).pending = s.pending ∧ (s.abortJobs which).tap = s.tap ∧ (s.abortJobs which).fuses = s.fuses := by
  unfold State.abortJobs; simp

@[simp] theorem fetch_pending (s : State) (n x c) : (s.fetch n x c).2.2.pending = s.pending := by simp [State.fetch]
@[simp] theorem State.abortEntries_pending (s : State) (n k : Nat) : (s.abortEntries n k).pending = s.pending := by
  induction k generalizing s with
  | zero => rfl
  | succ k ih => simp only [State.abortEntries]; (repeat' split) <;> simp [ih]

@[simp] theorem fetch_tap (s : State) (n x c) : (s.fetch n x c).2.2.tap = s.tap := by simp [State.fetch]
@[simp] theorem State.abortEntries_tap (s : State) (n k : Nat) : (s.abortEntries n k).tap = s.tap := by
  induction k generalizing s with
  | zero => rfl
  | succ k ih => simp only [State.abortEntries]; (repeat' split) <;> simp [ih]

@[simp] theorem fetch_fuses (s : State) (n x c) : (s.fetch n x c).2.2.fuses = s.fuses := by simp [State.fetch]
@[simp] theorem State.abortEntries_fuses (s : State) (n k : Nat) : (s.abortEntries n k).fuses = s.fuses := by
  induction k generalizing s with
  | zero => rfl
  | succ k ih => simp only [State.abortEntries]; (repeat' split) <;> simp [ih]

@[simp] theorem fetch_mem (s : State) (n x c) : (s.fetch n x c).2.2.mem = s.mem := by simp [State.fetch]
@[simp] theorem State.abortEntries_mem (s : State) (n k : Nat) : (s.abortEntries n k).mem = s.mem := by
  induction k generalizing s with
  | zero => rfl
  | succ k ih => simp only [State.abortEntries]; (repeat' split) <;> simp [ih]

@[simp] theorem State.abortRing_keeps (s : State) (n : Nat) :
    (s.abortRing n).pending = s.pending ∧ (s.abortRing n).tap = s.tap ∧ (s.abortRing n).fuses = s.fuses ∧ (s.abortRing n).mem = s.mem := by
  unfold State.abortRing; simp; (repeat' split) <;> simp

@[simp] theorem State.abortDie_keeps (s : State) (d : Nat) :
    (s.abortDie d).pending = s.pending ∧ (s.abortDie d).tap = s.tap ∧ (s.abortDie d).fuses = s.fuses := by
  unfold State.abortDie; simp

@[simp] theorem State.dropPages_keeps (s : State) (d : Nat) :
    (s.dropPages d).pending = s.pending ∧ (s.dropPages d).tap = s.tap ∧ (s.dropPages d).fuses = s.fuses ∧ (s.dropPages d).mem = s.mem := by
  unfold State.dropPages; simp

@[simp] theorem State.clearDie_keeps (s : State) (d : Nat) :
    (s.clearDie d).pending = s.pending ∧ (s.clearDie d).tap = s.tap ∧ (s.clearDie d).fuses = s.fuses := by
  unfold State.clearDie; simp

@[simp] theorem State.queueRepair_keeps (s : State) (d : Nat) (res : Resource) :
    (s.queueRepair d res).pending = s.pending ∧ (s.queueRepair d res).tap = s.tap ∧ (s.queueRepair d res).fuses = s.fuses ∧ (s.queueRepair d res).mem = s.mem := by
  unfold State.queueRepair; simp

@[simp] theorem State.rerunStep_keeps (s : State) (j : Nat) (jb : Job) :
    (s.rerunStep j jb).pending = s.pending ∧ (s.rerunStep j jb).tap = s.tap ∧ (s.rerunStep j jb).fuses = s.fuses ∧ (s.rerunStep j jb).mem = s.mem := by
  unfold State.rerunStep; simp

@[simp] theorem State.retire_keeps (s : State) (d : Nat) (r : Retired) (rec : LogRec) :
    (s.retire d r rec).pending = s.pending ∧ (s.retire d r rec).tap = s.tap ∧ (s.retire d r rec).fuses = s.fuses ∧ (s.retire d r rec).mem = s.mem := by
  unfold State.retire; simp

@[simp] theorem State.cutRegions_keeps (s : State) (d : Nat) :
    (s.cutRegions d).pending = s.pending ∧ (s.cutRegions d).tap = s.tap ∧ (s.cutRegions d).fuses = s.fuses ∧ (s.cutRegions d).mem = s.mem := by
  unfold State.cutRegions; simp

@[simp] theorem State.retireArray_keeps (s : State) (t : Nat) :
    (s.retireArray t).pending = s.pending ∧ (s.retireArray t).tap = s.tap ∧ (s.retireArray t).fuses = s.fuses ∧ (s.retireArray t).mem = s.mem := by
  unfold State.retireArray; simp

@[simp] theorem State.abortTile_keeps (s : State) (t : Nat) :
    (s.abortTile t).pending = s.pending ∧ (s.abortTile t).tap = s.tap ∧ (s.abortTile t).fuses = s.fuses := by
  unfold State.abortTile; simp

@[simp] theorem State.writeLogRinse_keeps (s : State) (r : Requester) (v : Bytes) :
    (s.writeLogRinse r v).pending = s.pending ∧ (s.writeLogRinse r v).tap = s.tap ∧ (s.writeLogRinse r v).fuses = s.fuses ∧ (s.writeLogRinse r v).mem = s.mem := by
  unfold State.writeLogRinse; simp

@[simp] theorem State.writeAct_keeps (s : State) (a : ActRec) :
    (s.writeAct a).pending = s.pending ∧ (s.writeAct a).tap = s.tap ∧ (s.writeAct a).fuses = s.fuses ∧ (s.writeAct a).mem = s.mem := by
  unfold State.writeAct; simp

@[simp] theorem State.cold_keeps (s : State) (cause : Nat) (hold : List Hold) :
    (s.cold cause hold).pending = s.pending ∧ (s.cold cause hold).tap = s.tap := by
  unfold State.cold; simp

@[simp] theorem State.warm_keeps (s : State) (cause : Nat) :
    (s.warm cause).pending = s.pending ∧ (s.warm cause).tap = s.tap := by
  unfold State.warm; simp

@[simp] theorem State.resetDie_keeps (s : State) (d : Nat) :
    (s.resetDie d).pending = s.pending ∧ (s.resetDie d).tap = s.tap ∧ (s.resetDie d).fuses = s.fuses := by
  unfold State.resetDie; simp

@[simp] theorem State.startDieReset_keeps (s : State) (d : Nat) (r : Requester) :
    (s.startDieReset d r).pending = s.pending ∧ (s.startDieReset d r).tap = s.tap ∧ (s.startDieReset d r).fuses = s.fuses := by
  unfold State.startDieReset; simp

@[simp] theorem State.writeDieReset_keeps (s : State) (r : Requester) (v : Bytes) :
    (s.writeDieReset r v).pending = s.pending ∧ (s.writeDieReset r v).tap = s.tap ∧ (s.writeDieReset r v).fuses = s.fuses := by
  unfold State.writeDieReset; simp

@[simp] theorem State.writeTileReset_keeps (s : State) (r : Requester) (v : Bytes) :
    (s.writeTileReset r v).pending = s.pending ∧ (s.writeTileReset r v).tap = s.tap ∧ (s.writeTileReset r v).fuses = s.fuses := by
  unfold State.writeTileReset; simp

@[simp] theorem State.answerDieResets_keeps (s : State) (d : Nat) :
    (s.answerDieResets d).pending = s.pending ∧ (s.answerDieResets d).tap = s.tap ∧ (s.answerDieResets d).fuses = s.fuses ∧ (s.answerDieResets d).mem = s.mem := by
  unfold State.answerDieResets; simp

@[simp] theorem State.cancelContext_keeps (s : State) (c : Nat) :
    (s.cancelContext c).pending = s.pending ∧ (s.cancelContext c).tap = s.tap ∧ (s.cancelContext c).fuses = s.fuses ∧ (s.cancelContext c).mem = s.mem := by
  unfold State.cancelContext; simp

@[simp] theorem State.startCtxReset_keeps (s : State) (c : Nat) (r : Requester) :
    (s.startCtxReset c r).pending = s.pending ∧ (s.startCtxReset c r).tap = s.tap ∧ (s.startCtxReset c r).fuses = s.fuses ∧ (s.startCtxReset c r).mem = s.mem := by
  unfold State.startCtxReset; simp

@[simp] theorem State.writeContextReset_keeps (s : State) (r : Requester) (v : Bytes) :
    (s.writeContextReset r v).pending = s.pending ∧ (s.writeContextReset r v).tap = s.tap ∧ (s.writeContextReset r v).fuses = s.fuses ∧ (s.writeContextReset r v).mem = s.mem := by
  unfold State.writeContextReset; simp

@[simp] theorem State.resetContextQps_keeps (s : State) (c : Nat) :
    (s.resetContextQps c).pending = s.pending ∧ (s.resetContextQps c).tap = s.tap ∧ (s.resetContextQps c).fuses = s.fuses ∧ (s.resetContextQps c).mem = s.mem := by
  unfold State.resetContextQps; simp

@[simp] theorem State.scheduleReset_keeps (s : State) (k : ResetKind) :
    (s.scheduleReset k).pending = s.pending ∧ (s.scheduleReset k).tap = s.tap ∧ (s.scheduleReset k).fuses = s.fuses ∧ (s.scheduleReset k).mem = s.mem := by
  unfold State.scheduleReset; simp

@[simp] theorem State.writeModuleReset_keeps (s : State) (r : Requester) (v : Bytes) :
    (s.writeModuleReset r v).pending = s.pending ∧ (s.writeModuleReset r v).tap = s.tap ∧ (s.writeModuleReset r v).fuses = s.fuses ∧ (s.writeModuleReset r v).mem = s.mem := by
  unfold State.writeModuleReset; simp

@[simp] theorem State.leaveCold_keeps (s : State) (bootSel clkSel : BitVec 2) (refOk : Bool) :
    (s.leaveCold bootSel clkSel refOk).pending = s.pending ∧ (s.leaveCold bootSel clkSel refOk).tap = s.tap ∧ (s.leaveCold bootSel clkSel refOk).fuses = s.fuses ∧ (s.leaveCold bootSel clkSel refOk).mem = s.mem := by
  unfold State.leaveCold; simp

@[simp] theorem State.tornFuse_keeps (s : State) :
    s.tornFuse.pending = s.pending ∧ s.tornFuse.tap = s.tap ∧ s.tornFuse.mem = s.mem := by
  unfold State.tornFuse; simp; (repeat' split) <;> simp

@[simp] theorem State.powerLoss_keeps (s : State) : s.powerLoss.pending = s.pending := by unfold State.powerLoss; simp

@[simp] theorem State.watchdogReset_keeps (s : State) :
    s.watchdogReset.pending = s.pending ∧ s.watchdogReset.tap = s.tap := by
  unfold State.watchdogReset; (repeat' split) <;> simp

@[simp] theorem State.runDeferred_keeps (s : State) :
    s.runDeferred.pending = s.pending ∧ s.runDeferred.tap = s.tap := by
  unfold State.runDeferred; simp

@[simp] theorem State.escalateDie_keeps (s : State) (d : Nat) :
    (s.escalateDie d).pending = s.pending ∧ (s.escalateDie d).tap = s.tap ∧ (s.escalateDie d).fuses = s.fuses := by
  unfold State.escalateDie; simp

@[simp] theorem State.loadObjects_keeps (s : State) :
    s.loadObjects.pending = s.pending ∧ s.loadObjects.tap = s.tap ∧ s.loadObjects.fuses = s.fuses ∧ s.loadObjects.mem = s.mem := by
  unfold State.loadObjects; simp

@[simp] theorem State.readLedger_keeps (s : State) :
    s.readLedger.pending = s.pending ∧ s.readLedger.tap = s.tap ∧ s.readLedger.fuses = s.fuses ∧ s.readLedger.mem = s.mem := by
  unfold State.readLedger; simp

@[simp] theorem State.measure_keeps (s : State) (i : Nat) (part : Bytes) :
    (s.measure i part).pending = s.pending ∧ (s.measure i part).tap = s.tap ∧ (s.measure i part).fuses = s.fuses ∧ (s.measure i part).mem = s.mem := by
  unfold State.measure; simp

@[simp] theorem State.serveRom_keeps (s : State) (mode : BootMode) (waiting : Bool) :
    (s.serveRom mode waiting).pending = s.pending ∧ (s.serveRom mode waiting).tap = s.tap ∧ (s.serveRom mode waiting).fuses = s.fuses ∧ (s.serveRom mode waiting).mem = s.mem := by
  unfold State.serveRom; simp

@[simp] theorem State.enterRecovery_keeps (s : State) :
    s.enterRecovery.pending = s.pending ∧ s.enterRecovery.tap = s.tap ∧ s.enterRecovery.fuses = s.fuses ∧ s.enterRecovery.mem = s.mem := by
  unfold State.enterRecovery; simp

@[simp] theorem State.noteFallback_keeps (s : State) :
    s.noteFallback.pending = s.pending ∧ s.noteFallback.tap = s.tap ∧ s.noteFallback.fuses = s.fuses ∧ s.noteFallback.mem = s.mem := by
  unfold State.noteFallback; simp

@[simp] theorem State.bootRecord_keeps (s : State) (a : ActRec) (ok : Bool) :
    (s.bootRecord a ok).pending = s.pending ∧ (s.bootRecord a ok).tap = s.tap ∧ (s.bootRecord a ok).fuses = s.fuses ∧ (s.bootRecord a ok).mem = s.mem := by
  unfold State.bootRecord; simp

@[simp] theorem State.trialBoot_keeps (s : State) (a : ActRec) (ok : Bool) :
    (s.trialBoot a ok).pending = s.pending ∧ (s.trialBoot a ok).tap = s.tap ∧ (s.trialBoot a ok).fuses = s.fuses ∧ (s.trialBoot a ok).mem = s.mem := by
  unfold State.trialBoot; simp

@[simp] theorem State.fallBack_keeps (s : State) (a : ActRec) (ok : Bool) :
    (s.fallBack a ok).pending = s.pending ∧ (s.fallBack a ok).tap = s.tap ∧ (s.fallBack a ok).fuses = s.fuses ∧ (s.fallBack a ok).mem = s.mem := by
  unfold State.fallBack; simp

@[simp] theorem State.partFailed_keeps (s : State) (ok : Bool) :
    (s.partFailed ok).pending = s.pending ∧ (s.partFailed ok).tap = s.tap := by
  unfold State.partFailed; (repeat' split) <;> simp

theorem loadOptics_pending {s t : State} (h : s.loadOptics = some t) : t.pending = s.pending := by
  simp only [State.loadOptics] at h
  split at h
  · cases h; simp
  · split at h
    · cases h; simp
    · cases h
@[simp] theorem State.bootChain_pending (s : State) (record : Bytes) (ok : Bool) : (s.bootChain record ok).pending = s.pending := by
  simp only [State.bootChain]; split
  · simp
  · split
    · simp
    · rename_i h; rw [loadOptics_pending h]; simp

theorem loadOptics_tap {s t : State} (h : s.loadOptics = some t) : t.tap = s.tap := by
  simp only [State.loadOptics] at h
  split at h
  · cases h; simp
  · split at h
    · cases h; simp
    · cases h
@[simp] theorem State.bootChain_tap (s : State) (record : Bytes) (ok : Bool) : (s.bootChain record ok).tap = s.tap := by
  simp only [State.bootChain]; split
  · simp
  · split
    · simp
    · rename_i h; rw [loadOptics_tap h]; simp

theorem loadOptics_fuses {s t : State} (h : s.loadOptics = some t) : t.fuses = s.fuses := by
  simp only [State.loadOptics] at h
  split at h
  · cases h; simp
  · split at h
    · cases h; simp
    · cases h

theorem loadOptics_mem {s t : State} (h : s.loadOptics = some t) : t.mem = s.mem := by
  simp only [State.loadOptics] at h
  split at h
  · cases h; simp
  · split at h
    · cases h; simp
    · cases h

@[simp] theorem State.networkStart_keeps (s : State) :
    s.networkStart.pending = s.pending ∧ s.networkStart.tap = s.tap := by
  unfold State.networkStart; simp

@[simp] theorem State.bootFrom_keeps (s : State) (b ok : Bool) :
    (s.bootFrom b ok).pending = s.pending ∧ (s.bootFrom b ok).tap = s.tap := by
  unfold State.bootFrom; simp

@[simp] theorem bootSelect_pending (s : State) (ok : Bool) : (s.bootSelect ok).1.pending = s.pending := by
  simp only [State.bootSelect]; (repeat' split) <;> simp
@[simp] theorem State.bootSlot_pending (s : State) (ok : Bool) : (s.bootSlot ok).pending = s.pending := by
  simp only [State.bootSlot]; split <;> rename_i h <;> simp [← bootSelect_pending s ok, h]

@[simp] theorem bootSelect_tap (s : State) (ok : Bool) : (s.bootSelect ok).1.tap = s.tap := by
  simp only [State.bootSelect]; (repeat' split) <;> simp
@[simp] theorem State.bootSlot_tap (s : State) (ok : Bool) : (s.bootSlot ok).tap = s.tap := by
  simp only [State.bootSlot]; split <;> rename_i h <;> simp [← bootSelect_tap s ok, h]

@[simp] theorem bootSelect_fuses (s : State) (ok : Bool) : (s.bootSelect ok).1.fuses = s.fuses := by
  simp only [State.bootSelect]; (repeat' split) <;> simp

@[simp] theorem bootSelect_mem (s : State) (ok : Bool) : (s.bootSelect ok).1.mem = s.mem := by
  simp only [State.bootSelect]; (repeat' split) <;> simp

@[simp] theorem State.bootBy_keeps (s : State) (sel : Nat) (ok : Bool) :
    (s.bootBy sel ok).pending = s.pending ∧ (s.bootBy sel ok).tap = s.tap := by
  unfold State.bootBy; (repeat' split) <;> simp

@[simp] theorem State.powerDie_keeps (s : State) (d : Nat) :
    (s.powerDie d).pending = s.pending ∧ (s.powerDie d).tap = s.tap ∧ (s.powerDie d).fuses = s.fuses ∧ (s.powerDie d).mem = s.mem := by
  unfold State.powerDie; simp

@[simp] theorem State.notePower_keeps (s : State) (watts : Nat) :
    (s.notePower watts).pending = s.pending ∧ (s.notePower watts).tap = s.tap ∧ (s.notePower watts).fuses = s.fuses ∧ (s.notePower watts).mem = s.mem := by
  unfold State.notePower; simp

@[simp] theorem State.governDie_keeps (s : State) (d : Nat) :
    (s.governDie d).pending = s.pending ∧ (s.governDie d).tap = s.tap ∧ (s.governDie d).fuses = s.fuses ∧ (s.governDie d).mem = s.mem := by
  unfold State.governDie; simp

@[simp] theorem State.noteTemp_keeps (s : State) (d : Nat) (t : Int) :
    (s.noteTemp d t).pending = s.pending ∧ (s.noteTemp d t).tap = s.tap ∧ (s.noteTemp d t).fuses = s.fuses ∧ (s.noteTemp d t).mem = s.mem := by
  unfold State.noteTemp; simp

@[simp] theorem State.setThermal_keeps (s : State) (d n : Nat) :
    (s.setThermal d n).pending = s.pending ∧ (s.setThermal d n).tap = s.tap ∧ (s.setThermal d n).fuses = s.fuses ∧ (s.setThermal d n).mem = s.mem := by
  unfold State.setThermal; simp

@[simp] theorem State.logThermal_keeps (s : State) (d : Nat) :
    (s.logThermal d).pending = s.pending ∧ (s.logThermal d).tap = s.tap ∧ (s.logThermal d).fuses = s.fuses ∧ (s.logThermal d).mem = s.mem := by
  unfold State.logThermal; simp

@[simp] theorem State.noteCrossing_keeps (s : State) (d : Nat) :
    (s.noteCrossing d).pending = s.pending ∧ (s.noteCrossing d).tap = s.tap ∧ (s.noteCrossing d).fuses = s.fuses ∧ (s.noteCrossing d).mem = s.mem := by
  unfold State.noteCrossing; simp

@[simp] theorem State.holdDie_keeps (s : State) (d : Nat) :
    (s.holdDie d).pending = s.pending ∧ (s.holdDie d).tap = s.tap ∧ (s.holdDie d).fuses = s.fuses := by
  unfold State.holdDie; simp

@[simp] theorem State.coolHold_keeps (s : State) (d : Nat) :
    (s.coolHold d).pending = s.pending ∧ (s.coolHold d).tap = s.tap ∧ (s.coolHold d).fuses = s.fuses := by
  unfold State.coolHold; simp

@[simp] theorem State.releaseDie_keeps (s : State) (d : Nat) :
    (s.releaseDie d).pending = s.pending ∧ (s.releaseDie d).tap = s.tap ∧ (s.releaseDie d).fuses = s.fuses := by
  unfold State.releaseDie; simp

@[simp] theorem State.setBus_keeps (s : State) (mv : Nat) (b : BusBand) :
    (s.setBus mv b).pending = s.pending ∧ (s.setBus mv b).tap = s.tap ∧ (s.setBus mv b).fuses = s.fuses ∧ (s.setBus mv b).mem = s.mem := by
  unfold State.setBus; simp

@[simp] theorem State.tapSelect_keeps (s : State) (ir : Byte) :
    (s.tapSelect ir).pending = s.pending ∧ (s.tapSelect ir).fuses = s.fuses ∧ (s.tapSelect ir).mem = s.mem := by
  unfold State.tapSelect; simp

@[simp] theorem State.setStage_keeps (s : State) (st : Staging) :
    (s.setStage st).pending = s.pending ∧ (s.setStage st).tap = s.tap ∧ (s.setStage st).fuses = s.fuses ∧ (s.setStage st).mem = s.mem := by
  unfold State.setStage; simp

@[simp] theorem State.stageFail_keeps (s : State) (reason : Nat) (st : Status) (bad : Option Nat) :
    (s.stageFail reason st bad).pending = s.pending ∧ (s.stageFail reason st bad).tap = s.tap ∧ (s.stageFail reason st bad).fuses = s.fuses ∧ (s.stageFail reason st bad).mem = s.mem := by
  unfold State.stageFail; simp

@[simp] theorem State.prepare_keeps (s : State) (n : Nat) :
    (s.prepare n).pending = s.pending ∧ (s.prepare n).tap = s.tap ∧ (s.prepare n).fuses = s.fuses ∧ (s.prepare n).mem = s.mem := by
  unfold State.prepare; simp

@[simp] theorem State.writePrepare_keeps (s : State) (r : Requester) (v : Bytes) :
    (s.writePrepare r v).pending = s.pending ∧ (s.writePrepare r v).tap = s.tap ∧ (s.writePrepare r v).fuses = s.fuses ∧ (s.writePrepare r v).mem = s.mem := by
  unfold State.writePrepare; simp

@[simp] theorem State.activate_keeps (s : State) (r : Requester) (value : Nat) :
    (s.activate r value).pending = s.pending ∧ (s.activate r value).tap = s.tap ∧ (s.activate r value).fuses = s.fuses ∧ (s.activate r value).mem = s.mem := by
  unfold State.activate; (repeat' split) <;> simp

@[simp] theorem State.writeActivate_keeps (s : State) (r : Requester) (v : Bytes) :
    (s.writeActivate r v).pending = s.pending ∧ (s.writeActivate r v).tap = s.tap ∧ (s.writeActivate r v).fuses = s.fuses ∧ (s.writeActivate r v).mem = s.mem := by
  unfold State.writeActivate; simp

@[simp] theorem State.confirmRecord_keeps (s : State) (r : Requester) (a : ActRec) :
    (s.confirmRecord r a).pending = s.pending ∧ (s.confirmRecord r a).tap = s.tap ∧ (s.confirmRecord r a).fuses = s.fuses ∧ (s.confirmRecord r a).mem = s.mem := by
  unfold State.confirmRecord; simp

@[simp] theorem State.confirm_keeps (s : State) (r : Requester) :
    (s.confirm r).pending = s.pending ∧ (s.confirm r).tap = s.tap ∧ (s.confirm r).mem = s.mem := by
  unfold State.confirm; (repeat' split) <;> simp

@[simp] theorem State.revert_keeps (s : State) (r : Requester) :
    (s.revert r).pending = s.pending ∧ (s.revert r).tap = s.tap ∧ (s.revert r).fuses = s.fuses ∧ (s.revert r).mem = s.mem := by
  unfold State.revert; (repeat' split) <;> simp

@[simp] theorem State.writeConfirm_keeps (s : State) (r : Requester) (v : Bytes) :
    (s.writeConfirm r v).pending = s.pending ∧ (s.writeConfirm r v).tap = s.tap ∧ (s.writeConfirm r v).mem = s.mem := by
  unfold State.writeConfirm; simp

@[simp] theorem State.setBlowing_keeps (s : State) (j : Option FuseJob) :
    (s.setBlowing j).pending = s.pending ∧ (s.setBlowing j).tap = s.tap ∧ (s.setBlowing j).mem = s.mem := by
  unfold State.setBlowing; simp

@[simp] theorem State.fuseGood_keeps (s : State) (a__internal_hyg0 : FuseJob) :
    (s.fuseGood a__internal_hyg0).pending = s.pending ∧ (s.fuseGood a__internal_hyg0).tap = s.tap ∧ (s.fuseGood a__internal_hyg0).mem = s.mem := by
  unfold State.fuseGood; simp; (repeat' split) <;> simp

@[simp] theorem State.fuseBad_keeps (s : State) (a__internal_hyg0 : FuseJob) :
    (s.fuseBad a__internal_hyg0).pending = s.pending ∧ (s.fuseBad a__internal_hyg0).tap = s.tap ∧ (s.fuseBad a__internal_hyg0).mem = s.mem := by
  unfold State.fuseBad; (repeat' split) <;> simp

@[simp] theorem State.fuseDone_keeps (s : State) (ok : Bool) :
    (s.fuseDone ok).pending = s.pending ∧ (s.fuseDone ok).tap = s.tap := by
  unfold State.fuseDone; (repeat' split) <;> simp

@[simp] theorem State.inForce_keeps (s : State) (w : LedgerWrite) :
    (s.inForce w).pending = s.pending ∧ (s.inForce w).tap = s.tap ∧ (s.inForce w).fuses = s.fuses ∧ (s.inForce w).mem = s.mem := by
  unfold State.inForce; simp

@[simp] theorem State.objWritten_keeps (s : State) (ok : Bool) :
    (s.objWritten ok).pending = s.pending ∧ (s.objWritten ok).tap = s.tap ∧ (s.objWritten ok).fuses = s.fuses ∧ (s.objWritten ok).mem = s.mem := by
  unfold State.objWritten; (repeat' split) <;> simp

@[simp] theorem State.actDone_keeps (s : State) (ok : Bool) (a__internal_hyg0 : ActWrite) :
    (s.actDone ok a__internal_hyg0).pending = s.pending ∧ (s.actDone ok a__internal_hyg0).tap = s.tap ∧ (s.actDone ok a__internal_hyg0).fuses = s.fuses ∧ (s.actDone ok a__internal_hyg0).mem = s.mem := by
  unfold State.actDone; (repeat' split) <;> simp

@[simp] theorem State.actWritten_keeps (s : State) (ok : Bool) :
    (s.actWritten ok).pending = s.pending ∧ (s.actWritten ok).tap = s.tap ∧ (s.actWritten ok).fuses = s.fuses ∧ (s.actWritten ok).mem = s.mem := by
  unfold State.actWritten; (repeat' split) <;> simp

@[simp] theorem State.startProbe_keeps (s : State) (r : Requester) (rec : Bytes) (message : Bool) :
    (s.startProbe r rec message).pending = s.pending ∧ (s.startProbe r rec message).tap = s.tap ∧ (s.startProbe r rec message).fuses = s.fuses ∧ (s.startProbe r rec message).mem = s.mem := by
  unfold State.startProbe; simp

@[simp] theorem State.writeClaim_keeps (s : State) (r : Requester) (v : Bytes) :
    (s.writeClaim r v).pending = s.pending ∧ (s.writeClaim r v).tap = s.tap ∧ (s.writeClaim r v).fuses = s.fuses ∧ (s.writeClaim r v).mem = s.mem := by
  unfold State.writeClaim; simp

@[simp] theorem State.writeRelease_keeps (s : State) (r : Requester) (v : Bytes) :
    (s.writeRelease r v).pending = s.pending ∧ (s.writeRelease r v).tap = s.tap ∧ (s.writeRelease r v).fuses = s.fuses ∧ (s.writeRelease r v).mem = s.mem := by
  unfold State.writeRelease; simp

@[simp] theorem State.settleStage_keeps (s : State) :
    s.settleStage.pending = s.pending ∧ s.settleStage.tap = s.tap ∧ s.settleStage.fuses = s.fuses ∧ s.settleStage.mem = s.mem := by
  unfold State.settleStage; simp

@[simp] theorem State.writeCloseOthers_keeps (s : State) (r : Requester) (v : Bytes) :
    (s.writeCloseOthers r v).pending = s.pending ∧ (s.writeCloseOthers r v).tap = s.tap ∧ (s.writeCloseOthers r v).fuses = s.fuses ∧ (s.writeCloseOthers r v).mem = s.mem := by
  unfold State.writeCloseOthers; simp

@[simp] theorem State.writePlain_keeps (s : State) (r : Requester) (idx sub : Nat) (v : Bytes) :
    (s.writePlain r idx sub v).pending = s.pending ∧ (s.writePlain r idx sub v).tap = s.tap ∧ (s.writePlain r idx sub v).fuses = s.fuses ∧ (s.writePlain r idx sub v).mem = s.mem := by
  unfold State.writePlain; simp

theorem writeHost_pending {s t : State} {r i k v} (h : s.writeHost r i k v = some t) : t.pending = s.pending := by
  simp only [State.writeHost] at h
  split at h <;> (first | (cases h; done) | (simp only [Option.some.injEq] at h; subst h; simp))
theorem writeModule_pending {s t : State} {r i k v} (h : s.writeModule r i k v = some t) : t.pending = s.pending := by
  simp only [State.writeModule] at h
  split at h <;> (first | (cases h; done) | (simp only [Option.some.injEq] at h; subst h; simp))

theorem writeHost_tap {s t : State} {r i k v} (h : s.writeHost r i k v = some t) : t.tap = s.tap := by
  simp only [State.writeHost] at h
  split at h <;> (first | (cases h; done) | (simp only [Option.some.injEq] at h; subst h; simp))
theorem writeModule_tap {s t : State} {r i k v} (h : s.writeModule r i k v = some t) : t.tap = s.tap := by
  simp only [State.writeModule] at h
  split at h <;> (first | (cases h; done) | (simp only [Option.some.injEq] at h; subst h; simp))

theorem writeHost_fuses {s t : State} {r i k v} (h : s.writeHost r i k v = some t) : t.fuses = s.fuses := by
  simp only [State.writeHost] at h
  split at h <;> (first | (cases h; done) | (simp only [Option.some.injEq] at h; subst h; simp))

@[simp] theorem State.writeObject_pending (s : State) (r : Requester) (i k ty : Nat) (v : Bytes) : (s.writeObject r i k ty v).pending = s.pending := by
  simp only [State.writeObject]; repeat' split
  all_goals first
    | (simp; done)
    | (rename_i h; cases ha : s.writeHost r i k v with
        | none => rw [ha] at h; exact writeModule_pending h
        | some u => rw [ha] at h; cases h; exact writeHost_pending ha)

@[simp] theorem State.writeObject_tap (s : State) (r : Requester) (i k ty : Nat) (v : Bytes) : (s.writeObject r i k ty v).tap = s.tap := by
  simp only [State.writeObject]; repeat' split
  all_goals first
    | (simp; done)
    | (rename_i h; cases ha : s.writeHost r i k v with
        | none => rw [ha] at h; exact writeModule_tap h
        | some u => rw [ha] at h; cases h; exact writeHost_tap ha)

@[simp] theorem State.sessionMsg_pending (s : State) (m : KMsg) (type : Byte) (sn : Session) (act : State → Session → State)
    (h : ∀ s sn, (act s sn).pending = s.pending) : (s.sessionMsg m type sn act).pending = s.pending := by unfold State.sessionMsg; (repeat' split) <;> simp [h] <;> (repeat' split) <;> simp [h]

@[simp] theorem State.sessionMsg_tap (s : State) (m : KMsg) (type : Byte) (sn : Session) (act : State → Session → State)
    (h : ∀ s sn, (act s sn).tap = s.tap) : (s.sessionMsg m type sn act).tap = s.tap := by unfold State.sessionMsg; (repeat' split) <;> simp [h] <;> (repeat' split) <;> simp [h]

@[simp] theorem State.sessionMsg_fuses (s : State) (m : KMsg) (type : Byte) (sn : Session) (act : State → Session → State)
    (h : ∀ s sn, (act s sn).fuses = s.fuses) : (s.sessionMsg m type sn act).fuses = s.fuses := by unfold State.sessionMsg; (repeat' split) <;> simp [h] <;> (repeat' split) <;> simp [h]

@[simp] theorem State.sessionMsg_mem (s : State) (m : KMsg) (type : Byte) (sn : Session) (act : State → Session → State)
    (h : ∀ s sn, (act s sn).mem = s.mem) : (s.sessionMsg m type sn act).mem = s.mem := by unfold State.sessionMsg; (repeat' split) <;> simp [h] <;> (repeat' split) <;> simp [h]

theorem intake_pending {s t : State} {m} (h : s.intake m = .dropped t ∨ s.intake m = .taken t) : t.pending = s.pending := by
  rcases h with h | h <;> simp only [State.intake] at h <;> (repeat' split at h) <;> (first | (cases h; done) | (cases h; simp; done) | (simp at h; subst h; simp; done))
@[simp] theorem State.kopMsg_pending (s : State) (m : KMsg) (type : Byte) (act : State → Session → State)
    (h : ∀ s sn, (act s sn).pending = s.pending) : (s.kopMsg m type act).pending = s.pending := by
  unfold State.kopMsg; split
  · rfl
  · rename_i t ht; exact intake_pending (.inl ht)
  · rename_i t ht; have := intake_pending (.inr ht); (repeat' split) <;> simp [h, this]

theorem intake_tap {s t : State} {m} (h : s.intake m = .dropped t ∨ s.intake m = .taken t) : t.tap = s.tap := by
  rcases h with h | h <;> simp only [State.intake] at h <;> (repeat' split at h) <;> (first | (cases h; done) | (cases h; simp; done) | (simp at h; subst h; simp; done))
@[simp] theorem State.kopMsg_tap (s : State) (m : KMsg) (type : Byte) (act : State → Session → State)
    (h : ∀ s sn, (act s sn).tap = s.tap) : (s.kopMsg m type act).tap = s.tap := by
  unfold State.kopMsg; split
  · rfl
  · rename_i t ht; exact intake_tap (.inl ht)
  · rename_i t ht; have := intake_tap (.inr ht); (repeat' split) <;> simp [h, this]

theorem intake_fuses {s t : State} {m} (h : s.intake m = .dropped t ∨ s.intake m = .taken t) : t.fuses = s.fuses := by
  rcases h with h | h <;> simp only [State.intake] at h <;> (repeat' split at h) <;> (first | (cases h; done) | (cases h; simp; done) | (simp at h; subst h; simp; done))
@[simp] theorem State.kopMsg_fuses (s : State) (m : KMsg) (type : Byte) (act : State → Session → State)
    (h : ∀ s sn, (act s sn).fuses = s.fuses) : (s.kopMsg m type act).fuses = s.fuses := by
  unfold State.kopMsg; split
  · rfl
  · rename_i t ht; exact intake_fuses (.inl ht)
  · rename_i t ht; have := intake_fuses (.inr ht); (repeat' split) <;> simp [h, this]

theorem intake_mem {s t : State} {m} (h : s.intake m = .dropped t ∨ s.intake m = .taken t) : t.mem = s.mem := by
  rcases h with h | h <;> simp only [State.intake] at h <;> (repeat' split at h) <;> (first | (cases h; done) | (cases h; simp; done) | (simp at h; subst h; simp; done))
@[simp] theorem State.kopMsg_mem (s : State) (m : KMsg) (type : Byte) (act : State → Session → State)
    (h : ∀ s sn, (act s sn).mem = s.mem) : (s.kopMsg m type act).mem = s.mem := by
  unfold State.kopMsg; split
  · rfl
  · rename_i t ht; exact intake_mem (.inl ht)
  · rename_i t ht; have := intake_mem (.inr ht); (repeat' split) <;> simp [h, this]

@[simp] theorem State.plainReply_keeps (s : State) (m : KMsg) (type : Byte) (st : Status) :
    (s.plainReply m type st).pending = s.pending ∧ (s.plainReply m type st).tap = s.tap ∧ (s.plainReply m type st).fuses = s.fuses ∧ (s.plainReply m type st).mem = s.mem := by
  unfold State.plainReply; simp

@[simp] theorem State.openSession_keeps (s : State) (m : KMsg) (role : Nat) (key nonce : Bytes) :
    (s.openSession m role key nonce).pending = s.pending ∧ (s.openSession m role key nonce).tap = s.tap ∧ (s.openSession m role key nonce).fuses = s.fuses ∧ (s.openSession m role key nonce).mem = s.mem := by
  unfold State.openSession; simp

@[simp] theorem State.openMsg_keeps (s : State) (m : KMsg) (role : Nat) (key nonce : Bytes) :
    (s.openMsg m role key nonce).pending = s.pending ∧ (s.openMsg m role key nonce).tap = s.tap ∧ (s.openMsg m role key nonce).fuses = s.fuses ∧ (s.openMsg m role key nonce).mem = s.mem := by
  unfold State.openMsg; (repeat' split) <;> simp

@[simp] theorem State.waits_keeps (s : State) (r : Requester) (key : Nat) (msg : Byte) (v : Bytes) :
    (s.waits r key msg v).pending = s.pending ∧ (s.waits r key msg v).tap = s.tap ∧ (s.waits r key msg v).fuses = s.fuses ∧ (s.waits r key msg v).mem = s.mem := by
  unfold State.waits; simp

@[simp] theorem popEvents_pending (s : State) (sn) : (s.popEvents sn).2.pending = s.pending := by
  simp only [State.popEvents]; (repeat' split) <;> simp
@[simp] theorem readValue_pending (s : State) (sn i k) : (s.readValue sn i k).2.pending = s.pending := by
  simp only [State.readValue]; (repeat' split) <;> simp

@[simp] theorem popEvents_tap (s : State) (sn) : (s.popEvents sn).2.tap = s.tap := by
  simp only [State.popEvents]; (repeat' split) <;> simp
@[simp] theorem readValue_tap (s : State) (sn i k) : (s.readValue sn i k).2.tap = s.tap := by
  simp only [State.readValue]; (repeat' split) <;> simp

@[simp] theorem popEvents_fuses (s : State) (sn) : (s.popEvents sn).2.fuses = s.fuses := by
  simp only [State.popEvents]; (repeat' split) <;> simp
@[simp] theorem readValue_fuses (s : State) (sn i k) : (s.readValue sn i k).2.fuses = s.fuses := by
  simp only [State.readValue]; (repeat' split) <;> simp

@[simp] theorem popEvents_mem (s : State) (sn) : (s.popEvents sn).2.mem = s.mem := by
  simp only [State.popEvents]; (repeat' split) <;> simp
@[simp] theorem readValue_mem (s : State) (sn i k) : (s.readValue sn i k).2.mem = s.mem := by
  simp only [State.readValue]; (repeat' split) <;> simp

@[simp] theorem State.readMsg_pending (s : State) (r : Requester) (i k : Nat) : (s.readMsg r i k).pending = s.pending := by
  simp only [State.readMsg]; (repeat' split) <;> first
    | (simp; done)
    | (rename_i h; have := readValue_pending s ‹Session› i k; rw [h] at this; simp_all)

@[simp] theorem State.readMsg_tap (s : State) (r : Requester) (i k : Nat) : (s.readMsg r i k).tap = s.tap := by
  simp only [State.readMsg]; (repeat' split) <;> first
    | (simp; done)
    | (rename_i h; have := readValue_tap s ‹Session› i k; rw [h] at this; simp_all)

@[simp] theorem State.readMsg_fuses (s : State) (r : Requester) (i k : Nat) : (s.readMsg r i k).fuses = s.fuses := by
  simp only [State.readMsg]; (repeat' split) <;> first
    | (simp; done)
    | (rename_i h; have := readValue_fuses s ‹Session› i k; rw [h] at this; simp_all)

@[simp] theorem State.readMsg_mem (s : State) (r : Requester) (i k : Nat) : (s.readMsg r i k).mem = s.mem := by
  simp only [State.readMsg]; (repeat' split) <;> first
    | (simp; done)
    | (rename_i h; have := readValue_mem s ‹Session› i k; rw [h] at this; simp_all)

@[simp] theorem State.claimMsg_keeps (s : State) (r : Requester) (rec : Bytes) :
    (s.claimMsg r rec).pending = s.pending ∧ (s.claimMsg r rec).tap = s.tap ∧ (s.claimMsg r rec).fuses = s.fuses ∧ (s.claimMsg r rec).mem = s.mem := by
  unfold State.claimMsg; (repeat' split) <;> simp

@[simp] theorem State.answerClaim_keeps (s : State) (p : Probe) (st : Status) :
    (s.answerClaim p st).pending = s.pending ∧ (s.answerClaim p st).tap = s.tap ∧ (s.answerClaim p st).fuses = s.fuses ∧ (s.answerClaim p st).mem = s.mem := by
  unfold State.answerClaim; simp

@[simp] theorem State.installClaim_keeps (s : State) (p : Probe) :
    (s.installClaim p).pending = s.pending ∧ (s.installClaim p).tap = s.tap ∧ (s.installClaim p).fuses = s.fuses ∧ (s.installClaim p).mem = s.mem := by
  unfold State.installClaim; simp

@[simp] theorem State.probeDone_keeps (s : State) (conflict : Bool) :
    (s.probeDone conflict).pending = s.pending ∧ (s.probeDone conflict).tap = s.tap ∧ (s.probeDone conflict).fuses = s.fuses ∧ (s.probeDone conflict).mem = s.mem := by
  unfold State.probeDone; (repeat' split) <;> simp

@[simp] theorem State.strayMsg_keeps (s : State) (m : KMsg) (type : Byte) (sn : Session) :
    (s.strayMsg m type sn).pending = s.pending ∧ (s.strayMsg m type sn).tap = s.tap ∧ (s.strayMsg m type sn).fuses = s.fuses ∧ (s.strayMsg m type sn).mem = s.mem := by
  unfold State.strayMsg; simp

@[simp] theorem State.initRead_pending (s : State) (r : Requester) (i k : Nat) : (s.initRead r i k).pending = s.pending := by
  simp only [State.initRead]; (repeat' split) <;> first
    | (simp; done)
    | (rename_i h; have := readValue_pending s ‹Session› i k; rw [h] at this; simp_all)

@[simp] theorem State.initRead_tap (s : State) (r : Requester) (i k : Nat) : (s.initRead r i k).tap = s.tap := by
  simp only [State.initRead]; (repeat' split) <;> first
    | (simp; done)
    | (rename_i h; have := readValue_tap s ‹Session› i k; rw [h] at this; simp_all)

@[simp] theorem State.initRead_fuses (s : State) (r : Requester) (i k : Nat) : (s.initRead r i k).fuses = s.fuses := by
  simp only [State.initRead]; (repeat' split) <;> first
    | (simp; done)
    | (rename_i h; have := readValue_fuses s ‹Session› i k; rw [h] at this; simp_all)

@[simp] theorem State.initRead_mem (s : State) (r : Requester) (i k : Nat) : (s.initRead r i k).mem = s.mem := by
  simp only [State.initRead]; (repeat' split) <;> first
    | (simp; done)
    | (rename_i h; have := readValue_mem s ‹Session› i k; rw [h] at this; simp_all)

@[simp] theorem State.runWaiter_keeps (s : State) (w : Waiter) :
    (s.runWaiter w).pending = s.pending ∧ (s.runWaiter w).tap = s.tap := by
  unfold State.runWaiter; simp

@[simp] theorem State.wake_keeps (s : State) : s.wake.pending = s.pending ∧ s.wake.tap = s.tap := by unfold State.wake; simp

@[simp] theorem State.answerBlock_keeps (s : State) (r : Requester) (type : Byte) (p : Bytes) (size : Nat) (st : Status) :
    (s.answerBlock r type p size st).pending = s.pending ∧ (s.answerBlock r type p size st).tap = s.tap ∧ (s.answerBlock r type p size st).fuses = s.fuses ∧ (s.answerBlock r type p size st).mem = s.mem := by
  unfold State.answerBlock; simp

@[simp] theorem State.badBlockMsg_keeps (s : State) (r : Requester) (type : Byte) (p : Bytes) :
    (s.badBlockMsg r type p).pending = s.pending ∧ (s.badBlockMsg r type p).tap = s.tap ∧ (s.badBlockMsg r type p).fuses = s.fuses ∧ (s.badBlockMsg r type p).mem = s.mem := by
  unfold State.badBlockMsg; simp

@[simp] theorem State.setTransfer_keeps (s : State) (x : BlockTransfer) :
    (s.setTransfer x).pending = s.pending ∧ (s.setTransfer x).tap = s.tap ∧ (s.setTransfer x).fuses = s.fuses ∧ (s.setTransfer x).mem = s.mem := by
  unfold State.setTransfer; simp

@[simp] theorem State.dropTransfer_keeps (s : State) (sid : W32) :
    (s.dropTransfer sid).pending = s.pending ∧ (s.dropTransfer sid).tap = s.tap ∧ (s.dropTransfer sid).fuses = s.fuses ∧ (s.dropTransfer sid).mem = s.mem := by
  unfold State.dropTransfer; simp

@[simp] theorem State.onTransfer_pending (s : State) (r : Requester) (type : Byte) (write : Bool) (op : Nat) (p : Bytes)
    (act : State → BlockTransfer → State) (h : ∀ s x, (act s x).pending = s.pending) : (s.onTransfer r type write op p act).pending = s.pending := by
  simp only [State.onTransfer]; (repeat' split) <;> simp [h]

@[simp] theorem State.onTransfer_tap (s : State) (r : Requester) (type : Byte) (write : Bool) (op : Nat) (p : Bytes)
    (act : State → BlockTransfer → State) (h : ∀ s x, (act s x).tap = s.tap) : (s.onTransfer r type write op p act).tap = s.tap := by
  simp only [State.onTransfer]; (repeat' split) <;> simp [h]

@[simp] theorem State.onTransfer_fuses (s : State) (r : Requester) (type : Byte) (write : Bool) (op : Nat) (p : Bytes)
    (act : State → BlockTransfer → State) (h : ∀ s x, (act s x).fuses = s.fuses) : (s.onTransfer r type write op p act).fuses = s.fuses := by
  simp only [State.onTransfer]; (repeat' split) <;> simp [h]

@[simp] theorem State.onTransfer_mem (s : State) (r : Requester) (type : Byte) (write : Bool) (op : Nat) (p : Bytes)
    (act : State → BlockTransfer → State) (h : ∀ s x, (act s x).mem = s.mem) : (s.onTransfer r type write op p act).mem = s.mem := by
  simp only [State.onTransfer]; (repeat' split) <;> simp [h]

@[simp] theorem State.abortMsg_keeps (s : State) (m : KMsg) (type : Byte) (write : Bool) :
    (s.abortMsg m type write).pending = s.pending ∧ (s.abortMsg m type write).tap = s.tap ∧ (s.abortMsg m type write).fuses = s.fuses ∧ (s.abortMsg m type write).mem = s.mem := by
  unfold State.abortMsg; simp

@[simp] theorem State.openWrite_keeps (s : State) (sid : W32) (key total : Nat) :
    (s.openWrite sid key total).pending = s.pending ∧ (s.openWrite sid key total).tap = s.tap ∧ (s.openWrite sid key total).fuses = s.fuses ∧ (s.openWrite sid key total).mem = s.mem := by
  unfold State.openWrite; simp

@[simp] theorem State.program_keeps (s : State) (off : Nat) (bs : Bytes) :
    (s.program off bs).pending = s.pending ∧ (s.program off bs).tap = s.tap ∧ (s.program off bs).fuses = s.fuses ∧ (s.program off bs).mem = s.mem := by
  unfold State.program; simp

@[simp] theorem State.stageSegment_keeps (s : State) (r : Requester) (x : BlockTransfer) (p : Bytes) (ok : Bool) :
    (s.stageSegment r x p ok).pending = s.pending ∧ (s.stageSegment r x p ok).tap = s.tap ∧ (s.stageSegment r x p ok).fuses = s.fuses ∧ (s.stageSegment r x p ok).mem = s.mem := by
  unfold State.stageSegment; simp

@[simp] theorem State.verifyStage_keeps (s : State) (r : Requester) (p : Bytes) :
    (s.verifyStage r p).pending = s.pending ∧ (s.verifyStage r p).tap = s.tap := by
  unfold State.verifyStage; (repeat' split) <;> simp

@[simp] theorem State.applyBlock_keeps (s : State) (r : Requester) (x : BlockTransfer) (p : Bytes) :
    (s.applyBlock r x p).pending = s.pending ∧ (s.applyBlock r x p).tap = s.tap := by
  unfold State.applyBlock; simp

@[simp] theorem State.pushMove_keeps (s : State) (t j : Nat) (d : Bytes) :
    (s.pushMove t j d).pending = s.pending ∧ (s.pushMove t j d).tap = s.tap ∧ (s.pushMove t j d).fuses = s.fuses ∧ (s.pushMove t j d).mem = s.mem := by
  unfold State.pushMove; simp

@[simp] theorem State.retryMove_keeps (s : State) (t : Nat) :
    (s.retryMove t).pending = s.pending ∧ (s.retryMove t).tap = s.tap ∧ (s.retryMove t).fuses = s.fuses ∧ (s.retryMove t).mem = s.mem := by
  unfold State.retryMove; (repeat' split) <;> simp

@[simp] theorem State.moveRow_keeps (s : State) (j n : Nat) (row : Nat × Nat) :
    (s.moveRow j n row).pending = s.pending ∧ (s.moveRow j n row).tap = s.tap ∧ (s.moveRow j n row).fuses = s.fuses := by
  unfold State.moveRow; simp

end Sys2Proof.Machine
end

