-- ==== Sys2Proof/Laws/KeepsMemory.lean ====
section
/-! SUPPORT. The operations that change memory keep its canonical form (Memory.wf). -/

open Sys2Proof Sys2Proof.Machine

set_option maxRecDepth 4000

namespace Sys2Proof.Machine

@[simp] theorem foldl_wf {α : Type} (f : State → α → State) (l : List α) (s : State) (h0 : Memory.wf s.mem = true)
    (h : ∀ s a, Memory.wf s.mem = true → Memory.wf (f s a).mem = true) : Memory.wf (l.foldl f s).mem = true := by
  induction l generalizing s with
  | nil => exact h0
  | cons a l ih => exact ih _ (h _ _ h0)

@[simp] theorem ite_wf (c : Prop) [Decidable c] (a b : List Host.Cell) (ha : c → Memory.wf a = true) (hb : ¬ c → Memory.wf b = true) :
    Memory.wf (if c then a else b) = true := by by_cases h : c <;> simp [h, ha, hb]

@[simp] theorem State.store_wf (s : State) (a : Nat) (bs : Bytes) (marks : List Bool) (h : Memory.wf s.mem = true) :
    Memory.wf (s.store a bs marks).mem = true := by
  unfold State.store; simp (maxDischargeDepth := 60) [h]

@[simp] theorem State.storeClean_wf (s : State) (a : Nat) (bs : Bytes) (h : Memory.wf s.mem = true) :
    Memory.wf (s.storeClean a bs).mem = true := by
  unfold State.storeClean; simp (maxDischargeDepth := 60) [h]

@[simp] theorem State.enterBatch_wf (s : State) (k : Nat) (m : Model) (r : W32) (x : Request) (h : Memory.wf s.mem = true) :
    Memory.wf (s.enterBatch k m r x).mem = true := by
  unfold State.enterBatch; simp; (repeat' split) <;> simp [h]

@[simp] theorem State.copy_wf (s : State) (src dst n : Nat) (h : Memory.wf s.mem = true) :
    Memory.wf (s.copy src dst n).mem = true := by
  unfold State.copy; simp (maxDischargeDepth := 60) [h]

@[simp] theorem State.zeroRange_wf (s : State) (a n : Nat) (h : Memory.wf s.mem = true) :
    Memory.wf (s.zeroRange a n).mem = true := by
  unfold State.zeroRange; simp (maxDischargeDepth := 60) [h]

@[simp] theorem State.blankTile_wf (s : State) (t : Nat) (h : Memory.wf s.mem = true) :
    Memory.wf (s.blankTile t).mem = true := by
  unfold State.blankTile; simp (maxDischargeDepth := 60) [h]

@[simp] theorem State.zeroTile_wf (s : State) (t : Nat) (h : Memory.wf s.mem = true) :
    Memory.wf (s.zeroTile t).mem = true := by
  unfold State.zeroTile; simp (maxDischargeDepth := 60) [h]

@[simp] theorem State.powerOffIdle_wf (s : State) (t : Nat) (h : Memory.wf s.mem = true) :
    Memory.wf (s.powerOffIdle t).mem = true := by
  unfold State.powerOffIdle; simp (maxDischargeDepth := 60) [h]

@[simp] theorem State.endJob_wf (s : State) (j : Nat) (st : Status) (h : Memory.wf s.mem = true) :
    Memory.wf (s.endJob j st).mem = true := by
  unfold State.endJob
  split
  · exact h
  · split
    · exact h
    · rename_i jb _ _
      have h1 : ∀ (l : List Nat) (s : State), Memory.wf s.mem = true → Memory.wf (l.foldl State.powerOffIdle s).mem = true :=
        fun l s hs => foldl_wf _ _ _ hs (fun s t hs => State.powerOffIdle_wf _ _ hs)
      have h2 : ∀ (l : List Nat) (s : State), Memory.wf s.mem = true → Memory.wf (l.foldl State.zeroTile s).mem = true :=
        fun l s hs => foldl_wf _ _ _ hs (fun s t hs => State.zeroTile_wf _ _ hs)
      split <;> split <;>
        simp only [State.notifyJob_keeps, State.log_keeps, State.dropHeld_keeps] <;>
        (refine h1 _ _ ?_
         simp only [State.setJob_keeps, State.dropServices_keeps, foldl_mem, State.modTile_keeps, implies_true]
         refine h2 _ _ ?_
         simp [h])

@[simp] theorem State.refuseJob_wf (s : State) (j : Nat) (st : Status) (rec : LogRec) (h : Memory.wf s.mem = true) :
    Memory.wf (s.refuseJob j st rec).mem = true := by
  unfold State.refuseJob; simp (maxDischargeDepth := 60) [h]

@[simp] theorem State.refuseItem_wf (s : State) (t j : Nat) (st : Status) (reason entry : Nat) (item : Bytes) (h : Memory.wf s.mem = true) :
    Memory.wf (s.refuseItem t j st reason entry item).mem = true := by
  unfold State.refuseItem; simp (maxDischargeDepth := 60) [h]

@[simp] theorem State.poisonJob_wf (s : State) (t j : Nat) (item : Bytes) (h : Memory.wf s.mem = true) :
    Memory.wf (s.poisonJob t j item).mem = true := by
  unfold State.poisonJob; simp (maxDischargeDepth := 60) [h]

@[simp] theorem State.sealViolation_wf (s : State) (j t a : Nat) (h : Memory.wf s.mem = true) :
    Memory.wf (s.sealViolation j t a).mem = true := by
  unfold State.sealViolation; simp (maxDischargeDepth := 60) [h]

@[simp] theorem State.accUpdate_wf (s : State) (t : Nat) (d : Bytes) (idx : Nat) (faulty : Bool) (c : Contrib) (h : Memory.wf s.mem = true) :
    Memory.wf (s.accUpdate t d idx faulty c).mem = true := by
  unfold State.accUpdate; (repeat' split) <;> simp (maxDischargeDepth := 60) [h]

@[simp] theorem State.applyCols_wf (s : State) (t : Nat) (d : Bytes) (stat lo hi : Nat) (faulty : List Nat) (h : Memory.wf s.mem = true) :
    Memory.wf (s.applyCols t d stat lo hi faulty).mem = true := by
  unfold State.applyCols; repeat' first | (simp (maxDischargeDepth := 60) [*]; done) | intro _ | refine foldl_wf _ _ _ ?_ ?_ | split

@[simp] theorem State.headerLost_wf (s : State) (i : QueueId) (h : Memory.wf s.mem = true) :
    Memory.wf (s.headerLost i).mem = true := by
  unfold State.headerLost; (repeat' split) <;> simp (maxDischargeDepth := 60) [h]

@[simp] theorem State.fillRange_wf (s : State) (base n : Nat) (h : Memory.wf s.mem = true) :
    Memory.wf (s.fillRange base n).mem = true := by
  unfold State.fillRange; simp (maxDischargeDepth := 60) [h]

@[simp] theorem State.regionFilled_wf (s : State) (h : Memory.wf s.mem = true) :
    Memory.wf s.regionFilled.mem = true := by
  unfold State.regionFilled; (repeat' split) <;> simp (maxDischargeDepth := 60) [h]

@[simp] theorem State.issueGather_wf (s : State) (t : Nat) (d : Bytes) (poisoned : Bool) (host : Option Transfer) (h : Memory.wf s.mem = true) :
    Memory.wf (s.issueGather t d poisoned host).mem = true := by
  unfold State.issueGather; (repeat' split) <;> simp (maxDischargeDepth := 60) [h]

theorem landStep_wf (g : Gather) (s : State) (k : Nat) (h : Memory.wf s.mem = true) :
    Memory.wf (match s.elemAddr g.tile g.desc (g.landed + k) with
      | some a => s.copy a (sramFa g.tile (gdDst g.desc + gdElem g.desc * (g.landed + k))) (gdElem g.desc)
      | none => s).mem = true := by split <;> simp [h]

@[simp] theorem State.landElements_wf (s : State) (g : Gather) (h : Memory.wf s.mem = true) :
    Memory.wf (s.landElements g).mem = true := by
  have := foldl_wf _ (List.range (g.pos - g.landed)) s h (fun s k hs => landStep_wf g s k hs)
  unfold State.landElements
  dsimp only
  rw [(State.tbump_keeps _ _ _ _ _).2.2.2]
  exact this

@[simp] theorem State.landHost_wf (s : State) (d : Nat) (g : Gather) (w : Window) (bs : Bytes) (p : Bool) (h : Memory.wf s.mem = true) :
    Memory.wf (s.landHost d g w bs p).mem = true := by
  unfold State.landHost; simp (maxDischargeDepth := 60) [h]

@[simp] theorem State.accept_wf (s : State) (d ch : Nat) (r : StackReq) (h : Memory.wf s.mem = true) :
    Memory.wf (s.accept d ch r).mem = true := by
  unfold State.accept; (repeat' split) <;> simp (maxDischargeDepth := 60) [h]

@[simp] theorem State.grantLoop_wf (s : State) (d ch : Nat) (l : List Nat) (h : Memory.wf s.mem = true) :
    Memory.wf (s.grantLoop d ch l).mem = true := by
  induction l generalizing s with
  | nil => exact h
  | cons a l ih =>
    refine ih _ ?_
    dsimp only
    (repeat' split) <;> simp [h]

@[simp] theorem State.buildRow_wf (s : State) (t : ETable) (sub oldBase newBase r : Nat) (h : Memory.wf s.mem = true) :
    Memory.wf (s.buildRow t sub oldBase newBase r).mem = true := by
  unfold State.buildRow
  dsimp only
  split <;> (split <;> simp [h])

@[simp] theorem State.fillHot_wf (s : State) (t : ETable) (v : TabVersion) (h : Memory.wf s.mem = true) :
    Memory.wf (s.fillHot t v).mem = true := by
  unfold State.fillHot; repeat' first | (simp (maxDischargeDepth := 60) [*]; done) | intro _ | refine foldl_wf _ _ _ ?_ ?_ | split

@[simp] theorem State.storeWords_wf (s : State) (t : Nat) (c : VCode) (o : VOp) (h : Memory.wf s.mem = true) :
    Memory.wf (s.storeWords t c o).mem = true := by
  unfold State.storeWords; repeat' first | (simp (maxDischargeDepth := 60) [*]; done) | intro _ | refine foldl_wf _ _ _ ?_ ?_ | split

@[simp] theorem State.storePacked_wf (s : State) (t : Nat) (o : VOp) (h : Memory.wf s.mem = true) :
    Memory.wf (s.storePacked t o).mem = true := by
  unfold State.storePacked; simp (maxDischargeDepth := 60) [h]

@[simp] theorem State.siteEffect_wf (s : State) (t : Nat) (c : VCode) (o : VOp) (r : Bytes) (h : Memory.wf s.mem = true) :
    Memory.wf (s.siteEffect t c o r).mem = true := by
  unfold State.siteEffect
  dsimp only
  split <;> simp [h]

@[simp] theorem State.vectorEffect_wf (s : State) (t : Nat) (c : VCode) (o : VOp) (h : Memory.wf s.mem = true) :
    Memory.wf (s.vectorEffect t c o).mem = true := by
  unfold State.vectorEffect; repeat' first | (simp (maxDischargeDepth := 60) [*]; done) | intro _ | refine foldl_wf _ _ _ ?_ ?_ | split

@[simp] theorem State.execVector_wf (s : State) (t : Nat) (c : VCode) (o : VOp) (h : Memory.wf s.mem = true) :
    Memory.wf (s.execVector t c o).mem = true := by
  unfold State.execVector; (repeat' split) <;> simp (maxDischargeDepth := 60) [h]

@[simp] theorem State.runQueue_wf (s : State) (t n : Nat) (h : Memory.wf s.mem = true) :
    Memory.wf (s.runQueue t n).mem = true := by
  induction n generalizing s with
  | zero => exact h
  | succ n ih =>
    simp only [State.runQueue]
    split
    · exact ih _ (State.execVector_wf _ _ _ _ (by simp [h]))
    · exact h

@[simp] theorem State.retryVector_wf (s : State) (t : Nat) (h : Memory.wf s.mem = true) :
    Memory.wf (s.retryVector t).mem = true := by
  unfold State.retryVector; (repeat' split) <;> simp (maxDischargeDepth := 60) [h]

@[simp] theorem State.wakeVector_wf (s : State) (t : Nat) (h : Memory.wf s.mem = true) :
    Memory.wf (s.wakeVector t).mem = true := by
  unfold State.wakeVector; (repeat' split) <;> simp (maxDischargeDepth := 60) [h]

@[simp] theorem State.issueVector_wf (s : State) (t : Nat) (c : VCode) (o : VOp) (h : Memory.wf s.mem = true) :
    Memory.wf (s.issueVector t c o).mem = true := by
  unfold State.issueVector; (repeat' split) <;> simp (maxDischargeDepth := 60) [h]

@[simp] theorem State.startStream_wf (s : State) (t j hdr : Nat) (h : Memory.wf s.mem = true) :
    Memory.wf (s.startStream t j hdr).mem = true := by
  unfold State.startStream
  dsimp only
  split
  · exact h
  · split
    · simp [h]
    · split <;> simp [h]

@[simp] theorem State.patchTile_wf (s : State) (t off fmt : Nat) (sc : Nat → Nat) (blk : Nat × Nat × Bool) (h : Memory.wf s.mem = true) :
    Memory.wf (s.patchTile t off fmt sc blk).mem = true := by
  unfold State.patchTile; simp (maxDischargeDepth := 60) [h]

@[simp] theorem State.applyPatch_wf (s : State) (t : Nat) (e : Bytes) (h : Memory.wf s.mem = true) :
    Memory.wf (s.applyPatch t e).mem = true := by
  unfold State.applyPatch; repeat' first | (simp (maxDischargeDepth := 60) [*]; done) | intro _ | refine foldl_wf _ _ _ ?_ ?_ | split

@[simp] theorem State.withData_wf (s : State) (jb : Job) (h : Memory.wf s.mem = true) :
    Memory.wf (s.withData jb).mem = true := by
  have key : ∀ (l : List Placed) (m : List Host.Cell), Memory.wf m = true →
      Memory.wf (l.foldl (fun m p => Memory.writes m (sramFa p.tile p.offset) p.bytes) m) = true := by
    intro l
    induction l with
    | nil => exact fun m hm => hm
    | cons a l ih => exact fun m hm => ih _ (Memory.wf_writes _ _ _ hm)
  exact key _ _ (foldl_wf _ _ _ h (fun s d hs => State.zeroRange_wf _ _ _ hs))

@[simp] theorem State.placeCode_wf (s : State) (jb : Job) (h : Memory.wf s.mem = true) :
    Memory.wf (s.placeCode jb).mem = true := by
  unfold State.placeCode; repeat' first | (simp (maxDischargeDepth := 60) [*]; done) | intro _ | refine foldl_wf _ _ _ ?_ ?_ | split

@[simp] theorem State.wakeTile_wf (s : State) (t : Nat) (h : Memory.wf s.mem = true) :
    Memory.wf (s.wakeTile t).mem = true := by
  unfold State.wakeTile; (repeat' split) <;> simp (maxDischargeDepth := 60) [h]

@[simp] theorem State.fillTile_wf (s : State) (t : Nat) (rec : SaveRec) (h : Memory.wf s.mem = true) :
    Memory.wf (s.fillTile t rec).mem = true := by
  have key : ∀ (l : KMap Byte) (m : List Host.Cell), Memory.wf m = true →
      Memory.wf (l.foldl (fun m e => Memory.write m (sramFa t e.1) e.2) m) = true := by
    intro l
    induction l with
    | nil => exact fun m hm => hm
    | cons a l ih => exact fun m hm => ih _ (Memory.wf_write _ _ _ hm)
  exact key _ _ (State.zeroRange_wf _ _ _ h)

@[simp] theorem State.startStreams_wf (s : State) (j : Nat) (jb : Job) (h : Memory.wf s.mem = true) :
    Memory.wf (s.startStreams j jb).mem = true := by
  unfold State.startStreams; repeat' first | (simp (maxDischargeDepth := 60) [*]; done) | intro _ | refine foldl_wf _ _ _ ?_ ?_ | split

@[simp] theorem State.startResident_wf (s : State) (j : Nat) (jb : Job) (h : Memory.wf s.mem = true) :
    Memory.wf (s.startResident j jb).mem = true := by
  unfold State.startResident
  dsimp only
  refine State.startStreams_wf _ _ _ ?_
  simp only [State.notifyJob_keeps, State.setJob_keeps, State.restoreCounters_keeps]
  refine foldl_wf _ _ _ (foldl_wf _ _ _ h (fun s t hs => ?_)) (fun s t hs => by simp [hs])
  exact State.fillTile_wf _ _ _ (State.zeroTile_wf _ _ (State.wakeTile_wf _ _ hs))

@[simp] theorem State.admitJob_wf (s : State) (a : Nat) (img : Bytes) (jb : Job) (h : Memory.wf s.mem = true) :
    Memory.wf (s.admitJob a img jb).mem = true := by
  have key : Memory.wf ((s.loadRecords a jb ((imgRecords img).getD [])).getD s).mem = true := by
    cases hx : s.loadRecords a jb ((imgRecords img).getD []) with
    | none => exact h
    | some t => rw [← loadRecords_mem hx] at h; exact h
  simp only [State.admitJob]
  split
  · exact State.startResident_wf _ _ _ (State.placeCode_wf _ _ key)
  · simp only [State.startIdle_keeps]; exact State.placeCode_wf _ _ key

@[simp] theorem State.admitDone_wf (s : State) (image : Transfer) (h : Memory.wf s.mem = true) :
    Memory.wf (s.admitDone image).mem = true := by
  unfold State.admitDone
  dsimp only
  (repeat' split) <;> simp only [State.endLoad_keeps, h, State.admitJob_wf]

@[simp] theorem State.stopRestore_wf (s : State) (jb : Job) (h : Memory.wf s.mem = true) :
    Memory.wf (s.stopRestore jb).mem = true := by
  unfold State.stopRestore; repeat' first | (simp (maxDischargeDepth := 60) [*]; done) | intro _ | refine foldl_wf _ _ _ ?_ ?_ | split

@[simp] theorem State.unloadNow_wf (s : State) (j : Nat) (h : Memory.wf s.mem = true) :
    Memory.wf (s.unloadNow j).mem = true := by
  unfold State.unloadNow; simp (maxDischargeDepth := 60) [h]

@[simp] theorem State.unload_wf (s : State) (j : Nat) (h : Memory.wf s.mem = true) :
    Memory.wf (s.unload j).mem = true := by
  unfold State.unload; (repeat' split) <;> simp (maxDischargeDepth := 60) [h]

theorem State.objWrite_wf (s : State) (r : Requester) (idx sub : Nat) (v : Bytes) (typ : Nat) (extra : List Status) (act : State → State)
    (h : Memory.wf s.mem = true) (ha : ∀ s, Memory.wf s.mem = true → Memory.wf (act s).mem = true) :
    Memory.wf (s.objWrite r idx sub v typ extra act).mem = true := by
  unfold State.objWrite
  dsimp only
  (repeat' split) <;> first | exact h | exact ha _ h | simp [h]

theorem State.objWriteNow_wf (s : State) (r : Requester) (idx sub : Nat) (v : Bytes) (extra : List Status) (act : State → State)
    (h : Memory.wf s.mem = true) (ha : ∀ s, Memory.wf s.mem = true → Memory.wf (act s).mem = true) :
    Memory.wf (s.objWriteNow r idx sub v extra act).mem = true := by
  unfold State.objWriteNow
  exact State.objWrite_wf _ _ _ _ _ _ _ _ h (fun s hs => by simp [ha s hs])

@[simp] theorem State.writeUnload_wf (s : State) (r : Requester) (v : Bytes) (h : Memory.wf s.mem = true) :
    Memory.wf (s.writeUnload r v).mem = true := by
  exact State.objWriteNow_wf _ _ _ _ _ _ _ h (fun s hs => State.unload_wf _ _ hs)

@[simp] theorem State.fillStack_wf (s : State) (d : Nat) (h : Memory.wf s.mem = true) :
    Memory.wf (s.fillStack d).mem = true := by
  unfold State.fillStack; simp (maxDischargeDepth := 60) [h]

@[simp] theorem State.fillTiles_wf (s : State) (d : Nat) (h : Memory.wf s.mem = true) :
    Memory.wf (s.fillTiles d).mem = true := by
  unfold State.fillTiles; simp (maxDischargeDepth := 60) [h]

@[simp] theorem State.refillOwn_wf (s : State) (d : Nat) (h : Memory.wf s.mem = true) :
    Memory.wf (s.refillOwn d).mem = true := by
  unfold State.refillOwn; repeat' first | (simp (maxDischargeDepth := 60) [*]; done) | intro _ | refine foldl_wf _ _ _ ?_ ?_ | split

@[simp] theorem State.soakDone_wf (s : State) (d ms : Nat) (h : Memory.wf s.mem = true) :
    Memory.wf (s.soakDone d ms).mem = true := by
  unfold State.soakDone; simp (maxDischargeDepth := 60) [h]

@[simp] theorem State.boundaryJob_wf (s : State) (rs : List Nat) (j : Nat) (h : Memory.wf s.mem = true) :
    Memory.wf (s.boundaryJob rs j).mem = true := by
  unfold State.boundaryJob; (repeat' split) <;> simp (maxDischargeDepth := 60) [h]

@[simp] theorem State.boundaryJobs_wf (s : State) (n : Nat) (rs : List Nat) (h : Memory.wf s.mem = true) :
    Memory.wf (s.boundaryJobs n rs).mem = true := by
  unfold State.boundaryJobs; repeat' first | (simp (maxDischargeDepth := 60) [*]; done) | intro _ | refine foldl_wf _ _ _ ?_ ?_ | split

@[simp] theorem State.boundary_wf (s : State) (n i : Nat) (h : Memory.wf s.mem = true) :
    Memory.wf (s.boundary n i).mem = true := by
  unfold State.boundary; (repeat' split) <;> simp (maxDischargeDepth := 60) [h]

@[simp] theorem State.beginCycle_wf (s : State) (n : Nat) (t : CycleTable) (h : Memory.wf s.mem = true) :
    Memory.wf (s.beginCycle n t).mem = true := by
  unfold State.beginCycle; (repeat' split) <;> simp (maxDischargeDepth := 60) [h]

@[simp] theorem State.clearTable_wf (s : State) (n : Nat) (h : Memory.wf s.mem = true) :
    Memory.wf (s.clearTable n).mem = true := by
  unfold State.clearTable; (repeat' split) <;> simp (maxDischargeDepth := 60) [h]

@[simp] theorem State.takeTable_wf (s : State) (n : Nat) (t : CycleTable) (h : Memory.wf s.mem = true) :
    Memory.wf (s.takeTable n t).mem = true := by
  unfold State.takeTable; (repeat' split) <;> simp (maxDischargeDepth := 60) [h]

@[simp] theorem State.writeCycleTable_wf (s : State) (n : Nat) (r : Requester) (v : Bytes) (h : Memory.wf s.mem = true) :
    Memory.wf (s.writeCycleTable n r v).mem = true := by
  exact State.objWriteNow_wf _ _ _ _ _ _ _ h (fun s hs => State.takeTable_wf _ _ _ hs)

@[simp] theorem State.restArray_wf (s : State) (t : Nat) (h : Memory.wf s.mem = true) :
    Memory.wf (s.restArray t).mem = true := by
  unfold State.restArray
  dsimp only
  have h1 : Memory.wf (((s.tile t).passDone.foldl (fun s d => (if passDrains d = true then
      s.modTile t (fun x => { x with
        accSt := (passTiles d).foldl (fun m a => KMap.put m a .draining) x.accSt, drains := x.drains ++ drainsOf d })
      else s).tbump t 5 4 1) s).modTile t (fun x => { x with passDone := [] })).mem = true := by
    rw [(State.modTile_keeps _ _ _).2.2.2]
    exact foldl_wf _ _ _ h (fun s d hs => by split <;> simp [hs])
  generalize (((s.tile t).passDone.foldl (fun s d => (if passDrains d = true then
      s.modTile t (fun x => { x with
        accSt := (passTiles d).foldl (fun m a => KMap.put m a .draining) x.accSt, drains := x.drains ++ drainsOf d })
      else s).tbump t 5 4 1) s).modTile t (fun x => { x with passDone := [] })) = s1 at h1 ⊢
  split
  · exact h1
  · split
    · exact h1
    · simp [h1]

@[simp] theorem State.restGathers_wf (s : State) (t : Nat) (h : Memory.wf s.mem = true) :
    Memory.wf (s.restGathers t).mem = true := by
  unfold State.restGathers; repeat' first | (simp (maxDischargeDepth := 60) [*]; done) | intro _ | refine foldl_wf _ _ _ ?_ ?_ | split

@[simp] theorem State.saveAs_wf (s : State) (t j : Nat) (rec : SaveRec) (h : Memory.wf s.mem = true) :
    Memory.wf (s.saveAs t j rec).mem = true := by
  unfold State.saveAs; simp (maxDischargeDepth := 60) [h]

@[simp] theorem State.saveFull_wf (s : State) (t j : Nat) (h : Memory.wf s.mem = true) :
    Memory.wf (s.saveFull t j).mem = true := by
  unfold State.saveFull; (repeat' split) <;> simp (maxDischargeDepth := 60) [h]

@[simp] theorem State.endSave_wf (s : State) (j : Nat) (h : Memory.wf s.mem = true) :
    Memory.wf (s.endSave j).mem = true := by
  unfold State.endSave; (repeat' split) <;> simp (maxDischargeDepth := 60) [h]

@[simp] theorem State.restoreTile_wf (s : State) (j : Nat) (d : TileDecl) (rec : SaveRec) (h : Memory.wf s.mem = true) :
    Memory.wf (s.restoreTile j d rec).mem = true := by
  unfold State.restoreTile; simp (maxDischargeDepth := 60) [h]

@[simp] theorem State.abortJobs_wf (s : State) (which : Job → Bool) (h : Memory.wf s.mem = true) :
    Memory.wf (s.abortJobs which).mem = true := by
  unfold State.abortJobs; repeat' first | (simp (maxDischargeDepth := 60) [*]; done) | intro _ | refine foldl_wf _ _ _ ?_ ?_ | split

@[simp] theorem State.abortDie_wf (s : State) (d : Nat) (h : Memory.wf s.mem = true) :
    Memory.wf (s.abortDie d).mem = true := by
  unfold State.abortDie; simp (maxDischargeDepth := 60) [h]

@[simp] theorem State.clearDie_wf (s : State) (d : Nat) (h : Memory.wf s.mem = true) :
    Memory.wf (s.clearDie d).mem = true := by
  unfold State.clearDie; simp (maxDischargeDepth := 60) [h]

@[simp] theorem State.abortTile_wf (s : State) (t : Nat) (h : Memory.wf s.mem = true) :
    Memory.wf (s.abortTile t).mem = true := by
  unfold State.abortTile; simp (maxDischargeDepth := 60) [h]

@[simp] theorem State.cold_wf (s : State) (cause : Nat) (hold : List Hold) (_ : Memory.wf s.mem = true) :
    Memory.wf (s.cold cause hold).mem = true := rfl

@[simp] theorem State.warm_wf (s : State) (cause : Nat) (h : Memory.wf s.mem = true) :
    Memory.wf (s.warm cause).mem = true := by
  unfold State.warm; simp (maxDischargeDepth := 60) [h]

@[simp] theorem State.resetDie_wf (s : State) (d : Nat) (h : Memory.wf s.mem = true) :
    Memory.wf (s.resetDie d).mem = true := by
  unfold State.resetDie; simp (maxDischargeDepth := 60) [h]

@[simp] theorem State.startDieReset_wf (s : State) (d : Nat) (r : Requester) (h : Memory.wf s.mem = true) :
    Memory.wf (s.startDieReset d r).mem = true := by
  unfold State.startDieReset; simp (maxDischargeDepth := 60) [h]

@[simp] theorem State.writeDieReset_wf (s : State) (r : Requester) (v : Bytes) (h : Memory.wf s.mem = true) :
    Memory.wf (s.writeDieReset r v).mem = true := by
  exact State.objWrite_wf _ _ _ _ _ _ _ _ h (fun s hs => State.startDieReset_wf _ _ _ hs)

@[simp] theorem State.writeTileReset_wf (s : State) (r : Requester) (v : Bytes) (h : Memory.wf s.mem = true) :
    Memory.wf (s.writeTileReset r v).mem = true := by
  exact State.objWriteNow_wf _ _ _ _ _ _ _ h (fun s hs => State.blankTile_wf _ _ hs)

@[simp] theorem State.powerLoss_wf (s : State) (h : Memory.wf s.mem = true) :
    Memory.wf s.powerLoss.mem = true := by
  unfold State.powerLoss; simp (maxDischargeDepth := 60) [h]

@[simp] theorem State.watchdogReset_wf (s : State) (h : Memory.wf s.mem = true) :
    Memory.wf s.watchdogReset.mem = true := by
  unfold State.watchdogReset; (repeat' split) <;> simp (maxDischargeDepth := 60) [h]

@[simp] theorem State.runDeferred_wf (s : State) (h : Memory.wf s.mem = true) :
    Memory.wf (s.runDeferred).mem = true := by
  unfold State.runDeferred
  dsimp only
  split
  · exact State.cold_wf _ _ _ h
  · split
    · exact State.watchdogReset_wf _ h
    · exact h

@[simp] theorem State.escalateDie_wf (s : State) (d : Nat) (h : Memory.wf s.mem = true) :
    Memory.wf (s.escalateDie d).mem = true := by
  unfold State.escalateDie; simp (maxDischargeDepth := 60) [h]

@[simp] theorem State.partFailed_wf (s : State) (ok : Bool) (h : Memory.wf s.mem = true) :
    Memory.wf (s.partFailed ok).mem = true := by
  unfold State.partFailed; (repeat' split) <;> simp (maxDischargeDepth := 60) [h]

@[simp] theorem State.bootChain_wf (s : State) (record : Bytes) (ok : Bool) (h : Memory.wf s.mem = true) :
    Memory.wf (s.bootChain record ok).mem = true := by
  simp only [State.bootChain]
  split
  · simp [h]
  · split
    · simp [h]
    · rename_i hx; rw [loadOptics_mem hx]; simp [h]

@[simp] theorem State.networkStart_wf (s : State) (h : Memory.wf s.mem = true) :
    Memory.wf s.networkStart.mem = true := by
  unfold State.networkStart; simp (maxDischargeDepth := 60) [h]

@[simp] theorem State.bootFrom_wf (s : State) (b ok : Bool) (h : Memory.wf s.mem = true) :
    Memory.wf (s.bootFrom b ok).mem = true := by
  unfold State.bootFrom; simp (maxDischargeDepth := 60) [h]

@[simp] theorem State.bootSlot_wf (s : State) (ok : Bool) (h : Memory.wf s.mem = true) :
    Memory.wf (s.bootSlot ok).mem = true := by
  have := bootSelect_mem s ok
  simp only [State.bootSlot]
  split <;> rename_i hx <;> rw [hx] at this <;> simp only at this <;> simp [this, h]

@[simp] theorem State.bootBy_wf (s : State) (sel : Nat) (ok : Bool) (h : Memory.wf s.mem = true) :
    Memory.wf (s.bootBy sel ok).mem = true := by
  unfold State.bootBy; (repeat' split) <;> simp (maxDischargeDepth := 60) [h]

@[simp] theorem State.holdDie_wf (s : State) (d : Nat) (h : Memory.wf s.mem = true) :
    Memory.wf (s.holdDie d).mem = true := by
  unfold State.holdDie; simp (maxDischargeDepth := 60) [h]

@[simp] theorem State.coolHold_wf (s : State) (d : Nat) (h : Memory.wf s.mem = true) :
    Memory.wf (s.coolHold d).mem = true := by
  unfold State.coolHold; simp (maxDischargeDepth := 60) [h]

@[simp] theorem State.releaseDie_wf (s : State) (d : Nat) (h : Memory.wf s.mem = true) :
    Memory.wf (s.releaseDie d).mem = true := by
  unfold State.releaseDie; simp (maxDischargeDepth := 60) [h]

@[simp] theorem State.fuseDone_wf (s : State) (ok : Bool) (h : Memory.wf s.mem = true) :
    Memory.wf (s.fuseDone ok).mem = true := by
  unfold State.fuseDone; (repeat' split) <;> simp (maxDischargeDepth := 60) [h]

theorem writeHost_wf {s t : State} {r i k v} (hw : Memory.wf s.mem = true) (h : s.writeHost r i k v = some t) :
    Memory.wf t.mem = true := by
  simp only [State.writeHost] at h
  split at h <;> first | (cases h; done) | (simp only [Option.some.injEq] at h; subst h; simp [hw])

theorem writeModule_wf {s t : State} {r i k v} (hw : Memory.wf s.mem = true) (h : s.writeModule r i k v = some t) :
    Memory.wf t.mem = true := by
  simp only [State.writeModule] at h
  split at h <;> first | (cases h; done) | (simp only [Option.some.injEq] at h; subst h; simp [hw])

@[simp] theorem State.writeObject_wf (s : State) (r : Requester) (i k ty : Nat) (v : Bytes) (h : Memory.wf s.mem = true) :
    Memory.wf (s.writeObject r i k ty v).mem = true := by
  simp only [State.writeObject]; repeat' split
  all_goals first
    | (simp [h]; done)
    | (rename_i hx; cases ha : s.writeHost r i k v with
        | none => rw [ha] at hx; exact writeModule_wf h hx
        | some u => rw [ha] at hx; cases hx; exact writeHost_wf h ha)

@[simp] theorem State.runWaiter_wf (s : State) (w : Waiter) (h : Memory.wf s.mem = true) :
    Memory.wf (s.runWaiter w).mem = true := by
  unfold State.runWaiter; simp (maxDischargeDepth := 60) [h]

@[simp] theorem State.wake_wf (s : State) (h : Memory.wf s.mem = true) :
    Memory.wf s.wake.mem = true := by
  unfold State.wake; repeat' first | (simp (maxDischargeDepth := 60) [*]; done) | intro _ | refine foldl_wf _ _ _ ?_ ?_ | split

@[simp] theorem State.verifyStage_wf (s : State) (r : Requester) (p : Bytes) (h : Memory.wf s.mem = true) :
    Memory.wf (s.verifyStage r p).mem = true := by
  unfold State.verifyStage; (repeat' split) <;> simp (maxDischargeDepth := 60) [h]

@[simp] theorem State.applyBlock_wf (s : State) (r : Requester) (x : BlockTransfer) (p : Bytes) (h : Memory.wf s.mem = true) :
    Memory.wf (s.applyBlock r x p).mem = true := by
  unfold State.applyBlock; simp (maxDischargeDepth := 60) [h]

@[simp] theorem State.moveRow_wf (s : State) (j n : Nat) (row : Nat × Nat) (h : Memory.wf s.mem = true) :
    Memory.wf (s.moveRow j n row).mem = true := by
  unfold State.moveRow; simp (maxDischargeDepth := 60) [h]

end Sys2Proof.Machine
end

