-- ==== Sys2Proof/Tests/Slice0.lean ====
section
/-! SUPPORT. Tests: the well-formedness checks refuse what they should, words of the vector instruction encoding, one-step results
worked from the spec's text, and for each statement with hypotheses a state and operands that meet them (`witness_…`, one theorem for
each clause). -/

set_option Elab.async false

open Sys2Proof Sys2Proof.Machine Sys2Proof.Claims

namespace Sys2Proof.Tests

/-! ### Small states -/

/-- `n` bytes that hold each value at its byte offset, little-endian. -/
def bytesOf (n : Nat) (fs : List (Nat × Nat)) : Bytes := leBytes n ((fs.map (fun f => f.2 * 256 ^ f.1)).sum)

/-- The state a command answers. -/
def after (c : Instr) (s : State) : State :=
  match exec c s with
  | .next u => u
  | _ => s

def jobA : Job :=
  { cls := 0, cheapSave := false, resident := true, part := 0, seed := 0, wcet := 1000000, gap := 0, waitLimit := 100000,
    batchUs := 100, prio := 3, retryEntry := 0, tiles := [⟨0, true, 0, 512⟩, ⟨1, true, 0, 512⟩],
    regions := [⟨0x100000, 1, 12, 16⟩, ⟨0x200000, 2, 12, 16⟩, ⟨0x300000, 3, 12, 16⟩, ⟨0x400000, 4, 12, 16⟩],
    rings := [1], counters := [⟨0, 5, false, 0, 0⟩], windows := [⟨0x1000, 0x10000, 3, true, true, 7, 0⟩], code := [], data := [],
    streams := [], cheap := [], length := 4096, digest := List.replicate 32 0, domain := 0, state := .running, started := true }

def tileA : Tile := { power := .running, job := some 0, gpr := [(1, 0x1000), (2, 4), (5, 0x4000)] }

/-- One die ready with two tiles Running under job 0, its stack memory written under the key in force. -/
def base : State :=
  { now := 1000000, parts := [(0, { row := 0, col := 0, rows := 8, cols := 8 })], jobs := [(0, jobA)],
    dies := [(0, { state := .ready, powered := true, pll := true, phy := true })], tiles := [(0, tileA), (1, { tileA with gpr := [] })],
    keyed := [⟨0, 2 ^ 40, ⟨0, 0, 1⟩⟩], pages := [⟨0x100000, 12, .sealed_, false⟩],
    boot := { mode := .slot, ready := 0xFFFF } }

/-- `base` with another record for tile 0. -/
def baseT (x : Tile) : State := base.setTile 0 x

theorem runs : SeqRuns base 0 0 jobA := ⟨by decide +kernel, by decide +kernel⟩

/-! ### Well-formedness -/

theorem test_wf_short_descriptors :
    [Instr.moveIssue 0 [] false, .passIssue 0 (List.replicate 31 0) false, .selIssue 0 (List.replicate 33 0) false,
     .gatherAddr 0 [] false, .gatherIndex 0 [] false, .gatherHostRead 0 [] false .poisoned, .gatherHostWrite 0 [] false].all
      (fun c => !c.wellFormed) = true := by decide +kernel

theorem test_wf_short_doorbells :
    [Instr.doorbellTail 0 (List.replicate 15 0), .doorbellHead 0 [], .doorbellCancel 0 (List.replicate 17 0)].all
      (fun c => !c.wellFormed) = true := by decide +kernel

theorem test_wf_empty_item : (Instr.queueWrite .events ⟨[], true⟩).wellFormed = false := by decide

theorem test_wf_short_sector_error :
    ((Instr.stackReadReturn 0 0 0 [[⟨0, []⟩]]).wellFormed || (Instr.lintRead 0 [⟨0, List.replicate 32 0⟩] false).wellFormed) = false := by
  decide +kernel

/-- A message of the fixed parts of R356, with no payload. -/
def msgA : KMsg :=
  { port := .a, src := 9, dport := 41870, version := 1, flags := 0, status := 0, sid := 1, seq := 5, length := 0, resv := 0, payload := [],
    tag := List.replicate 32 0 }

def msgFull : KMsg := { msgA with payload := List.replicate 1185 0 }

theorem test_wf_messages :
    [Instr.kopOpen msgA [], .kopOpen { msgA with tag := [] } (List.replicate 16 0), .identify msgFull, .claim msgFull, .kopClose msgFull,
     .kopRead msgFull, .kopWrite msgFull, .kopNotifyIn msgFull, .rbInitiate msgFull, .rbSegment msgFull, .rbEnd msgFull, .rbAbort msgFull,
     .wbInitiate msgFull, .wbSegment msgFull true, .wbEnd msgFull, .wbAbort msgFull].all (fun c => !c.wellFormed) = true := by
  decide +kernel

/-! ### Words of the vector instruction encoding (04 R98, R99) -/

/-- The example of R99: VFMA vreg[5], vreg[1], vreg[2], vreg[3]. -/
theorem test_word_vfma : vectorBytes .vfma { vd := 5, va := 1, vb := 2, vc := 3 } =
    [0, 0, 0, 0, 0, 0, 0, 0, 0x00, 0x00, 0x00, 0x30, 0x44, 0x28, 0x00, 0x43] := by decide +kernel

/-- VADD, opcode 0x60, vd 1 at bit 107, va 2 at 102, BCAST at 74, the immediate in the low half. -/
theorem test_word_vadd : decodeVector (BitVec.ofNat 128 (0x60 * 2 ^ 120 + 2 ^ 107 + 2 * 2 ^ 102 + 2 ^ 74 + 0xFFFFFFFF)) =
    some (.vadd, { vd := 1, va := 2, bcast := true, imm := 0xFFFFFFFF }) := by decide +kernel

/-- VSTP, opcode 0x2B, fmt_d 3 at bit 112, va 31 at 102, sa 4 at 87. -/
theorem test_word_vstp : decodeVector (BitVec.ofNat 128 (0x2B * 2 ^ 120 + 3 * 2 ^ 112 + 31 * 2 ^ 102 + 4 * 2 ^ 87 + 64)) =
    some (.vstp, { fmtD := 3, va := 31, sa := 4, imm := 64 }) := by decide +kernel

/-- VFRMAX of magnitudes, opcode 0xC1, va 7 at bit 102, sd 9 at 77, var 1 at 70. -/
theorem test_word_vfrmax : decodeVector (BitVec.ofNat 128 (0xC1 * 2 ^ 120 + 7 * 2 ^ 102 + 9 * 2 ^ 77 + 2 ^ 70)) =
    some (.vfrmax, { va := 7, sd := 9, var := 1 }) := by decide +kernel

/-- VCVT stochastic and saturating, opcode 0xE0, fmt_a 0 and fmt_d 3, SAT at bit 76, STOCH at 75. -/
theorem test_word_vcvt : decodeVector (BitVec.ofNat 128 (0xE0 * 2 ^ 120 + 3 * 2 ^ 112 + 2 ^ 107 + 2 ^ 102 + 2 ^ 76 + 2 ^ 75)) =
    some (.vcvt, { fmtD := 3, vd := 1, va := 1, sat := true, stoch := true }) := by decide +kernel

/-- Opcode 0x04 is assigned to no instruction. -/
theorem test_word_unassigned : decodeVector (BitVec.ofNat 128 (4 * 2 ^ 120)) = none := by decide +kernel

/-! ### Witnesses: the block, transfers, tiles (01) -/

theorem witness_EmptyQueueIdles : State.reset.pending = [] := by decide

/-- One row of 64 bytes from tile 0's scratchpad to tile 1's, with a signal on counter 5 of the destination's die. -/
def moveD : Bytes := bytesOf 32 [(0, sramFa 0 0x40), (6, 2), (8, sramFa 1 0x80), (14, 5), (16, 64)]

theorem witness_MoveCommands_issue : moveCheck base jobA moveD = none ∧ (base.tile 0).moves.length < 16 := by decide +kernel

def moved : State := after (.moveIssue 0 moveD false) base

theorem witness_MoveCommands_delivered :
    (moved.tile 0).moves.find? (fun e => e.id == 0) = some ⟨0, 0, moveD⟩ ∧
    (∀ x ∈ (moved.tile 0).moves, (0 : Nat) ≤ x.id) ∧
    (∀ r ∈ mvRowList moveD, moved.outstanding false r.1 (mvRow moveD) = false ∧ moved.outstanding true r.2 (mvRow moveD) = false) ∧
    moved.moveAccess moveD = .go ∧ moved.moveSealFault moveD = none ∧
    (faSpace (mvDst moveD) = 1 → (moved.tile (faTile (mvDst moveD))).job = some 0) := by decide +kernel

/-- A count half the range behind its operand has not reached it; one at its operand has. -/
theorem witness_MoveCommands_counters :
    0 ≤ ((base.die (dieOf 0)).signal 5 - 0).toInt ∧ ((base.die (dieOf 0)).signal 5 - 1).toInt < 0 ∧
    ((base.die (dieOf 0)).signal 5 - 0x80000000).toInt < 0 ∧ 0 ≤ ((base.die (dieOf 0)).signal 5 - 0x80000001).toInt := by decide +kernel

theorem witness_MoveCommands_resume :
    (((base.await 0 (.counter 5 0)).tile 0).seqWait = some (.counter 5 0)) ∧
    0 ≤ (((base.await 0 (.counter 5 0)).die (dieOf 0)).signal 5 - 0).toInt := by decide +kernel

/-- The move's signal reaches counter 5, and the byte it moved lies at the destination. -/
theorem test_move_signals : ((after (.moveDelivered 0 0) moved).die 0).signal 5 = 1 := by decide +kernel

def still : State := baseT { power := .running }

theorem witness_TilePowerCommands_gate : (still.tile 0).power = .running ∧ still.idle 0 = true := by decide +kernel

theorem witness_TilePowerCommands_wake : (base.die (dieOf 0)).state = .ready ∧ base.isRetired (.tile 0) = false ∧
    ((baseT { power := .gated }).tile 0).power = .gated ∧ ((baseT { power := .retention }).tile 0).power = .retention ∧
    ((baseT { power := .off }).tile 0).power = .off := by decide +kernel

theorem witness_TilePowerCommands_done : ((baseT { power := .waking .off }).tile 0).power = .waking .off ∧
    ((baseT { power := .waking .gated }).tile 0).power = .waking .gated := by decide +kernel

theorem witness_TilePowerCommands_droop : (base.die 0).powered = true ∧ (base.die 0).stretched = false := by decide +kernel

/-! ### Witnesses: the array (02) -/

/-- An FP8 pass of mode 0: 32 rows of 32, one weight tile, 32 columns, INIT and DRAIN, tag 7. -/
def passD : Bytes :=
  bytesOf 32 [(0, 0x1000), (4, 0x2000), (7, 0x33), (15, 3), (16, 1024), (20, 1024), (24, 32), (26, 32), (28, 7)]

theorem witness_PassCommands_issue : base.arrayLive 0 = true ∧ passCheck base 0 jobA passD = none ∧ (base.tile 0).passLoad < 16 := by
  decide +kernel

def passQd : State := after (.passIssue 0 passD false) base

theorem witness_PassCommands_start : (passQd.tile 0).passQ = [passD] ∧ (passQd.tile 0).passRun = none ∧ passQd.tileWorks 0 = true ∧
    passQd.arrayLive 0 = true ∧ (∀ p ∈ (passQd.tile 0).passDone, psMode p = psMode passD) ∧
    (∀ a ∈ passTiles passD, (passQd.tile 0).accState a ≠ .draining) ∧
    passQd.notArrived 0 (psStat passD) (if psKeep passD then 0 else psStatBytes passD) = false := by decide +kernel

def passOn : State := after (.passStart 0 3 0) passQd

theorem witness_PassCommands_lastColumn : (passOn.tile 0).passRun = some ⟨passD, 0⟩ ∧ passOn.tileWorks 0 = true ∧
    (∀ r ∈ psReads passD (statOf (passOn.tile 0).statAddr passD), passOn.notArrived 0 r.1 r.2 = false) := by decide +kernel

def passIn : State := baseT { tileA with passDone := [passD], accSt := [(0, .active)] }

theorem witness_PassCommands_results : (passIn.tile 0).passDone = passD :: [] := by decide +kernel

theorem witness_PassCommands_drain :
    let s := after (.passResultsDone 0) passIn
    (s.tile 0).drains = [⟨0, 7, 0, true⟩] ∧ (s.tile 0).hamper.overwrite = false ∧ (s.tile 0).hamper.dropping = false ∧
    (s.tile 0).hamper.items.length < (s.tile 0).hamper.depth := by decide +kernel

/-- Unit 31 of the last accumulator tile into the last free place, and into a full hamper. -/
theorem witness_PassCommands_lastUnit :
    let h := fun n => ({ depth := 64, overwrite := false, items := List.replicate n ⟨[], false⟩ } : Queue)
    let s := fun n => baseT { tileA with drains := [⟨63, 7, 31, true⟩], hamper := h n }
    ((s 63).tile 0).hamper.items.length < ((s 63).tile 0).hamper.depth ∧
    ((s 64).tile 0).hamper.depth ≤ ((s 64).tile 0).hamper.items.length := by decide +kernel

/-! ### Witnesses: the vector engine (03, 04) -/

/-- A vector instruction of tile 0 that its checks let go on, under job 0 of a state like `base`. -/
theorem goes {x : Tile} {c : VCode} {o : VOp} (h : (baseT x).seqJob 0 = some 0 ∧ ((baseT x).tile 0).vwait = none ∧
    ((baseT x).tile 0).vq = [] ∧ (baseT x).vectorCheck 0 jobA c o = .go) : VectorGoes (baseT x) 0 c o :=
  ⟨0, jobA, ⟨h.1, by rfl⟩, h.2.1, h.2.2.1, h.2.2.2⟩

/-- Operands from registers, from the immediate, in the highest registers, and with the destination also a source. -/
def binForms : List VOp :=
  [{ vd := 3, va := 1, vb := 2 }, { vd := 3, va := 1, bcast := true, imm := 0xFFFFFFFF }, { vd := 31, va := 31, vb := 31 }]

/-- The lengths VL can have at its ends. -/
def vlA (n : Nat) : Tile := { tileA with vl := n, gpr := [(1, 0x1000), (2, 4), (5, 0x4000)] }

theorem witness_VectorIntegerLanes : ∀ e ∈ intLanes, ∀ o ∈ binForms, ∀ n ∈ [0, 1, 128], VectorGoes (baseT (vlA n)) 0 e.2.1 o := by
  have h : ∀ e ∈ intLanes, ∀ o ∈ binForms, ∀ n ∈ [0, 1, 128], (baseT (vlA n)).seqJob 0 = some 0 ∧
    ((baseT (vlA n)).tile 0).vwait = none ∧ ((baseT (vlA n)).tile 0).vq = [] ∧
    (baseT (vlA n)).vectorCheck 0 jobA e.2.1 o = .go := by decide +kernel
  exact fun e he o ho n hn => goes (h e he o ho n hn)

theorem witness_VectorFloatLanes : ∀ e ∈ fpLanes, ∀ o ∈ binForms, VectorGoes (baseT tileA) 0 e.2.1 o := by
  have h : ∀ e ∈ fpLanes, ∀ o ∈ binForms, (baseT tileA).seqJob 0 = some 0 ∧
    ((baseT tileA).tile 0).vwait = none ∧ ((baseT tileA).tile 0).vq = [] ∧
    (baseT tileA).vectorCheck 0 jobA e.2.1 o = .go := by decide +kernel
  exact fun e he o ho => goes (h e he o ho)

theorem witness_VectorFunctionLanes : ∀ e ∈ unLanes, VectorGoes (baseT tileA) 0 e.2.1 { vd := 3, va := 1 } := by
  have h : ∀ e ∈ unLanes, (baseT tileA).seqJob 0 = some 0 ∧ ((baseT tileA).tile 0).vwait = none ∧
    ((baseT tileA).tile 0).vq = [] ∧ (baseT tileA).vectorCheck 0 jobA e.2.1 { vd := 3, va := 1 } = .go := by decide +kernel
  exact fun e he => goes (h e he)

theorem witness_VectorFunctionLanes_fma : VectorGoes (baseT tileA) 0 .vfma { vd := 3, va := 1, vb := 2, vc := 4 } := goes (by decide +kernel)

/-- e to the power one: a finite operand within the range of the bound. -/
theorem witness_VectorFunctionLanes_bound : fval 0x3F800000 = .fin false ⟨8388608, -23⟩ ∧
    Dy.lt ⟨887228, 0⟩ (Dy.mul ⟨8388608, -23⟩ ⟨10000, 0⟩) = false ∧ (Dy.mul ⟨8388608, -23⟩ ⟨100, 0⟩).lt ⟨-10397, 0⟩ = false := by
  decide +kernel

/-- The operands each lane move uses. -/
def moveForm : VCode → VOp
  | .vsel => { vd := 3, va := 1, vb := 2, vc := 4 }
  | .vidx => { vd := 3 }
  | .vslideup | .vslidedn => { vd := 3, va := 1, sb := 2, imm := 1 }
  | .vbcast => { vd := 3, sa := 1, imm := 9 }
  | _ => { vd := 3, va := 1, vb := 2 }

theorem witness_VectorLaneMoves : ∀ e ∈ moveLanes, VectorGoes (baseT tileA) 0 e.2.1 (moveForm e.2.1) := by
  have h : ∀ e ∈ moveLanes, (baseT tileA).seqJob 0 = some 0 ∧ ((baseT tileA).tile 0).vwait = none ∧
    ((baseT tileA).tile 0).vq = [] ∧ (baseT tileA).vectorCheck 0 jobA e.2.1 (moveForm e.2.1) = .go := by decide +kernel
  exact fun e he => goes (h e he)

theorem witness_VectorLaneMoves_packing :
    VectorGoes (baseT tileA) 0 .vcompress { vd := 3, va := 1, vb := 2, sd := 6 } ∧
    VectorGoes (baseT tileA) 0 .vexpand { vd := 3, va := 1, vb := 2, sd := 0 } ∧
    VectorGoes (baseT tileA) 0 .vunzip { vd := 30, va := 1 } ∧
    VectorGoes (baseT tileA) 0 .vunpack { vd := 3, va := 1, fmtA := 9 } ∧
    VectorGoes (baseT tileA) 0 .vpack { vd := 3, va := 1, fmtD := 3 } :=
  ⟨goes (by decide +kernel), goes (by decide +kernel), goes (by decide +kernel), goes (by decide +kernel), goes (by decide +kernel)⟩

/-- VL 0 and 128, and a result thrown away in gpr[0]. -/
theorem witness_VectorReductions : ∀ e ∈ reductions, ∀ n ∈ [0, 128], ∀ o ∈ [({ va := 1, sd := 6 } : VOp), { va := 31 }],
    VectorGoes (baseT (vlA n)) 0 e.2.1 o := by
  have h : ∀ e ∈ reductions, ∀ n ∈ [0, 128], ∀ o ∈ [({ va := 1, sd := 6 } : VOp), { va := 31 }],
    (baseT (vlA n)).seqJob 0 = some 0 ∧ ((baseT (vlA n)).tile 0).vwait = none ∧ ((baseT (vlA n)).tile 0).vq = [] ∧
    (baseT (vlA n)).vectorCheck 0 jobA e.2.1 o = .go := by decide +kernel
  exact fun e he n hn o ho => goes (h e he n hn o ho)

def memForm : VCode → VOp
  | .vld => { vd := 3, sa := 1, imm := 0x40 }
  | .vlds => { vd := 3, sa := 1, sb := 2 }
  | .vldx => { vd := 3, sa := 1, vb := 2 }
  | .vst => { va := 3, sa := 1, imm := 0x40 }
  | .vsts => { va := 3, sa := 1, sb := 2 }
  | _ => { va := 3, sa := 1, vb := 2 }

theorem witness_VectorMemory_words : ∀ e ∈ wordLoads ++ wordStores, VectorGoes (baseT tileA) 0 e.2.1 (memForm e.2.1) := by
  have h : ∀ e ∈ wordLoads ++ wordStores, (baseT tileA).seqJob 0 = some 0 ∧ ((baseT tileA).tile 0).vwait = none ∧
    ((baseT tileA).tile 0).vq = [] ∧ (baseT tileA).vectorCheck 0 jobA e.2.1 (memForm e.2.1) = .go := by decide +kernel
  exact fun e he => goes (h e he)

/-- The last word of the SRAM's scratchpad part, one lane. -/
theorem witness_VectorMemory_end : VectorGoes (baseT { vlA 1 with gpr := [(1, 0x1FFFFC)] }) 0 .vst { va := 3, sa := 1 } := goes (by decide +kernel)

theorem witness_VectorMemory_packed : VectorGoes (baseT tileA) 0 .vldp { vd := 3, sa := 1, fmtA := 7 } ∧
    VectorGoes (baseT tileA) 0 .vstp { va := 3, sa := 1, fmtD := 3 } := ⟨goes (by decide +kernel), goes (by decide +kernel)⟩

theorem witness_VectorConversion :
    VectorGoes (baseT tileA) 0 .vcvt { vd := 3, va := 1, fmtA := 0, fmtD := 3, sat := true, stoch := true } ∧
    VectorGoes (baseT tileA) 0 .vcvt { vd := 3, va := 1, fmtA := 7, fmtD := 0 } := ⟨goes (by decide +kernel), goes (by decide +kernel)⟩

theorem witness_VectorControl : VectorGoes (baseT tileA) 0 .vnop {} ∧ VectorGoes (baseT tileA) 0 .vfence {} ∧
    VectorGoes (baseT tileA) 0 .setvl { sa := 1, sd := 6, imm := 128 } ∧ VectorGoes (baseT tileA) 0 .setvl {} ∧
    VectorGoes (baseT tileA) 0 .vstat { sd := 6, var := 1 } ∧ VectorGoes (baseT tileA) 0 .hstat { sd := 6 } ∧
    VectorGoes (baseT tileA) 0 .hrinse {} ∧ VectorGoes (baseT tileA) 0 .hpop { vd := 30, sd := 6, var := 1 } :=
  ⟨goes (by decide +kernel), goes (by decide +kernel), goes (by decide +kernel), goes (by decide +kernel), goes (by decide +kernel),
   goes (by decide +kernel), goes (by decide +kernel), goes (by decide +kernel)⟩

/-- Four units of 18 segments, the last of which ends its tile. -/
def unitsA : List QItem := (List.range 4).map (fun i => ⟨(List.range 18).map (fun k => BitVec.ofNat 64 (100 * i + k)), i == 3⟩)

def popping : State :=
  baseT { tileA with hamper := { depth := 64, overwrite := false, items := unitsA }, vwait := some (.hpop, { vd := 30, sd := 6, var := 1 }) }

/-- A double error in the last data segment of a popped unit, and none in its header. -/
theorem witness_VectorControl_pop : (popping.tile 0).vwait = some (.hpop, { vd := 30, sd := 6, var := 1 }) ∧
    (popping.tile 0).job = some 0 ∧ (popping.tile 0).power = .running ∧ (popping.tile 0).vq = [] ∧ (popping.tile 0).seqWait = none ∧
    hpopReady ((popping.tile 0).vl / 32) (popping.tile 0).hamper.items = true ∧
    (∀ e ∈ errsIn (popUnits ((popping.tile 0).vl / 32) (popping.tile 0).hamper.items) [⟨3, 15, true⟩, ⟨0, 17, false⟩],
      e.double = true → e.seg < 16) := by decide +kernel

def accWaiting : State := baseT { tileA with vwait := some (.vld, { vd := 3, sa := 1 }) }

theorem witness_VectorConversion_resume : (accWaiting.tile 0).vwait = some (.vld, { vd := 3, sa := 1 }) ∧
    (accWaiting.tile 0).job = some 0 ∧ accWaiting.job? 0 = some jobA ∧ (accWaiting.tile 0).vq = [] ∧
    (accWaiting.modTile 0 (fun x => { x with vwait := none })).vectorCheck 0 jobA .vld { vd := 3, sa := 1 } = .go := by decide +kernel

/-- A scale-site record: scale of FP8 E4M3, a history of one, margin 1.0, closed (`op` 0) or open (1). -/
def siteA (op : Nat) : Bytes := bytesOf 96 [(1, 3), (2, 1), (4, 0x3F800000), (10, op)]

def siteS (op : Nat) : State := { baseT tileA with mem := Memory.writes [] (sramFa 0 0x1000) (siteA op) }

theorem goesSite {op : Nat} {c : VCode} {o : VOp} (h : (siteS op).seqJob 0 = some 0 ∧ ((siteS op).tile 0).vwait = none ∧
    ((siteS op).tile 0).vq = [] ∧ (siteS op).vectorCheck 0 jobA c o = .go) : VectorGoes (siteS op) 0 c o :=
  ⟨0, jobA, ⟨h.1, by rfl⟩, h.2.1, h.2.2.1, h.2.2.2⟩

theorem witness_VectorConversion_sites : VectorGoes (siteS 0) 0 .siteopen { sa := 1 } ∧ VectorGoes (siteS 1) 0 .siteclose { sa := 1 } ∧
    VectorGoes (siteS 1) 0 .siteq { vd := 3, va := 1, sa := 1, sb := 5 } :=
  ⟨goesSite (by decide +kernel), goesSite (by decide +kernel), goesSite (by decide +kernel)⟩

/-! One-step results of the vector engine. -/

def lanesA (r : Nat) (vs : List W32) : KMap (List Lane) := [(r, vs.map (fun v => ⟨v, false⟩))]

/-- R104: an addition wraps, and saturates with SAT. -/
theorem test_vadd : let s := baseT { tileA with vregs := lanesA 1 [0x7FFFFFFF] }
    ((after (.vadd 0 { vd := 3, va := 1, bcast := true, imm := 1 }) s).tile 0).lane 3 0 = ⟨0x80000000, false⟩ ∧
    ((after (.vadd 0 { vd := 3, va := 1, bcast := true, imm := 1, sat := true }) s).tile 0).lane 3 0 = ⟨0x7FFFFFFF, false⟩ := by
  decide +kernel

/-- R104: an arithmetic shift by 36 shifts by 4. -/
theorem test_vsra : let s := baseT { tileA with vregs := lanesA 1 [0x80000000] }
    ((after (.vsra 0 { vd := 3, va := 1, bcast := true, imm := 36 }) s).tile 0).lane 3 0 = ⟨0xF8000000, false⟩ := by decide +kernel

/-- R103: one third, correctly rounded; one over zero sets DZ. -/
theorem test_vfdiv : let s := baseT { tileA with vregs := lanesA 1 [0x3F800000] }
    ((after (.vfdiv 0 { vd := 3, va := 1, bcast := true, imm := 0x40400000 }) s).tile 0).lane 3 0 = ⟨0x3EAAAAAB, false⟩ ∧
    ((after (.vfdiv 0 { vd := 3, va := 1, bcast := true, imm := 0 }) s).tile 0).vsr &&& 8 = 8 := by decide +kernel

/-- R103: one rounding, so the low bits of the product survive the sum. -/
theorem test_vfma : let s := baseT { tileA with vregs := [(1, [⟨0x3F800001, false⟩]), (2, [⟨0x3F800001, false⟩]), (4, [⟨0xBF800002, false⟩])] }
    ((after (.vfma 0 { vd := 3, va := 1, vb := 2, vc := 4 }) s).tile 0).lane 3 0 = ⟨0x28800000, false⟩ := by decide +kernel

/-- R101: VL is at most 128. -/
theorem test_setvl : ((after (.setvl 0 { sa := 1, sd := 6, imm := 1 }) base).tile 0).vl = 128 ∧
    ((after (.setvl 0 { sd := 6, imm := 5 }) base).tile 0).g 6 = 5 := by decide +kernel

/-- R102: a store, then a load of the word stored. -/
theorem test_vst : let s := baseT { vlA 2 with vregs := lanesA 1 [0xDEADBEEF, 0x01020304] }
    ((after (.vld 0 { vd := 3, sa := 1 }) (after (.vst 0 { va := 1, sa := 1 }) s)).tile 0).lane 3 1 = ⟨0x01020304, false⟩ := by decide +kernel

/-! ### Witnesses: the queue macro (04) and selection (05) -/

def itemsA (n : Nat) (last : Bool) : List QItem := List.replicate n ⟨[1, 2], last⟩

/-- An event queue of depth 1,024 with `n` items. -/
def evS (n : Nat) (last : Bool) : State := { base with modEvents := { depth := 1024, overwrite := true, items := itemsA n last } }

/-- Room for one more; a full instance under overwrite-oldest whose packets end or do not; a full hamper under hold. -/
theorem witness_QueueMacro_writes : (evS 1023 true).queue? .events = some { depth := 1024, overwrite := true, items := itemsA 1023 true } ∧
    (itemsA 1024 true = ⟨[1, 2], true⟩ :: itemsA 1023 true) ∧ (itemsA 1024 false = ⟨[1, 2], false⟩ :: itemsA 1023 false) ∧
    ((baseT { tileA with hamper := { depth := 64, overwrite := false, items := itemsA 64 false } }).queue? (.hamper 0)) =
      some { depth := 64, overwrite := false, items := itemsA 64 false } ∧ (itemsA 64 false).length = 64 ∧
    (itemsA 1024 true).length = 1024 ∧ (itemsA 1024 false).length = 1024 := by decide +kernel

/-- An empty instance whose last lost item was not end-marked. -/
theorem witness_QueueMacro_dropping :
    ({ base with modEvents := { depth := 1024, overwrite := true, dropping := true } } : State).queue? .events =
      some { depth := 1024, overwrite := true, dropping := true } := by decide +kernel

theorem witness_QueueMacro_reads : (evS 2 true).queue? .events = some { depth := 1024, overwrite := true, items := itemsA 2 true } ∧
    itemsA 2 true = ⟨[1, 2], true⟩ :: itemsA 1 true ∧
    (∀ e ∈ [(⟨0, 3, true⟩ : SegFault), ⟨0, 4, false⟩], e.double = true → e.item = 0 → e.seg < dataSegs .events) := by decide +kernel

/-- A header segment of a waiting unit, of a tile with no job. -/
theorem witness_QueueMacro_headerError :
    let s := baseT { hamper := { depth := 64, overwrite := false, items := unitsA } }
    (s.tile 0).hamper.items.head? = unitsA.head? ∧ (s.tile 0).job = none ∧ (unitsA.headD ⟨[], false⟩).segs.length = 18 := by decide +kernel

theorem witness_QueueMacro_bound : ({ depth := 1, overwrite := true, items := itemsA 1 false } : Queue).items.length ≤ 1 ∧
    (({ depth := 1, overwrite := true, items := itemsA 1 false } : Queue).write ⟨[3], true⟩).isSome = true := by decide +kernel

/-- A full packet is lost with its oldest item, and no more (R118). -/
theorem test_queue_packet_loss :
    let q : Queue := { depth := 2, overwrite := true, items := [⟨[1], false⟩, ⟨[2], true⟩] }
    q.write ⟨[3], true⟩ = some { depth := 2, overwrite := true, items := [⟨[3], true⟩], lost := 2 } := by decide +kernel

def selOpenD : Bytes := bytesOf 32 [(0, 1), (1, 2), (2, 16), (4, 10), (8, 1000), (12, 5)]
def selFeedD : Bytes := bytesOf 32 [(0, 2), (1, 2), (2, 0x4000), (8, 4)]
def selMergeD : Bytes := bytesOf 32 [(0, 3), (1, 2), (2, 0x5000)]
def selCloseD : Bytes := bytesOf 32 [(0, 4), (1, 2), (2, 0x6000)]

theorem witness_SelectionCommands_issue : selCheck (base.tile 0) 0 jobA selOpenD = none ∧ (base.tile 0).selQ.length < 8 := by decide +kernel

/-- Tile 0 with slot 2 open, `d` at the head of its queue, and a stored list of two entries at 0x5000. -/
def slotA : SelSlot := { k := 16, int32 := true, asc := false, rowLen := 1000, req := 5 }
def listA : SelSlot := { slotA with k := 2, entries := [⟨7, 100, false⟩, ⟨3, 50, true⟩], received := 9, examined := 9 }
def selS (d : Bytes) (opened : Bool) : State :=
  { baseT { tileA with selQ := [d], slots := if opened then [(2, slotA)] else [] } with mem := Memory.writes [] (sramFa 0 0x5000) listA.bytes }

theorem witness_SelectionCommands_open : (selS selOpenD false).selHead 0 1 = some (selOpenD, 0, jobA) := by decide +kernel

theorem witness_SelectionCommands_feed : (selS selFeedD true).selHead 0 2 = some (selFeedD, 0, jobA) ∧
    KMap.find ((selS selFeedD true).tile 0).slots (slSlot selFeedD) = some slotA ∧ slotA.refused = false ∧
    slotA.received + slCount selFeedD ≤ slotA.rowLen ∧
    ((selS selFeedD true).tile 0).accAccess (slAddr selFeedD) (4 * slCount selFeedD) = .go ∧
    (selS selFeedD true).notArrived 0 (slAddr selFeedD) (4 * slCount selFeedD) = false ∧ slExplicit selFeedD = false := by decide +kernel

theorem witness_SelectionCommands_merge : (selS selMergeD true).selHead 0 3 = some (selMergeD, 0, jobA) ∧
    KMap.find ((selS selMergeD true).tile 0).slots (slSlot selMergeD) = some slotA ∧
    (let s := selS selMergeD true
     let a := slAddr selMergeD
     let h := Memory.reads s.mem (sramFa 0 a) 32
     let n := field h 0 2
     s.notArrived 0 a 32 = false ∧ s.poisonedRange (sramFa 0 a) 32 = false ∧ headerOk h slotA = true ∧ a + 32 + 16 * n ≤ accBase ∧
     jobA.ownsSram 0 a (32 + 16 * n) = true ∧ slotA.received + n ≤ slotA.rowLen ∧ s.notArrived 0 (a + 32) (16 * n) = false) := by
  decide +kernel

/-- Merging the stored list enters its two entries, best first (R129, R137). -/
theorem test_sel_merge :
    ((KMap.find ((after (.selMerge 0) (selS selMergeD true)).tile 0).slots 2).map (fun x => x.entries.map (·.id))) = some [7, 3] := by
  decide +kernel

theorem witness_SelectionCommands_close : (selS selCloseD true).selHead 0 4 = some (selCloseD, 0, jobA) ∧
    KMap.find ((selS selCloseD true).tile 0).slots (slSlot selCloseD) = some slotA := by decide +kernel

theorem witness_SelectionCommands_resume : ((base.await 0 (.select 7)).tile 0).seqWait = some (.select 7) ∧
    ((base.await 0 (.select 7)).tile 0).slotBusy 7 = false := by decide +kernel

theorem witness_SelectionCommands_entry : slotA.entries.length ≤ slotA.k ∧ (slotA.entries.map (·.id)).Nodup ∧
    ({ slotA with k := 2, entries := [⟨7, 100, false⟩, ⟨3, 50, true⟩] } : SelSlot).entries.length ≤ 2 := by decide +kernel

/-! ### Witnesses: memory tiers (06) -/

/-- Granule 0x1000 of the sealed page, asked for by the gather engine, and its channel. -/
def gran : Nat := 0x100000 / 256
def chanA : Nat := (base.chanOf 0 0x100000).1
def grantS : State := base.modDie 0 (fun x => { x with issueQ := [(reqGather, [{ granule := gran, write := false, requester := reqGather }])] })

theorem witness_StackRequests_grant : (grantS.die 0).state = .ready ∧ reqGather < 439 ∧
    KMap.find (grantS.die 0).issueQ reqGather = some [{ granule := gran, write := false, requester := reqGather }] ∧
    grantS.sealedAt (gran * 256) = true ∧ (grantS.chanOf 0 (gran * 256 % 2 ^ 40)).1 = chanA ∧ chanA < 32 ∧
    (KMap.getOr [] (grantS.die 0).slots chanA).length < 192 ∧
    grantS.bankLoad 0 chanA (grantS.chanOf 0 (gran * 256 % 2 ^ 40)).2 < 32 := by decide +kernel

/-- No other requester waits there. -/
theorem witness_StackRequests_alone : ∀ k, k ≠ reqGather → KMap.getOr [] (grantS.die 0).issueQ k = [] := by
  intro k hk
  have : (grantS.die 0).issueQ = [(reqGather, [{ granule := gran, write := false, requester := reqGather }])] := by decide +kernel
  simp [this, KMap.getOr, KMap.find, Ne.symm hk]

def slotS (w : Bool) : State := base.modDie 0 (fun x => { x with slots := [(0, [{ granule := gran, write := w, requester := 432 }])] })

theorem witness_StackRequests_slots :
    (KMap.getOr [] ((slotS false).die 0).slots 0)[0]? = some { granule := gran, write := false, requester := 432 } ∧
    (KMap.getOr [] ((slotS true).die 0).slots 0)[0]? = some { granule := gran, write := true, requester := 432 } := by decide +kernel

theorem witness_StackRequests_writeback :
    ((base.modDie 0 (fun x => { x with wbs := [⟨gran, 7, true, false⟩] })).die 0).wbs = [⟨gran, 7, true, false⟩] ∧
    ((base.modDie 0 (fun x => { x with wbs := [⟨gran, 0, true, true⟩] })).die 0).wbs = [⟨gran, 0, true, true⟩] := by decide +kernel

theorem witness_PagesAndTierOne_load : base.faValid 0x100000 = true ∧ faSpace 0x100000 = 0 ∧ jobA.mayRead 0x100000 1 = true ∧
    ⟨0x100000 / 256, base.ownerOf 0x100000⟩ ∉ (base.tile 0).dcache ∧ base.sealedAt 0x100000 = true ∧
    ⟨0x1000, 0⟩ ∈ ((baseT { tileA with dcache := [⟨0x1000, 0⟩] }).tile 0).dcache := by decide +kernel

theorem witness_PagesAndTierOne_fence : jobA.fenceRange 0x20F000 1 = some (12, [0x20F000]) ∧
    ((base.await 0 (.fence 0x20F000 1)).tile 0).seqWait = some (.fence 0x20F000 1) ∧
    (base.await 0 (.fence 0x20F000 1)).fencePending 0 0x20F000 (1 * 2 ^ 12) = false := by decide +kernel

def recycling (b : Bool) : State := { base with pages := [⟨0x200000, 12, .sealed_, b⟩] }

theorem witness_PagesAndTierOne_recycle : jobA.fenceRange 0x200000 1 = some (12, [0x200000]) ∧ (recycling false).sealedAt 0x200000 = true ∧
    (recycling true).page? 0x200FFF = some ⟨0x200000, 12, .sealed_, true⟩ ∧ faDie 0x200000 = 0 ∧
    (recycling true).outstanding false 0x200000 (2 ^ 12) = false := by decide +kernel

/-! A schedule of two entries of 256 bytes at 0x8000, into a window of 8 KiB at 0x10000. -/

def schedA : Bytes := bytesOf 32 [(0, 2), (4, 2), (12, 0x10000), (16, 0x2000)] ++ bytesOf 32 [(0, 0x100000), (8, 0x10000), (12, 256)] ++
  bytesOf 32 [(0, 0x100100), (8, 0x11F00), (12, 256)]

def schedS (st : Option Stream) : State := { baseT { tileA with stream := st } with mem := Memory.writes [] (sramFa 0 0x8000) schedA }

theorem witness_StreamCommands_start : (schedS none).poisonedRange (sramFa 0 0x8000) 32 = false ∧
    headerCheck jobA 0 0x8000 (Memory.reads (schedS none).mem (sramFa 0 0x8000) 32) = none := by decide +kernel

/-- The last entry the lead allows, beside one in flight. -/
theorem witness_StreamCommands_issue :
    let st : Stream := ⟨0x8000, 1, 0, [0], []⟩
    let s := schedS (some st)
    let e := bytesOf 32 [(0, 0x100100), (8, 0x11F00), (12, 256)]
    s.streamEntry 0 st 1 = some e ∧ s.tileWorks 0 = true ∧ st.issued < st.released + shLead (Memory.reads s.mem (sramFa 0 st.hdr) 32) ∧
    (∀ k < st.issued - st.released, seOverlap ((s.streamEntry 0 st (st.released + k)).getD []) e = false) ∧
    s.poisonedRange (sramFa 0 (st.hdr + 32 + 32 * (entryPlace (Memory.reads s.mem (sramFa 0 st.hdr) 32) st.issued).getD 0)) 32 = false ∧
    entryCheck s jobA (Memory.reads s.mem (sramFa 0 st.hdr) 32) e = none ∧ (∀ r ∈ seSrcs e, s.sealedRange r.1 r.2 = true) := by decide +kernel

theorem witness_StreamCommands_arrive :
    let st : Stream := ⟨0x8000, 1, 0, [0], []⟩
    let s := schedS (some st)
    s.streamEntry 0 st 0 = some (bytesOf 32 [(0, 0x100000), (8, 0x10000), (12, 256)]) ∧ 0 ∈ st.flight ∧ (s.tile 0).power = .running ∧
    (∀ r ∈ seSrcs (bytesOf 32 [(0, 0x100000), (8, 0x10000), (12, 256)]), s.outstanding false r.1 r.2 = false) ∧ (s.tile 0).vwait = none := by
  decide +kernel

theorem witness_StreamCommands_waits :
    let s := schedS (some ⟨0x8000, 2, 0, [1], [0]⟩)
    (s.tile 0).stream = some ⟨0x8000, 2, 0, [1], [0]⟩ ∧ ((s.await 0 (.stream 0)).tile 0).seqWait = some (.stream 0) ∧
    ((s.await 0 (.stream 0)).tile 0).entryArrived 0 = true ∧ s.seqJob 0 = some 0 := by decide +kernel

/-- One element of 64 bytes of the sealed page, its address at 0x9000. -/
def gatherD (op : Nat) : Bytes := bytesOf 32 ([(0, op), (4, 0x9000), (8, 1), (12, 64), (22, 0xA000)] ++
  if op = 2 then [(16, 0x100000), (26, 64)] else [])

def gatherRec (pos : Nat) : Gather :=
  { id := 0, tile := 0, job := 0, desc := gatherD 1, pos := pos, landed := 0, host := none, acked := false }

def gatherS (pos : Nat) : State :=
  { base.modDie 0 (fun x => { x with gathers := [gatherRec pos] }) with mem := Memory.writes [] (sramFa 0 0x9000) (leBytes 8 0x100000) }

theorem witness_GatherCommands_issue : (∀ op ∈ [1, 2], gdOp (gatherD op) = op ∧ gatherCheck base jobA 0 (gatherD op) = none) ∧
    base.gathersFull 0 = false := by decide +kernel

theorem witness_GatherCommands_element :
    let s := gatherS 0
    let g := gatherRec 0
    s.nextGather 0 = some g ∧ s.notArrived g.tile (faSram (gdEntryAt g.tile g.desc g.pos)) (gdEntry g.desc) = false ∧
    s.poisonedRange (gdEntryAt g.tile g.desc g.pos) (gdEntry g.desc) = false ∧ s.elemAddr g.tile g.desc g.pos = some 0x100000 ∧
    s.faRange 0x100000 (gdElem g.desc) = true ∧ jobA.mayRead 0x100000 (gdElem g.desc) = true ∧
    s.sealedRange 0x100000 (gdElem g.desc) = true ∧
    (s.die 0).gatherReads + (granulesOf 0x100000 (gdElem g.desc)).length ≤ 2048 := by decide +kernel

theorem witness_GatherCommands_complete :
    let s := gatherS 1
    let g := gatherRec 1
    (s.die 0).gathers.find? (fun g => g.id == 0) = some g ∧ (s.tile g.tile).power = .running ∧ (s.tile g.tile).job = some g.job ∧
    gdIsHost g.desc = false ∧ gdCount g.desc ≤ g.pos ∧ s.elementsBack g = true ∧
    (s.die (dieOf 0)).gathers.any (fun g => g.id == 1 && g.tile == 0) = false := by decide +kernel

/-- 64 bytes of tile 0's scratchpad and the job's window 0, on queue pair 3 in RTS. -/
def hostD (op : Nat) : Bytes := bytesOf 32 [(0, op), (8, sramFa 0 0xB000), (24, 64), (16, 0xFFC0)]
def hostS : State := { base with qps := [(3, { state := .rts })] }
def winA : Window := ⟨0x1000, 0x10000, 3, true, true, 7, 0⟩

theorem witness_GatherCommands_host : ∀ op ∈ [3, 4], gdOp (hostD op) = op ∧ hostCheck hostS jobA 0 (hostD op) = none ∧
    faSpace (hdLocal (hostD op)) = 1 ∧ hostS.gathersFull 0 = false ∧ jobA.windowOf (hostD op) = some winA ∧ hostS.qpCause 3 = none ∧
    hostS.poisonedRange (hdLocal (hostD op)) (hdBytes (hostD op)) = false := by decide +kernel

theorem witness_GatherCommands_fail :
    let g : Gather := { gatherRec 0 with desc := hostD 3, host := some (.failed .retryExhausted) }
    let s := hostS.modDie 0 (fun x => { x with gathers := [g] })
    (s.die (dieOf 0)).gathers.find? (fun g => g.id == 0 && g.tile == 0) = some g ∧ s.job? g.job = some jobA ∧
    jobA.windowOf g.desc = some winA ∧ gdIsHost g.desc = true := by decide +kernel

/-! ### Witnesses: integrity (15) and faults (16) -/

def oweS (c : Bool) : State := baseT { tileA with sramWb := [⟨31, 7, true, c⟩] }

theorem witness_IntegrityCommands_sram : ((oweS true).tile 0).sramWb = [⟨31, 7, true, true⟩] ∧
    ((oweS false).tile 0).sramWb = [⟨31, 7, true, false⟩] ∧ (base.tile 0).power = .running ∧ (base.die (dieOf 0)).state = .ready := by
  decide +kernel

/-- The sweep at the last granule of a pass. -/
theorem witness_IntegrityCommands_sweep :
    let s := base.modDie 0 (fun x => { x with lintPos := base.passGranules 0 - 1 })
    (s.die 0).state = .ready ∧ s.passGranules 0 ≤ (s.die 0).lintPos + 1 := by decide +kernel

def coldDie (st : DieState) : State := base.setDie 0 { state := st, powered := true, pll := true, phy := true }

theorem witness_IntegrityCommands_soak : ((coldDie .off).die 0).phy = true ∧ ((coldDie .off).die 0).state = .off ∧
    (coldDie .off).isRetired (.die 0) = false ∧ ((coldDie .soak).die 0).state = .soak ∧ ((coldDie .soak).die 0).rebuild = false := by
  decide +kernel

/-- A repair of row 5 due first, with spares 0 to `n − 1` of its channel in use. -/
def rowRes : Resource := .row 31 15 5
def darnS (n : Nat) : State :=
  { base.modDie 0 (fun x => { x with remaps := (List.range n).map (fun i => ⟨0, 31, 0, i, 100 + i⟩) }) with repairs := [⟨0, rowRes, 9⟩] }

/-- The last spare free, and none. -/
theorem witness_RepairCommands_darn : (darnS 127).nextRepair 0 rowRes = true ∧ (darnS 127).popRepair.channelGoing 0 31 = false ∧
    (darnS 127).freeSpare 0 31 = some 127 ∧ (darnS 128).nextRepair 0 rowRes = true ∧
    (darnS 128).popRepair.channelGoing 0 31 = false ∧ (darnS 128).freeSpare 0 31 = none := by decide +kernel

/-- Two events within a day, the row threshold's default. -/
theorem witness_RepairCommands_threshold :
    let s := base.modDie 0 (fun x => { x with events := [⟨rowRes, 5⟩, ⟨rowRes, 6⟩] })
    (s.threshold rowRes).1 ≤ s.eventCount 0 rowRes ∧ s.repairMoot 0 rowRes = false ∧ base.linkRetired 0 1 = false ∧
    base.repairMoot 0 (.lane 1 33) = false := by decide +kernel

theorem witness_LinksAndRetirements_links : base.linkRetired 0 1 = false ∧
    (1 ∈ ((base.modDie 0 (fun x => { x with retraining := [1] })).die 0).retraining) ∧
    ({ base with repairs := [⟨0, .lane 1 33, 9⟩] } : State).nextRepair 0 (.lane 1 33) = true ∧ neighbour 0 1 = some 1 := by decide +kernel

/-- Every lane of one direction of a link retired. -/
def cutS : State := { base with ledger := { base.ledger with retired := (List.range 34).map (fun l => .lane 0 1 l) } }

theorem witness_LinksAndRetirements_cut : neighbour 0 1 = some 1 ∧ cutS.linkRetired 0 1 = true ∧ linkKey 0 1 ∉ cutS.routed := by
  decide +kernel

def dueS (r : Resource) : State := { base with repairs := [⟨0, r, 9⟩] }

theorem witness_LinksAndRetirements_retire : (dueS (.array 0)).nextRepair (dieOf 0) (.array ⟨tileOf 0, by decide⟩) = true ∧
    (dueS (.array 0)).arrayLive 0 = true ∧ (dueS (.sramMacro 0 7)).nextTile 0 = true ∧ (dueS (.channel 31)).nextRepair 0 (.channel 31) = true := by
  decide +kernel

/-- A die left without a live channel. -/
theorem witness_LinksAndRetirements_die :
    let s : State := { base with ledger := { base.ledger with retired := (List.range 32).map (fun c => .channel 0 c) } }
    s.isRetired (.die 0) = false ∧ s.dieSpent 0 = true := by decide +kernel

/-! ### Witnesses: object writes (13), tenancy (14), claims (12) -/

/-- An Administrator's session from host 9 on port A of a module that host 9 has claimed, with dies 0 and 63 ready. -/
def admin : Session :=
  { sid := 1, role := 3, port := .a, src := 9, key := List.replicate 32 1, nonce := List.replicate 16 2,
    opened := ⟨.a, 9, 0x81, .ok, 1, 0, [], []⟩ }
def rq : Requester := ⟨1, 5, .a, 9⟩
def kopS : State :=
  { base with kop := { claimed := true, owner := 9, sessions := [admin], nextSid := 2 }, portA := { ready := true, rate := 400 },
              dies := base.dies ++ [(63, { state := .ready, powered := true, pll := true, phy := true })] }

/-- The writes of `kopS`'s session that may act, with the object's own conditions. -/
def mayB (s : State) (idx sub : Nat) (v : Bytes) : Bool :=
  s.session? 1 == some admin && !(s.notOwner 3 9) && !(s.objBusy (okey idx sub)) &&
  firstStatus (s.writeConds 3 idx sub (objType idx sub) v) == .ok

theorem may {s : State} {idx sub : Nat} {v : Bytes} (h : mayB s idx sub v = true) : WriteMay s rq idx sub v [] := by
  simp only [mayB, Bool.and_eq_true, beq_iff_eq, Bool.not_eq_true'] at h
  refine ⟨admin, h.1.1.1, h.1.1.2, h.1.2, ?_⟩
  rw [List.append_nil]; exact h.2

/-- The counter-clear objects, those of a die at its first and its last number. -/
theorem witness_ObjectWrites_clears :
    ∀ e ∈ [(0x3005, 0xA), (0x3006, 6), (0x3007, 8), (0x3008, 9), (0x3009, 0xE), (0x2500, 0xD), (0x300A, 8), (0x2600, 8), (0x300B, 7),
           (0x2700, 0x11), (0x2203, 0xB), (0x2300, 0x17), (0x2401, 0x11), (0x2402, 0x11), (0x1110, 0xD), (0x3000, 9), (0x3001, 5),
           (0x2320, 0xC), (0x3003, 0x10), (0x300C, 6), (0x3004, 7), (0x3002, 6), (0x2800, 9)],
      WriteMay kopS rq e.1 e.2 [1] [] ∧ (0x3000 ≤ e.1 → WriteMay kopS rq (e.1 + 16 * 63) e.2 [1] []) := by
  have h : ∀ e ∈ [(0x3005, 0xA), (0x3006, 6), (0x3007, 8), (0x3008, 9), (0x3009, 0xE), (0x2500, 0xD), (0x300A, 8), (0x2600, 8), (0x300B, 7),
           (0x2700, 0x11), (0x2203, 0xB), (0x2300, 0x17), (0x2401, 0x11), (0x2402, 0x11), (0x1110, 0xD), (0x3000, 9), (0x3001, 5),
           (0x2320, 0xC), (0x3003, 0x10), (0x300C, 6), (0x3004, 7), (0x3002, 6), (0x2800, 9)],
      mayB kopS e.1 e.2 [1] = true ∧ (0x3000 ≤ e.1 → mayB kopS (e.1 + 16 * 63) e.2 [1] = true) := by decide +kernel
  exact fun e he => ⟨may (h e he).1, fun h' => may ((h e he).2 h')⟩

/-- An RW object and an RWP object of the plain kind, at the ends of their ranges. -/
theorem witness_ObjectWrites_plain : ∀ e ∈ [(0x2203, 4, [1, 0]), (0x2203, 4, [255, 255]), (0x2300, 0x10, leBytes 2 64), (0x2300, 0x10, leBytes 2 4096)],
    (objRow e.1 e.2.1).isSome = true ∧ (objRow e.1 e.2.1).map (·.typ) = some 2 ∧ clearsOf e.1 e.2.1 = none ∧
    kopS.writeHost rq e.1 e.2.1 e.2.2 = none ∧ kopS.writeModule rq e.1 e.2.1 e.2.2 = none ∧
    okey e.1 e.2.1 ∉ [okey 0x1110 3, okey 0x2300 5, okey 0x2300 9] ∧ kopS.plainBad (okey e.1 e.2.1) e.2.2 = false ∧
    mayB kopS e.1 e.2.1 e.2.2 = true := by decide +kernel

/-- `kopS` with context 7 in domain 0 and live domain 5. -/
def tenS : State := { kopS with contexts := [(0, 0), (7, 0)], domains := [(0, ⟨true, 1⟩), (5, ⟨true, 3⟩)] }

theorem witness_DomainsAndRegions_contexts : mayB tenS 0x2320 3 (bytesOf 8 [(0, 8)]) = true ∧ tenS.domainLive 0 = true ∧
    tenS.contextLive 8 = false ∧ mayB tenS 0x2320 4 (leBytes 2 7) = true ∧ tenS.contextLive 7 = true ∧ tenS.contextInUse 7 = false := by
  decide +kernel

theorem witness_DomainsAndRegions_domains : mayB tenS 0x2320 5 (leBytes 2 65535) = true ∧ tenS.domainLive 65535 = false ∧
    mayB tenS 0x2320 6 (leBytes 2 5) = true ∧ tenS.domainLive 5 = true ∧ tenS.domainInUse 5 = false ∧
    (∀ j ∈ [127, 128, 255], mayB tenS (jobDomainObj j).1 (jobDomainObj j).2 (leBytes 2 5) = true ∧ tenS.job? j = none) := by
  decide +kernel

/-- An OWN entry of domain 5 at its highest slot, an import of it by domain 0, and a deletion. -/
def ownV : Bytes := bytesOf 32 [(0, 5), (2, 63), (4, 1), (5, 3), (8, 0x800000), (16, 0x10000)]
def importV : Bytes := bytesOf 32 [(0, 0), (2, 0), (4, 2), (5, 1), (6, 5), (8, 0x800000), (16, 0x10000)]
def ownS : State := { tenS with regions := [⟨5, 63, true, true, true, 0, 0x800000, 0x10000⟩] }

theorem witness_DomainsAndRegions_regions : mayB tenS 0x2320 7 ownV = true ∧ tenS.regionBad ownV = false ∧ tenS.regionRefused ownV = false ∧
    mayB ownS 0x2320 7 importV = true ∧ ownS.regionBad importV = false ∧ ownS.domainLive 5 = true ∧ ownS.regionRefused importV = false ∧
    mayB ownS 0x2320 7 (bytesOf 32 [(0, 5), (2, 63)]) = true ∧ ownS.regionBad (bytesOf 32 [(0, 5), (2, 63)]) = false ∧
    ownS.regionRefused (bytesOf 32 [(0, 5), (2, 63)]) = false := by decide +kernel

def fillS : State := { ownS with fills := [(rq, ⟨5, 63, true, true, true, 0, 0x800000, 0x10000⟩)] }

theorem witness_DomainsAndRegions_fill : fillS.fills = (rq, ⟨5, 63, true, true, true, 0, 0x800000, 0x10000⟩) :: [] ∧
    fillS.session? rq.sid = some admin := by decide +kernel

theorem witness_KeysReportsSeal_key : mayB kopS 0x2900 1 ([3, 0, 0, 0] ++ List.replicate 32 1) = true ∧
    mayB kopS 0x2900 1 ([1, 0, 0, 0] ++ List.replicate 32 0) = true := by decide +kernel

def signS : State := { kopS with boot := { kopS.boot with signing := some [1, 2] } }

theorem witness_KeysReportsSeal_report : mayB kopS 0x2910 1 (List.replicate 32 7) = true ∧ kopS.boot.signing = none ∧
    signS.boot.signing = some [1, 2] := by decide +kernel

theorem witness_KeysReportsSeal_seal : mayB kopS 0x2901 2 (leBytes 4 (crc32c kopS.fuses.serial).toNat) = true ∧
    leNat (leBytes 4 (crc32c kopS.fuses.serial).toNat) = (crc32c kopS.fuses.serial).toNat ∧ kopS.tap.debugOpen = false := by decide +kernel

/-- A claim record of unit 4095 with one IPv4 address on port A. -/
def claimV : Bytes := bytesOf 96 [(0, 4095), (2, 2), (24, 0x0A000001), (28, 32)]

theorem witness_ClaimsAndSessions_claim : mayB kopS 0x1100 4 claimV = true ∧ kopS.claimConds 3 claimV = [] ∧
    kopS.session? rq.sid = some admin ∧ mayB kopS 0x1100 7 [1] = true ∧ kopS.anyQpInUse = false := by decide +kernel

theorem witness_ClaimsAndSessions_probe :
    (after (.claimWrite rq claimV) kopS).kop.probe = some ⟨claimV, rq, false⟩ := by decide +kernel

theorem witness_ClaimsAndSessions_close : mayB kopS 0x1110 5 [1] = true ∧ (∃ x ∈ kopS.kop.sessions, x.sid = 1) := by decide +kernel

/-! ### Witnesses: KOP (12, 13) -/

/-- A message of `kopS`'s session with the tag its key gives, and what it finds as it reaches its meaning. -/
def signed (type : Byte) (p : Bytes) : KMsg :=
  let m := { msgA with payload := p, length := BitVec.ofNat 16 p.length }
  { m with tag := hmac admin.key (kopHead m type ++ p) }

/-- The checks of a message but for its tag. -/
def kopGo (s : State) (m : KMsg) : Option (State × Session) :=
  match s.intake m with
  | .taken s0 =>
    match s0.session? m.sid with
    | some sn0 =>
      match ({ sn0 with last := s0.now } : Session).check m.seq with
      | .run sn =>
        let s1 := (s0.modSession m.sid (fun x => { x with last := s0.now })).modSession m.sid (fun _ => sn)
        if sn0.key = admin.key ∧ m.seq ≠ 0 ∧ s1.notOwner sn.role m.src = false ∧ kopReserved m = false then some (s1, sn) else none
      | _ => none
    | none => none
  | _ => none

theorem kop_runs {s : State} {type : Byte} {p : Bytes} {s1 : State} {sn : Session} (h : kopGo s (signed type p) = some (s1, sn)) :
    KopRuns s (signed type p) type s1 sn := by
  unfold kopGo at h
  split at h <;> try (simp at h; done)
  rename_i s0 h0
  split at h <;> try (simp at h; done)
  rename_i sn0 h1
  split at h <;> try (simp at h; done)
  rename_i sn' h2
  simp only [Option.ite_none_right_eq_some, Option.some.injEq, Prod.mk.injEq] at h
  obtain ⟨⟨h3, h4, h5, h6⟩, h7, h8⟩ := h
  subst h8
  refine ⟨s0, sn0, h0, h1, ?_, h4, h2, h7.symm, by rw [← h7]; exact h5, h6⟩
  rw [h3]
  simp [tagOk, signed, kopHead]

/-- The state and the session a message of `s` finds. -/
def found (s : State) (type : Byte) (p : Bytes) : State × Session := (kopGo s (signed type p)).getD ({}, admin)

theorem kop_found {s : State} {type : Byte} {p : Bytes} (h : (kopGo s (signed type p)).isSome = true) :
    KopRuns s (signed type p) type (found s type p).1 (found s type p).2 := by
  unfold found
  cases h' : kopGo s (signed type p) with
  | none => simp [h'] at h
  | some x => exact kop_runs h'

/-- A session whose window stands at 100: a number above, the lowest within and one already taken. -/
def sessW : Session := { admin with high := 100, accepted := [100, 99] }

theorem witness_SequenceWindow : (∃ y, sessW.check 0xFFFFFFFF = .run y) ∧ (∃ y, sessW.check 37 = .run y) ∧
    (match sessW.check 36 with | .drop => true | _ => false) = true ∧ (match sessW.check 99 with | .drop => true | _ => false) = true :=
  ⟨⟨_, rfl⟩, ⟨_, rfl⟩, rfl, rfl⟩

/-- Events in context 0's queue, selected by the session. -/
def readP : Bytes := [0x10, 0x11, 3, 0]

theorem witness_KopMessages_read : KopRuns kopS (signed 1 readP) 1 (found kopS 1 readP).1 (found kopS 1 readP).2 ∧
    (let s1 := (found kopS 1 readP).1
     let sn := (found kopS 1 readP).2
     readP.length = 4 ∧ field readP 3 1 = 0 ∧ s1.session? 1 = some sn ∧ s1.objBusy (okey 0x1110 3) = false ∧
     firstStatus (s1.readConds sn 0x1110 3) = .ok ∧ (objRow 0x1110 3).isSome = true ∧
     (∀ o ∈ objRow 0x1110 3, (s1.objValue sn 0x1110 3 o).length ≤ 1152)) :=
  ⟨kop_found (by decide +kernel), by decide +kernel⟩

def writeP : Bytes := [0x03, 0x22, 4, 2, 2, 0, 0, 0, 1, 0]

theorem witness_KopMessages_write : KopRuns kopS (signed 2 writeP) 2 (found kopS 2 writeP).1 (found kopS 2 writeP).2 ∧
    8 ≤ writeP.length ∧ field writeP 4 2 = writeP.length - 8 ∧ zeros writeP 6 2 = true := ⟨kop_found (by decide +kernel), by decide +kernel⟩

/-- 33 events, one more than a pop takes. -/
def popS : State := { kopS with events := [(0, { depth := 512, overwrite := true, items := List.replicate 33 ⟨[1, 2, 3, 4], true⟩ })] }

theorem witness_KopMessages_pop : popS.session? rq.sid = some admin ∧ popS.objBusy (okey 0x2300 0xD) = false ∧
    firstStatus (popS.readConds admin 0x2300 0xD) = .ok ∧ popS.selected admin = some (.context 0) ∧
    popS.queue? (.context 0) = some { depth := 512, overwrite := true, items := List.replicate 33 ⟨[1, 2, 3, 4], true⟩ } ∧
    (popS.popEvents admin).1.length ≤ 1152 := by decide +kernel

theorem witness_KopMessages_others : KopRuns kopS (signed 9 []) 9 (found kopS 9 []).1 (found kopS 9 []).2 ∧
    KopRuns kopS (signed 5 [1]) 5 (found kopS 5 [1]).1 (found kopS 5 [1]).2 ∧
    KopRuns kopS (signed 7 claimV) 7 (found kopS 7 claimV).1 (found kopS 7 claimV).2 ∧
    (found kopS 5 [1]).1.session? 1 = some (found kopS 5 [1]).2 ∧ (found kopS 7 claimV).1.session? 1 = some (found kopS 7 claimV).2 ∧
    (found kopS 7 claimV).1.objBusy (okey 0x1100 4) = false ∧ (found kopS 7 claimV).1.claimConds (found kopS 7 claimV).2.role claimV = [] :=
  ⟨kop_found (by decide +kernel), kop_found (by decide +kernel), kop_found (by decide +kernel), by decide +kernel⟩

/-- An OPEN of the highest role under the factory's Administrator key. -/
def openP : Bytes := [3, 0, 0, 0] ++ List.replicate 16 7 ++ [0, 0, 0, 0]
def openM0 : KMsg := { msgA with sid := 0, seq := 0, payload := openP, length := 24 }
def openM : KMsg := { openM0 with tag := hmac (hmac kopS.fuses.dus (ascii "KZCM")) (kopHead openM0 8 ++ openM0.payload) }

theorem tag_signed (m : KMsg) (type : Byte) (key : Bytes) :
    tagOk { m with tag := hmac key (kopHead m type ++ m.payload) } type key = true := by simp [tagOk, kopHead]

theorem witness_KopMessages_open : (kopS.intake openM matches .taken _) = true ∧
    (∀ s1, kopS.intake openM = .taken s1 → readyBit s1 1 = true ∧ s1.roleKey 3 = some (hmac kopS.fuses.dus (ascii "KZCM")) ∧
      s1.openDenied openM 3 = false) ∧
    field openP 0 1 = 3 ∧ openShape openM = true ∧ tagOk openM 8 (hmac kopS.fuses.dus (ascii "KZCM")) = true ∧
    (∀ x ∈ kopS.kop.sessions, ¬ (x.src = 9 ∧ x.nonce = slice openP 4 16)) ∧ kopS.kop.sessions.length < 16 := by
  refine ⟨by decide +kernel, ?_, by decide +kernel, by decide +kernel, tag_signed openM0 8 _, by decide +kernel, by decide +kernel⟩
  intro s1 h
  have e : kopS.intake openM = .taken (kopS.bump (kopCount 6) 1) := by rfl
  rw [e] at h; cases h
  exact ⟨by decide +kernel, by decide +kernel, by decide +kernel⟩

theorem witness_IdentifyAndAddresses_identify :
    let m := { msgA with sid := 0, payload := [0, 0, 0, 0], length := 4 }
    (kopS.intake m matches .taken _) = true ∧ kopReserved m = false ∧ zeros m.tag 0 32 = true ∧ m.payload.length = 4 ∧
    zeros m.payload 2 2 = true ∧ field m.payload 0 2 = 0 ∧
    ({ kopS with kop := { kopS.kop with identifies := [m, m] } } : State).kop.identifies[1]? = some m := by decide +kernel

theorem witness_IdentifyAndAddresses_dad :
    let s : State := { kopS with portB := { rate := 25, dadTries := 3 } }
    (s.port .b).ready = false ∧ (s.port .b).rate ≠ 0 ∧ (s.port .b).dadTries ≤ 3 ∧ s.boot.mode ≠ .none_ ∧ kopS.kopUp .a = true ∧
    (41870 : W16).toNat = kopS.kop.portActive ∧ (List.replicate 47 (0 : Byte)).length < 48 ∧
    1232 < (List.replicate 1233 (0 : Byte)).length := by decide +kernel

/-! Block transfers of the privileged-jobs object, a BLOB of 32 bytes. -/

def blkP (op size crc : Nat) : Bytes := bytesOf 16 [(0, op), (2, 0x2200), (4, 5), (8, size), (12, crc)]

theorem witness_BlockTransfers_rbInitiate : KopRuns kopS (signed 3 (blkP 1 0 0)) 3 (found kopS 3 (blkP 1 0 0)).1 (found kopS 3 (blkP 1 0 0)).2 ∧
    (let s1 := (found kopS 3 (blkP 1 0 0)).1
     let sn := (found kopS 3 (blkP 1 0 0)).2
     let p := blkP 1 0 0
     bkShape p = true ∧ bkOp p = 1 ∧ p.length = 16 ∧ bkSize p = 0 ∧ bkCrc p = 0 ∧ s1.session? 1 = some sn ∧ s1.objBusy (bkKey p) = false ∧
     firstStatus (s1.readConds sn (bkIdx p) (bkSub p)) = .ok ∧ (objRow (bkIdx p) (bkSub p)).map (·.typ) = some 8 ∧
     bkKey p ≠ okey 0x2300 0xD ∧ (∀ t ∈ s1.kop.transfers, t.sid ≠ 1) ∧ s1.kop.transfers.length < 4) :=
  ⟨kop_found (by decide +kernel), by decide +kernel⟩

/-- `kopS` with a transfer of that object open. -/
def tranS (x : BlockTransfer) : State := { kopS with kop := { kopS.kop with transfers := [x] } }
def readX : BlockTransfer := ⟨1, false, okey 0x2200 5, 1500, [], List.replicate 1500 3, 0⟩
def writeX (segs : KMap Bytes) : BlockTransfer := ⟨1, true, okey 0x2200 5, 32, segs, [], 0⟩

/-- The last, short, segment of a snapshot; its end; an abort. -/
theorem witness_BlockTransfers_read : ∀ e ∈ [(2, 1024), (3, 0), (4, 0)],
    KopRuns (tranS readX) (signed 3 (blkP e.1 e.2 0)) 3 (found (tranS readX) 3 (blkP e.1 e.2 0)).1 (found (tranS readX) 3 (blkP e.1 e.2 0)).2 ∧
    (let s1 := (found (tranS readX) 3 (blkP e.1 e.2 0)).1
     let p := blkP e.1 e.2 0
     s1.session? 1 = some (found (tranS readX) 3 p).2 ∧ s1.transfer? rq false p = some readX ∧ bkShape p = true ∧ bkOp p = e.1 ∧
     p.length = 16 ∧ bkCrc p = 0 ∧ bkSize p % 1024 = 0 ∧ bkSize p < readX.total) := by
  have h : ∀ e ∈ [(2, 1024), (3, 0), (4, 0)], (kopGo (tranS readX) (signed 3 (blkP e.1 e.2 0))).isSome = true := by decide +kernel
  have h' : ∀ e ∈ [(2, 1024), (3, 0), (4, 0)], (let s1 := (found (tranS readX) 3 (blkP e.1 e.2 0)).1
     let p := blkP e.1 e.2 0
     s1.session? 1 = some (found (tranS readX) 3 p).2 ∧ s1.transfer? rq false p = some readX ∧ bkShape p = true ∧ bkOp p = e.1 ∧
     p.length = 16 ∧ bkCrc p = 0 ∧ bkSize p % 1024 = 0 ∧ bkSize p < readX.total) := by decide +kernel
  exact fun e he => ⟨kop_found (h e he), h' e he⟩

theorem witness_BlockTransfers_wbInitiate : KopRuns kopS (signed 4 (blkP 1 32 0)) 4 (found kopS 4 (blkP 1 32 0)).1 (found kopS 4 (blkP 1 32 0)).2 ∧
    (let s1 := (found kopS 4 (blkP 1 32 0)).1
     let sn := (found kopS 4 (blkP 1 32 0)).2
     let p := blkP 1 32 0
     s1.session? 1 = some sn ∧ bkShape p = true ∧ bkOp p = 1 ∧ p.length = 16 ∧ bkCrc p = 0 ∧
     firstStatus (s1.initConds sn (bkIdx p) (bkSub p) (bkSize p)) = .ok) := ⟨kop_found (by decide +kernel), by decide +kernel⟩

def segP : Bytes := blkP 2 0 0 ++ List.replicate 32 5
def endP : Bytes := blkP 3 32 (crc32c (List.replicate 32 5)).toNat

theorem witness_BlockTransfers_wbSegment :
    KopRuns (tranS (writeX [])) (signed 4 segP) 4 (found (tranS (writeX [])) 4 segP).1 (found (tranS (writeX [])) 4 segP).2 ∧
    (let s1 := (found (tranS (writeX [])) 4 segP).1
     s1.session? 1 = some (found (tranS (writeX [])) 4 segP).2 ∧ s1.transfer? rq true segP = some (writeX []) ∧ bkShape segP = true ∧
     bkOp segP = 2 ∧ bkCrc segP = 0 ∧ bkSize segP % 1024 = 0 ∧ bkSize segP < (writeX []).total ∧
     segP.length - 16 = min 1024 ((writeX []).total - bkSize segP) ∧ (writeX []).key ≠ stageKey) :=
  ⟨kop_found (by decide +kernel), by decide +kernel⟩

def fullX : BlockTransfer := writeX [(0, List.replicate 32 5)]

theorem witness_BlockTransfers_wbEnd : KopRuns (tranS fullX) (signed 4 endP) 4 (found (tranS fullX) 4 endP).1 (found (tranS fullX) 4 endP).2 ∧
    (let s1 := (found (tranS fullX) 4 endP).1
     s1.transfer? rq true endP = some fullX ∧ bkShape endP = true ∧ bkOp endP = 3 ∧ endP.length = 16 ∧ bkSize endP = fullX.total ∧
     fullX.missing = none ∧ fullX.key ≠ stageKey ∧ (crc32c (fullX.segs.flatMap (·.2))).toNat = bkCrc endP) :=
  ⟨kop_found (by decide +kernel), by decide +kernel⟩

theorem witness_BlockTransfers_wbAbort :
    KopRuns (tranS fullX) (signed 4 (blkP 4 0 0)) 4 (found (tranS fullX) 4 (blkP 4 0 0)).1 (found (tranS fullX) 4 (blkP 4 0 0)).2 ∧
    (found (tranS fullX) 4 (blkP 4 0 0)).1.session? 1 = some (found (tranS fullX) 4 (blkP 4 0 0)).2 ∧
    (found (tranS fullX) 4 (blkP 4 0 0)).1.transfer? rq true (blkP 4 0 0) = some fullX ∧ bkShape (blkP 4 0 0) = true ∧
    bkOp (blkP 4 0 0) = 4 ∧ (blkP 4 0 0).length = 16 ∧ (∃ t ∈ (tranS fullX).kop.transfers, t.sid = 1) :=
  ⟨kop_found (by decide +kernel), by decide +kernel⟩

/-! ### Witnesses: vector search (07) -/

/-- A request of job 0 in a stage, and `hostS` with it and window 0 of context 0. -/
def reqA (stage : Nat) (d : Bytes) : Request :=
  { ring := 4096 * 3, index := 0, kind := 1, tag := 7, job := 0, block := [], state := .stage, window := 0, offset := 0, length := 1024,
    desc := d, stage := stage, lastStage := 5 }

def ringA : ReqRing := { depthLog := 4, ctx := 0, link := 2, key := 0 }
def cringA : CompRing :=
  { depthLog := 4, ctx := 0, qp := 3, key := 0, hostAddr := 0, hostRkey := 0, imm := false, immTag := 0 }
def reqS (x : Request) : State :=
  { hostS with reqs := [(1, x)], windows := [(winKey 0 0, winA)], rings := [(4096 * 3, ringA)], crings := [(2, cringA)] }

def verA (n : Nat) : CollVersion :=
  { num := n, binTable := 0x100000, idIndex := 0x101000, graphMap := 0x102000, bins := 1, switchEpoch := 1, foldEpoch := 0, hides := [], pins := [] }

def collA : Coll :=
  { job := 0, metric := 0, shape := 0, dim := 4, centBf16 := false, dieMask := 1, sideCap := 2, epoch := 5, cur := verA 1, old := none, held := none,
    side := [], sideSeq := 0, batch := [] }

/-- A search of collection 0 for 8 items, the query from EMBED, that asks for the very epoch in force. -/
def searchD : Bytes := bytesOf 64 [(1, 2), (38, 1)] ++ bytesOf 256 [(0, 1), (4, 8), (6, 1), (8, 1), (9, 1), (12, 1), (16, 5)]
def searchX : Request := { reqA 2 searchD with qvec := [0x3F800000, 0, 0, 0] }
def searchS : State := { reqS searchX with colls := [(0, collA)] }

theorem witness_SearchCommands_admit : searchS.atStage 1 2 = some searchX ∧ searchX.search = none ∧
    (let b := rdBlock searchX.desc 3 256
     searchS.coll? (sbColl b) = some collA ∧ searchBlockBad b = false ∧ (sbHost b = false → searchX.qvec.length = collA.dim) ∧
     sbMinEpoch b ≤ collA.epoch) := by decide +kernel

def batched : State := after (.searchAdmit 1 .poisoned) searchS

theorem witness_SearchCommands_batch : (batched.coll? 0).isSome = true ∧
    (∀ c ∈ batched.coll? 0, batched.batchOf c = [1]) := by decide +kernel

def resultX : Request := { searchX with search := some ⟨0, 5, 1, [], false, some (bytesOf 32 [(0, 5), (6, 3)])⟩ }

theorem witness_SearchCommands_result : (reqS resultX).atStage 1 2 = some resultX ∧
    resultX.search.bind (·.result) = some (bytesOf 32 [(0, 5), (6, 3)]) ∧ resultX.stageOutput ≠ bytesOf 32 [(0, 5), (6, 3)] := by decide +kernel

/-- An update of two entries, an insert and a delete, into the last free side slots. -/
def updateX : Request := { reqA 0 [] with kind := 2, block := bytesOf 64 [(0, 1), (4, 2)] }
def updateB : Bytes := bytesOf 48 [(0, 7), (16, 1)] ++ bytesOf 48 [(0, 8), (16, 2)]
def updateS : State := { reqS updateX with colls := [(0, collA)] }

theorem witness_UpdatesAndFolds_update : updateS.updateOf 0 = some (1, updateX) ∧ updateS.req? 1 = some updateX ∧
    updateS.coll? 0 = some collA ∧ updateBlockBad updateX.block = false ∧
    (let n := ubCount updateX.block
     let len := 32 + 4 * collA.dim
     updateS.windowConds (updateS.reqContext updateX) (field updateX.block 8 2) (field updateX.block 16 8) (n * len) false = [] ∧
     (∀ i < n, updateEntryBad collA.dim (slice updateB (i * len) len) = false) ∧ collA.side.length + n ≤ collA.sideCap ∧
     collA.epoch + 1 ≤ 0xFFFFFFFFFFFF) := by decide +kernel

/-- A graph map of one entry point and one range, over a bin table of one live bin with one item. -/
def foldMem : List Host.Cell :=
  Memory.writes (Memory.writes (Memory.writes [] 0x103000 (bytesOf 64 [(0, 0x104000), (6, 1), (8, 0x105000), (16, 0x106000), (24, 0x107000), (32, 1)]))
    0x108000 (bytesOf 16 [(0, 1), (2, 1), (4, 192)])) 0x108110 (bytesOf 16 [(8, 1)])

def foldF : FoldRequest := { job := 0, binTable := 0x103000, idIndex := 0x101000, graphMap := 0x108000, bins := 1, foldEpoch := 5 }
def foldS (c : Coll) : State := { hostS with colls := [(0, c)], mem := foldMem }

theorem witness_UpdatesAndFolds_fold : (foldS collA).coll? 0 = some collA ∧ (foldS collA).job? 0 = some jobA ∧ jobA.state ≠ .ended ∧
    collA.held = none ∧ collA.old.any (fun v => !v.pins.isEmpty) = false ∧
    (let s' := (foldS collA).releaseVersion 0 collA
     s'.coll? 0 = some collA ∧ s'.foldOk (s'.foldVersion collA foldF) = true ∧ collA.epoch + 1 ≤ 0xFFFFFFFFFFFF ∧
     foldF.foldEpoch ≤ collA.epoch) := by decide +kernel

/-- An older version that a query pins, the same with a switch held, and one without a pin. -/
def pinnedC : Coll := { collA with old := some { verA 0 with pins := [9] } }

theorem witness_UpdatesAndFolds_held : (foldS pinnedC).coll? 0 = some pinnedC ∧ pinnedC.held = none ∧
    pinnedC.old.any (fun v => !v.pins.isEmpty) = true ∧
    (let c := { collA with old := some (verA 0), held := some foldF }
     (foldS c).coll? 0 = some c ∧ c.held = some foldF ∧ c.old.any (fun v => !v.pins.isEmpty) = false ∧
     ((foldS c).releaseVersion 0 c).coll? 0 = some { c with old := none } ∧
     ((foldS c).releaseVersion 0 c).foldOk (((foldS c).releaseVersion 0 c).foldVersion { c with old := none } foldF) = true ∧
     c.old = some (verA 0) ∧ (verA 0).pins = []) := by decide +kernel

/-! ### Witnesses: tables (08) and text (09) -/

def tverA (n : Nat) (pins : List W32) : TabVersion :=
  { num := n, baseA := 0x100000, baseB := 0, hotSel := false, hotA := [], hotB := [], hotBuilt := true, pins := pins }

/-- A BF16 table of 4 elements and 8 rows. -/
def tableA : ETable :=
  { job := 0, composed := false, fmt := 2, dim := 4, mulshift := false, shardLog := 0, dieMask := 1, rowsA := 8, rowsB := 0, mult := 0, hotCap := 0,
    hotA := 0, hotB := 0, service := false, cur := tverA 1 [], old := none, held := none, built := none, staging := .open_, logCap := 2, log := [],
    arrivals := 0 }

/-- An EMBED stage's lookup of two indices from the host, the highest one among them, summed. -/
def lookD : Bytes := bytesOf 64 [(1, 1), (36, 1)] ++ bytesOf 64 [(0, 1), (1, 1), (4, 2), (8, 8), (9, 4)]
def lookT : Transfer := .data (bytesOf 8 [(0, 7), (4, 0)])
def lookS (x : Request) : State := { reqS x with tables := [(0, tableA)] }

theorem witness_TableCommands_lookup : (lookS (reqA 1 lookD)).atStage 1 1 = some (reqA 1 lookD) ∧ rdHas lookD 2 = true ∧
    (reqA 1 lookD).lookup = none ∧ (reqA 1 lookD).sketch = [] ∧
    (let b := rdBlock lookD 2 64
     (lookS (reqA 1 lookD)).table? (lbTable b) = some tableA ∧ lookupBlockBad b = false ∧
     (match lookupInput b [] 0 lookT with | .ok (xs, _, p) => xs == [7, 0] && !p | .error _ => false) = true ∧
     [7, 0].all tableA.indexOk = true) := by decide +kernel

def lookX (p : Bool) : Request := { reqA 1 lookD with lookup := some ⟨0, 1, true, 3, [7, 0], [0x3F800000, 0x3F800000], p⟩ }

theorem witness_TableCommands_done : ∀ p ∈ [true, false], (lookS (lookX p)).atStage 1 1 = some (lookX p) ∧
    (lookX p).lookup = some ⟨0, 1, true, 3, [7, 0], [0x3F800000, 0x3F800000], p⟩ ∧ (lookS (lookX p)).table? 0 = some tableA := by decide +kernel

/-- The mode object takes table 0, to RAW and to SERVICE. -/
def modeS : State := { kopS with tables := [(0, tableA)] }

theorem witness_TableCommands_mode : ∀ m ∈ [1, 2], mayB modeS 0x2520 2 (leBytes 4 (m * 2 ^ 16)) = true ∧
    bits (leNat (leBytes 4 (m * 2 ^ 16))) 10 6 = 0 ∧ modeS.table? (leNat (leBytes 4 (m * 2 ^ 16)) % 1024) = some tableA ∧
    (leNat (leBytes 4 (m * 2 ^ 16)) / 2 ^ 16 = m) ∧ tableA.cur.hotBuilt = true := by decide +kernel

/-- A batch of two entries that fills the log. -/
def stageX : Request := { reqA 0 [] with kind := 3, block := bytesOf 64 [(0, 1), (1, 2), (8, 12), (16, 2)] }
def stageB : Bytes := bytesOf 24 [(0, 7), (8, 0x3F800000)] ++ bytesOf 24 [(0, 0)]
def stageS : State := { reqS stageX with tables := [(0, tableA)] }

theorem witness_TableCommands_stage : stageS.stageOf 0 = some (1, stageX) ∧ stageS.req? 1 = some stageX ∧ stageS.table? 0 = some tableA ∧
    stageBlockBad stageX.block = false ∧
    (let n := tbCount stageX.block
     let sub := field stageX.block 4 1
     let len := 8 + 4 * tableA.dim
     ¬ (sub = 1 ∧ tableA.composed = false) ∧
     stageS.windowConds (stageS.reqContext stageX) (field stageX.block 20 2) (field stageX.block 24 8) (n * len) false = [] ∧
     (∀ i < n, zeros (slice stageB (i * len) len) 4 4 = true ∧ field (slice stageB (i * len) len) 0 4 < tableA.rows sub) ∧
     tableA.staging ≠ .none_ ∧ tableA.log.length + n ≤ tableA.logCap) := by decide +kernel

theorem witness_TableCommands_build : modeS.table? 0 = some tableA ∧ tableA.staging = .open_ ∧ tableA.built = none ∧ tableA.held = none := by
  decide +kernel

/-- A built version, beside an old one that is pinned, that is not, and none; a held one. -/
theorem witness_TableCommands_switch :
    let built := { tableA with built := some (tverA 2 []) }
    let s := fun (t : ETable) => ({ kopS with tables := [(1023, t)] } : State)
    (s { built with old := some (tverA 0 [9]) }).table? 1023 = some { built with old := some (tverA 0 [9]) } ∧
    ({ built with old := some (tverA 0 [9]) } : ETable).old.any (fun o => !o.pins.isEmpty) = true ∧
    ({ built with old := some (tverA 0 []) } : ETable).old.any (fun o => !o.pins.isEmpty) = false ∧
    ({ tableA with held := some (tverA 2 []) } : ETable).held = some (tverA 2 []) ∧ (tverA 0 []).pins = [] := by decide +kernel

theorem witness_TextCommands_inputs :
    let s := base.modDie 0 (fun x => { x with vcacheMiss := [gran], vcache := [(vset gran, (List.range 16).map (· * 2048))], textQ := List.replicate 63 5 })
    (0x100000 : Fa).toNat / 256 ∈ (s.die 0).vcacheMiss ∧ s.outstanding false ((0x100000 : Fa).toNat / 256 * 256) 256 = false ∧
    (s.die 0).textQ.length < 64 := by decide +kernel

/-- A request of one CONTROL segment, whose tokens are the ids it lists, over a vocabulary of job 0. -/
def vocabA : Vocab := { job := 0, dieMask := 1, base := 0x100000, bytes := 4096, ids := 100, merges := 0, pins := [1], unloading := false }
def tokD : Bytes := bytesOf 64 [(1, 16), (32, 1)] ++ bytesOf 64 [(0, 1), (16, 2), (18, 2), (20, 3), (24, 4)]
def tokX : Request := { reqA 0 tokD with state := .tokenising, vocabPin := some 0 }
def tokS : State := { reqS tokX with vocabs := [(0, vocabA)] }

theorem witness_TextCommands_tokenise : tokS.req? 1 = some tokX ∧ tokX.state = .tokenising ∧
    ((rdSegments tokX.desc).filter (fun g => g.kind == 1)).length ≤ 0 ∧
    (match laneBytes [] with | .ok ls => ls == [] | .error _ => false) = true ∧
    tokX.vocabPin.bind tokS.vocab? = some vocabA ∧ (∀ g ∈ rdSegments tokX.desc, g.kind = 3 → (KMap.find tokS.templates g.a).isSome = true) ∧
    (let toks := (shareLanes (rdSegments tokX.desc) []).map (tokS.segTokens (vocabA.copy (vocabA.worker tokX.home)))
     ∀ g ∈ granuleSet (toks.flatMap (·.2)), tokS.poisonedRange (g * 256) 256 = false) := by decide +kernel

/-- A text record before the first token, with a token to spell, and with one spelled. -/
def textT (em : List Nat) (n : Nat) : TextRec :=
  { die := 0, block := bytesOf 64 [(0, 1)], emitted := em, forcing := none, out := [], held := [], stop := none, hem := none, count := n,
    directive := none, limitHit := false }
def textX (em : List Nat) (n : Nat) : Request := { reqA 5 (bytesOf 64 [(1, 16), (46, 1)] ++ bytesOf 64 [(0, 1)]) with
  text := some (textT em n), vocabPin := some 0, prompt := [3, 4] }
/-- Vocabulary copy: 100 ids, the id table at 64, the spellings at 1024, id 0 spelled with 2 bytes. -/
def textS (em : List Nat) (n : Nat) : State :=
  { reqS (textX em n) with vocabs := [(0, vocabA)],
                           mem := Memory.writes (Memory.writes [] 0x100000 (bytesOf 64 [(4, 100), (16, 64), (20, 1024)])) 0x100040 (bytesOf 8 [(4, 2)]) }

theorem witness_TextCommands_step0 : (textS [] 0).req? 1 = some (textX [] 0) ∧ (textX [] 0).text = some (textT [] 0) ∧
    (textT [] 0).directive = none ∧ (textT [] 0).emitted = [] ∧ (textX [] 0).promptKnown = true := by decide +kernel

/-- An id of the vocabulary, and one beyond it. -/
theorem witness_TextCommands_detokenise : ∀ id ∈ [0, 99, 100], (textS [id] 0).atStage 1 5 = some (textX [id] 0) ∧
    (textS [id] 0).textCopy (textX [id] 0) = some (0, 0x100000) ∧ (textT [id] 0).emitted.getLast? = some id ∧
    (textT [id] 0).count + 1 = (textT [id] 0).emitted.length ∧ (textS [id] 0).poisonedRange ((textS [id] 0).idAt 0x100000 id) 8 = false := by
  decide +kernel

theorem witness_TextCommands_spelling : ∀ id ∈ [0, 99, 100],
    (textS [id] 0).poisonedRange ((textS [id] 0).spellAt 0x100000 id).1 ((textS [id] 0).spellAt 0x100000 id).2 = false := by decide +kernel

theorem witness_TextCommands_directive : (textS [7] 1).atStage 1 5 = some (textX [7] 1) ∧ (textX [7] 1).text = some (textT [7] 1) ∧
    (textS [7] 1).textCopy (textX [7] 1) = some (0, 0x100000) ∧ (textT [7] 1).directive = none ∧ (textT [7] 1).emitted ≠ [] ∧
    (textT [7] 1).count = (textT [7] 1).emitted.length := by decide +kernel

theorem witness_TextCommands_stop : ((textT [7] 1).out ++ (textT [7] 1).held).length ≤ 0 := by decide +kernel

/-! ### Witnesses: requests (10) -/

/-- A descriptor that only searches, the query from the host, and its request while the descriptor is read. -/
def descD : Bytes :=
  bytesOf 64 [(0, 1), (1, 2), (4, 5), (24, 1024), (38, 1)] ++ bytesOf 256 [(0, 1), (1, 1), (4, 8), (6, 1), (8, 1), (9, 1), (12, 1), (32, 0xFFC0)]
def descX : Request := { reqA 0 [] with state := .fetching, length := 320 }
def descS : State := { reqS descX with colls := [(0, collA)], vocabs := [(0, { vocabA with pins := [] })] }

theorem witness_RequestStages_accept : descS.req? 1 = some descX ∧ descX.kind = 1 ∧ descX.state = .fetching ∧
    slice descD 0 descX.length = descD ∧ (descS.dropReads 1).requestConds { descX with state := .checking } descD = [] ∧
    rdHas descD 0 = false ∧ nextStage { descX with desc := descD } = some 2 := by decide +kernel

def waitX : Request := { reqA 2 descD with state := .stageWait }
/-- The G job 0 that serves the request, not running yet. -/
def idleG : Job := { jobA with cls := 2, state := .idle, resident := false }

theorem witness_RequestStages_admit : ({ reqS waitX with colls := [(0, collA)] } : State).req? 1 = some waitX ∧ waitX.kind = 1 ∧
    waitX.state = .stageWait ∧ waitX.stage = 2 ∧ ({ reqS waitX with colls := [(0, collA)] } : State).stageJob waitX.desc 2 = some 0 ∧
    (reqS waitX).job? 0 = some jobA ∧ jobA.state = .running ∧
    ((reqS waitX).setJob 0 idleG).job? 0 = some idleG ∧ idleG.cls ≠ 1 ∧ idleG.state ≠ .ended := by decide +kernel

/-- A search that was the last stage, and one that another stage follows. -/
def handX (last : Bool) : Request :=
  { reqA 2 (if last then descD else bytesOf 64 [(1, 18)]) with stageOutput := [1], conds := if last then [.degraded] else [] }

theorem witness_RequestStages_handoff : ∀ l ∈ [true, false], (reqS (handX l)).req? 1 = some (handX l) ∧ Status.ofCode 0 = some .ok ∧
    Status.ofCode 3 = some .degraded ∧ (handX l).kind = 1 ∧ (handX l).state = .stage ∧ (handX l).stage ≠ 5 ∧ (handX l).stageOutput ≠ [] ∧
    (∀ c ∈ (handX l).conds, c = .degraded) ∧ nextStage (handX l) = (if l then none else some 5) := by decide +kernel

def modelA (kind : Nat) : Model :=
  { job := 0, kind := kind, vocab := 0, context := 16, streamed := true, textDie := 0, outDim := 2, maxBatch := 1, endIds := [], kvSram := 0,
    kvWait := 0, kvRegion := faDie 0x100000, weightMib := 1, logitDies := 1, listRegion := 0x300000, kvQueue := [] }
/-- A request as long as the model's context, without a sketch and with one. -/
def embX (sketch : Bool) : Request :=
  { reqA 1 (bytesOf 64 [(1, 1), (34, 1), (36, if sketch then 2 else 0)] ++ bytesOf 128 [(0, 1)]) with
    query := List.replicate 16 5, sketch := if sketch then [7] else [] }

theorem witness_RequestStages_embed : ∀ k ∈ [true, false], ({ reqS (embX k) with models := [(0, modelA 1)] } : State).atStage 1 1 = some (embX k) ∧
    ({ reqS (embX k) with models := [(0, modelA 1)] } : State).model? (embModel (embX k).desc) = some (modelA 1) ∧
    (embX k).query.length ≤ (modelA 1).context ∧ ([1, 2] : List W32).length = (modelA 1).outDim ∧ rdHas (embX k).desc 2 = k ∧
    (rdHas (embX k).desc 2 = true → (embX k).sketch ≠ []) := by decide +kernel

/-- A store of one passage, id 7, of two tokens. -/
def storeA : Store := { job := 0, vocab := 0, passages := 1, index := 0x100000 }
def storeMem : List Host.Cell :=
  Memory.writes (Memory.writes [] 0x100000 (bytesOf 16 [(0, 7), (8, 0x100040), (14, 2)])) 0x100040 (bytesOf 8 [(0, 41), (4, 42)])
def foundL : Bytes := List.replicate 64 0 ++ bytesOf 32 [(0, 2)] ++ bytesOf 32 [(0, 7), (16, 9)]
def rerankX : Request := { reqA 3 (bytesOf 64 [(1, 6), (40, 1)] ++ bytesOf 64 [(0, 1), (6, 2), (8, 1), (12, 100)]) with
  query := List.replicate 15 5, search := some ⟨0, 5, 1, [], false, some foundL⟩ }
def rerankS : State := { reqS rerankX with models := [(0, modelA 2)], stores := [(0, storeA)], mem := storeMem }

theorem witness_RequestStages_rerank : rerankS.atStage 1 3 = some rerankX ∧
    (let b := rdBlock rerankX.desc 4 64
     let cands := (listIds rerankX.searchList).take (field b 6 2)
     rerankS.model? (rrModel rerankX.desc) = some (modelA 2) ∧ rerankS.store? (field b 4 2) = some storeA ∧
     rerankX.query.length < (modelA 2).context ∧ rerankX.stageOutput = [] ∧ cands = [7, 9] ∧
     cands.length ≤ ([0x3F800000, 0x40000000] : List W32).length) := by decide +kernel

/-- A packing of the search's list after one CONTROL segment, within a budget that the passage fills exactly. -/
def packX : Request := { reqA 4 (bytesOf 64 [(1, 10), (32, 2), (42, 1)] ++
    bytesOf 64 [(0, 1), (4, 0xFFFF), (6, 3), (8, 4), (12, 1)] ++ bytesOf 16 [(0, 2)] ++ bytesOf 16 [(0, 2), (2, 1), (4, 3)] ++ bytesOf 16 [(0, 4)]) with
  segTokens := [[3], []], search := some ⟨0, 5, 1, [], false, some foundL⟩ }
def packS : State := { reqS packX with stores := [(0, storeA)], templates := [(3, ⟨0, 0, [50]⟩)], mem := storeMem }

theorem witness_RequestStages_pack : packS.atStage 1 4 = some packX ∧ packX.stageOutput = [] ∧
    (let b := rdBlock packX.desc 5 64
     packS.store? (field b 2 2) = some storeA ∧ field b 4 2 = 0xFFFF ∧ field b 6 2 ≠ 0xFFFF ∧
     (packS.template? (field b 6 2)).map (·.tokens) = some [50] ∧ (packX.segTokens.map (·.length)).sum ≤ field b 8 4) := by decide +kernel

/-- The packed prompt: the segment, then the passage and the separator (R257, R265). -/
theorem test_pack : (((after (.packStage 1) packS).req? 1).map (fun x => (x.prompt, x.packed, x.missing))) = some ([3, 41, 42, 50], 1, 0) := by
  decide +kernel

/-- A GENERATE request with a prompt that leaves just room for its 14 tokens; with a grammar, a list and a patch set, or with none. -/
def genX (fl : Nat) : Request :=
  { reqA 5 (bytesOf 64 [(1, 16), (44, 1)] ++ bytesOf 64 [(0, 1), (2, fl), (8, if fl = 7 then 9 else 0), (12, 14), (44, if fl = 7 then 2 else 0)]) with
    vocabPin := some 0, prompt := [3, 4] }
/-- Vocabulary copy: 4 ids, none of them a control id, the id table at 64, the spellings at 1024. -/
def genMem : List Host.Cell :=
  Memory.writes (Memory.writes [] 0x100000 (bytesOf 64 [(4, 4), (16, 64), (20, 1024)])) 0x100040
    (bytesOf 8 [(4, 1)] ++ bytesOf 8 [(4, 1)] ++ bytesOf 8 [(4, 1)] ++ bytesOf 8 [(4, 1)])
def genS (fl : Nat) (q : List W32) : State :=
  { reqS (genX fl) with vocabs := [(0, vocabA)], mem := genMem, models := [(0, { modelA 3 with kvQueue := q })], patches := [(9, ⟨0, 0, 0, 0, 0, [], false⟩)],
                        grammars := [(0, ⟨0, 0, 1, 0x101000, 64, 1, 0⟩)] }
def listT : Transfer := .data (bytesOf 8 [(0, 1), (4, 3)])

theorem witness_Generation_admit : ∀ fl ∈ [0, 7], ∀ q ∈ [[], [9]], (genS fl q).atStage 1 5 = some (genX fl) ∧
    (genS fl q).model? (genModel (genX fl).desc) = some { modelA 3 with kvQueue := q } ∧ (genX fl).kv = none ∧ (1 : W32) ∉ q ∧
    (genX fl).prompt.length + genMaxNew (genX fl).desc ≤ 16 ∧
    (let b := rdBlock (genX fl).desc 6 64
     genFlag (genX fl).desc 2 = decide (fl = 7) ∧ (genFlag (genX fl).desc 2 = true → (KMap.find (genS fl q).patches (field b 8 4)).isSome = true) ∧
     (genFlag (genX fl).desc 0 = true → ((genS fl q).grammar? (field b 6 2)).isSome = true) ∧
     (match (genS fl q).allowedList (genX fl) listT with
       | .ok l => l == (if fl = 7 then some [1, 3] else none)
       | .error _ => false) = true) ∧
    (genS fl q).kvFits 0 { modelA 3 with kvQueue := q } (genX fl) = true ∧ (genS fl q).recordsOf (modelA 3).textDie < 2048 := by decide +kernel

/-- All records of the text die taken, by requests of which one comes to generate. -/
def fullS : State :=
  { genS 0 [] with reqs := (1, genX 0) :: (List.range 2048).map (fun i => (i + 2, { genX 0 with text := some (textT [] 0) })) }

theorem witness_Generation_full : fullS.atStage 1 5 = some (genX 0) ∧ fullS.model? (genModel (genX 0).desc) = some (modelA 3) ∧
    2048 ≤ fullS.recordsOf (modelA 3).textDie ∧ fullS.recordsOf (modelA 3).textDie < 2049 := by decide +kernel

theorem witness_Generation_queue : (genS 0 [1, 9]).model? 0 = some { modelA 3 with kvQueue := [1, 9] } ∧ (genS 0 [1, 9]).req? 1 = some (genX 0) ∧
    (genS 0 [1, 9]).kvFits 0 { modelA 3 with kvQueue := [1, 9] } (genX 0) = true ∧ (genS 0 [1, 9]).atStage 1 5 = some (genX 0) ∧
    genModel (genX 0).desc = 0 ∧ (genX 0).allowed = none ∧
    (let x := { genX 7 with allowed := some [1, 3] }
     let s := (genS 7 [1, 9]).setReq 1 x
     s.model? 0 = some { modelA 3 with kvQueue := [1, 9] } ∧ s.req? 1 = some x ∧ s.kvFits 0 { modelA 3 with kvQueue := [1, 9] } x = true) := by
  decide +kernel

def decT (force : Option Nat) : TextRec := { textT [] 0 with directive := some ⟨0, force, false, [2]⟩ }
/-- A request that decodes its first token: greedy, or sampling over all ids; with or without a forced id. -/
def decX (sample : Nat) (force : Option Nat) (pre : Bool) : Request :=
  { reqA 5 (bytesOf 64 [(1, 16), (44, 1)] ++ bytesOf 64 [(0, 1), (1, sample), (12, 14), (16, 0x3F800000), (24, 0x3F800000)]) with
    text := some (decT force), vocabPin := some 0, prompt := [3, 4], kv := some 1, prefilled := pre }
def decS (sample : Nat) (force : Option Nat) (pre : Bool) : State :=
  { reqS (decX sample force pre) with vocabs := [(0, vocabA)], mem := genMem, models := [(0, modelA 3)] }
/-- Id 2 has the best logit but is banned; id 3 is no number; ids 0 and 1 are equal. -/
def logitsA : List Logit := [⟨0x3F800000, false⟩, ⟨0x3F800000, false⟩, ⟨0x40000000, true⟩, ⟨0x7FC00000, false⟩]

theorem witness_Generation_prefill : (decS 0 none false).atStage 1 5 = some (decX 0 none false) ∧ (decX 0 none false).kv.isSome = true ∧
    (decX 0 none false).prefilled = false := by decide +kernel

theorem witness_Generation_decode : ∀ k ∈ [0, 1], ∀ f ∈ [none, some 3], (decS k f true).atStage 1 5 = some (decX k f true) ∧
    (decX k f true).text = some (decT f) ∧ (decS k f true).textCopy (decX k f true) = some (0, 0x100000) ∧
    (decT f).directive = some ⟨0, f, false, [2]⟩ ∧ (decX k f true).generating = true ∧ (decT f).emitted = [] ∧
    logitsA.length = (decS k f true).vhdr 0x100000 4 ∧
    (let allowed := (List.range logitsA.length).filter (fun i => (decS k f true).idAllowed (decX k f true) 0x100000 i && !([2].contains i))
     let num := allowed.filter (fun i => !(isNan (logitsA.getD i ⟨0, false⟩).z))
     let b := rdBlock (decX k f true).desc 6 64
     allowed = [0, 1, 3] ∧ (∀ i ∈ allowed, (logitsA.getD i ⟨0, false⟩).poison = false) ∧ genSample (decX k f true).desc = decide (k = 1) ∧
     bestIds (if k = 1 then (if field b 20 2 = 0 then 256 else field b 20 2) else 1) logitsA num = (if k = 1 then [0, 1] else [0])) := by decide +kernel

/-- Greedy decoding takes the lower id of two equal logits, and no banned id (R271). -/
theorem test_decode : (((after (.decodeStep 1 logitsA) (decS 0 none true)).req? 1).map (·.generated)) = some [0] := by decide +kernel

/-- A request in WRITING whose search gave a result; one that was never checked. -/
def outX (ck : Bool) (n : Nat) : Request :=
  { reqA 2 descD with state := .writing, vocabPin := if ck then some 0 else none, conds := [.ok], outstanding := n, cring := 2 }

theorem witness_OutputsAndCompletions_output : (reqS (outX false 0)).req? 1 = some (outX false 0) ∧ (outX false 0).noOutput = true ∧
    (reqS (outX true 0)).req? 1 = some (outX true 0) ∧ (outX true 0).state = .writing ∧ (outX true 0).outDone = false ∧
    (outX true 0).noOutput = false ∧ (reqS (outX true 0)).window? (outX true 0).ctx (rdOutWindow (outX true 0).desc) = some winA ∧
    (reqS (outX true 0)).qpCause winA.qp = none ∧ (reqS (outX true 1)).req? 1 = some (outX true 1) ∧ (outX true 1).outstanding ≠ 0 := by
  decide +kernel

def doneX (rb : Bytes) : Request := { outX true 0 with outDone := true, resultBytes := rb }
def compS (rb : Bytes) (w : W32) (imm : Bool) : State := { reqS (doneX rb) with crings := [(2, { cringA with written := w, reserved := 1, imm := imm })] }

/-- The last slot of a pass and the first of the next. -/
theorem witness_OutputsAndCompletions_completion : ∀ w ∈ [15, 16],
    (compS [] (BitVec.ofNat 32 w) true).req? 1 = some (doneX []) ∧
    (compS [] (BitVec.ofNat 32 w) true).cring? (doneX []).cring = some { cringA with written := BitVec.ofNat 32 w, reserved := 1, imm := true } ∧
    (doneX []).settled = true ∧ (compS [] (BitVec.ofNat 32 w) true).cringUp cringA = true := by decide +kernel

theorem witness_OutputsAndCompletions_lost :
    let s : State := { compS [] 0 false with qps := [(3, { state := .error, cause := .retryExhausted })] }
    s.req? 1 = some (doneX []) ∧ (doneX []).settled = true ∧ (∀ c ∈ s.cring? (doneX []).cring, s.cringUp c = false) ∧
    (s.cring? (doneX []).cring).isSome = true := by decide +kernel

theorem witness_OutputsAndCompletions_ack : (compS [] 1 false).req? 1 = some (doneX []) := by decide +kernel

/-- The phase bit is 1 on even passes of the ring and 0 on odd ones (R334). -/
theorem test_completion_phase : ∀ e ∈ [((15 : W32), 1), (16, 0), (32, 1)],
    field ((compS [] e.1 false).completion 1 (doneX []) { cringA with written := e.1, reserved := 1 }) 63 1 = e.2 := by decide +kernel

/-! ### Witnesses: rings (12) -/

def ringKopS : State := { kopS with contexts := [(0, 0)], qps := [(3, { state := .rts })], crings := [(2, cringA)], rings := [(9, { ringA with link := 5 })] }
def ringV : Bytes := bytesOf 48 [(4, 1), (5, 16), (12, 2), (16, 77)]
def cringV : Bytes := bytesOf 48 [(0, 4095), (4, 2), (5, 4), (12, 3), (16, 77), (24, 0x4000), (36, 1), (37, 0xFFFF)]

theorem witness_RingsAndDoorbells_setup : ∀ v ∈ [ringV, cringV], mayB ringKopS 0x2300 3 v = true ∧ ringKopS.ringSetupBad v = false ∧
    (ringKopS.die (ringDie (rsRing v))).state = .ready ∧ ringKopS.ringRefused v = false ∧ rsComp v = decide (v = cringV) := by decide +kernel

theorem witness_RingsAndDoorbells_teardown : ∀ v ∈ [leBytes 4 9, leBytes 4 (2 ^ 24 + 2)], mayB ringKopS 0x2300 4 v = true ∧
    ringSelOk (leNat v) = true ∧ bit (leNat v) 24 = decide (v ≠ leBytes 4 9) ∧
    (let n := leNat v % 2 ^ 18
     (bit (leNat v) 24 = false → (ringKopS.ring? n).isSome = true ∧ ringKopS.boundJob n = none) ∧
     (bit (leNat v) 24 = true → (ringKopS.cring? n).isSome = true ∧ ∀ e ∈ ringKopS.rings, e.2.link ≠ n)) := by decide +kernel

theorem witness_RingsAndDoorbells_select : ∀ v ∈ [leBytes 4 0, leBytes 4 (2 ^ 16)], mayB ringKopS 0x2300 0x0C v = true ∧
    ringKopS.evSelBad (leNat v) = false := by decide +kernel

/-- The session has selected its context's queue, which holds two items. -/
def evKopS : State := { ringKopS with events := [(0, { depth := 512, overwrite := true, items := itemsA 2 true })] }

theorem witness_RingsAndDoorbells_rinse : mayB evKopS 0x2300 0x0E [0x01] = true ∧
    evKopS.selectedBy rq = some (.context 0, { depth := 512, overwrite := true, items := itemsA 2 true }) := by decide +kernel

def bellD (key val kind : Nat) : Bytes := bytesOf 16 [(0, key), (8, val), (12, kind)]
/-- A ring of 16 entries, its counts about to wrap: 4 entries announced, 2 of them fetched. -/
def bellR : ReqRing := { ringA with key := 77, head := 0xFFFFFFFD, tail := 0xFFFFFFFF }
def bellX : Request := { reqA 2 descD with index := 0xFFFFFFFC, ring := 262143 }
def bellS : State := { reqS bellX with rings := [(262143, bellR)], crings := [(262143, { cringA with key := 77, written := 4 })] }

/-- TAIL to a full ring and to one more entry; CANCEL of the two entries announced and of the last fetched; a wrong key. -/
theorem witness_RingsAndDoorbells_bells : bellS.ring? 262143 = some bellR ∧
    (∀ v ∈ [0, 13], (bellD 77 v 1).length = 16 ∧ dbKey (bellD 77 v 1) = bellR.key ∧ zeros (bellD 77 v 1) 13 3 = true ∧ dbKind (bellD 77 v 1) = 1 ∧
      0 < countDiff (dbValue (bellD 77 v 1)) bellR.tail ∧ (dbValue (bellD 77 v 1) - bellR.head).toNat ≤ 2 ^ bellR.depthLog) ∧
    (∀ v ∈ [0xFFFFFFFD, 0xFFFFFFFE], dbKind (bellD 77 v 3) = 3 ∧ countDiff (dbValue (bellD 77 v 3)) bellR.tail < 0 ∧
      0 ≤ countDiff (dbValue (bellD 77 v 3)) bellR.head) ∧
    countDiff (dbValue (bellD 77 0xFFFFFFFC 3)) bellR.tail < 0 ∧ countDiff (dbValue (bellD 77 0xFFFFFFFC 3)) bellR.head < 0 ∧
    bellS.reqs.find? (fun e => e.2.ring == 262143 && e.2.index == dbValue (bellD 77 0xFFFFFFFC 3)) = some (1, bellX) ∧ bellX.live = true ∧
    dbKey (bellD 76 0 1) ≠ bellR.key ∧ dbKind (bellD 76 0 1) ≠ 3 := by decide +kernel

theorem witness_RingsAndDoorbells_head : bellS.cring? 262143 = some { cringA with key := 77, written := 4 } ∧
    (∀ v ∈ [1, 4], (bellD 77 v 2).length = 16 ∧ dbKey (bellD 77 v 2) = 77 ∧ zeros (bellD 77 v 2) 13 3 = true ∧ dbKind (bellD 77 v 2) = 2 ∧
      0 < countDiff (dbValue (bellD 77 v 2)) 0 ∧ countDiff (dbValue (bellD 77 v 2)) 4 ≤ 0) := by decide +kernel

/-- Ring 1 of job 0 with one entry announced, the last its completion ring has room for. -/
def entryE (k : Nat) : Bytes := bytesOf 64 ([(0, k), (8, 7)] ++ if k = 1 then [(16, 0), (24, 0xFF00), (32, 256)] else []) ++ bytesOf 64 (if k < 2 then [] else [(0, 1)])
def entryR (k : Nat) (c : Bool) : ReqRing :=
  { ringA with head := 31, tail := 32, slots := [(15, entryE k)], cancelled := if c then [31] else [] }
def entryC : CompRing := { cringA with written := 10, reserved := 5 }
def entryS (k : Nat) (c : Bool) : State :=
  { hostS with rings := [(1, entryR k c)], crings := [(2, entryC)], windows := [(winKey 0 0, winA)], colls := [(0, collA)], tables := [(0, tableA)] }

theorem witness_EntryFetches : ∀ k ∈ [0, 1, 2, 3, 4], ∀ c ∈ [false, true], (entryS k c).fetchable 1 = some (entryR k c, entryC) ∧
    field ((entryR k c).entry (entryR k c).head) 0 1 = k := by decide +kernel

theorem witness_EntryFetches_request : let f := (entryS 1 false).fetch 1 (entryR 1 false) entryC
    f.2.1.conds = [] ∧ f.2.2.entryConds f.2.1 = [] ∧ (entryS 1 false).window? 0 f.2.1.window = some winA ∧
    (entryS 1 false).qpCause winA.qp = none ∧ ((entryS 1 true).fetch 1 (entryR 1 true) entryC).2.1.conds ≠ [] := by decide +kernel

theorem witness_EntryFetches_served : (let f := (entryS 2 false).fetch 1 (entryR 2 false) entryC
     f.2.1.conds = [] ∧ ((entryS 2 false).coll? (ubColl f.2.1.block)).map (·.job) = some f.2.1.job) ∧
    (let f := (entryS 3 false).fetch 1 (entryR 3 false) entryC
     f.2.1.conds = [] ∧ ((entryS 3 false).table? (tbTable f.2.1.block)).map (·.job) = some f.2.1.job) := by decide +kernel

/-! ### Witnesses: ports and queue pairs (12) -/

/-- Port A with a port state, under the mode stored. -/
def portS (x : PortState) (mode : Nat) : State := { base with portA := x, objs := [(okey 0x2401 1, [BitVec.ofNat 8 mode])] }

theorem witness_PortCommands_train : ∀ e ∈ [(0, 0xFF, 800, 0xFF), (2, 0x0F, 400, 0x0F), (0, 0xF0, 400, 0xF0)],
    ((portS { downRaised := true } e.1).port .a).rate = 0 ∧ (portS { downRaised := true } e.1).mayTrain .a = true ∧
    ((portS { downRaised := true } e.1).port .a).downRaised = true ∧
    trainRate ((portS { downRaised := true } e.1).portMode .a) (BitVec.ofNat 8 e.2.1) = some (e.2.2.1, BitVec.ofNat 8 e.2.2.2) ∧
    (portS { downRaised := true } e.1).recovery = false := by decide +kernel

/-- At 800 Gbit/s with the low half lost; on the low half with the high half gone too. -/
theorem witness_PortCommands_fallback : (portS { rate := 800, lanes := 0xFF } 0).port .a = { rate := 800, lanes := 0xFF } ∧
    lanesTrain (0xFF : Byte) 0xF0 = false ∧ fallbackTo ((portS { rate := 800, lanes := 0xFF } 0).portMode .a) 800 0xFF 0xF0 = some 0xF0 ∧
    lanesTrain (0x0F : Byte) 0x07 = false ∧ fallbackTo ((portS { rate := 400, lanes := 0x0F } 0).portMode .a) 400 0x0F 0x07 = none := by
  decide +kernel

theorem witness_PortCommands_mode : ∀ p ∈ [Port.a, .b], ∀ n ∈ [0, 2], mayB kopS (portIndex p) 1 (leBytes 1 n) = true ∧ leNat (leBytes 1 n) ≤ 2 := by
  decide +kernel

def pfcS (f : PfcState) : State := portS { rate := 400, lanes := 0x0F, pfc1 := f } 0

theorem witness_PortCommands_pause : ((pfcS { xoff := true }).port .a).pfc true = { xoff := true } ∧ (393216 : Nat) ≤ 393216 ∧
    ((pfcS {}).port .a).rate ≠ 0 ∧ (pfcS {}).lossless 4 = some true ∧ ((pfcS {}).port .a).pfc true = {} ∧
    ((pfcS { paused := true }).port .a).pfc true = { paused := true } ∧ ((pfcS { ignoring := true }).port .a).pfc true = { ignoring := true } := by
  decide +kernel

def frameA (len : Nat) (k : FrameKind) : Frame := ⟨len, 0, 0, none, some 4, 0, true, k, 655360⟩

/-- The longest frame, one byte more, a fragment, and a RoCE frame for a queue pair that is not set up. -/
theorem witness_PortCommands_frames : frameCut (frameA 4352 .arp) = false ∧ (pfcS {}).lossless (framePrio (frameA 4352 .arp)) = some true ∧
    655360 ≤ (frameA 4352 .arp).buffered ∧ frameCut (frameA 4353 .arp) = true ∧ (frameA 64 .fragment).kind = .fragment ∧
    qpOfQpn 0x13FFF = some 16383 ∧ (pfcS {}).rts 16383 = none ∧ qpOfQpn 0x14000 = none ∧ ((pfcS {}).port .a).rate ≠ 0 := by decide +kernel

/-- `kopS` with a claim record that gives port A an IPv4 address, and its link up. -/
def routS : State :=
  { kopS with kop := { kopS.kop with record := bytesOf 96 [(2, 2)] }, contexts := [(0, 0)] }
/-- Queue pair 16383, an ADMIN one of port A over IPv4, its retry count and timeout the highest. -/
def qpV : Bytes := bytesOf 64 [(0, 16383), (3, 3), (20, 7), (34, 0xFFFF), (36, 0x0B000001), (41, 1), (42, 7), (43, 31), (44, 7)]

theorem witness_QueuePairs_setup : mayB routS 0x2300 7 qpV = true ∧ routS.qpSetupBad qpV = false ∧
    routS.routable (qpPortOf qpV) (bit (qpFlags qpV) 0) = true ∧ readyBit routS (5 + (qpPortOf qpV).code) = true ∧ routS.qp? (qpNumber qpV) = none ∧
    routS.qps = [] := by decide +kernel

/-- Queue pair 3 of context 0 with operations in flight, and a window that names it. -/
def qpA : Qp := { state := .rts, rkey := 7, rateKbps := 1000001, retryCnt := 2, rnrRetry := 1, out := [.event, .completion 1] }
def qpS (x : Qp) : State :=
  { kopS with contexts := [(0, 0)], qps := [(3, x)], windows := [(winKey 0 0, winA), (winKey 0 1, { winA with qp := 4 })],
              rings := [(9, { ringA with depthLog := 4 })] }

theorem witness_QueuePairs_reset : mayB (qpS qpA) 0x2300 8 (leBytes 2 3) = true ∧ leNat (leBytes 2 3) ≤ 16383 ∧
    ((qpS qpA).qp? (leNat (leBytes 2 3))).isSome = true := by decide +kernel

/-- A window of 64 bytes on queue pair 3, the last of its context; and its deletion. -/
theorem witness_QueuePairs_window : ∀ n ∈ [0, 64], mayB (qpS qpA) 0x2300 0x0B (bytesOf 36 [(12, n), (20, 3), (22, 3), (28, 255)]) = true ∧
    (qpS qpA).windowBad (bytesOf 36 [(12, n), (20, 3), (22, 3), (28, 255)]) = false := by decide +kernel

theorem witness_QueuePairs_rates : (qpS qpA).rts 3 = some qpA ∧ (qpS qpA).lineRate qpA.port ≠ 0 := by decide +kernel

/-- NAKs: tries spent; RNR tries at the limit, one below it, and without a limit; a timeout with tries left and with none. -/
theorem witness_QueuePairs_naks : ((NakKind.rnr = .rnr) → ({ qpA with rnrTries := 1 } : Qp).rnrRetry ≠ 7 ∧
      ({ qpA with rnrTries := 1 } : Qp).rnrRetry ≤ ({ qpA with rnrTries := 1 } : Qp).rnrTries) ∧
    (qpS { qpA with rnrTries := 1 }).rts 3 = some { qpA with rnrTries := 1 } ∧ qpA.out = .event :: [.completion 1] ∧
    qpA.rnrTries < qpA.rnrRetry ∧ ({ qpA with rnrRetry := 7 } : Qp).rnrRetry = 7 ∧ (qpS { qpA with rnrRetry := 7 }).rts 3 = some { qpA with rnrRetry := 7 } ∧
    ({ qpA with tries := 1 } : Qp).tries < qpA.retryCnt ∧ qpA.retryCnt ≤ ({ qpA with tries := 2 } : Qp).tries ∧
    (qpS { qpA with tries := 2 }).rts 3 = some { qpA with tries := 2 } := by decide +kernel

/-- Entries into the last slots of ring 9, and one slot past them. -/
theorem witness_QueuePairs_writes : ((qpS qpA).port .a).rate ≠ 0 ∧ (qpS qpA).rts 3 = some qpA ∧ (7 : W32) = qpA.rkey ∧
    (qpS qpA).ring? 9 = some ringA ∧
    (qpS qpA).writeTarget qpA.ctx (2 ^ 44 + 9 * 2 ^ 23 + 128 * 14) 256 = some (.entries 9 14) ∧
    (qpS qpA).writeTarget qpA.ctx (2 ^ 44 + 9 * 2 ^ 23 + 128 * 15) 256 = none ∧ (8 : W32) ≠ qpA.rkey := by decide +kernel

theorem test_cnp : ((after (.cnpReceive 3) (qpS qpA)).qp? 3).map (·.rateKbps) = some 1000000 := by decide +kernel

/-! ### Witnesses: jobs and the schedule (11) -/

/-- No job is loaded. -/
def idleS : State := { kopS with jobs := [], tiles := [], qps := [(3, { state := .rts, flags := 2 })] }

/-- A partition of the last row, and the value that removes one. -/
theorem witness_JobCommands_partition : ∀ v ∈ [bytesOf 4 [(0, 7), (2, 1), (3, 8)], bytesOf 4 []], mayB idleS 0x2201 16 v = true ∧
    partBad v = false ∧
    (∀ e ∈ ({ idleS with parts := [(0, { row := 0, col := 0, rows := 7, cols := 8 })] } : State).parts, e.1 ≠ 15 → e.2.meets (partOf v) = false) ∧
    mayB { idleS with parts := [(0, { row := 0, col := 0, rows := 7, cols := 8 })] } 0x2201 16 v = true ∧ (∀ e ∈ idleS.jobs, e.2.part ≠ 15) := by
  decide +kernel

def loadV (n : Nat) : Bytes := bytesOf 32 [(8, n), (16, 3), (18, 255)]

theorem witness_JobCommands_load : mayB idleS 0x2200 2 (loadV 64) = true ∧ idleS.loadBad (loadV 64) = false := by decide +kernel

/-- An image of a Q job on one tile: a SAVE region just large enough and a CODE region. -/
def imgA : Bytes :=
  bytesOf 64 [(0, 1), (1, 1), (4, 128), (6, 2)] ++ bytesOf 16 [(0, 1), (4, 1), (8, 96), (12, 8)] ++ bytesOf 16 [(0, 2), (4, 2), (8, 104), (12, 32)] ++
  bytesOf 8 [(6, 1)] ++ bytesOf 16 [(0, 0x100000), (6, 3), (7, 12), (8, 17)] ++ bytesOf 16 [(0, 0x200000), (6, 4), (7, 12), (8, 1)]
def loadS : State := { idleS with regions := [⟨0, 0, true, true, true, 0, 0x100000, 0x110000⟩], load := some ⟨rq, loadV 136, 0⟩, parts := [(0, { row := 0, col := 0, rows := 1, cols := 1 })] }

theorem witness_JobCommands_admit : loadS.load = some ⟨rq, loadV 136, 0⟩ ∧ loadS.fills = [] ∧ imgA.length = field (loadV 136) 8 4 ∧
    loadS.partNotReady (field imgA 3 1) = false ∧ formatFault imgA (jobOf imgA 0) = none ∧
    loadS.imageFault (ldHandle (loadV 136)) imgA (jobOf imgA 0) = none := by decide +kernel

/-- Handle 255 in a state, not RESIDENT and RESIDENT. -/
def jobS (jb : Job) : State := { kopS with jobs := [(255, jb)] }

theorem witness_JobCommands_unload : ∀ st ∈ [JobState.running, .saving, .idle, .restoring, .ended], ∀ r ∈ [false, true],
    (let s := jobS { jobA with state := st, resident := r }
     mayB s 0x2200 4 (leBytes 1 255) = true ∧ (s.job? (leNat (leBytes 1 255))).map (fun jb => (jb.state, jb.resident, jb.unload)) = some (st, r, false)) := by
  decide +kernel

/-- The other tile goes on; the other tile has ended. -/
theorem witness_JobCommands_end : base.seqJob 0 = some 0 ∧ (∃ d ∈ jobA.tiles, d.tile ≠ 0 ∧ d.tile ∉ jobA.endedTiles) ∧
    (base.setJob 0 { jobA with endedTiles := [1] }).seqJob 0 = some 0 ∧
    (∀ d ∈ jobA.tiles, d.tile = 0 ∨ d.tile ∈ ({ jobA with endedTiles := [1] } : Job).endedTiles) := by decide +kernel

theorem witness_JobCommands_privileged : mayB kopS 0x2200 5 (List.replicate 32 0x80) = true := by decide +kernel

/-- A table of two slots: a Q slot that lists job 0, and a B slot. -/
def cycleV : Bytes := bytesOf 16 [(0, 1), (1, 2), (4, 9)] ++ bytesOf 48 [(0, 100000), (4, 1), (16, 1)] ++ bytesOf 48 [(0, 10), (4, 3), (5, 1)]
def noSlots : Bytes := bytesOf 16 [(0, 1), (4, 9)]
def partA : Partition := { row := 0, col := 0, rows := 8, cols := 8 }
/-- Partition 0 with a table, job 0 a Q job that may leave its tiles. -/
def qJob (st : JobState) : Job := { jobA with cls := 1, resident := false, state := st }
def cycS (pt : Partition) (st : JobState) : State := { kopS with parts := [(0, pt)], jobs := [(0, qJob st)] }
def tabA : CycleTable := tableOfBytes cycleV

theorem witness_CycleCommands_table : ∀ pt ∈ [partA, { partA with table := some tabA }], ∀ v ∈ [cycleV, noSlots],
    mayB (cycS pt .running) 0x2210 1 v = true ∧ (cycS pt .running).tableBad 0 v = false ∧ (cycS pt .running).tableRefused 0 (tableOfBytes v) = false ∧
    ((cycS pt .running).part? 0).map (·.table) = some pt.table ∧ ((tableOfBytes v).slots = [] ↔ v = noSlots) := by decide +kernel

/-- The last slot of the table, with another table waiting and with none; the first slot. -/
theorem witness_CycleCommands_slots : (∀ nx ∈ [none, some tabA, some (tableOfBytes noSlots)],
      (cycS { partA with table := some tabA, slot := 1, next := nx } .running).part? 0 = some { partA with table := some tabA, slot := 1, next := nx }) ∧
    tabA.slots.length ≤ 1 + 1 ∧ (cycS { partA with table := some tabA } .running).part? 0 = some { partA with table := some tabA } ∧
    0 + 1 < tabA.slots.length := by decide +kernel

theorem witness_CycleCommands_boundary : (∀ st ∈ [JobState.running, .restoring, .idle, .saving, .ended], (cycS partA st).job? 0 = some (qJob st) ∧
    (qJob st).resident = false) ∧ base.job? 0 = some jobA ∧ jobA.resident = true := by decide +kernel

/-- Job 0 saving its two tiles, in the running slot or not. -/
def savJ : Job := { qJob .saving with savePending := [0, 1] }
def savS (rs : List Nat) (jb : Job) : State := { cycS { partA with residents := rs } .saving with jobs := [(0, jb)] }

theorem witness_SavesAndRestores_done : ∀ rs ∈ [[], [0]], (savS rs savJ).job? 0 = some savJ ∧ savJ.state = .saving ∧ savJ.cheapWait = [] ∧
    savJ.unload = false ∧ (∀ t ∈ savJ.savePending, (savS rs savJ).fencing t = false) ∧
    ((((savS rs savJ).part? savJ.part).map (fun p => p.residents.contains 0)) = some true ↔ rs = [0]) ∧ savJ.resident = false ∧
    (∀ e ∈ (savS rs savJ).jobs, e.1 ≠ 0 → e.2.sharesDie savJ = true → e.2.state = .running ∨ e.2.state = .ended) := by decide +kernel

/-- Job 0 waiting for its restore; beside another job of its die that still saves, it waits on. -/
def waitS (other : Bool) : State :=
  { savS [0] (qJob .idle) with jobs := (0, qJob .idle) :: if other then [(1, qJob .saving)] else [] }

theorem witness_SavesAndRestores_begin : (∀ o ∈ [true, false], (waitS o).job? 0 = some (qJob .idle)) ∧ (qJob .idle).cls ≠ 3 ∧
    (waitS false).mayRestore 0 (qJob .idle) = true ∧ (savS [] (qJob .idle)).awaitsRestore 0 (qJob .idle) = false ∧
    (∃ e ∈ (waitS true).jobs, e.1 ≠ 0 ∧ e.2.state = .saving ∧ e.2.sharesDie (qJob .idle) = true) := by decide +kernel

/-- A cheap point of both tiles; at it, and with its gap run out. -/
def cheapE : CheapEntry := ⟨5, 0xFFFF, [(0x40, 64)], 3⟩
def chpJ : Job := { qJob .saving with cheap := [cheapE], cheapWait := [0, 1], cheapSave := true }

theorem witness_SavesAndRestores_cheap : (savS [] chpJ).seqJob 0 = some 0 ∧ (savS [] chpJ).job? 0 = some chpJ ∧ chpJ.cheapFor 5 0 = some cheapE ∧
    (savS [] chpJ).cheapValid 0 = true ∧
    (let s := (savS [] chpJ).modTile 0 (fun x => { x with selQ := [[]] })
     s.seqJob 0 = some 0 ∧ s.job? 0 = some chpJ ∧ s.cheapValid 0 = false) ∧
    ((savS [] chpJ).tile 0).job = some 0 ∧ 0 ∈ chpJ.cheapWait ∧ (savS [] chpJ).fencing 0 = false := by decide +kernel

def restJ : Job := { qJob .restoring with saved := [(0, initialRec 0 jobA 0), (1, initialRec 0 jobA 1)] }
def restS : State := { savS [0] restJ with tiles := [] }

theorem witness_SavesAndRestores_restore : restS.job? 0 = some restJ ∧ restJ.state = .restoring ∧ restJ.started = true ∧
    (∀ d ∈ restJ.tiles, (restS.tile d.tile).job = none ∧ (restS.die (dieOf d.tile)).state = .ready) ∧
    (∀ d ∈ restJ.tiles, (KMap.find restJ.saved d.tile).isSome = true) := by decide +kernel

/-- Job 0 a G job whose step takes 100 µs, on tiles 0 and 1. -/
def gJob (st : StepState) (asked : Bool) : Job := { jobA with cls := 2, wcet := 140000, step := st, asked := asked, resident := false }
def gS (st : StepState) (asked : Bool) : State := base.setJob 0 (gJob st asked)

theorem witness_StepCommands_begin : (gS .none_ false).leadJob 0 = some (0, gJob .none_ false) ∧
    (gS .running false).leadJob 0 = some (0, gJob .running false) ∧ (gS .rerunRunning true).leadJob 0 = some (0, gJob .rerunRunning true) := by
  decide +kernel

/-- A grant with just enough time, and with one microsecond too little. -/
theorem witness_StepCommands_grant : (∀ st ∈ [StepState.none_, .asked, .rerunPending], (gS st true).job? 0 = some (gJob st true) ∧
      (gJob st true).state = .running ∧ (gJob st true).asked = true ∧ (gS st true).stepFits (gJob st true) 100 = true) ∧
    (gS .none_ true).stepFits (gJob .none_ true) 99 = false := by decide +kernel

theorem witness_StepCommands_expiry : (gS .running false).job? 0 = some (gJob .running false) ∧ (gJob .running false).step = .running ∧
    (gS .rerunRunning true).job? 0 = some (gJob .rerunRunning true) ∧ (gJob .rerunRunning true).step = .rerunRunning ∧
    ({ gS .rerunRunning true with reqs := [(1, decX 0 none true)] } : State).batchReqs 0 = [1] := by decide +kernel

theorem witness_StepCommands_wait : ((base.await 0 (.select 7)).tile 0).job = some 0 ∧ (base.await 0 (.select 7)).job? 0 = some jobA ∧
    jobA.state = .running ∧ jobA.unload = false ∧ ((base.await 0 (.select 7)).tile 0).timedWait = true := by decide +kernel

/-! ### Witnesses: resets, bring-up, supply (17, 16, 19) -/

theorem witness_ModuleResets_kop : ∀ v ∈ ([[1], [2]] : List Bytes), mayB kopS 0x1200 1 v = true ∧ kopS.fuses.blowing = none := by decide +kernel

def pendS (k : ResetKind) : State := { kopS with boot := { kopS.boot with pendingReset := some k } }

theorem witness_ModuleResets_begin : (pendS .warm).fuses.blowing = none ∧ (pendS .warm).boot.pendingReset = some .warm ∧
    (pendS .cold).boot.pendingReset = some .cold := by decide +kernel

theorem witness_ModuleResets_pins : base.power.good = true ∧ base.extest = false ∧ .resetN ∉ base.power.hold ∧ base.fuses.blowing = none ∧
    ({ base with fuses := { base.fuses with blowing := some (.seal rq false) } } : State).fuses.blowing.isSome = true := by decide +kernel

def powS (p : Power) : State := { base with power := p }

/-- Power comes at both ends of its range; the pin is released; the reference is back. -/
theorem witness_ModuleResets_leave : (powS { good := false, hold := [.power] }).power.good = false ∧
    (powS { good := false, hold := [.power] }).power.charged = true ∧ (46000 : Nat) ≤ 46000 ∧ (58000 : Nat) ≤ 58000 ∧
    (powS { hold := [.resetN] }).power.good = true ∧ .resetN ∈ (powS { hold := [.resetN] }).power.hold ∧
    .reference ∈ (powS { hold := [.reference] }).power.hold ∧ (powS { clkSel := 2 }).power.hold = [] ∧ (powS { clkSel := 2 }).power.clkSel ≠ 0 := by
  decide +kernel

/-- A first expiry of the watchdog, and a second one just within 10 s. -/
theorem witness_ModuleResets_watchdog : base.power.good = true ∧ base.power.hold = [] ∧ base.boot.mode ≠ .none_ ∧ base.fuses.blowing = none ∧
    base.boot.watchdogRecent = none ∧
    (let s : State := { base with now := 5 + 10 * watchHz, boot := { base.boot with watchdogRecent := some 5 } }
     s.boot.watchdogRecent = some 5 ∧ s.now ≤ 5 + 10 * watchHz) := by decide +kernel

/-- A cold reset counts itself and forgets the counters; a warm one keeps them (R453, R454). -/
theorem test_resets : ((base.bump 9 7).cold 2 []).cnt = [] ∧ ((base.bump 9 7).cold 2 []).ledger.coldResets = 1 ∧ ((base.bump 9 7).warm 4).count 9 = 7 := by
  decide +kernel

theorem witness_PartResets_die : leNat (leBytes 1 63) = 63 ∧ mayB kopS 0x1200 2 (leBytes 1 63) = true ∧ kopS.isRetired (.die 63) = false ∧
    kopS.dieTooHot 63 = false ∧ (∀ e ∈ kopS.holders, e.2.onDie 63 = false) ∧ kopS.rings = [] ∧ kopS.boot.dieResets = [] := by decide +kernel

theorem witness_PartResets_tile : leNat (leBytes 2 9215) = 9215 ∧ mayB kopS 0x1200 3 (leBytes 2 9215) = true ∧
    kopS.isRetired (.tile 9215) = false ∧ kopS.isRetired (.die (dieOf 9215)) = false ∧ (kopS.die (dieOf 9215)).state = .ready ∧
    (∀ e ∈ kopS.holders, (e.2.tileDecl 9215).isNone = true) := by decide +kernel

/-- Context 7 with a ring and a queue pair, being reset or not. -/
def ctxS (rs : List (Nat × Requester)) : State :=
  { kopS with contexts := [(0, 0), (7, 0)], rings := [(9, { ringA with ctx := 7, tail := 3 }), (10, ringA)], boot := { kopS.boot with ctxResets := rs },
              qps := [(3, { state := .rts, ctx := 7 }), (4, { state := .rts, out := [.completion 1] })] }

theorem witness_PartResets_context : mayB (ctxS []) 0x1200 4 (leBytes 2 7) = true ∧ leNat (leBytes 2 7) = 7 ∧ (ctxS []).contextLive 7 = true ∧
    (ctxS []).boot.ctxResets = [] ∧ (∃ e ∈ (ctxS [(7, rq)]).boot.ctxResets, e.1 = 7) ∧ (ctxS [(7, rq)]).reqs = [] := by decide +kernel

theorem witness_PartResets_escalate : base.isRetired (.die 0) = false ∧ (base.die 0).state = .ready ∧ jobA.onDie 0 = true ∧ jobA.state ≠ .ended := by
  decide +kernel

/-- Before boot, with each strap; with and without a record in the ledger. -/
def strapS (b : BitVec 2) (l : Ledger) : State := { power := { bootSel := b }, ledger := l }

theorem witness_BringUp_rom : ∀ b ∈ [0, 1, 2, 3], (strapS (BitVec.ofNat 2 b) {}).power.good = true ∧ (strapS (BitVec.ofNat 2 b) {}).power.hold = [] ∧
    (strapS (BitVec.ofNat 2 b) {}).boot.mode = .none_ ∧
    (strapS (BitVec.ofNat 2 b) { act := {} }).ledger.act.bank0 = none ∧ (strapS (BitVec.ofNat 2 b) { act := {} }).ledger.act.bank1 = none := by
  decide +kernel

/-- The module controller's firmware runs from slot A. -/
def upS (p : Power) (x : Die) : State := { boot := { mode := .slot }, power := p, dies := [(63, x)] }

theorem witness_BringUp_keys : ({ boot := { mode := .slot, ready := 3 } } : State).recovery = false ∧
    readyBit ({ boot := { mode := .slot, ready := 3 } } : State) 1 = true ∧ readyBit ({ boot := { mode := .slot, ready := 3 } } : State) 2 = false := by
  decide +kernel

theorem witness_BringUp_power : (upS { coolantOk := true, groups := 7 } {}).running = true ∧ (upS { coolantOk := true, groups := 7 } {}).power.groups < 8 := by
  decide +kernel

/-- A manifest whose parts 3 to 5 are one erased byte each. -/
def partM : Bytes := List.replicate 192 0 ++ (bytesOf 16 [(8, 1)] ++ sha256 [0xFF] ++ List.replicate 16 0) ++
  (bytesOf 16 [(8, 1)] ++ sha256 [0xFF] ++ List.replicate 16 0) ++ (bytesOf 16 [(8, 1)] ++ sha256 [0xFF] ++ List.replicate 16 0)
def pllS : State := { boot := { mode := .slot, manifest := partM }, dies := [(63, { powered := true })] }

theorem witness_BringUp_pll : pllS.running = true ∧ (pllS.die 63).powered = true ∧ (pllS.die 63).pll = false ∧ (pllS.die 63).state = .off ∧
    pllS.isRetired (.die 63) = false ∧ pllS.imagePartOk 2 = true ∧ pllS.imagePartOk 3 = true ∧ pllS.imagePartOk 4 = true := by decide +kernel

theorem witness_BringUp_phy : ∀ k ∈ [true, false], (let s := upS {} { powered := true, pll := true, skipFill := k }
    s.running = true ∧ (s.die 63).pll = true ∧ (s.die 63).phy = false ∧ (s.die 63).state = .off ∧ s.isRetired (.die 63) = false) := by decide +kernel

/-- Limits of the governor at their edges: 17,000 W by default, 95 % of it to release, 19,000 W for a trip. -/
theorem witness_SupplyCommands_governor : base.running = true ∧ base.powerLimit < 17001 ∧ ¬ (base.powerLimit < 17000) ∧ (base.die 0).powered = true ∧
    (base.die 0).stretched = false ∧ 100 * 16149 < 95 * base.powerLimit ∧
    ((base.modDie 0 (fun x => { x with governor := true })).die 0).governor = true ∧ 19000 < (19001 : Nat) := by decide +kernel

/-- The bus at the edges of its bands. -/
theorem witness_SupplyCommands_bus : (powS { good := false }).power.good = false ∧ base.power.good = true ∧ 58000 < (58001 : Nat) ∧
    (powS { band := .high }).power.band = .high ∧ (powS { band := .low }).power.band = .low ∧ (43999 : Nat) < 44000 ∧ 60000 < (60001 : Nat) := by
  decide +kernel

def hotS (n : Nat) (t : Int) : State := base.modDie 0 (fun x => { x with thermal := n, temp := t })

theorem witness_ThermalCommands_dies : (base.die 0).powered = true ∧ base.dieWarn ≤ 9500 ∧ (base.die 0).thermal = 0 ∧ (9499 : Int) < (hotS 1 9500).dieWarn ∧
    ((hotS 1 9500).die 0).thermal = 1 ∧ base.dieThrottle ≤ 10500 ∧ ((hotS 1 9500).die 0).thermal < 2 ∧ (9999 : Int) < (hotS 2 9500).dieThrottle - 500 ∧
    ((hotS 2 9500).die 0).thermal = 2 ∧ ((hotS 2 9500).die 0).thermal ≠ 3 ∧ base.isRetired (.die 0) = false ∧
    ((hotS 2 9500).die 0).powered = true := by decide +kernel

def coolS (hold ok : Bool) (ds : NSet) : State := { base with power := { coolantHold := hold, coolantOk := ok, heldDies := ds } }

theorem witness_ThermalCommands_coolant : (coolS false false []).awake = true ∧ (coolS false false []).power.coolantHold = false ∧
    (∀ e ∈ [((4500 : Int), 449, false), (5001, 600, false), (999, 600, false), (1800, 600, true)], coolantOutside e.1 e.2.1 e.2.2 = true) ∧
    (coolS true true [0]).power.coolantHold = true ∧ (∀ e ∈ [((1800 : Int), 600), (4500, 1200)], coolantInRange e.1 e.2 = true) ∧
    (coolS false true [0]).power.coolantHold = false ∧ (9000 : Int) ≤ 9000 ∧ (0 : Nat) ∈ (coolS false true [0]).power.heldDies ∧
    (coolS false false []).power.coolantOk = false := by decide +kernel

/-! ### Witnesses: firmware, fuses, the ledger, the log, the TAP (18, 17, 16, 19) -/

/-- A module that runs slot A, and one whose network boot waits for its image. -/
def netS : State := { kopS with boot := { kopS.boot with mode := .network, waiting := true } }

theorem witness_FirmwareCommands_prepare : mayB kopS 0x2801 1 (leBytes 2 1792) = true ∧ mayB kopS 0x2801 1 (leBytes 2 8) = true ∧
    leNat (leBytes 2 1792) = 1792 ∧ 1792 ≤ kopS.stageMax ∧ kopS.prepareRefused = false ∧ kopS.networkWait = false ∧
    mayB netS 0x2801 1 (leBytes 2 1024) = true ∧ 1024 ≤ netS.stageMax ∧ netS.prepareRefused = false ∧ netS.networkWait = true := by decide +kernel

def stgS (st : Staging) : State := { kopS with boot := { kopS.boot with stage := st } }

theorem witness_FirmwareCommands_erase : (stgS { state := .erasing, prepared := 8 }).boot.stage.state = .erasing ∧
    7 < (stgS { state := .erasing, prepared := 8 }).boot.stage.prepared := by decide +kernel

/-- A staged image that was verified, though its slot now reads erased. -/
theorem witness_FirmwareCommands_activate : ∀ v ∈ ([[1], [2], [3]] : List Bytes), mayB (stgS { state := .verified, targetB := true }) 0x2801 4 v = true ∧
    (stgS { state := .verified, targetB := true }).boot.mode ≠ .network ∧ (stgS { state := .verified, targetB := true }).boot.stage.state = .verified ∧
    (stgS { state := .verified, targetB := true }).slotFault (stgS { state := .verified, targetB := true }).ledger.flash (slotBase true) = some (1, none) := by
  decide +kernel

def trialA : ActRec := { slotB := true, trial := true, attempts := 2 }
/-- Slot B in TRIAL, its release of rollback value 0x05060708, and a counter of rollback fuses. -/
def trialS (n : Nat) : State :=
  { kopS with ledger := { kopS.ledger with act := { bank1 := some ⟨0, trialA⟩, inForce := some true },
                                           flash := Memory.writes [] (slotBase true + 8) [8, 7, 6, 5] }, fuses := { kopS.fuses with rollback := n } }

theorem witness_FirmwareCommands_trial : (∀ n ∈ [0x05060707, 0x05060708], mayB (trialS n) 0x2801 5 [1] = true ∧ (trialS n).act? = some trialA) ∧
    trialA.trial = true ∧ (trialS 0).boot.mode ≠ .network ∧ (trialS 0x05060707).fuses.rollback < (trialS 0).slotRollback trialA.slotB ∧
    (trialS 0x05060708).slotRollback trialA.slotB ≤ (trialS 0x05060708).fuses.rollback ∧ mayB (trialS 0) 0x2801 5 [2] = true ∧
    (trialS 0).revertBarred = false := by decide +kernel

def fuseS (j : FuseJob) : State := { kopS with fuses := { kopS.fuses with blowing := some j } }

theorem witness_FusesAndLedger_fuses : (fuseS (.seal rq false)).fuses.blowing = some (.seal rq false) ∧ (fuseS (.seal rq false)).fuses.deferred = [] ∧
    (fuseS (.seal rq true)).fuses.blowing = some (.seal rq true) ∧ (fuseS (.seal rq true)).session? rq.sid = some admin ∧
    (fuseS (.rollback rq 2)).fuses.blowing = some (.rollback rq 2) ∧ (fuseS (.rollback rq 2)).fuses.rollback + 1 < 2 := by decide +kernel

/-- A write of port A's mode, and of a role key, under way in the object banks. -/
def objW (k : Nat) (v : Bytes) : LedgerWrite := ⟨rq, k, v, [(k, v)]⟩
def ledS (w : LedgerWrite) : State := { kopS with ledger := { kopS.ledger with objWrite := some w } }
def modeW : LedgerWrite := objW (okey 0x2401 1) [2]
def keyW : LedgerWrite := objW (okey 0x2900 1) (0 :: List.replicate 32 9)

theorem witness_FusesAndLedger_objects : ∀ w ∈ [modeW, keyW], (ledS w).ledger.objWrite = some w ∧ (ledS w).ledger.obj.erasing = false ∧
    (ledS w).session? w.r.sid = some admin ∧ (w.key ≠ okey 0x2900 1 ↔ w = modeW) := by decide +kernel

theorem witness_FusesAndLedger_record :
    let s : State := { kopS with ledger := { kopS.ledger with actWrite := some (.confirm rq trialA) } }
    s.ledger.actWrite = some (.confirm rq trialA) ∧ s.ledger.act.erasing = false ∧ s.session? rq.sid = some admin := by decide +kernel

theorem witness_FusesAndLedger_erase :
    let s : State := { kopS with ledger := { kopS.ledger with act := { kopS.ledger.act with erasing := true }, obj := { kopS.ledger.obj with erasing := true } } }
    s.ledger.act.erasing = true ∧ s.ledger.obj.erasing = true := by decide +kernel

/-- A write of a bank puts its copy in the other bank, in force, and the old one is to be erased (R465). -/
theorem test_ledger_write :
    (after (.ledgerWriteDone true true) (ledS modeW)).ledger.obj = { bank0 := some ⟨0, []⟩, bank1 := some ⟨1, modeW.body⟩, inForce := some true, erasing := true } := by
  decide +kernel

/-- A summary of two records, a kind that is kept and one that is not. -/
def sumS : State := { base with ledger := { base.ledger with sumPending := [bytesOf 64 [(5, 5)], bytesOf 64 [(5, 1)]] } }

theorem witness_LogAndTapCommands : sumS.ledger.sumPending.length + KMap.getOr 0 sumS.ledger.sumCounts 5 < 2 ^ 64 ∧
    mayB kopS 0x6000 4 [0x01] = true ∧ kopS.power.good = true ∧ (0x10 : Byte) ≤ 0x10 ∧ (0x3F : Byte) ≤ 0x3F ∧
    ({ kopS with tap := { ir := 0 } } : State).tap.ir = 0x00 ∧ kopS.sealBlown = false ∧
    ({ kopS with fuses := { kopS.fuses with seal0 := true } } : State).sealBlown = true := by decide +kernel

/-! ### Witnesses: the block as a whole -/

/-- Memory in canonical form, a step, a sealed module with no debug connection open, and commands that wait. -/
theorem witness_MemoryStaysCanonical : Memory.wf (selS selMergeD true).mem = true ∧ (∃ s', step (selS selMergeD true) = .next s') :=
  ⟨by decide +kernel, _, rfl⟩

def sealedS : State := { kopS with fuses := { kopS.fuses with seal1 := true } }

theorem witness_SealIsForGood : sealedS.sealBlown = true ∧ sealedS.tap.debugOpen = false ∧
    (∃ s', step { sealedS with pending := [.tapVendorDebug 0x10] } = .next s') := ⟨by decide +kernel, by decide +kernel, _, rfl⟩

theorem witness_QueueInOrder : ∃ s', step { sealedS with pending := [.tapVendorDebug 0x10, .tapBypass] } = .next s' := ⟨_, rfl⟩

end Sys2Proof.Tests
end

section
/-! SUPPORT. The vector instruction word (04 R98, R100): what its fields read, and that decoding undoes encoding. -/

open Sys2Proof Sys2Proof.Machine Sys2Proof.Claims

namespace Sys2Proof.Machine

/-! Bytes of a number (R6) -/

@[simp] theorem length_leBytes (n v : Nat) : (leBytes n v).length = n := by
  induction n generalizing v with
  | zero => rfl
  | succ n ih => simp [leBytes, ih]

/-- The `n` low bytes of a number spell it modulo 256^n. -/
theorem leNat_leBytes (n v : Nat) : leNat (leBytes n v) = v % 256 ^ n := by
  induction n generalizing v with
  | zero => simp [leBytes, leNat, Nat.mod_one]
  | succ n ih =>
    rw [leBytes, leNat, ih, pow_succ', Nat.mod_mul, BitVec.toNat_ofNat]
    simp

/-! Fields of a word. The model joins fields with `BitVec.append` under widths it has added up (`BitVec 35`, `BitVec 128`); in this
spelling the library's facts on `++` rewrite its words. -/

theorem extractLsb'_append_high {h l : Nat} (x : BitVec h) (y : BitVec l) (i n : Nat) (hi : l ≤ i) :
    (x.append y).extractLsb' i n = x.extractLsb' (i - l) n := BitVec.extractLsb'_append_eq_of_le hi

theorem extractLsb'_append_low {h l : Nat} (x : BitVec h) (y : BitVec l) (i n : Nat) (hi : i + n ≤ l) :
    (x.append y).extractLsb' i n = y.extractLsb' i n := BitVec.extractLsb'_append_eq_of_add_le hi

theorem getLsbD_append {h l : Nat} (x : BitVec h) (y : BitVec l) (i : Nat) :
    (x.append y).getLsbD i = if i < l then y.getLsbD i else x.getLsbD (i - l) := BitVec.getLsbD_append

theorem bits_toNat {w : Nat} (x : BitVec w) (lo n : Nat) : bits x.toNat lo n = (x.extractLsb' lo n).toNat :=
  (BitVec.extractLsb'_toNat lo n x).symm

theorem bit_toNat {w : Nat} (x : BitVec w) (i : Nat) : bit x.toNat i = x.getLsbD i := BitVec.testBit_toNat x

/-! Encoding and decoding (R98) -/

theorem opcode_encodeVector (c : VCode) (o : VOp) : (encodeVector c o).extractLsb' 120 8 = opcode c := by
  simp only [encodeVector, vectorHigh, extractLsb'_append_high, Nat.reduceLeDiff, Nat.reduceAdd, Nat.reduceSub]
  simp

theorem vectorFields_encodeVector (c : VCode) (o : VOp) : vectorFields (encodeVector c o) = o := by
  simp only [encodeVector, vectorHigh, vectorFields, extractLsb'_append_high, extractLsb'_append_low,
    getLsbD_append, Nat.reduceLeDiff, Nat.reduceAdd, Nat.reduceSub, Nat.reduceLT]
  simp

/-- Every instruction is in the opcode table, and none before it has its opcode. -/
theorem ofOpcode_opcode (c : VCode) : ofOpcode (opcode c) = some c := by
  cases c <;> rfl

theorem ofOpcode_eq_none {b : BitVec 8} (h : ∀ c, opcode c ≠ b) : ofOpcode b = none :=
  List.find?_eq_none.2 (fun c _ => by simpa using h c)

theorem decodeVector_encodeVector (c : VCode) (o : VOp) : decodeVector (encodeVector c o) = some (c, o) := by
  rw [decodeVector, opcode_encodeVector, ofOpcode_opcode, vectorFields_encodeVector, Option.map_some]

/-- The 16 bytes of sequencer memory spell the word (R98). -/
theorem leNat_vectorBytes (c : VCode) (o : VOp) : leNat (vectorBytes c o) = (encodeVector c o).toNat := by
  rw [vectorBytes, leNat_leBytes]
  exact Nat.mod_eq_of_lt (encodeVector c o).isLt

/-- Settles O7: the word's fields are `vectorFields` of the word, which are those it was made from. -/
theorem vectorInstructionWord : Obligations.VectorInstructionWord := by
  unfold Obligations.VectorInstructionWord
  refine ⟨fun c o => ⟨decodeVector_encodeVector c o, length_leBytes _ _, ?_⟩, fun w h => ?_⟩
  · have hf := vectorFields_encodeVector c o
    simp only [leNat_vectorBytes, bits_toNat, bit_toNat]
    exact ⟨congrArg BitVec.toNat (opcode_encodeVector c o), congrArg (·.fmtA.toNat) hf, congrArg (·.fmtD.toNat) hf,
      congrArg (·.vd.toNat) hf, congrArg (·.va.toNat) hf, congrArg (·.vb.toNat) hf, congrArg (·.vc.toNat) hf,
      congrArg (·.sa.toNat) hf, congrArg (·.sb.toNat) hf, congrArg (·.sd.toNat) hf, congrArg VOp.sat hf,
      congrArg VOp.stoch hf, congrArg VOp.bcast hf, congrArg (·.var.toNat) hf, congrArg (·.resv.toNat) hf,
      congrArg (·.imm.toNat) hf⟩
  · rw [decodeVector, ofOpcode_eq_none h, Option.map_none]

end Sys2Proof.Machine
end

section
/-! SUPPORT. What a vector instruction that goes changes (04 R95, R97, R110, R111). -/

open Sys2Proof Sys2Proof.Machine Sys2Proof.Claims

namespace Sys2Proof.Machine

/-- What a fault-log record and its notices can change (R371, R444, R445). -/
def LogFrame (s u : State) : Prop :=
  u = { s with cnt := u.cnt, sent := u.sent, kop := u.kop, qps := u.qps, flog := u.flog, flogSeq := u.flogSeq,
               ledger := { s.ledger with sumPending := u.ledger.sumPending } }

theorem LogFrame.trans {s u w : State} (hu : LogFrame s u) (hw : LogFrame u w) : LogFrame s w := by
  unfold LogFrame at hu
  exact Eq.trans hw (by rw [hu])

theorem LogFrame.tile {s u : State} (h : LogFrame s u) (t : Nat) : u.tile t = s.tile t := by
  unfold LogFrame at h
  rw [h]; rfl

theorem logFrame_bump (s : State) (k n : Nat) : LogFrame s (s.bump k n) := by
  obtain ⟨c, hc⟩ := State.bump_frame s k n
  rw [hc]; rfl

/-- Sending adds the message, moves its queue pair on, and counts its frames. -/
theorem logFrame_send (s : State) (m : Sent) : LogFrame s (s.send m) := by
  simp only [State.send]
  cases s.framesOf m with
  | none => rfl
  | some f => exact LogFrame.trans (u := { s with sent := _, qps := _ }) rfl (logFrame_bump _ _ _)

theorem logFrame_notifySession (s : State) (sn : Session) (cls : Nat) (body : Bytes) :
    LogFrame s (notifySession s sn cls body).2 := by
  simp only [notifySession]
  split
  · exact logFrame_bump s (okey 0x1110 0x0B) 1
  · exact logFrame_send s _

theorem logFrame_notifyAll (s : State) (cls : Nat) (body : Bytes) (l : List Session) :
    LogFrame s (notifyAll s cls body l).2 := by
  induction l generalizing s with
  | nil => rfl
  | cons sn l ih =>
    simp only [notifyAll]
    split
    · exact (logFrame_notifySession s sn cls body).trans (ih _)
    · exact ih s

theorem logFrame_notify (s : State) (cls : Nat) (body : Bytes) : LogFrame s (s.notify cls body) :=
  (logFrame_notifyAll s cls body s.kop.sessions).trans rfl

/-- A record goes into the log and the ledger's summary, and out to the sessions (R444, R445). -/
theorem logFrame_log (s : State) (r : LogRec) : LogFrame s (s.log r) :=
  LogFrame.trans (u := { s with flog := _, flogSeq := _, ledger := { s.ledger with sumPending := _ } }) rfl (logFrame_notify _ _ _)

end Sys2Proof.Machine

namespace Sys2Proof.Claims

theorem VectorFrame.trans {s u w : State} {t : Nat} (hu : VectorFrame s u t) (hw : VectorFrame u w t) : VectorFrame s w t := by
  obtain ⟨htu, hu⟩ := hu
  obtain ⟨htw, hw⟩ := hw
  exact ⟨fun i hi => (htw i hi).trans (htu i hi), hw.trans (by rw [hu])⟩

theorem vectorFrame_of_logFrame {s u : State} (h : LogFrame s u) (t : Nat) : VectorFrame s u t := by
  refine ⟨fun i _ => h.tile i, ?_⟩
  unfold LogFrame at h
  rw [h]

theorem vectorFrame_setTile (s : State) (t : Nat) (x : Tile) : VectorFrame s (s.setTile t x) t :=
  ⟨fun i hi => s.tile_setTile_ne t i x hi.symm, rfl⟩

theorem vectorFrame_tbump (s : State) (t k sub n : Nat) : VectorFrame s (s.tbump t k sub n) t :=
  vectorFrame_of_logFrame (logFrame_bump _ _ _) t

theorem vectorFrame_free (s : State) (t n : Nat) : VectorFrame s { s with free := n } t := ⟨fun _ _ => rfl, rfl⟩

end Sys2Proof.Claims

namespace Sys2Proof.Machine

@[simp] theorem State.free_tbump (s : State) (t k sub n : Nat) : (s.tbump t k sub n).free = s.free := s.bump_free _ _

@[simp] theorem State.tile_tbump (s : State) (t k sub n i : Nat) : (s.tbump t k sub n).tile i = s.tile i := s.tile_bump _ _ _

@[simp] theorem State.tile_logPoison (s : State) (t : Nat) (item : Bytes) (fa i : Nat) :
    (s.logPoison t item fa).tile i = s.tile i := (logFrame_log _ _).tile i

/-- A register result leaves the tile as the instruction made it, with the flags it met raised (R97). -/
@[simp] theorem State.tile_takeRes (s : State) (t : Nat) (c : VCode) (o : VOp) (r : VRes) :
    (s.takeRes t c o r).tile t = r.x.raise r.f r.ps := by
  simp only [State.takeRes]
  split <;> simp

theorem vectorFrame_takeRes (s : State) (t : Nat) (c : VCode) (o : VOp) (r : VRes) :
    VectorFrame s (s.takeRes t c o r) t := by
  have hbumps := ((vectorFrame_setTile s t (r.x.raise r.f r.ps)).trans (vectorFrame_tbump _ t 6 1 r.sat)).trans
    (vectorFrame_tbump _ t 6 2 r.nanZ)
  simp only [State.takeRes]
  split
  · exact hbumps.trans (vectorFrame_of_logFrame (logFrame_log _ _) t)
  · exact hbumps

/-- The job whose sequencer runs on a tile is the tile's job. -/
theorem State.job_of_seqJob {s : State} {t j : Nat} (h : s.seqJob t = some j) : (s.tile t).job = some j := by
  simp only [State.seqJob] at h
  split at h
  · rename_i i _ hjob _
    have hij : i = j := by
      split at h
      · split_ifs at h
        simpa using h
      · cases h
    exact hij ▸ hjob
  · cases h

/-- A vector instruction that goes is counted and takes effect at once (R110, R125). -/
theorem issueVector_of_goes {s : State} {t : Nat} {c : VCode} {o : VOp} (h : VectorGoes s t c o) :
    s.issueVector t c o = (s.tbump t 7 1 1).vectorEffect t c o := by
  obtain ⟨j, jb, ⟨hseq, hjob⟩, hwait, hq, hgo⟩ := h
  simp [State.issueVector, State.execVector, hseq, hwait, hq, State.job_of_seqJob hseq, hjob, hgo]

/-! General registers -/

/-- What is written to a general register is read from it; gpr[0] stays zero (R95). -/
theorem Tile.g_setG_self (x : Tile) (r : Nat) (v : W64) (p : Bool) : (x.setG r v p).g r = if r = 0 then 0 else v := by
  by_cases hr : r = 0
  · simp [Tile.g, hr]
  · by_cases hv : v = 0#64 <;> simp [Tile.setG, Tile.g, hr, hv, KMap.getOr, KMap.find_del]

theorem Tile.g_setG_ne (x : Tile) (r i : Nat) (v : W64) (p : Bool) (hi : i ≠ r) : (x.setG r v p).g i = x.g i := by
  by_cases hr : r = 0
  · simp [Tile.setG, hr]
  · by_cases hv : v = 0#64 <;> simp [Tile.setG, Tile.g, hr, hv, hi.symm, KMap.getOr, KMap.find_del, KMap.find_put]

theorem Tile.gp_setG_self (x : Tile) (r : Nat) (v : W64) (p : Bool) (hr : r ≠ 0) : (x.setG r v p).gp r = p := by
  cases p <;> simp [Tile.setG, Tile.gp, hr, NSet.mem_add, NSet.mem_del]

@[simp] theorem Tile.vregs_setG (x : Tile) (r : Nat) (v : W64) (p : Bool) : (x.setG r v p).vregs = x.vregs := by
  unfold Tile.setG; split <;> rfl

@[simp] theorem Tile.g_raise (x : Tile) (f : Flags) (p : Bool) (i : Nat) : (x.raise f p).g i = x.g i := rfl
@[simp] theorem Tile.gp_raise (x : Tile) (f : Flags) (p : Bool) (i : Nat) : (x.raise f p).gp i = x.gp i := rfl
@[simp] theorem Tile.vregs_raise (x : Tile) (f : Flags) (p : Bool) : (x.raise f p).vregs = x.vregs := rfl

end Sys2Proof.Machine
end

section
/-! SUPPORT. The reductions (04 R107). -/

open Sys2Proof Sys2Proof.Machine Sys2Proof.Claims

namespace Sys2Proof.Machine

/-- A reduction writes one general register, from the words and the poison bits of the lanes below VL (R107, R111). -/
theorem Tile.reduction_x (x : Tile) (c : VCode) (o : VOp) (draw : Nat) : (x.reduction c o draw).x =
    x.setG o.sd.toNat (reduce c o draw ((List.range x.vl).map (fun i => (x.lane o.va.toNat i).v))).1
      ((List.range x.vl).any (fun i => (x.lane o.va.toNat i).p)) := by
  simp [Tile.reduction, Function.comp_def]

theorem exec_reduction : ∀ e ∈ reductions, ∀ (t : TileNo) (o : VOp) (s : State),
    exec (e.1 t o) s = .next (s.issueVector t e.2.1 o) := by
  simp only [reductions, List.forall_mem_cons]
  exact ⟨fun _ _ _ => rfl, fun _ _ _ => rfl, fun _ _ _ => rfl, fun _ _ _ => rfl, fun _ _ _ => rfl, fun _ _ _ => rfl,
    fun _ _ _ => rfl, fun _ h => nomatch h⟩

/-- A reduction takes its result into the state; only the FP32 sum draws, and its draw is the order the list names (R92, R107). -/
theorem vectorEffect_reduction : ∀ e ∈ reductions, ∀ (t : TileNo) (o : VOp) (s : State), ∃ n draw,
    s.vectorEffect t e.2.1 o = ({ s with free := n } : State).takeRes t e.2.1 o ((s.tile t).reduction e.2.1 o draw) ∧
    ∀ l, (reduce e.2.1 o draw l).1 = e.2.2 o s.free l := by
  simp only [reductions, List.forall_mem_cons]
  refine ⟨fun t _ s => ⟨s.free + (s.tile t).vl, s.free, rfl, fun _ => rfl⟩, fun _ _ s => ⟨s.free, 0, rfl, fun _ => rfl⟩,
    fun _ _ s => ⟨s.free, 0, rfl, fun _ => rfl⟩, fun _ _ s => ⟨s.free, 0, rfl, fun l => ?_⟩,
    fun _ _ s => ⟨s.free, 0, rfl, fun _ => rfl⟩, fun _ _ s => ⟨s.free, 0, rfl, fun _ => rfl⟩,
    fun _ _ s => ⟨s.free, 0, rfl, fun _ => rfl⟩, fun _ h => nomatch h⟩
  simp only [reduce]
  cases argMax l <;> rfl

/-- What the reductions make of no lane: their identities (R107). -/
theorem reductions_nil (o : VOp) (k : Nat) : reductions.map (fun e => (e.2.2 o k []).toNat) =
    [0, if o.var = 0 then 0xFF800000 else 0, 0x7F800000, 0xFFFFFFFFFFFFFFFF, 0, 2 ^ 64 - 2 ^ 31, 2 ^ 31 - 1] := by
  by_cases hv : o.var = 0#4 <;> simp [reductions, hv, fpSum, sumFree, argMax]

/-- Settles O12: a reduction that goes counts itself and takes `Tile.reduction` into the state, one write of a general register. -/
theorem vectorReductions : Obligations.VectorReductions := by
  unfold Obligations.VectorReductions
  refine ⟨rfl, reductions_nil, fun e he t o s hgo => ?_⟩
  obtain ⟨n, draw, heff, hval⟩ := vectorEffect_reduction e he t o (s.tbump t 7 1 1)
  have hrun : exec (e.1 t o) s = .next _ :=
    (exec_reduction e he t o s).trans (congrArg _ ((issueVector_of_goes hgo).trans heff))
  refine ⟨_, hrun, ?_, fun hsd => ?_, fun r hr => ?_, ?_, ?_⟩
  · simp [Tile.reduction_x, Tile.g_setG_self, hval, BitVec.toNat_eq]
  · have hsd' : o.sd.toNat ≠ 0 := fun h => hsd (BitVec.eq_of_toNat_eq h)
    simp [Tile.reduction_x, Tile.gp_setG_self _ _ _ _ hsd']
  · simp [Tile.reduction_x, Tile.g_setG_ne _ _ _ _ _ hr]
  · simp [Tile.reduction_x]
  · exact ((vectorFrame_tbump s t 7 1 1).trans (vectorFrame_free _ t n)).trans (vectorFrame_takeRes _ t _ o _)

end Sys2Proof.Machine
end

section
/-! SUPPORT. The queues of 04 R113 to R118: what settling and writing leave of a queue, and its commands. -/

open Sys2Proof Sys2Proof.Machine Sys2Proof.Claims

namespace Sys2Proof.Machine

/-! `Queue.settle` -/

theorem Queue.settle_of_not_dropping (q : Queue) (l : List QItem) (hq : q.dropping = false) : q.settle l = { q with items := l } := by
  cases l with
  | nil => rfl
  | cons i r => simp [Queue.settle, hq]

@[simp] theorem Queue.settle_depth (q : Queue) (l : List QItem) : (q.settle l).depth = q.depth := by
  induction l generalizing q with
  | nil => rfl
  | cons i r ih =>
    simp only [Queue.settle]
    split
    · rw [ih]
    · rfl

theorem Queue.length_settle_le (q : Queue) (l : List QItem) : (q.settle l).items.length ≤ l.length := by
  induction l generalizing q with
  | nil => exact Nat.le_refl _
  | cons i r ih =>
    simp only [Queue.settle]
    split
    · exact Nat.le_succ_of_le (ih _)
    · exact Nat.le_refl _

/-- What settling loses of a waiting list `l` behind a lost item: its first `k` items, up to and with the first end-marked one, or
all of them where none is (R118). -/
structure Queue.LosesFirst (q x : Queue) (l : List QItem) (k : Nat) : Prop where
  le : k ≤ l.length
  items : x.items = l.drop k
  lost : x.lost = q.lost + k
  unmarked : ∀ y ∈ l.take (k - 1), y.last = false
  emptied : x.dropping = true → x.items = []
  marked : x.dropping = false → 0 < k ∧ ∃ y, l[k - 1]? = some y ∧ y.last = true

theorem Queue.settle_losesFirst (q : Queue) (l : List QItem) (hq : q.dropping = true) :
    ∃ k, q.LosesFirst (q.settle l) l k := by
  induction l generalizing q with
  | nil => exact ⟨0, by simp, rfl, rfl, by simp, fun _ => rfl, fun h => by simp [Queue.settle, hq] at h⟩
  | cons i r ih =>
    cases hi : i.last with
    | true =>
      have hs : q.settle (i :: r) = { q with lost := q.lost + 1, dropping := false, items := r } := by
        simp [Queue.settle, hq, hi, Queue.settle_of_not_dropping]
      rw [hs]
      exact ⟨1, by simp, rfl, rfl, by simp, nofun, fun _ => ⟨Nat.one_pos, i, rfl, hi⟩⟩
    | false =>
      have hs : q.settle (i :: r) = Queue.settle { q with lost := q.lost + 1, dropping := true } r := by
        simp [Queue.settle, hq, hi]
      rw [hs]
      obtain ⟨k, hk⟩ := ih { q with lost := q.lost + 1, dropping := true } rfl
      refine ⟨k + 1, Nat.succ_le_succ hk.le, hk.items, hk.lost.trans (by simp; omega), ?_, hk.emptied, fun h => ?_⟩
      · cases k with
        | zero => simp
        | succ k => simpa [hi] using hk.unmarked
      · obtain ⟨hpos, y, hy, hlast⟩ := hk.marked h
        obtain ⟨k, rfl⟩ := Nat.exists_eq_succ_of_ne_zero hpos.ne'
        exact ⟨Nat.succ_pos _, y, by simpa using hy, hlast⟩

/-! `Queue.write` -/

/-- With room an item goes to the end of the waiting ones, and the rest of a lost packet leaves as it reaches the head (R118). -/
theorem Queue.write_of_room {q : Queue} (i : QItem) (h : q.items.length < q.depth) : q.write i = some (q.settle (q.items ++ [i])) := by
  simp [Queue.write, h]

theorem Queue.write_of_full_overwrite {q : Queue} (i : QItem) {o : QItem} {r : List QItem} (hfull : q.depth ≤ q.items.length)
    (hover : q.overwrite = true) (hitems : q.items = o :: r) :
    q.write i = some (Queue.settle { q with lost := q.lost + 1, dropping := !o.last } (r ++ [i])) := by
  rw [Queue.write, if_neg (Nat.not_lt.2 hfull), if_pos hover, hitems]

theorem Queue.write_of_full_hold {q : Queue} (i : QItem) (hfull : q.depth ≤ q.items.length) (hhold : q.overwrite = false) :
    q.write i = none := by
  simp [Queue.write, Nat.not_lt.2 hfull, hhold]

/-- A write that succeeds keeps the depth, and the items within it (R113). -/
theorem Queue.write_keeps_bound {q q' : Queue} {i : QItem} (hq : q.items.length ≤ q.depth) (h : q.write i = some q') :
    q'.depth = q.depth ∧ q'.items.length ≤ q'.depth := by
  by_cases hroom : q.items.length < q.depth
  · rw [Queue.write_of_room i hroom, Option.some.injEq] at h
    have hlen := Queue.length_settle_le q (q.items ++ [i])
    rw [List.length_append, List.length_singleton] at hlen
    subst h
    exact ⟨Queue.settle_depth _ _, by rw [Queue.settle_depth]; omega⟩
  have hfull := Nat.not_lt.1 hroom
  cases hover : q.overwrite with
  | false => simp [Queue.write_of_full_hold i hfull hover] at h
  | true =>
    cases hitems : q.items with
    | nil =>
      have hq' : q' = q := by
        rw [Queue.write, if_neg hroom, if_pos hover, hitems] at h
        exact (Option.some.inj h).symm
      subst hq'
      exact ⟨rfl, hq⟩
    | cons o r =>
      rw [Queue.write_of_full_overwrite i hfull hover hitems, Option.some.injEq] at h
      have hlen := Queue.length_settle_le { q with lost := q.lost + 1, dropping := !o.last } (r ++ [i])
      rw [List.length_append, List.length_singleton] at hlen
      rw [hitems, List.length_cons] at hq
      subst h
      exact ⟨Queue.settle_depth _ _, by rw [Queue.settle_depth]; exact hlen.trans hq⟩

/-! A queue and its counters in the state -/

/-- What the hamper of a tile and the counters of its die can change. -/
def HamperFrame (s u : State) : Prop := u = { s with tiles := u.tiles, cnt := u.cnt }

/-- What a queue and its counters can change. -/
def QueueFrame (s u : State) : Prop :=
  u = { s with tiles := u.tiles, cnt := u.cnt, events := u.events, modEvents := u.modEvents, flog := u.flog }

theorem HamperFrame.trans {s u w : State} (hu : HamperFrame s u) (hw : HamperFrame u w) : HamperFrame s w := by
  unfold HamperFrame at hu
  exact Eq.trans hw (by rw [hu])

theorem QueueFrame.trans {s u w : State} (hu : QueueFrame s u) (hw : QueueFrame u w) : QueueFrame s w := by
  unfold QueueFrame at hu
  exact Eq.trans hw (by rw [hu])

theorem HamperFrame.queueFrame {s u : State} (h : HamperFrame s u) : QueueFrame s u := by
  unfold HamperFrame at h
  rw [h]; rfl

theorem QueueFrame.kept {s u : State} (h : QueueFrame s u) :
    u.sent = s.sent ∧ u.jobs = s.jobs ∧ u.dies = s.dies ∧ u.mem = s.mem := by
  unfold QueueFrame at h
  rw [h]; exact ⟨rfl, rfl, rfl, rfl⟩

/-- Counting an event of a queue changes counters only. -/
theorem State.hamperCount_frame (s : State) (i : QueueId) (sub n : Nat) : ∃ c, s.hamperCount i sub n = { s with cnt := c } := by
  cases i with
  | hamper t => exact State.bump_frame _ _ _
  | _ => exact ⟨s.cnt, rfl⟩

theorem hamperFrame_hamperCount (s : State) (i : QueueId) (sub n : Nat) : HamperFrame s (s.hamperCount i sub n) := by
  obtain ⟨c, hc⟩ := s.hamperCount_frame i sub n
  rw [hc]; rfl

@[simp] theorem State.tile_hamperCount (s : State) (i : QueueId) (sub n t : Nat) : (s.hamperCount i sub n).tile t = s.tile t := by
  obtain ⟨c, hc⟩ := s.hamperCount_frame i sub n
  rw [hc]; rfl

@[simp] theorem State.queue?_hamperCount (s : State) (i k : QueueId) (sub n : Nat) :
    (s.hamperCount i sub n).queue? k = s.queue? k := by
  obtain ⟨c, hc⟩ := s.hamperCount_frame i sub n
  rw [hc]; cases k <;> rfl

/-- A queue that exists holds what is put there. -/
theorem State.queue?_setQueue {s : State} {i : QueueId} {q : Queue} (hq : s.queue? i = some q) (x : Queue) :
    (s.setQueue i x).queue? i = some x := by
  cases i with
  | hamper t => simp [State.queue?, State.setQueue]
  | context c =>
    have hctx : (KMap.find s.contexts c.toNat).isSome = true := by
      by_contra hnone
      simp [State.queue?, hnone] at hq
    simp [State.queue?, State.setQueue, State.ctxQueue, hctx]
  | events => rfl
  | faultLog => rfl

theorem hamperFrame_setQueue (s : State) (t : TileNo) (q : Queue) : HamperFrame s (s.setQueue (.hamper t) q) := rfl

theorem queueFrame_setQueue (s : State) (i : QueueId) (q : Queue) : QueueFrame s (s.setQueue i q) := by
  cases i <;> rfl

/-- A queue that exists, replaced and an event of it counted: it holds what was put there, and jobs, dies and memory stay. -/
theorem State.setQueue_hamperCount {s : State} {i : QueueId} {q : Queue} (hq : s.queue? i = some q) (x : Queue) (sub n : Nat) :
    ((s.setQueue i x).hamperCount i sub n).queue? i = some x ∧ ((s.setQueue i x).hamperCount i sub n).jobs = s.jobs ∧
    ((s.setQueue i x).hamperCount i sub n).dies = s.dies ∧ ((s.setQueue i x).hamperCount i sub n).mem = s.mem := by
  have hframe := (queueFrame_setQueue s i x).trans (hamperFrame_hamperCount _ i sub n).queueFrame
  exact ⟨(State.queue?_hamperCount _ _ _ _ _).trans (State.queue?_setQueue hq x), hframe.kept.2⟩

/-! The commands -/

theorem exec_queueWrite_of_some {s : State} {i : QueueId} {q x : Queue} {item : QItem} (hq : s.queue? i = some q)
    (hw : q.write item = some x) : exec (.queueWrite i item) s = .next ((s.setQueue i x).hamperCount i 2 1) := by
  show execQueueWrite i item s = _
  simp only [execQueueWrite, hq, hw]

theorem exec_queueWrite_of_none {s : State} {i : QueueId} {q : Queue} {item : QItem} (hq : s.queue? i = some q)
    (hw : q.write item = none) : exec (.queueWrite i item) s = .next (s.hamperCount i 3 1) := by
  show execQueueWrite i item s = _
  simp only [execQueueWrite, hq, hw]

theorem exec_queueRinse_of_some {s : State} {i : QueueId} {q : Queue} (hq : s.queue? i = some q) :
    exec (.queueRinse i) s = .next ((s.setQueue i q.rinse).hamperCount i 6 1) := by
  show execQueueRinse i s = _
  simp only [execQueueRinse, hq]

/-! Reads (R115) -/

/-- The errors a read meets: those in a segment of the item it takes, the header segment behind the data among them (R115). -/
def faultsMet (it : QItem) (errs : List SegFault) : List SegFault :=
  errs.filter (fun e => e.item == 0 && decide (e.seg ≤ it.segs.length))

/-- One of the errors is a header segment beyond correction. -/
def headerFault (i : QueueId) (es : List SegFault) : Bool := es.any (fun e => e.double && decide (e.seg ≥ dataSegs i))

/-- Errors counted in the queue. -/
def Queue.countFaults (q : Queue) (es : List SegFault) : Queue :=
  { q with corrected := q.corrected + (es.filter (fun e => !e.double)).length,
           uncorrected := q.uncorrected + (es.filter (·.double)).length }

/-- Errors counted in the counters of the queue's die. -/
def State.countFaults (s : State) (i : QueueId) (es : List SegFault) : State :=
  (s.hamperCount i 4 (es.filter (fun e => !e.double)).length).hamperCount i 5 (es.filter (·.double)).length

/-- A read of a queue that is not empty, by whether a header segment is beyond correction (R115). -/
theorem exec_queueRead_of_some {s : State} {i : QueueId} {q : Queue} {it : QItem} {rest : List QItem} (errs : List SegFault)
    (hq : s.queue? i = some q) (hitems : q.items = it :: rest) :
    exec (.queueRead i errs) s = .next (
      if headerFault i (faultsMet it errs) then
        (((s.countFaults i (faultsMet it errs)).setQueue i (q.countFaults (faultsMet it errs)).rinse).hamperCount i 6 1).headerLost i
      else
        ((s.countFaults i (faultsMet it errs)).setQueue i ((q.countFaults (faultsMet it errs)).settle rest)).send
          (.item i it (((faultsMet it errs).filter (·.double)).map (·.seg)))) := by
  show execQueueRead i errs s = _
  simp only [execQueueRead, hq, hitems, headerFault, faultsMet, Queue.countFaults, State.countFaults]

theorem headerFault_eq_false {i : QueueId} {errs : List SegFault} (it : QItem)
    (h : ∀ e ∈ errs, e.double = true → e.item = 0 → e.seg < dataSegs i) : headerFault i (faultsMet it errs) = false := by
  simp only [headerFault, List.any_eq_false, faultsMet, List.mem_filter, Bool.and_eq_true, beq_iff_eq, decide_eq_true_eq]
  rintro e ⟨he, hitem, _⟩ ⟨hdouble, hseg⟩
  exact absurd (h e he hdouble hitem) (Nat.not_lt.2 hseg)

theorem headerFault_hamper {t : TileNo} {it : QItem} {n : Nat} (hn : 16 ≤ n) (hseg : n ≤ it.segs.length) :
    headerFault (.hamper t) (faultsMet it [⟨0, n, true⟩]) = true := by
  simp [headerFault, faultsMet, dataSegs, hn, hseg]

theorem filter_double_faultsMet (it : QItem) (errs : List SegFault) : (faultsMet it errs).filter (·.double) =
    errs.filter (fun e => e.item == 0 && decide (e.seg ≤ it.segs.length) && e.double) := by
  rw [faultsMet, List.filter_filter]
  exact List.filter_congr (fun e _ => Bool.and_comm _ _)

theorem hamperFrame_countFaults (s : State) (i : QueueId) (es : List SegFault) : HamperFrame s (s.countFaults i es) :=
  (hamperFrame_hamperCount _ _ _ _).trans (hamperFrame_hamperCount _ _ _ _)

@[simp] theorem State.tile_countFaults (s : State) (i : QueueId) (es : List SegFault) (t : Nat) :
    (s.countFaults i es).tile t = s.tile t := by
  simp [State.countFaults]

@[simp] theorem State.queue?_countFaults (s : State) (i k : QueueId) (es : List SegFault) :
    (s.countFaults i es).queue? k = s.queue? k := by
  simp [State.countFaults]

theorem State.queue?_send_item (s : State) (i k : QueueId) (it : QItem) (p : List Nat) :
    (s.send (.item i it p)).queue? k = s.queue? k := by
  cases k <;> rfl

theorem State.headerLost_of_no_job {s : State} {t : TileNo} (h : (s.tile t).job = none) : s.headerLost (.hamper t) = s := by
  simp only [State.headerLost, h]

/-- A read that meets no header segment beyond correction delivers the oldest item, which leaves (R115). -/
theorem queueRead_delivers {s : State} {i : QueueId} {errs : List SegFault} {q : Queue} {it : QItem} {rest : List QItem}
    (hq : s.queue? i = some q) (hitems : q.items = it :: rest) (hd : q.dropping = false)
    (hdata : ∀ e ∈ errs, e.double = true → e.item = 0 → e.seg < dataSegs i) : ∃ u x,
    exec (.queueRead i errs) s = .next u ∧ u.queue? i = some x ∧ x.items = rest ∧ x.lost = q.lost ∧ x.rinses = q.rinses ∧
    u.sent = .item i it ((errs.filter (fun e => e.item == 0 && decide (e.seg ≤ it.segs.length) && e.double)).map (·.seg)) :: s.sent ∧
    u.jobs = s.jobs ∧ u.dies = s.dies ∧ u.mem = s.mem := by
  have hrun := exec_queueRead_of_some errs hq hitems
  rw [headerFault_eq_false it hdata, if_neg Bool.false_ne_true, filter_double_faultsMet,
    Queue.settle_of_not_dropping (q.countFaults (faultsMet it errs)) rest hd] at hrun
  have hq' := (State.queue?_countFaults s i i (faultsMet it errs)).trans hq
  obtain ⟨hsent, hkept⟩ := ((hamperFrame_countFaults s i (faultsMet it errs)).queueFrame.trans (queueFrame_setQueue _ i
    { q.countFaults (faultsMet it errs) with items := rest })).kept
  exact ⟨_, _, hrun, (State.queue?_send_item ..).trans (State.queue?_setQueue hq' _), rfl, rfl, rfl,
    congrArg _ hsent, hkept⟩

/-- A header segment beyond correction rinses the hamper; a tile with no job has no owner to tell (R115). -/
theorem queueRead_rinses_hamper {t : TileNo} {n : Nat} {s : State} {it : QItem} {rest : List QItem}
    (hitems : (s.tile t).hamper.items = it :: rest) (hjob : (s.tile t).job = none) (hn : 16 ≤ n) (hseg : n ≤ it.segs.length) : ∃ u,
    exec (.queueRead (.hamper t) [⟨0, n, true⟩]) s = .next u ∧ (u.tile t).hamper.items = [] ∧
    (u.tile t).hamper.rinses = (s.tile t).hamper.rinses + 1 ∧ u = { s with tiles := u.tiles, cnt := u.cnt } := by
  have hrun := exec_queueRead_of_some [⟨0, n, true⟩] (s := s) (i := .hamper t) rfl hitems
  rw [headerFault_hamper hn hseg, if_pos rfl] at hrun
  generalize faultsMet it [⟨0, n, true⟩] = es at hrun
  have htile : ((((s.countFaults (.hamper t) es).setQueue (.hamper t) ((s.tile t).hamper.countFaults es).rinse).hamperCount
      (.hamper t) 6 1).tile t) = { s.tile t with hamper := ((s.tile t).hamper.countFaults es).rinse } := by
    simp [State.setQueue]
  rw [State.headerLost_of_no_job ((congrArg Tile.job htile).trans hjob)] at hrun
  exact ⟨_, hrun, congrArg (fun x => x.hamper.items) htile, congrArg (fun x => x.hamper.rinses) htile,
    ((hamperFrame_countFaults s (.hamper t) es).trans (hamperFrame_setQueue ..)).trans (hamperFrame_hamperCount _ _ _ _)⟩

/-- Settles O16: each command is one `Queue` operation put back by `setQueue`, and settling loses the first items of a lost packet. -/
theorem queueMacro : Obligations.QueueMacro := by
  unfold Obligations.QueueMacro
  refine ⟨fun i item s q hq => ⟨fun hroom hd => ?_, fun o r hfull hover hitems => ?_, fun hitems hd hpos => ?_,
    fun hfull hhold => exec_queueWrite_of_none hq (Queue.write_of_full_hold item hfull hhold)⟩,
    ⟨fun i errs s q it rest hq => queueRead_delivers hq, fun t n s it rest => queueRead_rinses_hamper,
     fun i s q hq => ⟨_, exec_queueRinse_of_some hq, State.setQueue_hamperCount hq q.rinse 6 1⟩⟩,
    fun q q' i => Queue.write_keeps_bound⟩
  · have hw : q.write item = some { q with items := q.items ++ [item] } := by
      rw [Queue.write_of_room item hroom, Queue.settle_of_not_dropping q _ hd]
    exact ⟨_, exec_queueWrite_of_some hq hw, State.setQueue_hamperCount hq _ 2 1⟩
  · have hw := Queue.write_of_full_overwrite item hfull hover hitems
    obtain ⟨hget, hframe⟩ := State.setQueue_hamperCount hq (Queue.settle { q with lost := q.lost + 1, dropping := !o.last } (r ++ [item])) 2 1
    refine ⟨_, exec_queueWrite_of_some hq hw, hget, fun hlast => ?_, fun hlast => ?_, hframe⟩
    · rw [hget, hlast, Queue.settle_of_not_dropping _ _ rfl]
      rfl
    · obtain ⟨k, hk⟩ := Queue.settle_losesFirst { q with lost := q.lost + 1, dropping := !o.last } (r ++ [item]) (by simp [hlast])
      exact ⟨_, k, hget, hk.le, hk.items, hk.lost, hk.unmarked, hk.emptied, fun h => (hk.marked h).2⟩
  · have hw : q.write item = some { q with lost := q.lost + 1, dropping := !item.last } := by
      rw [Queue.write_of_room item (by simpa [hitems] using hpos), hitems]
      simp [Queue.settle, hd]
    exact ⟨_, exec_queueWrite_of_some hq hw, State.setQueue_hamperCount hq _ 2 1⟩

end Sys2Proof.Machine
end

section
/-! SUPPORT. What every command keeps (00 R6, 14 R401, R402, 18 R473): the commands that wait behind it, the canonical form of memory, the
fuses that are blown, and a closed debug connection once the seal is blown. -/

open Sys2Proof Sys2Proof.Machine

set_option maxRecDepth 4000

namespace Sys2Proof.Machine

/-! ### What a step may change -/

/-- The outcome is a next state, and it has the property. -/
def Gives (P : State → Prop) (o : Out) : Prop := ∃ u, o = .next u ∧ P u

theorem gives_next (P : State → Prop) (u : State) : Gives P (.next u) ↔ P u := by
  simp [Gives]

theorem Gives.imp {P Q : State → Prop} {o : Out} (h : Gives P o) (hPQ : ∀ u, P u → Q u) : Gives Q o := by
  obtain ⟨u, ho, hu⟩ := h
  exact ⟨u, ho, hPQ u hu⟩

/-- From `s` to `u` no counted rollback fuse and no blown seal fuse is taken back (R401, R473). -/
def FusesRise (s u : State) : Prop := s.fuses.rollback ≤ u.fuses.rollback ∧ (s.sealBlown = true → u.sealBlown = true)

theorem FusesRise.of_eq {s u : State} (h : u.fuses = s.fuses) : FusesRise s u := by
  simp [FusesRise, State.sealBlown, h]

theorem FusesRise.trans {s u w : State} (hu : FusesRise s u) (hw : FusesRise u w) : FusesRise s w :=
  ⟨hu.1.trans hw.1, hw.2 ∘ hu.2⟩

theorem fusesRise_foldl {α : Type} (f : State → α → State) (l : List α) (s : State) (h : ∀ s a, FusesRise s (f s a)) :
    FusesRise s (l.foldl f s) := by
  induction l generalizing s with
  | nil => exact .of_eq rfl
  | cons a l ih => exact (h s a).trans (ih _)

/-- Fuses in programming and resets that wait for them are no fuses blown. -/
theorem fusesRise_setBlowing (s : State) (j : Option FuseJob) : FusesRise s (s.setBlowing j) := ⟨Nat.le_refl _, id⟩

theorem fusesRise_objWrite (s : State) (r : Requester) (idx sub : Nat) (v : Bytes) (typ : Nat) (extra : List Status)
    (act : State → State) (h : ∀ s, FusesRise s (act s)) : FusesRise s (s.objWrite r idx sub v typ extra act) := by
  simp only [State.objWrite]
  (repeat' split) <;> first | exact .of_eq (by simp) | exact h _

theorem fusesRise_writeSeal (s : State) (r : Requester) (v : Bytes) : FusesRise s (s.writeSeal r v) :=
  fusesRise_objWrite _ _ _ _ _ _ _ _ (fun _ => ⟨Nat.le_refl _, id⟩)

theorem fusesRise_confirm (s : State) (r : Requester) : FusesRise s (s.confirm r) := by
  simp only [State.confirm]
  split
  · exact .of_eq (by simp)
  · split
    · exact ⟨Nat.le_refl _, id⟩
    · exact .of_eq (by simp)

theorem fusesRise_writeConfirm (s : State) (r : Requester) (v : Bytes) : FusesRise s (s.writeConfirm r v) := by
  refine fusesRise_objWrite _ _ _ _ _ _ _ _ (fun s => ?_)
  split
  · exact .of_eq (by simp)
  · exact fusesRise_confirm s r

/-- A fuse cut short by a loss of power is blown or not; one blown before stays blown (R498). -/
theorem fusesRise_tornFuse (s : State) : FusesRise s s.tornFuse := by
  simp only [State.tornFuse]
  split
  · exact .of_eq rfl
  · rename_i job _
    match job with
    | .seal r second => cases second <;> simp [FusesRise, State.sealBlown, State.draw] <;> tauto
    | .rollback r n => exact ⟨Nat.le_add_right _ _, id⟩

theorem fusesRise_cold (s : State) (cause : Nat) (hold : List Hold) : FusesRise s (s.cold cause hold) := ⟨Nat.le_refl _, id⟩

theorem fusesRise_warm (s : State) (cause : Nat) : FusesRise s (s.warm cause) :=
  FusesRise.trans (u := { s with fuses := { s.fuses with blowing := none, deferred := [] } }) ⟨Nat.le_refl _, id⟩
    (.of_eq (by simp [State.warm]))

theorem fusesRise_partFailed (s : State) (ok : Bool) : FusesRise s (s.partFailed ok) := by
  have hrecovery : FusesRise s ({ s.warm s.boot.lastReset with cnt := s.cnt } : State).enterRecovery :=
    (fusesRise_warm s s.boot.lastReset).trans (.of_eq (by simp))
  simp only [State.partFailed]
  split
  · split
    · exact FusesRise.trans (.of_eq (by simp)) (fusesRise_warm _ _)
    · exact hrecovery
  · exact hrecovery

theorem fusesRise_bootChain (s : State) (record : Bytes) (ok : Bool) : FusesRise s (s.bootChain record ok) := by
  simp only [State.bootChain]
  split
  · exact fusesRise_partFailed s ok
  · split
    · exact FusesRise.trans (.of_eq (by simp)) (fusesRise_partFailed _ ok)
    · rename_i h
      exact .of_eq ((loadOptics_fuses h).trans (by simp))

theorem fusesRise_networkStart (s : State) : FusesRise s s.networkStart := by
  simp only [State.networkStart]
  generalize hchain : State.bootChain _ _ _ = u
  have hu : FusesRise s u := by
    rw [← hchain]
    exact FusesRise.trans (.of_eq (by rfl)) (fusesRise_bootChain _ _ _)
  exact hu.trans (.of_eq (by simp))

theorem fusesRise_bootFrom (s : State) (b ok : Bool) : FusesRise s (s.bootFrom b ok) := by
  simp only [State.bootFrom]
  generalize hchain : State.bootChain _ _ _ = u
  have hu : FusesRise s u := by
    rw [← hchain]
    exact FusesRise.trans (.of_eq (by rfl)) (fusesRise_bootChain _ _ _)
  split
  · exact hu.trans (.of_eq (by simp))
  · exact hu

theorem fusesRise_bootSlot (s : State) (ok : Bool) : FusesRise s (s.bootSlot ok) := by
  have hsel := bootSelect_fuses s ok
  simp only [State.bootSlot]
  split <;> rename_i h <;> rw [h] at hsel
  · exact .of_eq (by simpa using hsel)
  · exact FusesRise.trans (.of_eq hsel) (fusesRise_bootFrom _ _ _)

theorem fusesRise_bootBy (s : State) (sel : Nat) (ok : Bool) : FusesRise s (s.bootBy sel ok) := by
  unfold State.bootBy
  split
  · exact fusesRise_bootSlot s ok
  all_goals exact .of_eq (by simp)

theorem fusesRise_watchdogReset (s : State) : FusesRise s s.watchdogReset := by
  unfold State.watchdogReset
  split
  · split
    · exact (fusesRise_cold s 3 []).trans (.of_eq rfl)
    · exact fusesRise_warm s 3
  · exact fusesRise_warm s 3

theorem fusesRise_powerLoss (s : State) : FusesRise s s.powerLoss :=
  (fusesRise_tornFuse s).trans ((fusesRise_cold _ 1 [.power]).trans (.of_eq rfl))

theorem fusesRise_runDeferred (s : State) : FusesRise s s.runDeferred := by
  refine FusesRise.trans (u := { s with fuses := { s.fuses with deferred := [] } }) ⟨Nat.le_refl _, id⟩ ?_
  simp only [State.runDeferred]
  split
  · exact fusesRise_cold _ _ _
  · split
    · exact fusesRise_watchdogReset _
    · exact .of_eq rfl

theorem fusesRise_fuseGood (s : State) (j : FuseJob) : FusesRise s (s.fuseGood j) := by
  match j with
  | .seal r second =>
    have hseal : FusesRise s { s with fuses := { s.fuses with seal0 := true } } ∧
        FusesRise s { s with fuses := { s.fuses with seal1 := true } } := by simp [FusesRise, State.sealBlown]
    cases second with
    | false => exact hseal.1.trans (fusesRise_setBlowing _ _)
    | true => exact hseal.2.trans ((fusesRise_setBlowing _ none).trans (.of_eq (by simp [State.fuseGood])))
  | .rollback r n =>
    refine FusesRise.trans (u := { s with fuses := { s.fuses with rollback := s.fuses.rollback + 1 } }) ⟨Nat.le_succ _, id⟩ ?_
    simp only [State.fuseGood]
    split
    · exact .of_eq rfl
    · split
      · exact (fusesRise_setBlowing _ none).trans (.of_eq (by simp))
      · exact fusesRise_setBlowing _ none

theorem fusesRise_fuseBad (s : State) (j : FuseJob) : FusesRise s (s.fuseBad j) := by
  cases j <;> exact (fusesRise_setBlowing s none).trans (.of_eq (by simp [State.fuseBad]))

theorem fusesRise_fuseDone (s : State) (ok : Bool) : FusesRise s (s.fuseDone ok) := by
  unfold State.fuseDone
  split
  · exact .of_eq rfl
  · rename_i j _
    have hjob : FusesRise s (if ok then s.fuseGood j else s.fuseBad j) := by
      split
      · exact fusesRise_fuseGood s j
      · exact fusesRise_fuseBad s j
    generalize (if ok then s.fuseGood j else s.fuseBad j) = u at hjob ⊢
    dsimp only
    split
    · exact hjob
    · exact hjob.trans (fusesRise_runDeferred _)

theorem fusesRise_writeModule {s u : State} {r : Requester} {idx sub : Nat} {v : Bytes} (h : s.writeModule r idx sub v = some u) :
    FusesRise s u := by
  simp only [State.writeModule] at h
  split at h <;> first | cases h; done | (obtain rfl := Option.some.inj h)
  case h_13 => exact fusesRise_writeConfirm s r v
  case h_15 => exact fusesRise_writeSeal s r v
  all_goals exact .of_eq (by simp)

theorem fusesRise_writeObject (s : State) (r : Requester) (idx sub typ : Nat) (v : Bytes) :
    FusesRise s (s.writeObject r idx sub typ v) := by
  simp only [State.writeObject]
  split
  · exact .of_eq (by simp)
  · split
    · exact .of_eq (by simp)
    · split
      · exact .of_eq (by simp)
      · split
        · rename_i h
          rcases Option.or_eq_some_iff.1 h with hhost | ⟨_, hmod⟩
          · exact .of_eq (writeHost_fuses hhost)
          · exact fusesRise_writeModule hmod
        · exact .of_eq (by simp)

theorem fusesRise_runWaiter (s : State) (w : Waiter) : FusesRise s (s.runWaiter w) := by
  unfold State.runWaiter
  dsimp only
  split
  · exact .of_eq (by simp)
  · split
    · exact .of_eq (by simp)
    · split
      · exact .of_eq (by simp)
      · exact fusesRise_writeObject _ _ _ _ _ _

theorem fusesRise_wake (s : State) : FusesRise s s.wake := by
  unfold State.wake
  exact FusesRise.trans (.of_eq (by rfl)) (fusesRise_foldl _ _ _ fusesRise_runWaiter)

theorem fusesRise_verifyStage (s : State) (r : Requester) (p : Bytes) : FusesRise s (s.verifyStage r p) := by
  unfold State.verifyStage
  split
  · exact .of_eq (by simp)
  · generalize hanswer : State.answerBlock _ _ _ _ _ _ = u
    have hu : FusesRise s u := .of_eq (by rw [← hanswer]; simp)
    dsimp only
    split
    · exact hu.trans (fusesRise_networkStart u)
    · exact hu

theorem fusesRise_applyBlock (s : State) (r : Requester) (x : BlockTransfer) (p : Bytes) : FusesRise s (s.applyBlock r x p) := by
  have hdrop : FusesRise s (s.dropTransfer x.sid) := .of_eq (by simp)
  simp only [State.applyBlock]
  split
  · exact .of_eq (by simp)
  · split
    · exact hdrop.trans (fusesRise_verifyStage _ _ _)
    · exact hdrop.trans (FusesRise.trans (.of_eq (by rfl)) (fusesRise_writeObject _ r (bkIdx p) (bkSub p) 8 _))

/-- From `s` to `u` the waiting commands, the TAP and the fuses are as before, and memory keeps its canonical form. -/
def Leaves (s u : State) : Prop :=
  u.pending = s.pending ∧ u.tap = s.tap ∧ u.fuses = s.fuses ∧ (Memory.wf s.mem = true → Memory.wf u.mem = true)

@[simp] theorem gives_leaves_next (s u : State) : Gives (Leaves s) (.next u) ↔ u.pending = s.pending ∧ u.tap = s.tap ∧
    u.fuses = s.fuses ∧ (Memory.wf s.mem = true → Memory.wf u.mem = true) := gives_next _ _

theorem Leaves.trans {s u w : State} (hu : Leaves s u) (hw : Leaves u w) : Leaves s w := by
  obtain ⟨hp, ht, hf, hm⟩ := hu
  obtain ⟨hp', ht', hf', hm'⟩ := hw
  exact ⟨hp'.trans hp, ht'.trans ht, hf'.trans hf, hm' ∘ hm⟩

theorem leaves_modTile (s : State) (t : Nat) (f : Tile → Tile) : Leaves s (s.modTile t f) := ⟨rfl, rfl, rfl, id⟩

theorem leaves_foldl {α : Type} (f : State → α → State) (l : List α) (s : State) (h : ∀ s a, Leaves s (f s a)) :
    Leaves s (l.foldl f s) := by
  induction l generalizing s with
  | nil => exact ⟨rfl, rfl, rfl, id⟩
  | cons a l ih => exact (h s a).trans (ih _)

/-- What every command keeps: the commands behind it, blown fuses, a debug connection closed under a blown seal, and memory's form. -/
structure Kept (s u : State) : Prop where
  pending : u.pending = s.pending
  fuses : FusesRise s u
  debug : s.sealBlown = true → s.tap.debugOpen = false → u.tap.debugOpen = false
  mem : Memory.wf s.mem = true → Memory.wf u.mem = true

theorem Kept.of_tap {s u : State} (hp : u.pending = s.pending) (ht : u.tap = s.tap) (hf : FusesRise s u)
    (hm : Memory.wf s.mem = true → Memory.wf u.mem = true) : Kept s u :=
  ⟨hp, hf, fun _ h => ht ▸ h, hm⟩

theorem Kept.of_leaves {s u : State} (h : Leaves s u) : Kept s u :=
  .of_tap h.1 h.2.1 (.of_eq h.2.2.1) h.2.2.2

theorem Kept.refl (s : State) : Kept s s := .of_leaves ⟨rfl, rfl, rfl, id⟩

theorem Kept.trans {s u w : State} (hu : Kept s u) (hw : Kept u w) : Kept s w :=
  ⟨hw.pending.trans hu.pending, hu.fuses.trans hw.fuses, fun hs hd => hw.debug (hu.fuses.2 hs) (hu.debug hs hd), hw.mem ∘ hu.mem⟩

/-! ### The commands that leave TAP and fuses alone -/

/-! Array -/

@[simp] theorem execPassIssue_leaves (t : TileNo) (d : Bytes) (poisoned : Bool) (s : State) :
    Gives (Leaves s) (execPassIssue t d poisoned s) := by
  simp only [execPassIssue]; (repeat' split) <;> simp +contextual

@[simp] theorem execPassStart_leaves (t : TileNo) (feedBubbles drainStalls : Nat) (s : State) :
    Gives (Leaves s) (execPassStart t feedBubbles drainStalls s) := by
  simp only [execPassStart]; (repeat' split) <;> simp +contextual

@[simp] theorem execPassLastColumn_leaves (t : TileNo) (feedBubbles : Nat) (faulty : List Nat) (s : State) :
    Gives (Leaves s) (execPassLastColumn t feedBubbles faulty s) := by
  simp only [execPassLastColumn]; (repeat' split) <;> simp +contextual

@[simp] theorem execPassResultsDone_leaves (t : TileNo) (s : State) : Gives (Leaves s) (execPassResultsDone t s) := by
  simp only [execPassResultsDone]; (repeat' split) <;> simp +contextual

@[simp] theorem execDrainUnit_leaves (t : TileNo) (s : State) : Gives (Leaves s) (execDrainUnit t s) := by
  simp only [execDrainUnit]; (repeat' split) <;> simp +contextual

/-! Queue -/

@[simp] theorem execQueueWrite_leaves (i : QueueId) (item : QItem) (s : State) : Gives (Leaves s) (execQueueWrite i item s) := by
  simp only [execQueueWrite]; (repeat' split) <;> simp +contextual

@[simp] theorem execQueueRead_leaves (i : QueueId) (errs : List SegFault) (s : State) : Gives (Leaves s) (execQueueRead i errs s) := by
  simp only [execQueueRead]; (repeat' split) <;> simp +contextual

@[simp] theorem execQueueRinse_leaves (i : QueueId) (s : State) : Gives (Leaves s) (execQueueRinse i s) := by
  simp only [execQueueRinse]; (repeat' split) <;> simp +contextual

/-! Tenancy -/

@[simp] theorem execAttestSigned_leaves (s : State) : Gives (Leaves s) (execAttestSigned s) := by
  simp only [execAttestSigned]; (repeat' split) <;> simp +contextual

/-! Ports -/

@[simp] theorem execPortLinkUp_leaves (p : Port) (lanes : Byte) (s : State) : Gives (Leaves s) (execPortLinkUp p lanes s) := by
  simp only [execPortLinkUp]; (repeat' split) <;> simp +contextual

@[simp] theorem execLaneFailFallback_leaves (p : Port) (lanes : Byte) (s : State) :
    Gives (Leaves s) (execLaneFailFallback p lanes s) := by
  simp only [execLaneFailFallback]; (repeat' split) <;> simp +contextual

@[simp] theorem execPortRetry_leaves (p : Port) (lanes : Byte) (s : State) : Gives (Leaves s) (execPortRetry p lanes s) := by
  simp only [execPortRetry]; (repeat' split) <;> simp +contextual

@[simp] theorem execFrameReceive_leaves (p : Port) (f : Frame) (s : State) : Gives (Leaves s) (execFrameReceive p f s) := by
  simp only [execFrameReceive]; (repeat' split) <;> simp +contextual

@[simp] theorem execPfcXon_leaves (p : Port) (second : Bool) (held : Nat) (s : State) :
    Gives (Leaves s) (execPfcXon p second held s) := by
  simp only [execPfcXon]; (repeat' split) <;> simp +contextual

@[simp] theorem execPfcReceive_leaves (p : Port) (prio : Fin 8) (pause : Bool) (s : State) :
    Gives (Leaves s) (execPfcReceive p prio pause s) := by
  simp only [execPfcReceive]; (repeat' split) <;> simp +contextual

@[simp] theorem execPauseStorm_leaves (p : Port) (second : Bool) (s : State) : Gives (Leaves s) (execPauseStorm p second s) := by
  simp only [execPauseStorm]; (repeat' split) <;> simp +contextual

@[simp] theorem execPauseHonourResume_leaves (p : Port) (second : Bool) (s : State) :
    Gives (Leaves s) (execPauseHonourResume p second s) := by
  simp only [execPauseHonourResume]; (repeat' split) <;> simp +contextual

@[simp] theorem execCnpReceive_leaves (qp : Fin 16384) (s : State) : Gives (Leaves s) (execCnpReceive qp s) := by
  simp only [execCnpReceive]; (repeat' split) <;> simp +contextual

@[simp] theorem execRateRecover_leaves (qp : Fin 16384) (s : State) : Gives (Leaves s) (execRateRecover qp s) := by
  simp only [execRateRecover]; (repeat' split) <;> simp +contextual

/-! Gather -/

@[simp] theorem execGatherElementIssue_leaves (d : DieNo) (s : State) : Gives (Leaves s) (execGatherElementIssue d s) := by
  simp only [execGatherElementIssue]; (repeat' split) <;> simp +contextual

@[simp] theorem execGatherComplete_leaves (d : DieNo) (id : Nat) (s : State) : Gives (Leaves s) (execGatherComplete d id s) := by
  simp only [execGatherComplete]; (repeat' split) <;> simp +contextual

@[simp] theorem execGatherWait_leaves (t : TileNo) (id : Nat) (s : State) : Gives (Leaves s) (execGatherWait t id s) := by
  simp only [execGatherWait]; (repeat' split) <;> simp +contextual

@[simp] theorem execGatherWaitResume_leaves (t : TileNo) (s : State) : Gives (Leaves s) (execGatherWaitResume t s) := by
  simp only [execGatherWaitResume]; (repeat' split) <;> simp +contextual

@[simp] theorem execHostTransferFail_leaves (t : TileNo) (id : Nat) (s : State) : Gives (Leaves s) (execHostTransferFail t id s) := by
  simp only [execHostTransferFail]; (repeat' split) <;> simp +contextual

/-! Stack -/

@[simp] theorem execStackRequestGrant_leaves (d : DieNo) (ch : Fin 32) (s : State) : Gives (Leaves s) (execStackRequestGrant d ch s) := by
  simp only [execStackRequestGrant]; (repeat' split) <;> simp +contextual

@[simp] theorem execStackReadReturn_leaves (d : DieNo) (ch : Fin 32) (slot : Nat) (reads : List (List SectorFault)) (s : State) :
    Gives (Leaves s) (execStackReadReturn d ch slot reads s) := by
  simp only [execStackReadReturn]; (repeat' split) <;> simp +contextual

@[simp] theorem execStackWriteDone_leaves (d : DieNo) (ch : Fin 32) (slot : Nat) (s : State) :
    Gives (Leaves s) (execStackWriteDone d ch slot s) := by
  simp only [execStackWriteDone]; (repeat' split) <;> simp +contextual

@[simp] theorem execStackWriteback_leaves (d : DieNo) (s : State) : Gives (Leaves s) (execStackWriteback d s) := by
  simp only [execStackWriteback]; (repeat' split) <;> simp +contextual

@[simp] theorem execSeqTier1Load_leaves (t : TileNo) (addr : Fa) (s : State) : Gives (Leaves s) (execSeqTier1Load t addr s) := by
  simp only [execSeqTier1Load]; (repeat' split) <;> simp +contextual

@[simp] theorem execSeqTier1Store_leaves (t : TileNo) (addr : Fa) (s : State) : Gives (Leaves s) (execSeqTier1Store t addr s) := by
  simp only [execSeqTier1Store]; (repeat' split) <;> simp +contextual

@[simp] theorem execCommitFence_leaves (t : TileNo) (addr : Fa) (pages : Nat) (s : State) :
    Gives (Leaves s) (execCommitFence t addr pages s) := by
  simp only [execCommitFence]; (repeat' split) <;> simp +contextual

@[simp] theorem execCommitFenceDone_leaves (t : TileNo) (s : State) : Gives (Leaves s) (execCommitFenceDone t s) := by
  simp only [execCommitFenceDone]; (repeat' split) <;> simp +contextual

@[simp] theorem execPageRecycle_leaves (t : TileNo) (addr : Fa) (s : State) : Gives (Leaves s) (execPageRecycle t addr s) := by
  simp only [execPageRecycle]; (repeat' split) <;> simp +contextual

@[simp] theorem execPageRecycleDone_leaves (d : DieNo) (addr : Fa) (s : State) : Gives (Leaves s) (execPageRecycleDone d addr s) := by
  simp only [execPageRecycleDone]; (repeat' split) <;> simp +contextual

/-! Selection -/

@[simp] theorem execSelIssue_leaves (t : TileNo) (d : Bytes) (poisoned : Bool) (s : State) :
    Gives (Leaves s) (execSelIssue t d poisoned s) := by
  simp only [execSelIssue]; (repeat' split) <;> simp +contextual

@[simp] theorem execSelOpen_leaves (t : TileNo) (s : State) : Gives (Leaves s) (execSelOpen t s) := by
  simp only [execSelOpen]; (repeat' split) <;> simp +contextual

@[simp] theorem execSelFeed_leaves (t : TileNo) (s : State) : Gives (Leaves s) (execSelFeed t s) := by
  simp only [execSelFeed]; (repeat' split) <;> simp +contextual

@[simp] theorem execSelectWait_leaves (t : TileNo) (slot : Fin 8) (s : State) : Gives (Leaves s) (execSelectWait t slot s) := by
  simp only [execSelectWait]; (repeat' split) <;> simp +contextual

@[simp] theorem execSelectWaitResume_leaves (t : TileNo) (s : State) : Gives (Leaves s) (execSelectWaitResume t s) := by
  simp only [execSelectWaitResume]; (repeat' split) <;> simp +contextual

@[simp] theorem execSelClose_leaves (t : TileNo) (s : State) : Gives (Leaves s) (execSelClose t s) := by
  simp only [execSelClose]
  split
  · simp
  · split
    · simp
    · generalize hstore : s.storeClean _ _ = u
      have hu : Leaves s u := by rw [← hstore]; simp +contextual [Leaves]
      generalize hclose : u.modTile t _ = w
      have hw : Leaves u w := hclose ▸ leaves_modTile _ _ _
      refine (gives_next _ _).2 ((hu.trans hw).trans ?_)
      simp +contextual [Leaves]

@[simp] theorem execSelMerge_leaves (t : TileNo) (s : State) : Gives (Leaves s) (execSelMerge t s) := by
  simp only [execSelMerge]
  split
  · simp
  · split
    · simp
    · generalize Memory.reads s.mem _ 32 = h
      generalize accBase = b
      (repeat' split) <;> simp +contextual

/-! Search -/

@[simp] theorem execSearchAdmit_leaves (req : W32) (query : Transfer) (s : State) : Gives (Leaves s) (execSearchAdmit req query s) := by
  simp only [execSearchAdmit]; (repeat' split) <;> simp +contextual

@[simp] theorem execBatchClose_leaves (coll : Fin 256) (s : State) : Gives (Leaves s) (execBatchClose coll s) := by
  simp only [execBatchClose]; (repeat' split) <;> simp +contextual

@[simp] theorem execSearchResult_leaves (req : W32) (s : State) : Gives (Leaves s) (execSearchResult req s) := by
  simp only [execSearchResult]; (repeat' split) <;> simp +contextual

@[simp] theorem execUpdateCommit_leaves (coll : Fin 256) (src : DieNo) (entries : Transfer) (s : State) :
    Gives (Leaves s) (execUpdateCommit coll src entries s) := by
  simp only [execUpdateCommit]; (repeat' split) <;> simp +contextual

@[simp] theorem execFoldSwitch_leaves (coll : Fin 256) (f : FoldRequest) (s : State) : Gives (Leaves s) (execFoldSwitch coll f s) := by
  simp only [execFoldSwitch]; (repeat' split) <;> simp +contextual

@[simp] theorem execFoldSwitchRelease_leaves (coll : Fin 256) (s : State) : Gives (Leaves s) (execFoldSwitchRelease coll s) := by
  simp only [execFoldSwitchRelease]; (repeat' split) <;> simp +contextual

@[simp] theorem execVersionRelease_leaves (coll : Fin 256) (s : State) : Gives (Leaves s) (execVersionRelease coll s) := by
  simp only [execVersionRelease]; (repeat' split) <;> simp +contextual

/-! Tables -/

@[simp] theorem execLookupAdmit_leaves (req : W32) (indices : Transfer) (s : State) :
    Gives (Leaves s) (execLookupAdmit req indices s) := by
  simp only [execLookupAdmit]; (repeat' split) <;> simp +contextual

@[simp] theorem execLookupDone_leaves (req : W32) (s : State) : Gives (Leaves s) (execLookupDone req s) := by
  simp only [execLookupDone]; (repeat' split) <;> simp +contextual

@[simp] theorem execStageBatch_leaves (table : Fin 1024) (entries : Transfer) (s : State) :
    Gives (Leaves s) (execStageBatch table entries s) := by
  simp only [execStageBatch]; (repeat' split) <;> simp +contextual

@[simp] theorem execTableSwitch_leaves (table : Fin 1024) (s : State) : Gives (Leaves s) (execTableSwitch table s) := by
  simp only [execTableSwitch]; (repeat' split) <;> simp +contextual

@[simp] theorem execTableSwitchRelease_leaves (table : Fin 1024) (s : State) : Gives (Leaves s) (execTableSwitchRelease table s) := by
  simp only [execTableSwitchRelease]; (repeat' split) <;> simp +contextual

@[simp] theorem execTableVersionRelease_leaves (table : Fin 1024) (s : State) : Gives (Leaves s) (execTableVersionRelease table s) := by
  simp only [execTableVersionRelease]; (repeat' split) <;> simp +contextual

@[simp] theorem execTableBuild_leaves (table : Fin 1024) (b : BuildRequest) (s : State) : Gives (Leaves s) (execTableBuild table b s) := by
  simp only [execTableBuild]; (repeat' split) <;> simp +contextual (maxDischargeDepth := 60)

/-! Text -/

@[simp] theorem execTokenise_leaves (req : W32) (lanes : List Transfer) (s : State) : Gives (Leaves s) (execTokenise req lanes s) := by
  simp only [execTokenise]; (repeat' split) <;> simp +contextual

@[simp] theorem execVcacheFill_leaves (d : DieNo) (addr : Fa) (s : State) : Gives (Leaves s) (execVcacheFill d addr s) := by
  simp only [execVcacheFill]; (repeat' split) <;> simp +contextual

@[simp] theorem execTextInput_leaves (d : DieNo) (requesters : List Nat) (s : State) :
    Gives (Leaves s) (execTextInput d requesters s) := by
  simp +contextual [execTextInput]

@[simp] theorem execDetokenise_leaves (req : W32) (id : W32) (s : State) : Gives (Leaves s) (execDetokenise req id s) := by
  simp only [execDetokenise]; (repeat' split) <;> simp +contextual

@[simp] theorem execDirective_leaves (req : W32) (s : State) : Gives (Leaves s) (execDirective req s) := by
  simp only [execDirective]; (repeat' split) <;> simp +contextual

@[simp] theorem execDirectiveStep0_leaves (req : W32) (s : State) : Gives (Leaves s) (execDirectiveStep0 req s) := by
  simp only [execDirectiveStep0]; (repeat' split) <;> simp +contextual

/-! Serve -/

@[simp] theorem execDescriptorRead_leaves (req : W32) (data : Transfer) (s : State) :
    Gives (Leaves s) (execDescriptorRead req data s) := by
  simp only [execDescriptorRead]; (repeat' split) <;> simp +contextual

@[simp] theorem execStageAdmit_leaves (req : W32) (s : State) : Gives (Leaves s) (execStageAdmit req s) := by
  simp only [execStageAdmit]; (repeat' split) <;> simp +contextual

@[simp] theorem execStageHandoff_leaves (req : W32) (status : Byte) (s : State) : Gives (Leaves s) (execStageHandoff req status s) := by
  simp only [execStageHandoff]; (repeat' split) <;> simp +contextual

@[simp] theorem execEmbedStage_leaves (req : W32) (dense : List W32) (s : State) : Gives (Leaves s) (execEmbedStage req dense s) := by
  simp only [execEmbedStage]; (repeat' split) <;> simp +contextual

@[simp] theorem execRerankStage_leaves (req : W32) (scores : List W32) (s : State) : Gives (Leaves s) (execRerankStage req scores s) := by
  simp only [execRerankStage]; (repeat' split) <;> simp +contextual

@[simp] theorem execPackStage_leaves (req : W32) (s : State) : Gives (Leaves s) (execPackStage req s) := by
  simp only [execPackStage]; (repeat' split) <;> simp +contextual

@[simp] theorem execGenerateAdmit_leaves (req : W32) (list : Transfer) (s : State) : Gives (Leaves s) (execGenerateAdmit req list s) := by
  simp only [execGenerateAdmit]; (repeat' split) <;> simp +contextual

@[simp] theorem execKvReserveGrant_leaves (model : Fin 256) (s : State) : Gives (Leaves s) (execKvReserveGrant model s) := by
  simp only [execKvReserveGrant]; (repeat' split) <;> simp +contextual

@[simp] theorem execKvWaitExpiry_leaves (req : W32) (s : State) : Gives (Leaves s) (execKvWaitExpiry req s) := by
  simp only [execKvWaitExpiry]; (repeat' split) <;> simp +contextual

@[simp] theorem execPrefillDone_leaves (req : W32) (s : State) : Gives (Leaves s) (execPrefillDone req s) := by
  simp only [execPrefillDone]; (repeat' split) <;> simp +contextual

@[simp] theorem execDecodeStep_leaves (req : W32) (z : List Logit) (s : State) : Gives (Leaves s) (execDecodeStep req z s) := by
  simp only [execDecodeStep]; (repeat' split) <;> simp +contextual

@[simp] theorem execOutputWrite_leaves (req : W32) (s : State) : Gives (Leaves s) (execOutputWrite req s) := by
  simp only [execOutputWrite]; (repeat' split) <;> simp +contextual

@[simp] theorem execOutputWriteFail_leaves (req : W32) (cause : Cause) (s : State) :
    Gives (Leaves s) (execOutputWriteFail req cause s) := by
  simp only [execOutputWriteFail]; (repeat' split) <;> simp +contextual

/-! Vector -/

@[simp] theorem execAccAccessResume_leaves (t : TileNo) (s : State) : Gives (Leaves s) (execAccAccessResume t s) := by
  simp +contextual [execAccAccessResume]

@[simp] theorem execHpopComplete_leaves (t : TileNo) (errs : List SegFault) (s : State) :
    Gives (Leaves s) (execHpopComplete t errs s) := by
  simp only [execHpopComplete]; (repeat' split) <;> simp +contextual

theorem issueVector_leaves (s : State) (t : TileNo) (c : VCode) (o : VOp) : Gives (Leaves s) (.next (s.issueVector t c o)) := by
  simp +contextual

/-! Stream -/

@[simp] theorem execStreamStart_leaves (t : TileNo) (addr : BitVec 21) (s : State) : Gives (Leaves s) (execStreamStart t addr s) := by
  simp only [execStreamStart]; (repeat' split) <;> simp +contextual

@[simp] theorem execStreamRelease_leaves (t : TileNo) (n : Nat) (s : State) : Gives (Leaves s) (execStreamRelease t n s) := by
  simp only [execStreamRelease]; (repeat' split) <;> simp +contextual

@[simp] theorem execStreamEntryIssue_leaves (t : TileNo) (s : State) : Gives (Leaves s) (execStreamEntryIssue t s) := by
  simp only [execStreamEntryIssue]; (repeat' split) <;> simp +contextual

@[simp] theorem execStreamWait_leaves (t : TileNo) (entry : Nat) (s : State) : Gives (Leaves s) (execStreamWait t entry s) := by
  simp only [execStreamWait]; (repeat' split) <;> simp +contextual

@[simp] theorem execStreamWaitResume_leaves (t : TileNo) (s : State) : Gives (Leaves s) (execStreamWaitResume t s) := by
  simp only [execStreamWaitResume]; (repeat' split) <;> simp +contextual

@[simp] theorem execStreamEntryArrived_leaves (t : TileNo) (entry : Nat) (s : State) :
    Gives (Leaves s) (execStreamEntryArrived t entry s) := by
  simp only [execStreamEntryArrived]; (repeat' split) <;> simp +contextual (maxDischargeDepth := 60)

/-! Jobs -/

@[simp] theorem execJobEndInstr_leaves (t : TileNo) (s : State) : Gives (Leaves s) (execJobEndInstr t s) := by
  simp only [execJobEndInstr]; (repeat' split) <;> simp +contextual

/-! Qps -/

@[simp] theorem execRoceOpRefused_leaves (p : Port) (qp : Fin 16384) (s : State) : Gives (Leaves s) (execRoceOpRefused p qp s) := by
  simp only [execRoceOpRefused]; (repeat' split) <;> simp +contextual

@[simp] theorem execAckReceive_leaves (qp : Fin 16384) (n : Nat) (s : State) : Gives (Leaves s) (execAckReceive qp n s) := by
  simp only [execAckReceive]; (repeat' split) <;> simp +contextual

@[simp] theorem execNakReceive_leaves (qp : Fin 16384) (kind : NakKind) (s : State) : Gives (Leaves s) (execNakReceive qp kind s) := by
  simp only [execNakReceive]; (repeat' split) <;> simp +contextual

@[simp] theorem execRetransmitTimeout_leaves (qp : Fin 16384) (s : State) : Gives (Leaves s) (execRetransmitTimeout qp s) := by
  simp only [execRetransmitTimeout]; (repeat' split) <;> simp +contextual

/-! Rings -/

@[simp] theorem execCompletionWrite_leaves (req : W32) (s : State) : Gives (Leaves s) (execCompletionWrite req s) := by
  simp only [execCompletionWrite]; (repeat' split) <;> simp +contextual

@[simp] theorem execCompletionLost_leaves (req : W32) (s : State) : Gives (Leaves s) (execCompletionLost req s) := by
  simp only [execCompletionLost]; (repeat' split) <;> simp +contextual

@[simp] theorem execRoceWriteIn_leaves (p : Port) (qp : Fin 16384) (rkey : W32) (va : W64) (data : Bytes) (s : State) :
    Gives (Leaves s) (execRoceWriteIn p qp rkey va data s) := by
  simp only [execRoceWriteIn]; (repeat' split) <;> simp +contextual

@[simp] theorem execDoorbellTail_leaves (ring : Fin 262144) (d : Bytes) (s : State) : Gives (Leaves s) (execDoorbellTail ring d s) := by
  simp only [execDoorbellTail]; (repeat' split) <;> simp +contextual

@[simp] theorem execDoorbellHead_leaves (ring : Fin 262144) (d : Bytes) (s : State) : Gives (Leaves s) (execDoorbellHead ring d s) := by
  simp only [execDoorbellHead]; (repeat' split) <;> simp +contextual

@[simp] theorem execDoorbellCancel_leaves (ring : Fin 262144) (d : Bytes) (s : State) :
    Gives (Leaves s) (execDoorbellCancel ring d s) := by
  simp only [execDoorbellCancel]; (repeat' split) <;> simp +contextual

@[simp] theorem execEntryNop_leaves (ring : Fin 262144) (s : State) : Gives (Leaves s) (execEntryNop ring s) := by
  simp only [execEntryNop]; (repeat' split) <;> simp +contextual

@[simp] theorem execEntryRequest_leaves (ring : Fin 262144) (s : State) : Gives (Leaves s) (execEntryRequest ring s) := by
  simp only [execEntryRequest]; (repeat' split) <;> simp +contextual

@[simp] theorem execEntryUpdate_leaves (ring : Fin 262144) (s : State) : Gives (Leaves s) (execEntryUpdate ring s) := by
  simp only [execEntryUpdate]; (repeat' split) <;> simp +contextual

@[simp] theorem execEntryStage_leaves (ring : Fin 262144) (s : State) : Gives (Leaves s) (execEntryStage ring s) := by
  simp only [execEntryStage]; (repeat' split) <;> simp +contextual

/-! Integrity -/

@[simp] theorem execSramWriteback_leaves (t : TileNo) (s : State) : Gives (Leaves s) (execSramWriteback t s) := by
  simp only [execSramWriteback]; (repeat' split) <;> simp +contextual

@[simp] theorem execSoakFill_leaves (d : DieNo) (s : State) : Gives (Leaves s) (execSoakFill d s) := by
  simp only [execSoakFill]; (repeat' split) <;> simp +contextual

@[simp] theorem execLintRead_leaves (d : DieNo) (errs : List SectorFault) (late : Bool) (s : State) :
    Gives (Leaves s) (execLintRead d errs late s) := by
  simp only [execLintRead]; (repeat' split) <;> simp +contextual

@[simp] theorem execLintSramRow_leaves (t : TileNo) (errs : List SramFault) (s : State) :
    Gives (Leaves s) (execLintSramRow t errs s) := by
  simp only [execLintSramRow]; (repeat' split) <;> simp +contextual

@[simp] theorem execRemap_leaves (d : DieNo) (ch : Fin 32) (bank : Fin 16) (row : Nat) (ledgerOk : Bool) (s : State) :
    Gives (Leaves s) (execRemap d ch bank row ledgerOk s) := by
  simp only [execRemap]; (repeat' split) <;> simp +contextual

/-! Schedule -/

@[simp] theorem execCycleStart_leaves (n : Fin 16) (s : State) : Gives (Leaves s) (execCycleStart n s) := by
  simp only [execCycleStart]; (repeat' split) <;> simp +contextual

@[simp] theorem execSlotBoundary_leaves (n : Fin 16) (s : State) : Gives (Leaves s) (execSlotBoundary n s) := by
  simp only [execSlotBoundary]; (repeat' split) <;> simp +contextual

@[simp] theorem execCheapPoint_leaves (t : TileNo) (point : W32) (s : State) : Gives (Leaves s) (execCheapPoint t point s) := by
  simp only [execCheapPoint]; (repeat' split) <;> simp +contextual

@[simp] theorem execCheapGapExpiry_leaves (t : TileNo) (s : State) : Gives (Leaves s) (execCheapGapExpiry t s) := by
  simp only [execCheapGapExpiry]; (repeat' split) <;> simp +contextual

@[simp] theorem execStepBegin_leaves (t : TileNo) (s : State) : Gives (Leaves s) (execStepBegin t s) := by
  simp only [execStepBegin]; (repeat' split) <;> simp +contextual

@[simp] theorem execStepGrant_leaves (j : Fin 256) (remainingUs : Nat) (s : State) :
    Gives (Leaves s) (execStepGrant j remainingUs s) := by
  simp only [execStepGrant]; (repeat' split) <;> simp +contextual

@[simp] theorem execStepEnd_leaves (t : TileNo) (s : State) : Gives (Leaves s) (execStepEnd t s) := by
  simp only [execStepEnd]; (repeat' split) <;> simp +contextual

@[simp] theorem execWatchdogExpiry_leaves (j : Fin 256) (s : State) : Gives (Leaves s) (execWatchdogExpiry j s) := by
  simp only [execWatchdogExpiry]; (repeat' split) <;> simp +contextual

@[simp] theorem execWaitLimitExpiry_leaves (t : TileNo) (s : State) : Gives (Leaves s) (execWaitLimitExpiry t s) := by
  simp only [execWaitLimitExpiry]; (repeat' split) <;> simp +contextual

@[simp] theorem execSaveDone_leaves (j : Fin 256) (s : State) : Gives (Leaves s) (execSaveDone j s) := by
  simp only [execSaveDone]; (repeat' split) <;> simp +contextual (maxDischargeDepth := 60)

@[simp] theorem execRestoreDone_leaves (j : Fin 256) (s : State) : Gives (Leaves s) (execRestoreDone j s) := by
  simp only [execRestoreDone]
  split
  · simp +contextual
  · split
    · simp +contextual
    · generalize hu : List.foldl _ (s.beginRestore j) _ = u
      obtain ⟨hp, ht, hf, hw⟩ : Leaves (s.beginRestore j) u :=
        hu ▸ leaves_foldl _ _ _ (fun s d => by simp only [Leaves]; split <;> simp +contextual)
      simp only [State.beginRestore_keeps] at hp ht hf hw
      split <;> simp +contextual (maxDischargeDepth := 60) [hp, ht, hf, hw]

/-! Faults -/

@[simp] theorem execArrayRetire_leaves (t : TileNo) (s : State) : Gives (Leaves s) (execArrayRetire t s) := by
  simp only [execArrayRetire]; (repeat' split) <;> simp +contextual

@[simp] theorem execLinkFlitError_leaves (d : DieNo) (dir : Fin 4) (lanes : List Nat) (replays : Nat) (s : State) :
    Gives (Leaves s) (execLinkFlitError d dir lanes replays s) := by
  simp only [execLinkFlitError]; (repeat' split) <;> simp +contextual

@[simp] theorem execLinkRetrainDone_leaves (d : DieNo) (dir : Fin 4) (failed : List Nat) (discarded : Bool) (s : State) :
    Gives (Leaves s) (execLinkRetrainDone d dir failed discarded s) := by
  simp only [execLinkRetrainDone]; (repeat' split) <;> simp +contextual

@[simp] theorem execLinkLockLoss_leaves (d : DieNo) (dir : Fin 4) (lane : Nat) (s : State) :
    Gives (Leaves s) (execLinkLockLoss d dir lane s) := by
  simp only [execLinkLockLoss]; (repeat' split) <;> simp +contextual

@[simp] theorem execThresholdReached_leaves (d : DieNo) (res : Resource) (s : State) :
    Gives (Leaves s) (execThresholdReached d res s) := by
  simp only [execThresholdReached]; (repeat' split) <;> simp +contextual

@[simp] theorem execLaneRetire_leaves (d : DieNo) (dir : Fin 4) (lane : Nat) (s : State) :
    Gives (Leaves s) (execLaneRetire d dir lane s) := by
  simp only [execLaneRetire]; (repeat' split) <;> simp +contextual

@[simp] theorem execLinkRetire_leaves (d : DieNo) (dir : Fin 4) (s : State) : Gives (Leaves s) (execLinkRetire d dir s) := by
  simp only [execLinkRetire]; (repeat' split) <;> simp +contextual

@[simp] theorem execChannelRetire_leaves (d : DieNo) (ch : Fin 32) (s : State) : Gives (Leaves s) (execChannelRetire d ch s) := by
  simp only [execChannelRetire]; (repeat' split) <;> simp +contextual

@[simp] theorem execTileRetire_leaves (t : TileNo) (s : State) : Gives (Leaves s) (execTileRetire t s) := by
  simp only [execTileRetire]; (repeat' split) <;> simp +contextual

@[simp] theorem execDieRetire_leaves (d : DieNo) (s : State) : Gives (Leaves s) (execDieRetire d s) := by
  simp only [execDieRetire]; (repeat' split) <;> simp +contextual

@[simp] theorem execLedgerSummaryWrite_leaves (s : State) : Gives (Leaves s) (execLedgerSummaryWrite s) := by
  simp +contextual [execLedgerSummaryWrite]

/-! Resets -/

@[simp] theorem execSoakFillDone_leaves (d : DieNo) (ms : Nat) (s : State) : Gives (Leaves s) (execSoakFillDone d ms s) := by
  simp only [execSoakFillDone]; (repeat' split) <;> simp +contextual

@[simp] theorem execPowerGood_leaves (mv : Nat) (bootSel clkSel : BitVec 2) (refOk : Bool) (s : State) :
    Gives (Leaves s) (execPowerGood mv bootSel clkSel refOk s) := by
  simp only [execPowerGood]; (repeat' split) <;> simp +contextual

@[simp] theorem execResetNRelease_leaves (bootSel clkSel : BitVec 2) (refOk : Bool) (s : State) :
    Gives (Leaves s) (execResetNRelease bootSel clkSel refOk s) := by
  simp only [execResetNRelease]; (repeat' split) <;> simp +contextual

@[simp] theorem execRefRecover_leaves (bootSel clkSel : BitVec 2) (s : State) : Gives (Leaves s) (execRefRecover bootSel clkSel s) := by
  simp only [execRefRecover]; (repeat' split) <;> simp +contextual

@[simp] theorem execModuleResetWarm_leaves (r : Requester) (v : Bytes) (s : State) : Gives (Leaves s) (execModuleResetWarm r v s) := by
  simp only [execModuleResetWarm]; (repeat' split) <;> simp +contextual

@[simp] theorem execModuleResetCold_leaves (r : Requester) (v : Bytes) (s : State) : Gives (Leaves s) (execModuleResetCold r v s) := by
  simp only [execModuleResetCold]; (repeat' split) <;> simp +contextual

@[simp] theorem execContextResetDone_leaves (c : W16) (s : State) : Gives (Leaves s) (execContextResetDone c s) := by
  simp only [execContextResetDone]; (repeat' split) <;> simp +contextual

/-! Boot -/

@[simp] theorem execDiePowerGroup_leaves (s : State) : Gives (Leaves s) (execDiePowerGroup s) := by
  simp only [execDiePowerGroup]; (repeat' split) <;> simp +contextual

@[simp] theorem execPhyTrained_leaves (d : DieNo) (ok : Bool) (s : State) : Gives (Leaves s) (execPhyTrained d ok s) := by
  simp only [execPhyTrained]; (repeat' split) <;> simp +contextual

@[simp] theorem execAkDerived_leaves (s : State) : Gives (Leaves s) (execAkDerived s) := by
  simp only [execAkDerived]; (repeat' split) <;> simp +contextual

/-! Supply -/

@[simp] theorem execGovernorStretch_leaves (d : DieNo) (watts : Nat) (s : State) : Gives (Leaves s) (execGovernorStretch d watts s) := by
  simp only [execGovernorStretch]; (repeat' split) <;> simp +contextual

@[simp] theorem execGovernorRelease_leaves (d : DieNo) (watts : Nat) (s : State) : Gives (Leaves s) (execGovernorRelease d watts s) := by
  simp only [execGovernorRelease]; (repeat' split) <;> simp +contextual

@[simp] theorem execSupplyTrip_leaves (watts : Nat) (s : State) : Gives (Leaves s) (execSupplyTrip watts s) := by
  simp only [execSupplyTrip]; (repeat' split) <;> simp +contextual

@[simp] theorem execThermalWarn_leaves (d : DieNo) (temp : Int) (s : State) : Gives (Leaves s) (execThermalWarn d temp s) := by
  simp only [execThermalWarn]; (repeat' split) <;> simp +contextual

@[simp] theorem execThermalThrottle_leaves (d : DieNo) (temp : Int) (s : State) : Gives (Leaves s) (execThermalThrottle d temp s) := by
  simp only [execThermalThrottle]; (repeat' split) <;> simp +contextual

@[simp] theorem execThermalThrottleEnd_leaves (d : DieNo) (temp : Int) (s : State) :
    Gives (Leaves s) (execThermalThrottleEnd d temp s) := by
  simp only [execThermalThrottleEnd]; (repeat' split) <;> simp +contextual

@[simp] theorem execThermalTrip_leaves (d : DieNo) (temp : Int) (s : State) : Gives (Leaves s) (execThermalTrip d temp s) := by
  simp only [execThermalTrip]; (repeat' split) <;> simp +contextual

@[simp] theorem execCoolantHold_leaves (inlet : Int) (outlet : Int) (flow : Nat) (sensorFault : Bool) (s : State) :
    Gives (Leaves s) (execCoolantHold inlet outlet flow sensorFault s) := by
  simp only [execCoolantHold]; (repeat' split) <;> simp +contextual

@[simp] theorem execCoolantRelease_leaves (inlet : Int) (outlet : Int) (flow : Nat) (s : State) :
    Gives (Leaves s) (execCoolantRelease inlet outlet flow s) := by
  simp only [execCoolantRelease]; (repeat' split) <;> simp +contextual

@[simp] theorem execCoolantQualified_leaves (inlet : Int) (outlet : Int) (flow : Nat) (s : State) :
    Gives (Leaves s) (execCoolantQualified inlet outlet flow s) := by
  simp only [execCoolantQualified]; (repeat' split) <;> simp +contextual

@[simp] theorem execBusInsert_leaves (mv : Nat) (s : State) : Gives (Leaves s) (execBusInsert mv s) := by
  simp only [execBusInsert]; (repeat' split) <;> simp +contextual

@[simp] theorem execBusHighBand_leaves (mv : Nat) (s : State) : Gives (Leaves s) (execBusHighBand mv s) := by
  simp only [execBusHighBand]; (repeat' split) <;> simp +contextual

@[simp] theorem execBusLowBand_leaves (mv : Nat) (s : State) : Gives (Leaves s) (execBusLowBand mv s) := by
  simp only [execBusLowBand]; (repeat' split) <;> simp +contextual

@[simp] theorem execBusLowRecover_leaves (mv : Nat) (s : State) : Gives (Leaves s) (execBusLowRecover mv s) := by
  simp only [execBusLowRecover]; (repeat' split) <;> simp +contextual

@[simp] theorem execBusHighBandExit_leaves (mv : Nat) (s : State) : Gives (Leaves s) (execBusHighBandExit mv s) := by
  simp only [execBusHighBandExit]; (repeat' split) <;> simp +contextual

@[simp] theorem execSupplyTripAlertEnd_leaves (s : State) : Gives (Leaves s) (execSupplyTripAlertEnd s) := by
  simp +contextual [execSupplyTripAlertEnd]

@[simp] theorem execHeldDieCooled_leaves (d : DieNo) (temp : Int) (s : State) : Gives (Leaves s) (execHeldDieCooled d temp s) := by
  simp only [execHeldDieCooled]; (repeat' split) <;> simp +contextual

/-! Firmware -/

@[simp] theorem execLedgerEraseDone_leaves (objects : Bool) (s : State) : Gives (Leaves s) (execLedgerEraseDone objects s) := by
  simp only [execLedgerEraseDone]; (repeat' split) <;> simp +contextual

@[simp] theorem execPrepareEraseDone_leaves (badBlock : Option Nat) (s : State) : Gives (Leaves s) (execPrepareEraseDone badBlock s) := by
  simp only [execPrepareEraseDone]; (repeat' split) <;> simp +contextual

@[simp] theorem execActivateWarm_leaves (r : Requester) (v : Bytes) (s : State) : Gives (Leaves s) (execActivateWarm r v s) := by
  simp only [execActivateWarm]; (repeat' split) <;> simp +contextual

@[simp] theorem execActivateCold_leaves (r : Requester) (v : Bytes) (s : State) : Gives (Leaves s) (execActivateCold r v s) := by
  simp only [execActivateCold]; (repeat' split) <;> simp +contextual

@[simp] theorem execActivateDefer_leaves (r : Requester) (v : Bytes) (s : State) : Gives (Leaves s) (execActivateDefer r v s) := by
  simp only [execActivateDefer]; (repeat' split) <;> simp +contextual

/-! Kop -/

@[simp] theorem execDadComplete_leaves (p : Port) (duplicate : Bool) (iid : W64) (s : State) :
    Gives (Leaves s) (execDadComplete p duplicate iid s) := by
  simp only [execDadComplete]; (repeat' split) <;> simp +contextual

@[simp] theorem execIdentifyReply_leaves (n : Nat) (s : State) : Gives (Leaves s) (execIdentifyReply n s) := by
  simp only [execIdentifyReply]; (repeat' split) <;> simp +contextual

@[simp] theorem execKopMalformed_leaves (p : Port) (dport : W16) (dgram : Bytes) (s : State) :
    Gives (Leaves s) (execKopMalformed p dport dgram s) := by
  simp only [execKopMalformed]; (repeat' split) <;> simp +contextual

@[simp] theorem execKopClose_leaves (m : KMsg) (s : State) : Gives (Leaves s) (execKopClose m s) := by
  simp only [execKopClose]; (repeat' split) <;> simp +contextual

@[simp] theorem execSessionIdleExpiry_leaves (sid : W32) (s : State) : Gives (Leaves s) (execSessionIdleExpiry sid s) := by
  simp +contextual [execSessionIdleExpiry]

@[simp] theorem execKopRead_leaves (m : KMsg) (s : State) : Gives (Leaves s) (execKopRead m s) := by
  simp only [execKopRead]; (repeat' split) <;> simp +contextual

@[simp] theorem execIdentify_leaves (m : KMsg) (s : State) : Gives (Leaves s) (execIdentify m s) := by
  simp only [execIdentify]
  split
  · simp
  · rename_i t ht
    simp [intake_pending (.inl ht), intake_tap (.inl ht), intake_fuses (.inl ht), intake_mem (.inl ht)]
  · rename_i t ht
    (repeat' split) <;> simp [intake_pending (.inr ht), intake_tap (.inr ht), intake_fuses (.inr ht), intake_mem (.inr ht)]

@[simp] theorem execKopOpen_leaves (m : KMsg) (nonce : Bytes) (s : State) : Gives (Leaves s) (execKopOpen m nonce s) := by
  simp only [execKopOpen]
  split
  · simp
  · rename_i t ht
    simp [intake_pending (.inl ht), intake_tap (.inl ht), intake_fuses (.inl ht), intake_mem (.inl ht)]
  · rename_i t ht
    (repeat' split) <;> simp [intake_pending (.inr ht), intake_tap (.inr ht), intake_fuses (.inr ht), intake_mem (.inr ht)]

/-! Blocks -/

@[simp] theorem execRbInitiate_leaves (m : KMsg) (s : State) : Gives (Leaves s) (execRbInitiate m s) := by
  simp only [execRbInitiate]; (repeat' split) <;> simp +contextual

@[simp] theorem execRbSegment_leaves (m : KMsg) (s : State) : Gives (Leaves s) (execRbSegment m s) := by
  simp only [execRbSegment]; (repeat' split) <;> simp +contextual

@[simp] theorem execRbEnd_leaves (m : KMsg) (s : State) : Gives (Leaves s) (execRbEnd m s) := by
  simp only [execRbEnd]; (repeat' split) <;> simp +contextual

@[simp] theorem execRbAbort_leaves (m : KMsg) (s : State) : Gives (Leaves s) (execRbAbort m s) := by
  simp only [execRbAbort]; (repeat' split) <;> simp +contextual

@[simp] theorem execWbInitiate_leaves (m : KMsg) (s : State) : Gives (Leaves s) (execWbInitiate m s) := by
  simp only [execWbInitiate]; (repeat' split) <;> simp +contextual

@[simp] theorem execWbSegment_leaves (m : KMsg) (flashOk : Bool) (s : State) : Gives (Leaves s) (execWbSegment m flashOk s) := by
  simp only [execWbSegment]; (repeat' split) <;> simp +contextual

@[simp] theorem execWbAbort_leaves (m : KMsg) (s : State) : Gives (Leaves s) (execWbAbort m s) := by
  simp only [execWbAbort]; (repeat' split) <;> simp +contextual

@[simp] theorem execBlockTimeout_leaves (sid : W32) (s : State) : Gives (Leaves s) (execBlockTimeout sid s) := by
  simp only [execBlockTimeout]; (repeat' split) <;> simp +contextual

/-! Fabric -/

@[simp] theorem execMoveIssue_leaves (t : TileNo) (d : Bytes) (poisoned : Bool) (s : State) :
    Gives (Leaves s) (execMoveIssue t d poisoned s) := by
  simp only [execMoveIssue]; (repeat' split) <;> simp +contextual

@[simp] theorem execMoveDelivered_leaves (t : TileNo) (entry : Nat) (s : State) : Gives (Leaves s) (execMoveDelivered t entry s) := by
  simp only [execMoveDelivered]; (repeat' split) <;> simp +contextual

@[simp] theorem execWaitCounter_leaves (t : TileNo) (c : Fin 256) (operand : W32) (s : State) :
    Gives (Leaves s) (execWaitCounter t c operand s) := by
  simp only [execWaitCounter]; (repeat' split) <;> simp +contextual

@[simp] theorem execWaitCounterResume_leaves (t : TileNo) (s : State) : Gives (Leaves s) (execWaitCounterResume t s) := by
  simp only [execWaitCounterResume]; (repeat' split) <;> simp +contextual

@[simp] theorem execReadCounter_leaves (t : TileNo) (c : Fin 256) (rd : RegNo) (s : State) :
    Gives (Leaves s) (execReadCounter t c rd s) := by
  simp only [execReadCounter]; (repeat' split) <;> simp +contextual

@[simp] theorem execTileGate_leaves (t : TileNo) (s : State) : Gives (Leaves s) (execTileGate t s) := by
  simp only [execTileGate]; (repeat' split) <;> simp +contextual

@[simp] theorem execTileRetention_leaves (t : TileNo) (s : State) : Gives (Leaves s) (execTileRetention t s) := by
  simp only [execTileRetention]; (repeat' split) <;> simp +contextual

@[simp] theorem execTileWake_leaves (t : TileNo) (s : State) : Gives (Leaves s) (execTileWake t s) := by
  simp only [execTileWake]; (repeat' split) <;> simp +contextual

@[simp] theorem execTileWakeDone_leaves (t : TileNo) (ns : Nat) (s : State) : Gives (Leaves s) (execTileWakeDone t ns s) := by
  simp only [execTileWakeDone]; (repeat' split) <;> simp +contextual

@[simp] theorem execDroopStretch_leaves (d : DieNo) (s : State) : Gives (Leaves s) (execDroopStretch d s) := by
  simp only [execDroopStretch]; (repeat' split) <;> simp +contextual

@[simp] theorem execStretchRelease_leaves (d : DieNo) (s : State) : Gives (Leaves s) (execStretchRelease d s) := by
  simp +contextual [execStretchRelease]

/-! ### The commands that blow fuses, reset the module, or run a write of an object -/

theorem kept_wake (s : State) : Kept s s.wake :=
  .of_tap (by simp) (by simp) (fusesRise_wake s) (State.wake_wf s)

theorem kept_writeObject (s : State) (r : Requester) (idx sub typ : Nat) (v : Bytes) : Kept s (s.writeObject r idx sub typ v) :=
  .of_tap (by simp) (by simp) (fusesRise_writeObject ..) (State.writeObject_wf _ _ _ _ _ _)

theorem kept_sessionMsg (s : State) (m : KMsg) (type : Byte) (sn : Session) (act : State → Session → State)
    (h : ∀ s sn, Kept s (act s sn)) : Kept s (s.sessionMsg m type sn act) := by
  simp only [State.sessionMsg]
  generalize htouch : s.modSession m.sid _ = t
  have ht : Kept s t := htouch ▸ .of_leaves (by simp [Leaves])
  refine ht.trans ?_
  split
  · exact .of_leaves (by simp [Leaves])
  · split
    · exact .of_leaves (by simp [Leaves])
    · exact .of_leaves (by simp [Leaves])
    · generalize htake : t.modSession m.sid _ = u
      have hu : Kept t u := htake ▸ .of_leaves (by simp [Leaves])
      refine hu.trans ?_
      split
      · exact .of_leaves (by simp [Leaves])
      · split
        · exact .of_leaves (by simp [Leaves])
        · exact h _ _

theorem kept_kopMsg (s : State) (m : KMsg) (type : Byte) (act : State → Session → State) (h : ∀ s sn, Kept s (act s sn)) :
    Kept s (s.kopMsg m type act) := by
  have htake : ∀ t, s.intake m = .dropped t ∨ s.intake m = .taken t → Kept s t := fun t ht =>
    .of_leaves ⟨intake_pending ht, intake_tap ht, intake_fuses ht, fun hw => intake_mem ht ▸ hw⟩
  unfold State.kopMsg
  split
  · exact .refl s
  · exact htake _ (.inl ‹_›)
  · refine (htake _ (.inr ‹_›)).trans ?_
    split
    · exact .of_leaves (by simp [Leaves])
    · split
      · exact kept_sessionMsg _ _ _ _ _ h
      · exact .of_leaves (by simp [Leaves])

theorem kept_onTransfer (s : State) (r : Requester) (type : Byte) (write : Bool) (op : Nat) (p : Bytes)
    (act : State → BlockTransfer → State) (h : ∀ s x, Kept s (act s x)) : Kept s (s.onTransfer r type write op p act) := by
  simp only [State.onTransfer]
  split
  · exact .of_leaves (by simp [Leaves])
  · split
    · exact .of_leaves (by simp [Leaves])
    · exact Kept.trans (.of_leaves (by simp [Leaves])) (h _ _)

theorem kept_cold (s : State) (cause : Nat) (hold : List Hold) : Kept s (s.cold cause hold) :=
  .of_tap (by simp) (by simp) (fusesRise_cold ..) (State.cold_wf _ _ _)

theorem kept_warm (s : State) (cause : Nat) : Kept s (s.warm cause) :=
  .of_tap (by simp) (by simp) (fusesRise_warm ..) (State.warm_wf _ _)

/-- A loss of power closes a debug connection. -/
theorem kept_powerLoss (s : State) : Kept s s.powerLoss where
  pending := by simp
  fuses := fusesRise_powerLoss s
  debug := fun _ _ => rfl
  mem := State.powerLoss_wf s

@[simp] theorem execSealBlow_kept (r : Requester) (v : Bytes) (s : State) : Gives (Kept s) (execSealBlow r v s) :=
  (gives_next _ _).2 (.of_tap (by simp) (by simp) (fusesRise_writeSeal ..) (by simp))

@[simp] theorem execConfirm_kept (r : Requester) (v : Bytes) (s : State) : Gives (Kept s) (execConfirm r v s) := by
  refine (gives_next _ _).2 ?_
  split
  · exact .refl s
  · exact .of_tap (by simp) (by simp) (fusesRise_writeConfirm ..) (by simp)

@[simp] theorem execRevert_kept (r : Requester) (v : Bytes) (s : State) : Gives (Kept s) (execRevert r v s) := by
  refine (gives_next _ _).2 ?_
  split
  · exact .refl s
  · exact .of_tap (by simp) (by simp) (fusesRise_writeConfirm ..) (by simp)

@[simp] theorem execObjectWrite_kept (r : Requester) (index : W16) (sub type : Byte) (v : Bytes) (s : State) :
    Gives (Kept s) (execObjectWrite r index sub type v s) :=
  (gives_next _ _).2 (kept_writeObject ..)

@[simp] theorem execKopWrite_kept (m : KMsg) (s : State) : Gives (Kept s) (execKopWrite m s) := by
  refine (gives_next _ _).2 (kept_kopMsg _ _ _ _ (fun s sn => ?_))
  dsimp only
  split
  · exact .of_leaves (by simp [Leaves])
  · exact kept_writeObject ..

@[simp] theorem execWbEnd_kept (m : KMsg) (s : State) : Gives (Kept s) (execWbEnd m s) := by
  refine (gives_next _ _).2 ?_
  split
  · exact .refl s
  · refine kept_kopMsg _ _ _ _ (fun s sn => kept_onTransfer _ _ _ _ _ _ _ (fun s x => ?_))
    (repeat' split)
    · exact .of_leaves (by simp [Leaves])
    · exact .of_leaves (by simp [Leaves])
    · exact .of_leaves (by simp [Leaves])
    · exact .of_tap (by simp) (by simp) (fusesRise_applyBlock ..) (State.applyBlock_wf _ _ _ _)

@[simp] theorem execJobAdmit_kept (image : Transfer) (s : State) : Gives (Kept s) (execJobAdmit image s) :=
  (gives_next _ _).2 (Kept.trans (.of_leaves (by simp +contextual [Leaves])) (kept_wake _))

@[simp] theorem execClaimProbeEnd_kept (conflict : Bool) (s : State) : Gives (Kept s) (execClaimProbeEnd conflict s) :=
  (gives_next _ _).2 (Kept.trans (.of_leaves (by simp [Leaves])) (kept_wake _))

@[simp] theorem execRegionFillDone_kept (s : State) : Gives (Kept s) (execRegionFillDone s) :=
  (gives_next _ _).2 (Kept.trans (.of_leaves (by simp +contextual [Leaves])) (kept_wake _))

@[simp] theorem execLedgerWriteDone_kept (objects ok : Bool) (s : State) : Gives (Kept s) (execLedgerWriteDone objects ok s) :=
  (gives_next _ _).2 (Kept.trans (.of_leaves (by simp [Leaves])) (kept_wake _))

@[simp] theorem execFuseProgramDone_kept (ok : Bool) (s : State) : Gives (Kept s) (execFuseProgramDone ok s) :=
  (gives_next _ _).2 (Kept.trans (.of_tap (by simp) (by simp) (fusesRise_fuseDone ..) (State.fuseDone_wf _ _)) (kept_wake _))

@[simp] theorem execBootRom_kept (recordOk : Bool) (s : State) : Gives (Kept s) (execBootRom recordOk s) := by
  refine (gives_next _ _).2 ?_
  split
  · exact .refl s
  · generalize hread : State.readLedger _ = u
    have hu : Kept s u := by rw [← hread]; exact .of_leaves (by simp [Leaves])
    exact hu.trans (.of_tap (by simp) (by simp) (fusesRise_bootBy ..) (State.bootBy_wf _ _ _))

@[simp] theorem execDiePllLock_kept (d : DieNo) (recordOk : Bool) (s : State) : Gives (Kept s) (execDiePllLock d recordOk s) := by
  simp only [execDiePllLock, gives_next]
  split
  · exact .refl s
  · split
    · exact .of_leaves (by simp [Leaves])
    · exact .of_tap (by simp) (by simp) (fusesRise_partFailed ..) (State.partFailed_wf _ _)

@[simp] theorem execResetNAssert_kept (s : State) : Gives (Kept s) (execResetNAssert s) := by
  simp only [execResetNAssert, gives_next]
  (repeat' split)
  · exact .refl s
  · exact .refl s
  · exact .of_tap rfl rfl ⟨Nat.le_refl _, id⟩ id
  · exact kept_cold ..

@[simp] theorem execMcWatchdog_kept (s : State) : Gives (Kept s) (execMcWatchdog s) := by
  simp only [execMcWatchdog, gives_next]
  (repeat' split)
  · exact .refl s
  · exact .refl s
  · exact .of_tap rfl rfl ⟨Nat.le_refl _, id⟩ id
  · exact .of_tap (by simp) (by simp) (fusesRise_watchdogReset s) (State.watchdogReset_wf s)

@[simp] theorem execModuleResetBegin_kept (s : State) : Gives (Kept s) (execModuleResetBegin s) := by
  simp only [execModuleResetBegin, gives_next]
  (repeat' split)
  · exact .refl s
  · exact .refl s
  · exact kept_warm ..
  · exact (kept_cold s 5 []).trans (.of_leaves ⟨rfl, rfl, rfl, id⟩)

@[simp] theorem execRefLoss_kept (s : State) : Gives (Kept s) (execRefLoss s) := by
  simp only [execRefLoss, gives_next]
  split
  · exact .refl s
  · exact (kept_cold s 6 [.reference]).trans (.of_leaves (by simp [Leaves]))

@[simp] theorem execMcUncorrectable_kept (s : State) : Gives (Kept s) (execMcUncorrectable s) := by
  simp only [execMcUncorrectable, gives_next]
  split
  · exact .refl s
  · exact Kept.trans (.of_leaves (by simp [Leaves])) (kept_warm ..)

@[simp] theorem execPowerGoodLoss_kept (s : State) : Gives (Kept s) (execPowerGoodLoss s) := by
  simp only [execPowerGoodLoss, gives_next]
  split
  · exact kept_powerLoss s
  · exact .refl s

@[simp] theorem execBusOvervolt_kept (mv : Nat) (s : State) : Gives (Kept s) (execBusOvervolt mv s) := by
  simp only [execBusOvervolt, gives_next]
  split
  · exact .refl s
  · exact (kept_powerLoss s).trans (.of_leaves ⟨rfl, rfl, rfl, id⟩)

@[simp] theorem execBusUndervolt_kept (mv : Nat) (s : State) : Gives (Kept s) (execBusUndervolt mv s) := by
  simp only [execBusUndervolt, gives_next]
  split
  · exact .refl s
  · exact (kept_powerLoss s).trans (.of_leaves ⟨rfl, rfl, rfl, id⟩)

/-! The TAP (19 R500 to R502): selecting an instruction leaves the debug connection; a debug code opens it only while the seal is open. -/

theorem kept_tapSelect (s : State) (ir : Byte) : Kept s (s.tapSelect ir) := by
  unfold State.tapSelect
  split
  · exact ⟨rfl, .of_eq rfl, fun _ h => h, id⟩
  · exact .refl s

@[simp] theorem execTapVendorDebug_kept (code : Byte) (s : State) : Gives (Kept s) (execTapVendorDebug code s) := by
  simp only [execTapVendorDebug, gives_next]
  (repeat' split)
  · exact .refl s
  · exact kept_tapSelect ..
  · rename_i hopen
    exact ⟨rfl, .of_eq rfl, fun h _ => absurd h hopen, id⟩

@[simp] theorem execTapIdcode_kept (s : State) : Gives (Kept s) (execTapIdcode s) := by
  simp only [execTapIdcode, gives_next]
  split
  · exact (kept_tapSelect s 0x02).trans (.of_leaves (by simp [Leaves]))
  · exact .refl s

@[simp] theorem execTapTestLogicReset_kept (s : State) : Gives (Kept s) (execTapTestLogicReset s) := by
  simp only [execTapTestLogicReset, gives_next]
  split
  · exact ⟨rfl, .of_eq rfl, fun _ _ => rfl, id⟩
  · exact .refl s

@[simp] theorem execTapUpdateDr_kept (bits : Byte) (s : State) : Gives (Kept s) (execTapUpdateDr bits s) := by
  simp only [execTapUpdateDr, gives_next]
  split
  · exact ⟨rfl, .of_eq rfl, fun _ h => h, id⟩
  · exact .refl s

/-! ### Every command -/

theorem gives_kept_of_leaves {s : State} {o : Out} (h : Gives (Leaves s) o) : Gives (Kept s) o := h.imp fun _ => .of_leaves

theorem exec_kept (c : Instr) (s : State) : Gives (Kept s) (exec c s) := by
  cases c
  case sealBlow | confirm | revert | objectWrite | kopWrite | wbEnd | jobAdmit | claimProbeEnd | regionFillDone | ledgerWriteDone
    | fuseProgramDone | bootRom | diePllLock | resetNAssert | mcWatchdog | moduleResetBegin | refLoss | mcUncorrectable
    | powerGoodLoss | busOvervolt | busUndervolt | tapVendorDebug | tapIdcode | tapTestLogicReset | tapUpdateDr => simp [exec]
  case tapExtest | tapBypass => exact (gives_next _ _).2 (kept_tapSelect ..)
  case vnop | setvl | vfence | vstat | siteopen | siteq | siteclose | hpop | hstat | hrinse | vld | vlds | vldx | vldp | vst | vsts | vstx
    | vstp | vfadd | vfsub | vfmul | vfma | vfmin | vfmax | vfabs | vfneg | vfdiv | vfsqrt | vscale | vadd | vsub | vmul | vmin |
    vmax | vand | vor | vxor | vshl | vshr | vsra | vfcmp | vcmp | vsel | vcompress | vexpand | vidx | vperm | vslideup | vslidedn |
    vbcast | vzip | vunzip | vpack | vunpack | vfrsum | vfrmax | vfrmin | vfrargmax | vrsum | vrmax | vrmin | vcvt | vexp | vexp2 |
    vlog | vlog2 | vrcp | vrsqrt | vtanh | vsigm | vsilu | vgelu | vsin | vcos =>
    exact gives_kept_of_leaves (issueVector_leaves ..)
  all_goals
    refine gives_kept_of_leaves ?_
    simp +contextual [exec,
      execGatherAddr, execGatherIndex, execGatherHostRead, execGatherHostWrite, execTableModeWrite, execPartitionWrite, execJobLoad,
      execJobUnload, execPrivilegedWrite, execCycleTableWrite, execPortModeWrite, execQpSetup, execQpReset, execRingSetup,
      execRingTeardown, execWindowSetup, execEventSelect, execEventPop, execEventRinse, execClaim, execClaimWrite, execReleaseClaim,
      execCloseOthers, execKopNotifyIn, execContextSetup, execContextDelete, execDomainCreate, execDomainDestroy, execRegionWrite,
      execJobDomainWrite, execRoleKeyWrite, execAttestNonce, execStewardLockup, execLogRinse, execDieReset, execTileReset,
      execContextReset, execStagePrepare, execArrayCountersClear, execFormatCountersClear, execVeCountersClear,
      execSelCountersClear, execMemCountersClear, execSearchCountersClear, execTableCountersClear, execTextCountersClear,
      execTextdieCountersClear, execGenCountersClear, execSchedCountersClear, execRingCountersClear, execPortCountersClear,
      execKopCountersClear, execDieCountersClear, execLinkCountersClear, execTenancyCountersClear, execIntegrityCountersClear,
      execThermalCountersClear, execRetireCountersClear, execClockCountersClear, execFwCountersClear, execStewardUncorrectable]

theorem kept_of_exec {c : Instr} {s u : State} (h : exec c s = .next u) : Kept s u := by
  obtain ⟨w, hw, hkept⟩ := exec_kept c s
  cases h.symm.trans hw
  exact hkept

/-- A step takes the command at the front of the queue and runs it on the rest; on an empty queue the watch clock counts. -/
theorem step_cases {s u : State} (h : step s = .next u) :
    (s.pending = [] ∧ u = { s with now := s.now + 1 }) ∨
    ∃ c rest, s.pending = c :: rest ∧ exec c { s with pending := rest } = .next u := by
  unfold step at h
  split at h
  · exact .inl ⟨‹_›, (Host.Outcome.next.inj h).symm⟩
  · exact .inr ⟨_, _, ‹_›, h⟩

/-- Settles O56: on the front command by `exec_kept`; the tick of an empty queue touches no memory. -/
theorem memoryStaysCanonical : Obligations.MemoryStaysCanonical := by
  unfold Obligations.MemoryStaysCanonical
  intro s u hwf h
  obtain ⟨_, rfl⟩ | ⟨c, rest, _, hexec⟩ := step_cases h
  · exact hwf
  · exact (kept_of_exec hexec).mem hwf

/-- Settles O58: blown fuses stay through every command, and only a debug code, under an open seal, opens a debug connection. -/
theorem sealIsForGood : Obligations.SealIsForGood := by
  unfold Obligations.SealIsForGood
  intro s u h
  obtain ⟨_, rfl⟩ | ⟨c, rest, _, hexec⟩ := step_cases h
  · exact ⟨Nat.le_refl _, id, fun _ hd => hd⟩
  · have hkept := kept_of_exec hexec
    exact ⟨hkept.fuses.1, hkept.fuses.2, hkept.debug⟩

/-- Settles O59: no command touches the commands behind it. -/
theorem queueInOrder : Obligations.QueueInOrder := by
  unfold Obligations.QueueInOrder
  intro c rest s u hq h
  obtain ⟨hnil, _⟩ | ⟨c', rest', hq', hexec⟩ := step_cases h
  · cases hnil.symm.trans hq
  · cases hq'.symm.trans hq
    exact (kept_of_exec hexec).pending

end Sys2Proof.Machine
end

section
/-! SUPPORT. The step on its queue, the state right after reset, and runs of bytes in memory. -/

open Sys2Proof Sys2Proof.Machine

namespace Sys2Proof.Machine

/-- Settles O1: with a command in front, `step` is `exec` of it. -/
theorem stepRunsTheFrontCommand : Obligations.StepRunsTheFrontCommand := by
  unfold Obligations.StepRunsTheFrontCommand
  intro c rest s
  rfl

/-- Settles O2: with none, `step` is the tick. -/
theorem emptyQueueIdles : Obligations.EmptyQueueIdles := by
  unfold Obligations.EmptyQueueIdles
  intro s hs
  simp only [step, hs]

/-- Refutes O57: right after reset context 0 is listed, in domain 0 (R380), where the statement has no context. -/
theorem not_resetState : ¬ Obligations.ResetState := by
  unfold Obligations.ResetState
  rintro ⟨⟨_, _, _, _, _, _, _, _, hcontexts, _⟩, _⟩
  have hzero : State.reset.contexts = [(0, 0)] := rfl
  exact absurd (hzero.symm.trans hcontexts) (List.cons_ne_nil _ _)

/-- A byte read after a run of bytes is written. -/
theorem Memory.read_writes (m : List Host.Cell) (a : Nat) (bs : Bytes) (b : Nat) :
    Memory.read (Memory.writes m a bs) b = if a ≤ b ∧ b < a + bs.length then bs.getD (b - a) 0 else Memory.read m b := by
  induction bs generalizing m a with
  | nil => rw [if_neg (by simp)]; rfl
  | cons v bs ih =>
    rw [Memory.writes, ih, Memory.read_write, List.length_cons]
    rcases Nat.lt_trichotomy a b with h | rfl | h
    · obtain ⟨k, rfl⟩ := Nat.exists_eq_add_of_lt h
      have hk : a + k + 1 - (a + 1) = k := by omega
      have hk' : a + k + 1 - a = k + 1 := by omega
      rw [if_neg (by omega : a ≠ a + k + 1), hk, hk', List.getD_cons_succ]
      exact if_congr (by omega) rfl rfl
    · rw [if_neg (by omega), if_pos rfl, if_pos (by omega), Nat.sub_self, List.getD_cons_zero]
    · rw [if_neg (by omega), if_neg (by omega), if_neg (by omega)]

/-- Bytes written read back. -/
theorem Memory.reads_writes_self (m : List Host.Cell) (a : Nat) (bs : Bytes) :
    Memory.reads (Memory.writes m a bs) a bs.length = bs := by
  refine List.ext_getElem (by simp [Memory.reads]) fun i _ hi => ?_
  simp [Memory.reads, Memory.read_writes, hi]

/-- A run that none of the written bytes lies in reads as before. -/
theorem Memory.reads_writes_apart (m : List Host.Cell) (a b n : Nat) (bs : Bytes) (h : b + n ≤ a ∨ a + bs.length ≤ b) :
    Memory.reads (Memory.writes m a bs) b n = Memory.reads m b n := by
  refine List.map_congr_left fun i hi => ?_
  rw [List.mem_range] at hi
  rw [Memory.read_writes, if_neg (by omega)]

/-- Settles O3. -/
theorem memoryReadAfterWrite : Obligations.MemoryReadAfterWrite := by
  unfold Obligations.MemoryReadAfterWrite
  exact Memory.read_writes

end Sys2Proof.Machine
end

section
/-! SUPPORT. Frames shared by many commands: the fields of the state an operation can change, one relation per set of fields. -/

open Sys2Proof Sys2Proof.Machine Sys2Proof.Claims

namespace Sys2Proof.Machine

/-- Only dies can differ. -/
def DieFrame (s u : State) : Prop := u = { s with dies := u.dies }

theorem DieFrame.refl (s : State) : DieFrame s s := rfl

theorem DieFrame.trans {s u w : State} (hu : DieFrame s u) (hw : DieFrame u w) : DieFrame s w := by
  unfold DieFrame at hu
  exact Eq.trans hw (by rw [hu])

theorem DieFrame.tiles {s u : State} (h : DieFrame s u) : u.tiles = s.tiles := by
  unfold DieFrame at h
  rw [h]

theorem DieFrame.tile {s u : State} (h : DieFrame s u) (t : Nat) : u.tile t = s.tile t := by
  rw [State.tile, h.tiles]; rfl

theorem dieFrame_modDie (s : State) (d : Nat) (f : Die → Die) : DieFrame s (s.modDie d f) := rfl

theorem DieFrame.foldl {α : Type} (f : State → α → State) (h : ∀ s x, DieFrame s (f s x)) (l : List α) (s : State) :
    DieFrame s (l.foldl f s) := by
  induction l generalizing s with
  | nil => exact .refl s
  | cons x l ih => exact (h s x).trans (ih _)

theorem dieFrame_enqueue (s : State) (d r : Nat) (w : Bool) (gs : List Nat) : DieFrame s (s.enqueue d r w gs) := by
  unfold State.enqueue; split
  · exact .refl s
  · exact dieFrame_modDie _ _ _

theorem dieFrame_request (s : State) (src own : Nat) (w : Bool) (a n : Nat) : DieFrame s (s.request src own w a n) := by
  unfold State.request; split
  · exact .refl s
  · exact dieFrame_enqueue _ _ _ _ _

@[simp] theorem State.count_setTile (s : State) (t : Nat) (x : Tile) (k : Nat) : (s.setTile t x).count k = s.count k := rfl
@[simp] theorem State.count_modTile (s : State) (t : Nat) (f : Tile → Tile) (k : Nat) : (s.modTile t f).count k = s.count k := rfl
@[simp] theorem State.count_setDie (s : State) (d : Nat) (x : Die) (k : Nat) : (s.setDie d x).count k = s.count k := rfl
@[simp] theorem State.count_modDie (s : State) (d : Nat) (f : Die → Die) (k : Nat) : (s.modDie d f).count k = s.count k := rfl

/-- A part of a tile that an update of any tile leaves is as before. -/
theorem State.modTile_part {α : Type} (p : Tile → α) (s : State) (t i : Nat) (f : Tile → Tile) (h : ∀ x, p (f x) = p x) :
    p ((s.modTile t f).tile i) = p (s.tile i) := by
  by_cases hi : t = i
  · subst hi; rw [State.tile_modTile, h]
  · rw [State.modTile, State.tile_setTile_ne _ _ _ _ hi]

end Sys2Proof.Machine

namespace Sys2Proof.Claims

theorem SeqRuns.seq {s : State} {t j : Nat} {jb : Job} (h : SeqRuns s t j jb) : s.seqJob t = some j := h.1
theorem SeqRuns.job {s : State} {t j : Nat} {jb : Job} (h : SeqRuns s t j jb) : s.job? j = some jb := h.2

end Sys2Proof.Claims
end

section
/-! SUPPORT. Move descriptors and signal counters (01 R14, R25 to R31). -/

open Sys2Proof Sys2Proof.Machine Sys2Proof.Claims

namespace Sys2Proof.Machine

/-- The requests of a queued descriptor's rows change dies only. -/
theorem pushMove_dieFrame (s : State) (t j : Nat) (d : Bytes) :
    DieFrame (s.modTile t (fun x => { x with moves := x.moves ++ [⟨x.moveSeq, j, d⟩], moveSeq := x.moveSeq + 1 }))
      (s.pushMove t j d) :=
  .foldl _ (fun _ _ => (dieFrame_request _ _ _ _ _ _).trans (dieFrame_request _ _ _ _ _ _)) _ _

theorem tile_pushMove (s : State) (t j : Nat) (d : Bytes) : (s.pushMove t j d).tile t =
    { s.tile t with moves := (s.tile t).moves ++ [⟨(s.tile t).moveSeq, j, d⟩], moveSeq := (s.tile t).moveSeq + 1 } := by
  rw [(pushMove_dieFrame s t j d).tile, State.tile_modTile]

theorem exec_moveIssue_of_check {t : TileNo} {d : Bytes} {s : State} {j : Nat} {jb : Job} (h : SeqRuns s t j jb)
    (hc : moveCheck s jb d = none) (hroom : (s.tile t).moves.length < 16) :
    exec (.moveIssue t d false) s = .next (s.pushMove t j d) := by
  show execMoveIssue t d false s = _
  simp [execMoveIssue, h.seq, h.job, hc, hroom]

theorem exec_moveDelivered_of_go {t : TileNo} {n : Nat} {s : State} {e : MoveEntry}
    (he : (s.tile t).moves.find? (fun e => e.id == n) = some e)
    (hfence : mvFence e.desc = true → ∀ x ∈ (s.tile t).moves, e.id ≤ x.id)
    (hrows : ∀ r ∈ mvRowList e.desc, s.outstanding false r.1 (mvRow e.desc) = false ∧ s.outstanding true r.2 (mvRow e.desc) = false)
    (hgo : s.moveAccess e.desc = .go) (hpages : s.moveSealFault e.desc = none)
    (hjob : faSpace (mvDst e.desc) = 1 → (s.tile (faTile (mvDst e.desc))).job = some e.job) :
    exec (.moveDelivered t n) s = .next
      (let s := s.modTile t (fun x => { x with moves := x.moves.filter (fun y => y.id ≠ e.id) })
       let s := (mvRowList e.desc).foldl (fun s r => s.moveRow e.job (mvRow e.desc) r) s
       let s := if mvSignal e.desc then s.signal e.job (faDie (mvDst e.desc)) (mvCounter e.desc) else s
       s.retryMove t) := by
  show execMoveDelivered t n s = _
  have hturn : (mvFence e.desc && (s.tile t).moves.any (fun x => decide (x.id < e.id))) = false := by
    cases hf : mvFence e.desc with
    | false => rfl
    | true => simpa using hfence hf
  have hidle : ((mvRowList e.desc).any fun (a, b) =>
      s.outstanding false a (mvRow e.desc) || s.outstanding true b (mvRow e.desc)) = false :=
    List.any_eq_false.2 fun r hr => by simp [hrows r hr]
  have howner : ¬ (faSpace (mvDst e.desc) = 1 ∧
      ((s.modTile t (fun x => { x with moves := x.moves.filter (fun y => y.id ≠ e.id) })).tile (faTile (mvDst e.desc))).job
        ≠ some e.job) := by
    rintro ⟨htile, hne⟩
    refine hne (Eq.trans (State.modTile_part Tile.job s t _ _ ?_) (hjob htile))
    exact fun _ => rfl
  simp only [execMoveDelivered, he, hturn, hidle, hgo, hpages, if_neg howner, Bool.false_eq_true, if_false]

/-- A count has reached an operand where their signed difference is not negative (R28). -/
theorem reached_iff (c k : W32) : reached c k = true ↔ 0 ≤ (c - k).toInt := by
  rw [reached, BitVec.msb_eq_toInt]
  simp

/-- Settles O4: an issued descriptor is `pushMove`, whose requests touch dies only; the rest is one branch of each command. -/
theorem moveCommands : Obligations.MoveCommands := by
  unfold Obligations.MoveCommands
  refine ⟨⟨fun t d s j jb hseq hc hroom => ?_, fun t n s e he hf hr hg hs hj => exec_moveDelivered_of_go he hf hr hg hs hj⟩,
    fun t c k s j jb hseq hk => ?_, fun t c k s j jb hseq hk => ?_, fun t c k s hw hk => ?_, fun t c rd s j jb hseq => ?_⟩
  · have hframe := pushMove_dieFrame s t j d
    have htile := tile_pushMove s t j d
    refine ⟨_, exec_moveIssue_of_check hseq hc hroom, congrArg Tile.moves htile, congrArg Tile.moveSeq htile, ?_⟩
    rw [hframe.tiles]
    exact hframe
  · show execWaitCounter t c k s = _
    simp [execWaitCounter, hseq.seq, (reached_iff _ _).2 hk]
  · have hn : reached ((s.die (dieOf t)).signal c) k = false := by
      rw [← Bool.not_eq_true, reached_iff]; omega
    show execWaitCounter t c k s = _
    simp [execWaitCounter, hseq.seq, hn, State.await]
  · show execWaitCounterResume t s = _
    simp [execWaitCounterResume, hw, (reached_iff _ _).2 hk, State.resume]
  · have hrun : exec (.readCounter t c rd) s =
        .next (s.modTile t (fun x => x.setG rd (((s.die (dieOf t)).signal c).setWidth 64) false)) := by
      show execReadCounter t c rd s = _
      simp [execReadCounter, hseq.seq]
    refine ⟨_, hrun, ?_, fun r hr => ?_, rfl⟩
    · rw [State.tile_modTile, Tile.g_setG_self]
      simp
    · rw [State.tile_modTile, Tile.g_setG_ne _ _ _ _ _ (fun h => hr (Fin.ext h))]

end Sys2Proof.Machine
end

section
/-! SUPPORT. Tile power states and the supply-sag stretch (01 R37 to R39). -/

open Sys2Proof Sys2Proof.Machine Sys2Proof.Claims

namespace Sys2Proof.Machine

/-- A high-water counter changes counters only. -/
theorem State.raiseTo_frame (s : State) (k n : Nat) : ∃ c, s.raiseTo k n = { s with cnt := c } := by
  unfold State.raiseTo; split
  · exact ⟨_, rfl⟩
  · exact ⟨s.cnt, rfl⟩

/-- A counter after a high-water counter is raised. -/
theorem State.count_raiseTo (s : State) (k n i : Nat) :
    (s.raiseTo k n).count i = if k = i then max (s.count i) n else s.count i := by
  unfold State.raiseTo
  split
  case isTrue h =>
    have hput : State.count { s with cnt := s.cnt.put k n } i = if k = i then n else s.count i := KMap.getOr_put _ _ _ _ _
    rw [hput]
    split
    · next hk => subst hk; omega
    · rfl
  case isFalse h =>
    split
    · next hk => subst hk; omega
    · rfl

/-- Counters of objects at block offsets and sub-indices that differ are different counters (R375). -/
theorem dkey_inj {d k i e l j : Nat} (hi : i < 256) (hj : j < 256) (hk : k < 16) (hl : l < 16) :
    dkey d k i = dkey e l j ↔ d = e ∧ k = l ∧ i = j := by
  unfold dkey okey; omega

/-- A stretch changes one die and the counters of it. -/
theorem State.stretch_frame (s : State) (d : Nat) (f : Die → Die) : ∃ c, s.stretch d f = { s.modDie d f with cnt := c } := by
  simp only [State.stretch]; split
  · exact State.bump_frame _ _ _
  · exact ⟨s.cnt, rfl⟩

theorem State.count_stretch (s : State) (d : Nat) (f : Die → Die) : (s.stretch d f).count (dkey d 0 8) =
    if !(s.die d).stretched && (f (s.die d)).stretched then (s.count (dkey d 0 8) + 1) % 2 ^ 64 else s.count (dkey d 0 8) := by
  simp only [State.stretch]
  split
  · rw [State.dbump, State.count_bump, if_pos ⟨by decide, rfl⟩]; rfl
  · rfl

@[simp] theorem State.die_stretch (s : State) (d : Nat) (f : Die → Die) : (s.stretch d f).die d = f (s.die d) := by
  obtain ⟨c, hc⟩ := s.stretch_frame d f
  rw [hc]
  exact s.die_modDie d f

/-- What a wake's end makes of the state before the counters: from Off, SRAM and its marks are zero (R37, R38). -/
def State.woken (s : State) (t : Nat) (w : WakeFrom) : State :=
  (match w with
    | .off => (s.zeroRange (sramFa t 0) sramEnd).modTile t (fun x => { x with accValid := [], lintRow := 0 })
    | _ => s).modTile t (fun x => { x with power := .running })

/-- The sub-index of the counter of wakes from a state (R38). -/
def wakeSub : WakeFrom → Nat
  | .gated => 1
  | .retention => 2
  | .off => 3

theorem exec_tileWakeDone {t : TileNo} {s : State} {w : WakeFrom} (ns : Nat) (h : (s.tile t).power = .waking w) :
    exec (.tileWakeDone t ns) s =
      .next (((s.woken t w).tbump t 2 (wakeSub w) 1).raiseTo (dkey (dieOf t) 2 4) (ns % 2 ^ 32)) := by
  show execTileWakeDone t ns s = _
  simp only [execTileWakeDone, h]
  cases w <;> rfl

theorem woken_frame (s : State) (t : Nat) (w : WakeFrom) :
    s.woken t w = { s with tiles := (s.woken t w).tiles, mem := (s.woken t w).mem, poison := (s.woken t w).poison } := by
  cases w <;> rfl

theorem woken_cnt (s : State) (t : Nat) (w : WakeFrom) : (s.woken t w).cnt = s.cnt := by
  cases w <;> rfl

theorem woken_power (s : State) (t : Nat) (w : WakeFrom) : ((s.woken t w).tile t).power = .running := by
  simp [State.woken]

theorem read_woken_off (s : State) (t i : Nat) (hi : i < 0x200000) : Memory.read (s.woken t .off).mem (sramFa t i) = 0 := by
  have hmem : (s.woken t .off).mem = Memory.zero s.mem (sramFa t 0) sramEnd := rfl
  rw [hmem, Memory.read_zero, if_pos (by unfold sramFa sramEnd; omega)]

theorem wake_counts (s : State) (t n : Nat) (w : WakeFrom) :
    ((s.tbump t 2 (wakeSub w) 1).raiseTo (dkey (dieOf t) 2 4) n).count (dkey (dieOf t) 2 (wakeSub w)) =
      (s.count (dkey (dieOf t) 2 (wakeSub w)) + 1) % 2 ^ 64 ∧
    n ≤ ((s.tbump t 2 (wakeSub w) 1).raiseTo (dkey (dieOf t) 2 4) n).count (dkey (dieOf t) 2 4) := by
  have hne : dkey (dieOf t) 2 4 ≠ dkey (dieOf t) 2 (wakeSub w) := by
    cases w <;> simp [wakeSub, dkey, okey]
  refine ⟨?_, ?_⟩
  · rw [State.count_raiseTo, if_neg hne, State.tbump, State.count_bump, if_pos ⟨by decide, rfl⟩]
  · rw [State.count_raiseTo, if_pos rfl]
    exact le_max_right _ _

/-- A wake's end: the tile runs, its SRAM is zero where it was Off, and the wake is counted by the state it left (R37, R38). -/
theorem tileWakeDone_effect {t : TileNo} {s : State} {w : WakeFrom} (ns : Nat) (hp : (s.tile t).power = .waking w) : ∃ u,
    exec (.tileWakeDone t ns) s = .next u ∧ (u.tile t).power = .running ∧
    (w = .off → ∀ i < 0x200000, Memory.read u.mem (sramFa t i) = 0) ∧ (w ≠ .off → u.mem = s.mem) ∧
    u.count (dkey (dieOf t) 2 (wakeSub w)) = (s.count (dkey (dieOf t) 2 (wakeSub w)) + 1) % 2 ^ 64 ∧
    ns % 2 ^ 32 ≤ u.count (dkey (dieOf t) 2 4) ∧
    u = { s with tiles := u.tiles, cnt := u.cnt, mem := u.mem, poison := u.poison } := by
  obtain ⟨hcount, hlong⟩ := wake_counts (s.woken t w) t (ns % 2 ^ 32) w
  have hframe := woken_frame s t w
  have hpower := woken_power s t w
  have hsame : (s.woken t w).count (dkey (dieOf t) 2 (wakeSub w)) = s.count (dkey (dieOf t) 2 (wakeSub w)) := by
    rw [State.count, woken_cnt]; rfl
  rw [hsame] at hcount
  refine ⟨_, exec_tileWakeDone ns hp, ?_⟩
  obtain ⟨c, hc⟩ : ∃ c, ((s.woken t w).tbump t 2 (wakeSub w) 1).raiseTo (dkey (dieOf t) 2 4) (ns % 2 ^ 32) =
      { s.woken t w with cnt := c } := by
    obtain ⟨c, hc⟩ := (s.woken t w).bump_frame (dkey (dieOf t) 2 (wakeSub w)) 1
    rw [State.tbump, hc]
    exact State.raiseTo_frame _ _ _
  rw [hc] at hcount hlong ⊢
  refine ⟨hpower, ?_, ?_, hcount, hlong, ?_⟩
  · rintro rfl i hi
    exact read_woken_off s t i hi
  · intro hw
    cases w with
    | off => exact absurd rfl hw
    | _ => rfl
  · rw [hframe]

/-- Settles O5: power changes are one branch each; a wake's end is `woken` and two counters; a stretch is `State.stretch`. -/
theorem tilePowerCommands : Obligations.TilePowerCommands := by
  unfold Obligations.TilePowerCommands
  refine ⟨⟨fun t s hp hi => ?_, fun t s h => ?_, fun t s w hd hr hp => ?_, fun t ns s w hp => ?_⟩, fun d s hp => ?_, fun d s => ?_⟩
  · show execTileGate t s = _
    simp [execTileGate, hp, hi]
  · show execTileRetention t s = _
    simp only [execTileRetention, if_pos h]
  · show execTileWake t s = _
    cases w <;> simp [execTileWake, hd, hr, hp]
  · cases w <;> exact tileWakeDone_effect ns hp
  · have hrun : exec (.droopStretch d) s = .next (s.stretch d (fun x => { x with droop := true })) := by
      show execDroopStretch d s = _
      simp only [execDroopStretch, if_pos hp]
    refine ⟨_, hrun, State.die_stretch _ _ _, ?_, ?_⟩
    · rw [State.count_stretch]
      cases hst : (s.die d).stretched <;> simp [Die.stretched]
    · obtain ⟨c, hc⟩ := s.stretch_frame d (fun x => { x with droop := true })
      rw [hc]; rfl
  · have hnew : (!(s.die d).stretched && ({ s.die d with droop := false } : Die).stretched) = false := by
      cases hg : (s.die d).governor <;> cases ht : (s.die d).throttle <;> simp [Die.stretched, hg, ht]
    refine ⟨_, rfl, State.die_stretch _ _ _, ?_, ?_⟩
    · rw [State.die_stretch]; rfl
    · simp only [State.stretch, hnew]
      rfl

end Sys2Proof.Machine
end

section
/-! SUPPORT. Passes, the accumulator file and drains (02 R46 to R60). -/

open Sys2Proof Sys2Proof.Machine Sys2Proof.Claims

namespace Sys2Proof.Machine

theorem LogFrame.keeps {s u : State} (h : LogFrame s u) : u.tiles = s.tiles ∧ u.mem = s.mem ∧ u.jobs = s.jobs ∧ u.reqs = s.reqs := by
  unfold LogFrame at h
  rw [h]; exact ⟨rfl, rfl, rfl, rfl⟩

/-! Keys set one after another to one value -/

theorem KMap.find_foldl_put {α : Type} (l : List Nat) (m : KMap α) (v : α) (k : Nat) :
    KMap.find (l.foldl (fun m a => KMap.put m a v) m) k = if k ∈ l then some v else KMap.find m k := by
  induction l generalizing m with
  | nil => simp
  | cons a l ih =>
    rw [List.foldl_cons, ih, KMap.find_put]
    by_cases ha : a = k
    · simp [ha]
    · by_cases hl : k ∈ l <;> simp [ha, hl, Ne.symm ha]

/-- Accumulator tiles set to one state. -/
theorem accState_foldl_put (x : Tile) (l : List Nat) (v : AccState) (a : Nat) (ha : a ∈ l) :
    ({ x with accSt := l.foldl (fun m a => KMap.put m a v) x.accSt } : Tile).accState a = v := by
  simp [Tile.accState, KMap.getOr, KMap.find_foldl_put, ha]

/-! One element of the accumulator file (R51 to R55) -/

theorem cancelWbs_frame (s : State) (a n : Nat) : s.cancelWbs a n = { s with tiles := (s.cancelWbs a n).tiles } := by
  unfold State.cancelWbs; split <;> rfl

/-- A part of the tile that no accumulator update and no port write touches. -/
theorem cancelWbs_part {α : Type} (p : Tile → α) (hp : ∀ x ws, p { x with sramWb := ws } = p x) (s : State) (a n t : Nat) :
    p ((s.cancelWbs a n).tile t) = p (s.tile t) := by
  unfold State.cancelWbs; split
  · rfl
  · exact State.modTile_part p s _ t _ fun x => hp x _

/-- The bytes of an element written, with its poison bit and its valid bit. -/
def State.accSet (s : State) (t : Nat) (d : Bytes) (idx : Nat) (faulty : Bool) (v : W32) (p : Bool) : State :=
  let a := sramFa t (accBase + 4 * idx)
  let p := p || faulty || (s.poison.contains (a / 4) && !(psInit d))
  let s := s.cancelWbs a 4
  let s := { s with mem := Memory.writes s.mem a (leBytes 4 v.toNat),
                    poison := if p then NSet.add s.poison (a / 4) else NSet.del s.poison (a / 4) }
  if psInit d then s.modTile t (fun x => { x with accValid := NSet.add x.accValid idx }) else s

/-- What an element holds before an update. -/
def State.accOld (s : State) (t idx : Nat) : W32 := BitVec.ofNat 32 (leNat (Memory.reads s.mem (sramFa t (accBase + 4 * idx)) 4))

theorem accUpdate_real (s : State) (t : Nat) (d : Bytes) (idx : Nat) (faulty : Bool) (bs : List Fval) (p : Bool) :
    s.accUpdate t d idx faulty (.real bs p) = s.accSet t d idx faulty (accFp (psInit d) (s.accOld t idx) bs) p := rfl

theorem accUpdate_int (s : State) (t : Nat) (d : Bytes) (idx : Nat) (faulty : Bool) (v : Int) (p : Bool) :
    s.accUpdate t d idx faulty (.int v p) =
      (s.accSet t d idx faulty (satInt (if psInit d then v else (s.accOld t idx).toInt + v)).1 p).tbump t 5 8
        (if (satInt (if psInit d then v else (s.accOld t idx).toInt + v)).2 then 1 else 0) := rfl

theorem accUpdate_masked (s : State) (t : Nat) (d : Bytes) (idx : Nat) (faulty : Bool) :
    s.accUpdate t d idx faulty .masked =
      (s.modTile t (fun x => { x with accValid := NSet.del x.accValid idx })).tbump t 5 7 1 := rfl

theorem accSet_frame (s : State) (t : Nat) (d : Bytes) (idx : Nat) (faulty : Bool) (v : W32) (p : Bool) :
    s.accSet t d idx faulty v p = { s with
      tiles := (s.accSet t d idx faulty v p).tiles, poison := (s.accSet t d idx faulty v p).poison,
      mem := Memory.writes s.mem (sramFa t (accBase + 4 * idx)) (leBytes 4 v.toNat) } := by
  have hc := cancelWbs_frame s (sramFa t (accBase + 4 * idx)) 4
  simp only [State.accSet]
  rw [hc]
  split <;> rfl

theorem accSet_passDone (s : State) (t : Nat) (d : Bytes) (idx : Nat) (faulty : Bool) (v : W32) (p : Bool) :
    ((s.accSet t d idx faulty v p).tile t).passDone = (s.tile t).passDone := by
  have hc := cancelWbs_part Tile.passDone (fun _ _ => rfl) s (sramFa t (accBase + 4 * idx)) 4 t
  simp only [State.accSet]
  split
  · rw [State.tile_modTile]; exact hc
  · exact hc

/-- What columns brought to the accumulator file leave: the passes done, jobs, requests, and the bytes outside `inside`. -/
structure PassKeeps (t : Nat) (inside : Nat → Prop) (s u : State) : Prop where
  passDone : (u.tile t).passDone = (s.tile t).passDone
  mem : ∀ a, ¬ inside a → Memory.read u.mem a = Memory.read s.mem a
  jobs : u.jobs = s.jobs
  reqs : u.reqs = s.reqs

theorem PassKeeps.refl (t : Nat) (inside : Nat → Prop) (s : State) : PassKeeps t inside s s := ⟨rfl, fun _ _ => rfl, rfl, rfl⟩

theorem PassKeeps.trans {t : Nat} {inside : Nat → Prop} {s u w : State} (hu : PassKeeps t inside s u)
    (hw : PassKeeps t inside u w) : PassKeeps t inside s w :=
  ⟨hw.passDone.trans hu.passDone, fun a ha => (hw.mem a ha).trans (hu.mem a ha), hw.jobs.trans hu.jobs, hw.reqs.trans hu.reqs⟩

theorem LogFrame.passKeeps {s u : State} (h : LogFrame s u) (t : Nat) (inside : Nat → Prop) : PassKeeps t inside s u :=
  ⟨congrArg _ (h.tile t), fun _ _ => congrArg (Memory.read · _) h.keeps.2.1, h.keeps.2.2.1, h.keeps.2.2.2⟩

theorem DieFrame.passKeeps {s u : State} (h : DieFrame s u) (t : Nat) (inside : Nat → Prop) : PassKeeps t inside s u := by
  have htile := h.tile t
  unfold DieFrame at h
  exact ⟨congrArg _ htile, fun _ _ => by rw [h], by rw [h], by rw [h]⟩

/-- An update of an element changes its four bytes. -/
theorem accUpdate_keeps (s : State) (t : Nat) (d : Bytes) (idx : Nat) (faulty : Bool) (c : Contrib) (inside : Nat → Prop)
    (hin : ∀ i < 4, inside (sramFa t (accBase + 4 * idx) + i)) : PassKeeps t inside s (s.accUpdate t d idx faulty c) := by
  have hset : ∀ v p, PassKeeps t inside s (s.accSet t d idx faulty v p) := by
    intro v p
    have hframe := accSet_frame s t d idx faulty v p
    refine ⟨accSet_passDone _ _ _ _ _ _ _, fun a ha => ?_, by rw [hframe], by rw [hframe]⟩
    rw [hframe]
    refine (Memory.read_writes _ _ _ _).trans (if_neg fun h => ha ?_)
    rw [length_leBytes] at h
    have := hin (a - sramFa t (accBase + 4 * idx)) (by omega)
    rwa [Nat.add_sub_cancel' h.1] at this
  cases c with
  | real bs p => exact hset _ p
  | int v p => exact (hset _ p).trans ((logFrame_bump _ _ _).passKeeps _ _)
  | masked =>
    have hmod : PassKeeps t inside s (s.modTile t (fun x => { x with accValid := NSet.del x.accValid idx })) :=
      ⟨by rw [State.tile_modTile], fun _ _ => rfl, rfl, rfl⟩
    rw [accUpdate_masked, State.tbump]
    exact hmod.trans ((logFrame_bump _ _ _).passKeeps _ _)

/-- The bytes of the accumulator words of a pass (R56). -/
def inPassWords (t : Nat) (d : Bytes) (a : Nat) : Prop :=
  ∃ m < psH d, ∃ k < psCols d, sramFa t (accBase + 4 * accIndex d m k) ≤ a ∧ a < sramFa t (accBase + 4 * accIndex d m k) + 4

theorem applyCols_keeps (s : State) (t : Nat) (d : Bytes) (stat lo : Nat) (faulty : List Nat) :
    PassKeeps t (inPassWords t d) s (s.applyCols t d stat lo (psCols d) faulty) := by
  have hmem : ∀ e ∈ (List.range (psCols d - lo)).flatMap (fun i => (List.range (psH d)).map (fun m => (m, lo + i))),
      e.1 < psH d ∧ e.2 < psCols d := by
    intro e he
    simp only [List.mem_flatMap, List.mem_map, List.mem_range] at he
    obtain ⟨i, hi, m, hm, rfl⟩ := he
    exact ⟨hm, by show lo + i < _; omega⟩
  unfold State.applyCols
  generalize (List.range (psCols d - lo)).flatMap (fun i => (List.range (psH d)).map (fun m => (m, lo + i))) = l at hmem
  induction l generalizing s with
  | nil => exact .refl _ _ _
  | cons e l ih =>
    obtain ⟨he, hl⟩ := List.forall_mem_cons.1 hmem
    have hdraw : PassKeeps t (inPassWords t d) s s.draw.2 := ⟨rfl, fun _ _ => rfl, rfl, rfl⟩
    refine PassKeeps.trans (hdraw.trans (accUpdate_keeps _ t d _ _ _ _ fun i hi => ?_)) (ih _ hl)
    exact ⟨e.1, he.1, e.2, he.2, by omega, by omega⟩

theorem retryPass_keeps (s : State) (t : Nat) (inside : Nat → Prop) :
    PassKeeps t inside s (s.retryPass t) ∧ ((s.retryPass t).tile t).passRun = (s.tile t).passRun := by
  have hpush : ∀ d, PassKeeps t inside s ((s.resume t).pushPass t d) ∧
      (((s.resume t).pushPass t d).tile t).passRun = (s.tile t).passRun := by
    intro d
    simp only [State.pushPass, State.resume]
    refine ⟨⟨?_, fun _ _ => rfl, rfl, rfl⟩, ?_⟩ <;> rw [State.tile_modTile, State.tile_modTile]
  unfold State.retryPass
  split
  · split
    · exact hpush _
    · exact ⟨.refl _ _ _, rfl⟩
  · exact ⟨.refl _ _ _, rfl⟩

theorem arrayEvent_frame (s : State) (t : Nat) :
    ∃ ds c, s.arrayEvent t = { s with dies := ds, cnt := c } := by
  simp only [State.arrayEvent, State.dbump]
  obtain ⟨c, hc⟩ := State.bump_frame (s.modDie (dieOf t) (fun x => { x with
    events := x.events ++ [⟨.array ⟨tileOf t, Nat.mod_lt _ (by decide)⟩, s.now⟩] })) (dkey (dieOf t) 4 5) 1
  rw [hc]
  exact ⟨_, c, rfl⟩

theorem arrayEvent_keeps (s : State) (t : Nat) (inside : Nat → Prop) :
    PassKeeps t inside s (s.arrayEvent t) ∧ (s.arrayEvent t).tiles = s.tiles := by
  obtain ⟨ds, c, h⟩ := arrayEvent_frame s t
  rw [h]
  exact ⟨⟨rfl, fun _ _ => rfl, rfl, rfl⟩, rfl⟩

theorem hamperFrame_setTile (s : State) (t : Nat) (x : Tile) : HamperFrame s (s.setTile t x) := rfl

theorem hamperFrame_bump (s : State) (k n : Nat) : HamperFrame s (s.bump k n) := by
  obtain ⟨c, hc⟩ := State.bump_frame s k n
  rw [hc]; rfl

/-- What PASS_LAST_COLUMN makes of the state up to the retry of a waiting pass. -/
def State.passEntered (s : State) (t : Nat) (p : PassRun) (fb : Nat) (faulty : List Nat) : State :=
  let stat := statOf (s.tile t).statAddr p.desc
  let s := if s.passPoison t p.desc stat then s.logPoison t p.desc (sramFa t stat) else s
  let s := s.applyCols t p.desc stat p.nextCol (psCols p.desc) faulty
  let s := s.modTile t (fun x => { x with passRun := none, passDone := x.passDone ++ [p.desc] })
  let s := s.tbump t 5 5 fb
  if faulty = [] then s else s.arrayEvent t

theorem exec_passLastColumn {t : TileNo} (fb : Nat) (faulty : List Nat) {s : State} {p : PassRun} (hp : (s.tile t).passRun = some p)
    (hw : s.tileWorks t = true)
    (hr : ∀ r ∈ psReads p.desc (statOf (s.tile t).statAddr p.desc), s.notArrived t r.1 r.2 = false) :
    exec (.passLastColumn t fb faulty) s = .next ((s.passEntered t p fb faulty).retryPass t) := by
  show execPassLastColumn t fb faulty s = _
  have hread : ((psReads p.desc (statOf (s.tile t).statAddr p.desc)).any fun (a, n) => s.notArrived t a n) = false :=
    List.any_eq_false.2 fun r h => by simp [hr r h]
  simp only [execPassLastColumn, hp, hw, hread, Bool.not_true, Bool.false_eq_true, if_false]
  rfl

/-- Once its last column has entered, a pass no longer runs, is done, and only its accumulator words have changed. -/
theorem passEntered_keeps (s : State) (t : Nat) (p : PassRun) (fb : Nat) (faulty : List Nat) :
    ((s.passEntered t p fb faulty).tile t).passRun = none ∧
    ((s.passEntered t p fb faulty).tile t).passDone = (s.tile t).passDone ++ [p.desc] ∧
    (s.passEntered t p fb faulty).jobs = s.jobs ∧ (s.passEntered t p fb faulty).reqs = s.reqs ∧
    ∀ a, ¬ inPassWords t p.desc a → Memory.read (s.passEntered t p fb faulty).mem a = Memory.read s.mem a := by
  let stat := statOf (s.tile t).statAddr p.desc
  let s1 := if s.passPoison t p.desc stat then s.logPoison t p.desc (sramFa t stat) else s
  let s2 := s1.applyCols t p.desc stat p.nextCol (psCols p.desc) faulty
  let s3 := (s2.modTile t (fun x => { x with passRun := none, passDone := x.passDone ++ [p.desc] })).tbump t 5 5 fb
  have h1 : PassKeeps t (inPassWords t p.desc) s s1 := by
    show PassKeeps t _ s (ite _ _ _)
    split
    · exact (logFrame_log _ _).passKeeps _ _
    · exact .refl _ _ _
  have h2 := h1.trans (applyCols_keeps s1 t p.desc stat p.nextCol faulty)
  have h3 : s3.tile t = { s2.tile t with passRun := none, passDone := (s2.tile t).passDone ++ [p.desc] } := by
    rw [State.tile_tbump, State.tile_modTile]
  have hmem3 : s3.mem = s2.mem ∧ s3.jobs = s2.jobs ∧ s3.reqs = s2.reqs := (logFrame_bump _ _ _).keeps.2
  have h4 : PassKeeps t (inPassWords t p.desc) s3 (s.passEntered t p fb faulty) ∧
      (s.passEntered t p fb faulty).tiles = s3.tiles := by
    show PassKeeps t _ s3 (ite _ _ _) ∧ State.tiles (ite _ _ _) = _
    split
    · exact ⟨.refl _ _ _, rfl⟩
    · exact arrayEvent_keeps _ _ _
  refine ⟨?_, ?_, ?_, ?_, fun a ha => ?_⟩
  · rw [State.tile, h4.2]; exact congrArg Tile.passRun h3
  · rw [h4.1.passDone, h3, ← h2.passDone]
  · rw [h4.1.jobs, hmem3.2.1, h2.jobs]
  · rw [h4.1.reqs, hmem3.2.2, h2.reqs]
  · rw [h4.1.mem a ha, hmem3.1, h2.mem a ha]

/-- The bytes an integer contribution leaves in its element, and the count of saturations (R51, R52). -/
theorem accUpdate_int_value (s : State) (t : Nat) (d : Bytes) (i : Nat) (v : Int) (r : W32 × Bool)
    (hr : satInt (if psInit d then v else (s.accOld t i).toInt + v) = r) :
    Memory.reads (s.accUpdate t d i false (.int v false)).mem (sramFa t (accBase + 4 * i)) 4 = leBytes 4 r.1.toNat ∧
    (∀ b, b < sramFa t (accBase + 4 * i) ∨ sramFa t (accBase + 4 * i) + 4 ≤ b →
      Memory.read (s.accUpdate t d i false (.int v false)).mem b = Memory.read s.mem b) ∧
    (s.accUpdate t d i false (.int v false)).count (dkey (dieOf t) 5 8) =
      if r.2 then (s.count (dkey (dieOf t) 5 8) + 1) % 2 ^ 64 else s.count (dkey (dieOf t) 5 8) := by
  rw [accUpdate_int, hr, State.tbump, State.bump_mem]
  have hframe := accSet_frame s t d i false r.1 false
  have hmem := congrArg State.mem hframe
  have hcnt := congrArg State.cnt hframe
  refine ⟨?_, fun b hb => ?_, ?_⟩
  · rw [hmem]; exact Memory.reads_writes_self _ _ (leBytes 4 r.1.toNat)
  · rw [hmem]
    refine (Memory.read_writes _ _ _ _).trans (if_neg ?_)
    rw [length_leBytes]; omega
  · rw [State.count_bump, show (s.accSet t d i false r.1 false).count (dkey (dieOf t) 5 8) = s.count (dkey (dieOf t) 5 8) from
      congrArg (KMap.getOr 0 · _) hcnt]
    cases r.2 <;> simp

theorem satInt_fst (v : Int) : (satInt v).1 =
    if v > 2147483647 then 0x7FFFFFFF else if v < -2147483648 then 0x80000000 else BitVec.ofInt 32 v := by
  unfold satInt; split_ifs <;> rfl

theorem satInt_snd (v : Int) : (satInt v).2 = true ↔ v > 2147483647 ∨ v < -2147483648 := by
  unfold satInt; split_ifs with h1 h2
  · simp [h1]
  · simp [h2]
  · simp only [false_iff]; omega

theorem exec_passStart {t : TileNo} (fb ds : Nat) {s : State} {d : Bytes} {rest : List Bytes} (hq : (s.tile t).passQ = d :: rest)
    (hrun : (s.tile t).passRun = none) (hw : s.tileWorks t = true) (hlive : s.arrayLive t = true)
    (hdone : ∀ p ∈ (s.tile t).passDone, psMode p = psMode d) (hacc : ∀ a ∈ passTiles d, (s.tile t).accState a ≠ .draining)
    (hstat : s.notArrived t (psStat d) (if psKeep d then 0 else psStatBytes d) = false) :
    exec (.passStart t fb ds) s = .next (((s.modTile t (fun x => { x with
        passQ := rest, passRun := some ⟨d, 0⟩, statAddr := statOf x.statAddr d,
        accSt := (passTiles d).foldl (fun m a => KMap.put m a .active) x.accSt })).tbump t 5 5 fb).tbump t 5 6 ds) := by
  show execPassStart t fb ds s = _
  have h1 : (s.tile t).passDone.any (fun p => psMode p ≠ psMode d) = false :=
    List.any_eq_false.2 fun p hp => by simp [hdone p hp]
  have h2 : (passTiles d).any (fun a => (s.tile t).accState a == .draining) = false :=
    List.any_eq_false.2 fun a ha => by simpa using hacc a ha
  simp only [execPassStart, hq, hrun, hw, hlive, h1, h2, hstat, Bool.not_true, Bool.false_eq_true, or_self, if_false]

/-- Results in: the pass leaves, and a DRAIN pass makes its tiles drain. -/
theorem passResultsDone_effect {t : TileNo} {s : State} {d : Bytes} {rest : List Bytes} (h : (s.tile t).passDone = d :: rest) : ∃ u,
    exec (.passResultsDone t) s = .next u ∧ (u.tile t).passDone = rest ∧
    (passDrains d = true → (u.tile t).drains = (s.tile t).drains ++ drainsOf d ∧
      ∀ a ∈ passTiles d, (u.tile t).accState a = .draining) ∧
    (passDrains d = false → (u.tile t).drains = (s.tile t).drains) ∧
    u.count (dkey (dieOf t) 5 4) = (s.count (dkey (dieOf t) 5 4) + 1) % 2 ^ 64 ∧ u = { s with tiles := u.tiles, cnt := u.cnt } := by
  have hrun : exec (.passResultsDone t) s = _ := show execPassResultsDone t s = _ by simp only [execPassResultsDone, h]; rfl
  refine ⟨_, hrun, ?_⟩
  cases hd : passDrains d with
  | false =>
    refine ⟨by simp, fun h => absurd h Bool.false_ne_true, fun _ => by simp, ?_, ?_⟩
    · simp [State.tbump, State.count_bump]
    · exact (hamperFrame_setTile s t _).trans (hamperFrame_bump _ _ _)
  | true =>
    refine ⟨by simp, fun _ => ⟨by simp, fun a ha => ?_⟩, fun h => absurd h.symm Bool.false_ne_true, ?_, ?_⟩
    · simp only [if_true, State.tile_tbump, State.tile_modTile]
      exact accState_foldl_put { s.tile t with passDone := rest, drains := _ } _ _ _ ha
    · simp [State.tbump, State.count_bump]
    · exact ((hamperFrame_setTile s t _).trans (hamperFrame_setTile _ t _)).trans (hamperFrame_bump _ _ _)

/-- The hamper accepts the next unit of a drain. -/
theorem drainUnit_accepted {t : TileNo} {s : State} {e : Drain} {rest : List Drain} (h : (s.tile t).drains = e :: rest)
    (hdrop : (s.tile t).hamper.dropping = false) (hroom : (s.tile t).hamper.items.length < (s.tile t).hamper.depth) : ∃ u,
    exec (.drainUnit t) s = .next u ∧
    (u.tile t).hamper = { (s.tile t).hamper with items := (s.tile t).hamper.items ++ [drainItem s t e] } ∧
    (u.tile t).drains = (if e.unit = 31 then rest else { e with unit := e.unit + 1 } :: rest) ∧
    (u.tile t).accState e.acc = (if e.unit = 31 then .free else (s.tile t).accState e.acc) ∧
    u = { s with tiles := u.tiles, cnt := u.cnt } := by
  have hw : (s.tile t).hamper.write (drainItem s t e) =
      some { (s.tile t).hamper with items := (s.tile t).hamper.items ++ [drainItem s t e] } := by
    rw [Queue.write_of_room _ hroom, Queue.settle_of_not_dropping _ _ hdrop]
  have hrun : exec (.drainUnit t) s = _ := show execDrainUnit t s = _ by simp only [execDrainUnit, h, hw]; rfl
  refine ⟨_, hrun, by simp, by simp, ?_, ?_⟩
  · simp only [State.tile_tbump, State.tile_modTile, Tile.accState]
    split
    · simp [KMap.getOr, KMap.find_del]
    · rfl
  · exact ((hamperFrame_setTile s t _).trans (hamperFrame_bump _ _ _)).trans (hamperFrame_bump _ _ _)

/-- Settles O6: each command's branch, the accumulator words of a pass by `PassKeeps`, one element by `accUpdate_int_value`. -/
theorem passCommands : Obligations.PassCommands := by
  unfold Obligations.PassCommands
  refine ⟨⟨fun t d s j jb hseq hlive hc hroom => ?_, fun t fb ds s d rest hq hrun hw hlive hdone hacc hstat => ?_,
    fun t fb faulty s p hp hw hr => ?_, fun t s d rest h => passResultsDone_effect h⟩, fun s t d i v => ?_,
    fun t s e rest h _ hdrop hroom => drainUnit_accepted h hdrop hroom, fun t s e rest h hover hfull => ?_⟩
  · have hrun : exec (.passIssue t d false) s = .next (s.pushPass t d) := by
      show execPassIssue t d false s = _
      simp only [execPassIssue, hseq.seq, hseq.job, hlive, hc, hroom, Bool.not_true, Bool.false_eq_true, if_false, if_true]
    refine ⟨_, hrun, ?_, ?_, rfl⟩ <;> simp [State.pushPass]
  · refine ⟨_, exec_passStart fb ds hq hrun hw hlive hdone hacc hstat, by simp, by simp, fun a ha => ?_, ?_, ?_⟩
    · simp only [State.tile_tbump, State.tile_modTile]
      exact accState_foldl_put { s.tile t with passQ := rest, passRun := _, statAddr := _ } _ _ _ ha
    · have hne : dkey (dieOf t) 5 6 ≠ dkey (dieOf t) 5 5 := by unfold dkey okey; omega
      simp only [State.tbump, State.count_bump, hne, and_false, if_false]
      split
      · exact Nat.mod_mod _ _
      · next h => rw [show fb = 0 by simpa using h]; rfl
    · exact ((hamperFrame_setTile s t _).trans (hamperFrame_bump _ _ _)).trans (hamperFrame_bump _ _ _)
  · obtain ⟨hpass, hdone, hjobs, hreqs, hmem⟩ := passEntered_keeps s t p fb faulty
    obtain ⟨hkeep, hpass'⟩ := retryPass_keeps (s.passEntered t p fb faulty) t (inPassWords t p.desc)
    refine ⟨_, exec_passLastColumn fb faulty hp hw hr, hpass'.trans hpass, hkeep.passDone.trans hdone, hkeep.jobs.trans hjobs,
      hkeep.reqs.trans hreqs, fun a ha => ?_⟩
    have hout : ¬ inPassWords t p.desc a := fun ⟨m, hm, k, hk, hlo, hhi⟩ => by
      have := ha m hm k hk; omega
    exact (hkeep.mem a hout).trans (hmem a hout)
  · have hval := accUpdate_int_value s t d i v _ rfl
    simp only [satInt_fst, satInt_snd] at hval
    exact hval
  · have hrun : exec (.drainUnit t) s = .next (s.tbump t 7 3 1) := by
      show execDrainUnit t s = _
      simp only [execDrainUnit, h, Queue.write_of_full_hold _ hfull hover]
    exact hrun

end Sys2Proof.Machine
end

section
/-! SUPPORT. Lanes of the vector registers (04 R95, R96) and the instructions that write them. -/

open Sys2Proof Sys2Proof.Machine Sys2Proof.Claims

namespace Sys2Proof.Machine

/-! `Tile.putLanes` -/

theorem Tile.lane_putLanes_self (x : Tile) (r i : Nat) (f : Nat → Option Lane) : (x.putLanes r f).lane r i =
    if i < 128 then (if i < x.vl then (f i).getD (x.lane r i) else x.lane r i) else {} := by
  simp only [Tile.lane, Tile.vreg, Tile.putLanes, KMap.getOr_put_self, List.getD_eq_getElem?_getD, List.getElem?_map]
  split
  · next h => simp [List.getElem?_range h]
  · next h => rw [List.getElem?_eq_none (by simpa using h)]; rfl

theorem Tile.vreg_putLanes_ne (x : Tile) (r i : Nat) (f : Nat → Option Lane) (h : i ≠ r) : (x.putLanes r f).vreg i = x.vreg i := by
  simp [Tile.vreg, Tile.putLanes, KMap.getOr_put, h.symm]

theorem Tile.lane_putLanes_ne (x : Tile) (r k i : Nat) (f : Nat → Option Lane) (h : k ≠ r) : (x.putLanes r f).lane k i = x.lane k i := by
  rw [Tile.lane, Tile.vreg_putLanes_ne _ _ _ _ h, Tile.lane]

@[simp] theorem Tile.vl_putLanes (x : Tile) (r : Nat) (f : Nat → Option Lane) : (x.putLanes r f).vl = x.vl := rfl
@[simp] theorem Tile.gpr_putLanes (x : Tile) (r : Nat) (f : Nat → Option Lane) : (x.putLanes r f).gpr = x.gpr := rfl
@[simp] theorem Tile.vsr_putLanes (x : Tile) (r : Nat) (f : Nat → Option Lane) : (x.putLanes r f).vsr = x.vsr := rfl
@[simp] theorem Tile.g_putLanes (x : Tile) (r : Nat) (f : Nat → Option Lane) (i : Nat) : (x.putLanes r f).g i = x.g i := rfl

/-! What does not touch the vector registers -/

@[simp] theorem Tile.vreg_setG (x : Tile) (r : Nat) (v : W64) (p : Bool) (i : Nat) : (x.setG r v p).vreg i = x.vreg i := by
  simp [Tile.vreg]
@[simp] theorem Tile.lane_setG (x : Tile) (r : Nat) (v : W64) (p : Bool) (k i : Nat) : (x.setG r v p).lane k i = x.lane k i := by
  simp [Tile.lane]
@[simp] theorem Tile.vreg_raise (x : Tile) (f : Flags) (p : Bool) (i : Nat) : (x.raise f p).vreg i = x.vreg i := rfl
@[simp] theorem Tile.lane_raise (x : Tile) (f : Flags) (p : Bool) (k i : Nat) : (x.raise f p).lane k i = x.lane k i := rfl
@[simp] theorem Tile.gpr_raise (x : Tile) (f : Flags) (p : Bool) : (x.raise f p).gpr = x.gpr := rfl
@[simp] theorem Tile.vsr_raise (x : Tile) (f : Flags) (p : Bool) : (x.raise f p).vsr = x.vsr ||| f.word p := rfl

/-! An instruction that computes each lane by itself -/

theorem Tile.lane_perLane (x : Tile) (o : VOp) (g : Nat → Lane × Flags) (i : Nat) : (x.perLane o g).x.lane o.vd.toNat i =
    if i < 128 then (if i < x.vl then (g i).1 else x.lane o.vd.toNat i) else {} := by
  simp only [Tile.perLane, Tile.write, Tile.lane_putLanes_self]
  refine if_congr Iff.rfl (ite_congr rfl (fun h => ?_) fun _ => rfl) rfl
  simp [List.getElem?_range h]

theorem Tile.vreg_perLane_ne (x : Tile) (o : VOp) (g : Nat → Lane × Flags) (r : Nat) (h : r ≠ o.vd.toNat) :
    (x.perLane o g).x.vreg r = x.vreg r := Tile.vreg_putLanes_ne _ _ _ _ h

@[simp] theorem Tile.gpr_perLane (x : Tile) (o : VOp) (g : Nat → Lane × Flags) : (x.perLane o g).x.gpr = x.gpr := rfl
@[simp] theorem Tile.vsr_perLane (x : Tile) (o : VOp) (g : Nat → Lane × Flags) : (x.perLane o g).x.vsr = x.vsr := rfl

/-- A register result taken by an instruction that goes. -/
theorem takesRes {I : Instr} {s : State} {t : Nat} {c : VCode} {o : VOp} {r : VRes} (hrun : exec I s = .next (s.issueVector t c o))
    (hgo : VectorGoes s t c o) (heff : (s.tbump t 7 1 1).vectorEffect t c o = (s.tbump t 7 1 1).takeRes t c o r) :
    ∃ u, exec I s = .next u ∧ u.tile t = r.x.raise r.f r.ps ∧ VectorFrame s u t :=
  ⟨_, hrun.trans (congrArg _ ((issueVector_of_goes hgo).trans heff)), State.tile_takeRes _ _ _ _ _,
    (vectorFrame_tbump s t 7 1 1).trans (vectorFrame_takeRes _ _ _ _ _)⟩

/-- What an instruction that computes each lane by itself leaves in the tile. -/
theorem takesLanes {I : Instr} {s : State} {t : Nat} {c : VCode} {o : VOp} {g : Nat → Lane × Flags}
    (hrun : exec I s = .next (s.issueVector t c o)) (hgo : VectorGoes s t c o)
    (heff : (s.tbump t 7 1 1).vectorEffect t c o = (s.tbump t 7 1 1).takeRes t c o ((s.tile t).perLane o g)) :
    ∃ u, exec I s = .next u ∧
      (∀ i, i < (s.tile t).vl → i < 128 → (u.tile t).lane o.vd.toNat i = (g i).1) ∧
      (∀ i, (s.tile t).vl ≤ i → (u.tile t).lane o.vd.toNat i = if i < 128 then (s.tile t).lane o.vd.toNat i else {}) ∧
      (∀ r, r ≠ o.vd.toNat → (u.tile t).vreg r = (s.tile t).vreg r) ∧ (u.tile t).gpr = (s.tile t).gpr ∧
      (u.tile t).vsr = (s.tile t).vsr ||| (joinFlags (((List.range (s.tile t).vl).map g).map (·.2))).word
        (((List.range (s.tile t).vl).map g).any (·.1.p)) ∧ VectorFrame s u t := by
  obtain ⟨u, hu, htile, hframe⟩ := takesRes hrun hgo heff
  refine ⟨u, hu, fun i hi h128 => ?_, fun i hi => ?_, fun r hr => ?_, ?_, ?_, hframe⟩
  · rw [htile, Tile.lane_raise, Tile.lane_perLane, if_pos h128, if_pos hi]
  · rw [htile, Tile.lane_raise, Tile.lane_perLane, if_neg (Nat.not_lt.2 hi)]
  · rw [htile, Tile.vreg_raise, Tile.vreg_perLane_ne _ _ _ _ hr]
  · rw [htile]; rfl
  · rw [htile]; rfl

/-! Element-wise instructions -/

/-- An operand b and an operand c of a lane, where the instruction has them. -/
def Tile.elemLane (x : Tile) (c : VCode) (o : VOp) (i : Nat) : Lane × Flags :=
  let a := x.lane o.va.toNat i
  let b := if (uses c).b then x.opB o i else {}
  let d := if (uses c).vc then x.lane o.vc.toNat i else {}
  let r := laneOp c o a.v b.v d.v
  (⟨r.v, a.p || b.p || d.p⟩, r.f)

theorem Tile.elementwise_eq (x : Tile) (c : VCode) (o : VOp) : x.elementwise c o = x.perLane o (x.elemLane c o) := rfl

/-- A lane of an instruction of two operands. -/
theorem Tile.elemLane_of_bin (x : Tile) {c : VCode} (o : VOp) (i : Nat) (hb : (uses c).b = true) (hc : (uses c).vc = false) :
    x.elemLane c o i =
      (⟨(laneOp c o (x.lane o.va.toNat i).v (x.opB o i).v 0).v, (x.lane o.va.toNat i).p || (x.opB o i).p⟩,
        (laneOp c o (x.lane o.va.toNat i).v (x.opB o i).v 0).f) := by
  simp [Tile.elemLane, hb, hc]

/-- A lane of an instruction of one operand. -/
theorem Tile.elemLane_of_un (x : Tile) {c : VCode} (o : VOp) (i : Nat) (hb : (uses c).b = false) (hc : (uses c).vc = false) :
    x.elemLane c o i =
      (⟨(laneOp c o (x.lane o.va.toNat i).v 0 0).v, (x.lane o.va.toNat i).p⟩, (laneOp c o (x.lane o.va.toNat i).v 0 0).f) := by
  simp [Tile.elemLane, hb, hc]

/-! The integer instructions (R104, R105) -/

theorem exec_intLanes : ∀ e ∈ intLanes, ∀ (t : TileNo) (o : VOp) (s : State),
    exec (e.1 t o) s = .next (s.issueVector t e.2.1 o) := by
  simp only [intLanes, List.forall_mem_cons]
  exact ⟨fun _ _ _ => rfl, fun _ _ _ => rfl, fun _ _ _ => rfl, fun _ _ _ => rfl, fun _ _ _ => rfl, fun _ _ _ => rfl,
    fun _ _ _ => rfl, fun _ _ _ => rfl, fun _ _ _ => rfl, fun _ _ _ => rfl, fun _ _ _ => rfl, fun _ _ _ => rfl,
    fun _ h => nomatch h⟩

theorem vectorEffect_intLanes : ∀ e ∈ intLanes, ∀ (t : Nat) (o : VOp) (s : State),
    s.vectorEffect t e.2.1 o = s.takeRes t e.2.1 o ((s.tile t).elementwise e.2.1 o) := by
  simp only [intLanes, List.forall_mem_cons]
  exact ⟨fun _ _ _ => rfl, fun _ _ _ => rfl, fun _ _ _ => rfl, fun _ _ _ => rfl, fun _ _ _ => rfl, fun _ _ _ => rfl,
    fun _ _ _ => rfl, fun _ _ _ => rfl, fun _ _ _ => rfl, fun _ _ _ => rfl, fun _ _ _ => rfl, fun _ _ _ => rfl,
    fun _ h => nomatch h⟩

theorem uses_intLanes : ∀ e ∈ intLanes, (uses e.2.1).b = true ∧ (uses e.2.1).vc = false := by
  simp only [intLanes, List.forall_mem_cons]
  simp [uses, usesBin]

/-- A sum with its overflow: wrapping, or clamped to the INT32 bounds. -/
theorem intAdd_v (sat : Bool) (v : Int) : (intAdd sat v).v = if sat && decide (v > 2147483647) then 0x7FFFFFFF
    else if sat && decide (v < -2147483648) then 0x80000000 else BitVec.ofInt 32 v := by
  simp only [intAdd, Bool.and_eq_true, decide_eq_true_eq]
  split_ifs <;> rfl

theorem intAdd_f (sat : Bool) (v : Int) : (intAdd sat v).f.nv = false ∧ (intAdd sat v).f.uf = false ∧ (intAdd sat v).f.dz = false := by
  unfold intAdd; split_ifs <;> exact ⟨rfl, rfl, rfl⟩

/-- An instruction's lane is what the list says, and meets no condition but an overflow. -/
theorem laneOp_intLanes : ∀ e ∈ intLanes, ∀ (o : VOp) (a b c : W32), (laneOp e.2.1 o a b c).v = e.2.2 o a b ∧
    (laneOp e.2.1 o a b c).f.nv = false ∧ (laneOp e.2.1 o a b c).f.uf = false ∧ (laneOp e.2.1 o a b c).f.dz = false := by
  simp only [intLanes, List.forall_mem_cons]
  refine ⟨fun o a b c => ⟨?_, intAdd_f _ _⟩, fun o a b c => ⟨?_, intAdd_f _ _⟩, fun _ _ _ _ => ⟨rfl, rfl, rfl, rfl⟩,
    fun _ a b _ => ⟨?_, rfl, rfl, rfl⟩, fun _ a b _ => ⟨?_, rfl, rfl, rfl⟩, fun _ _ _ _ => ⟨rfl, rfl, rfl, rfl⟩,
    fun _ _ _ _ => ⟨rfl, rfl, rfl, rfl⟩, fun _ _ _ _ => ⟨rfl, rfl, rfl, rfl⟩, fun _ _ _ _ => ⟨rfl, rfl, rfl, rfl⟩,
    fun _ _ _ _ => ⟨rfl, rfl, rfl, rfl⟩, fun _ _ _ _ => ⟨rfl, rfl, rfl, rfl⟩, fun _ _ _ _ => ⟨rfl, rfl, rfl, rfl⟩,
    fun _ h => nomatch h⟩
  · simp [laneOp, intAdd_v, BitVec.ofInt_add]
  · have hsub : BitVec.ofInt 32 (a.toInt - b.toInt) = a - b :=
      BitVec.eq_of_toInt_eq (by rw [BitVec.toInt_ofInt, BitVec.toInt_sub])
    simp [laneOp, intAdd_v, hsub]
  · simp [laneOp, BitVec.slt]
  · simp [laneOp, BitVec.slt]

/-- Conditions none of which is invalid, underflow or division by zero join to such. -/
theorem joinFlags_of_no_nv_uf_dz (l : List Flags) (h : ∀ f ∈ l, f.nv = false ∧ f.uf = false ∧ f.dz = false) :
    (joinFlags l).nv = false ∧ (joinFlags l).uf = false ∧ (joinFlags l).dz = false := by
  unfold joinFlags
  suffices ∀ f : Flags, f.nv = false ∧ f.uf = false ∧ f.dz = false →
      (l.foldl Flags.or f).nv = false ∧ (l.foldl Flags.or f).uf = false ∧ (l.foldl Flags.or f).dz = false from
    this {} ⟨rfl, rfl, rfl⟩
  induction l with
  | nil => exact fun f hf => hf
  | cons g l ih =>
    intro f ⟨h1, h2, h3⟩
    obtain ⟨⟨g1, g2, g3⟩, hl⟩ := List.forall_mem_cons.1 h
    exact ih hl _ ⟨by simp [Flags.or, h1, g1], by simp [Flags.or, h2, g2], by simp [Flags.or, h3, g3]⟩

/-- An overflow and a consumed poison touch two bits of VSR. -/
theorem vsr_or_word_masked (v : W32) (f : Flags) (p : Bool) (h : f.nv = false ∧ f.uf = false ∧ f.dz = false) :
    (v ||| f.word p) &&& 0xFFFFFFED = v &&& 0xFFFFFFED := by
  obtain ⟨h1, h2, h3⟩ := h
  have hw : f.word p &&& 0xFFFFFFED = 0#32 := by
    simp only [Flags.word, h1, h2, h3]
    cases f.of <;> cases p <;> rfl
  rw [BitVec.and_or_distrib_right, hw, BitVec.or_zero]

/-- Settles O8: an integer instruction computes each lane by itself, from the two operands, and meets no condition but an overflow. -/
theorem vectorIntegerLanes : Obligations.VectorIntegerLanes := by
  unfold Obligations.VectorIntegerLanes
  refine ⟨rfl, fun e he t o s hgo => ?_⟩
  obtain ⟨hb, hc⟩ := uses_intLanes e he
  have heff := vectorEffect_intLanes e he t o (s.tbump t 7 1 1)
  rw [State.tile_tbump, Tile.elementwise_eq] at heff
  obtain ⟨u, hu, hlane, htail, hreg, hgpr, hvsr, hframe⟩ := takesLanes (exec_intLanes e he t o s) hgo heff
  refine ⟨u, hu, fun i hi h128 => ?_, htail, hreg, hgpr, ?_, hframe⟩
  · rw [hlane i hi h128, Tile.elemLane_of_bin _ _ _ hb hc]
    exact congrArg (Lane.mk · _) (laneOp_intLanes e he _ _ _ _).1
  · rw [hvsr]
    refine vsr_or_word_masked _ _ _ (joinFlags_of_no_nv_uf_dz _ ?_)
    simp only [List.mem_map, List.mem_range]
    rintro f ⟨_, ⟨i, _, rfl⟩, rfl⟩
    exact (laneOp_intLanes e he _ _ _ _).2

/-! The FP32 instructions (R103, R105, R109) -/

theorem exec_fpLanes : ∀ e ∈ fpLanes, ∀ (t : TileNo) (o : VOp) (s : State),
    exec (e.1 t o) s = .next (s.issueVector t e.2.1 o) := by
  simp only [fpLanes, List.forall_mem_cons]
  exact ⟨fun _ _ _ => rfl, fun _ _ _ => rfl, fun _ _ _ => rfl, fun _ _ _ => rfl, fun _ _ _ => rfl, fun _ _ _ => rfl,
    fun _ _ _ => rfl, fun _ _ _ => rfl, fun _ h => nomatch h⟩

theorem vectorEffect_fpLanes : ∀ e ∈ fpLanes, ∀ (t : Nat) (o : VOp) (s : State),
    s.vectorEffect t e.2.1 o = s.takeRes t e.2.1 o ((s.tile t).elementwise e.2.1 o) := by
  simp only [fpLanes, List.forall_mem_cons]
  exact ⟨fun _ _ _ => rfl, fun _ _ _ => rfl, fun _ _ _ => rfl, fun _ _ _ => rfl, fun _ _ _ => rfl, fun _ _ _ => rfl,
    fun _ _ _ => rfl, fun _ _ _ => rfl, fun _ h => nomatch h⟩

theorem uses_fpLanes : ∀ e ∈ fpLanes, (uses e.2.1).b = true ∧ (uses e.2.1).vc = false := by
  simp only [fpLanes, List.forall_mem_cons]
  simp [uses, usesBin]

theorem laneOp_fpLanes : ∀ e ∈ fpLanes, ∀ (o : VOp) (a b c : W32), laneOp e.2.1 o a b c = e.2.2 o a b := by
  simp only [fpLanes, List.forall_mem_cons]
  exact ⟨fun _ _ _ _ => rfl, fun _ _ _ _ => rfl, fun _ _ _ _ => rfl, fun _ _ _ _ => rfl, fun _ _ _ _ => rfl,
    fun _ _ _ _ => rfl, fun _ _ _ _ => rfl, fun _ _ _ _ => rfl, fun _ h => nomatch h⟩

/-- Settles O9: an FP32 instruction of two operands computes each lane by itself, and joins the conditions of the lanes. -/
theorem vectorFloatLanes : Obligations.VectorFloatLanes := by
  unfold Obligations.VectorFloatLanes
  intro e he t o s hgo
  obtain ⟨hb, hc⟩ := uses_fpLanes e he
  have heff := vectorEffect_fpLanes e he t o (s.tbump t 7 1 1)
  rw [State.tile_tbump, Tile.elementwise_eq] at heff
  obtain ⟨u, hu, hlane, -, hreg, hgpr, hvsr, hframe⟩ := takesLanes (exec_fpLanes e he t o s) hgo heff
  have helem : ∀ i, (s.tile t).elemLane e.2.1 o i =
      (⟨(e.2.2 o ((s.tile t).lane o.va.toNat i).v ((s.tile t).opB o i).v).v,
        ((s.tile t).lane o.va.toNat i).p || ((s.tile t).opB o i).p⟩,
       (e.2.2 o ((s.tile t).lane o.va.toNat i).v ((s.tile t).opB o i).v).f) := by
    intro i
    rw [Tile.elemLane_of_bin _ _ _ hb hc, laneOp_fpLanes e he]
  refine ⟨u, hu, fun i hi h128 => ?_, hreg, hgpr, ?_, hframe⟩
  · rw [hlane i hi h128, helem]
  · rw [hvsr]
    simp only [List.map_map, List.any_map, Function.comp_def, helem]

theorem exec_unLanes : ∀ e ∈ unLanes, ∀ (t : TileNo) (o : VOp) (s : State),
    exec (e.1 t o) s = .next (s.issueVector t e.2.1 o) := by
  simp only [unLanes, List.forall_mem_cons]
  exact ⟨fun _ _ _ => rfl, fun _ _ _ => rfl, fun _ _ _ => rfl, fun _ _ _ => rfl, fun _ _ _ => rfl, fun _ _ _ => rfl,
    fun _ _ _ => rfl, fun _ _ _ => rfl, fun _ _ _ => rfl, fun _ _ _ => rfl, fun _ _ _ => rfl, fun _ _ _ => rfl,
    fun _ _ _ => rfl, fun _ _ _ => rfl, fun _ _ _ => rfl, fun _ h => nomatch h⟩

theorem vectorEffect_unLanes : ∀ e ∈ unLanes, ∀ (t : Nat) (o : VOp) (s : State),
    s.vectorEffect t e.2.1 o = s.takeRes t e.2.1 o ((s.tile t).elementwise e.2.1 o) := by
  simp only [unLanes, List.forall_mem_cons]
  exact ⟨fun _ _ _ => rfl, fun _ _ _ => rfl, fun _ _ _ => rfl, fun _ _ _ => rfl, fun _ _ _ => rfl, fun _ _ _ => rfl,
    fun _ _ _ => rfl, fun _ _ _ => rfl, fun _ _ _ => rfl, fun _ _ _ => rfl, fun _ _ _ => rfl, fun _ _ _ => rfl,
    fun _ _ _ => rfl, fun _ _ _ => rfl, fun _ _ _ => rfl, fun _ h => nomatch h⟩

theorem uses_unLanes : ∀ e ∈ unLanes, (uses e.2.1).b = false ∧ (uses e.2.1).vc = false := by
  simp only [unLanes, List.forall_mem_cons]
  simp [uses, usesUn]

theorem laneOp_unLanes : ∀ e ∈ unLanes, ∀ (o : VOp) (a b c : W32), laneOp e.2.1 o a b c = e.2.2 a := by
  simp only [unLanes, List.forall_mem_cons]
  exact ⟨fun _ _ _ _ => rfl, fun _ _ _ _ => rfl, fun _ _ _ _ => rfl, fun _ _ _ _ => rfl, fun _ _ _ _ => rfl,
    fun _ _ _ _ => rfl, fun _ _ _ _ => rfl, fun _ _ _ _ => rfl, fun _ _ _ _ => rfl, fun _ _ _ _ => rfl,
    fun _ _ _ _ => rfl, fun _ _ _ _ => rfl, fun _ _ _ _ => rfl, fun _ _ _ _ => rfl, fun _ _ _ _ => rfl, fun _ h => nomatch h⟩

/-- A free value is taken where it is a finite word within the bound; else the exact result is rounded (R109). -/
theorem pick_cases (cand : W32) (exact_ : Dy) (bound : W32 → Dy) :
    pick cand exact_ bound = roundFp32 (decide (exact_.m < 0)) exact_ ∨
    ((pick cand exact_ bound).v = cand ∧
      within (dyOf cand) exact_ (bound (roundFp32 (decide (exact_.m < 0)) exact_).v) = true) := by
  cases hc : fval cand with
  | nan => left; simp [pick, hc]
  | inf s => left; simp [pick, hc]
  | fin s c =>
    by_cases hw : within c exact_ (bound (roundFp32 (decide (exact_.m < 0)) exact_).v) = true
    · right; simp [pick, hc, hw, dyOf]
    · left; simp [pick, hc, hw]

/-- The exponential, between its overflow and its underflow. -/
theorem fpExp_of_range {cand a : W32} {n : Bool} {x : Dy} (ha : fval a = .fin n x)
    (hhi : Dy.lt ⟨887228, 0⟩ (x.mul ⟨10000, 0⟩) = false) (hlo : (x.mul ⟨100, 0⟩).lt ⟨-10397, 0⟩ = false) :
    fpExp cand a = pick cand (dyExp x) (ulps 2) := by
  simp only [fpExp, ha, hhi, hlo, Bool.false_eq_true, if_false]

/-- Settles O10: one operand or three, each lane by itself; VEXP between its bounds is `pick`. -/
theorem vectorFunctionLanes : Obligations.VectorFunctionLanes := by
  unfold Obligations.VectorFunctionLanes
  refine ⟨⟨fun e he t o s hgo => ?_, fun t o s hgo => ?_⟩, fun cand a n x ha hhi hlo => ?_⟩
  · obtain ⟨hb, hc⟩ := uses_unLanes e he
    have heff := vectorEffect_unLanes e he t o (s.tbump t 7 1 1)
    rw [State.tile_tbump, Tile.elementwise_eq] at heff
    obtain ⟨u, hu, hlane, -, hreg, hgpr, -, hframe⟩ := takesLanes (exec_unLanes e he t o s) hgo heff
    refine ⟨u, hu, fun i hi h128 => ?_, hreg, hgpr, hframe⟩
    rw [hlane i hi h128, Tile.elemLane_of_un _ _ _ hb hc, laneOp_unLanes e he]
  · have heff : (s.tbump t 7 1 1).vectorEffect t .vfma o =
        (s.tbump t 7 1 1).takeRes t .vfma o ((s.tile t).perLane o ((s.tile t).elemLane .vfma o)) := by
      rw [← Tile.elementwise_eq, ← State.tile_tbump s t 7 1 1 t]; rfl
    obtain ⟨u, hu, hlane, -, hreg, hgpr, -, hframe⟩ := takesLanes (I := .vfma t o) rfl hgo heff
    exact ⟨u, hu, hlane, hreg, hgpr, hframe⟩
  · rw [fpExp_of_range ha hhi hlo]
    exact pick_cases cand (dyExp x) (ulps 2)

end Sys2Proof.Machine
end

section
/-! SUPPORT. Lane moves and packing (04 R105, R106). -/

open Sys2Proof Sys2Proof.Machine Sys2Proof.Claims

namespace Sys2Proof.Machine

theorem exec_moveLanes : ∀ e ∈ moveLanes, ∀ (t : TileNo) (o : VOp) (s : State),
    exec (e.1 t o) s = .next (s.issueVector t e.2.1 o) := by
  simp only [moveLanes, List.forall_mem_cons]
  exact ⟨fun _ _ _ => rfl, fun _ _ _ => rfl, fun _ _ _ => rfl, fun _ _ _ => rfl, fun _ _ _ => rfl, fun _ _ _ => rfl,
    fun _ _ _ => rfl, fun _ h => nomatch h⟩

theorem vectorEffect_moveLanes : ∀ e ∈ moveLanes, ∀ (t : Nat) (o : VOp) (s : State),
    s.vectorEffect t e.2.1 o = s.takeRes t e.2.1 o ((s.tile t).regEffect e.2.1 o 0) := by
  simp only [moveLanes, List.forall_mem_cons]
  exact ⟨fun _ _ _ => rfl, fun _ _ _ => rfl, fun _ _ _ => rfl, fun _ _ _ => rfl, fun _ _ _ => rfl, fun _ _ _ => rfl,
    fun _ _ _ => rfl, fun _ h => nomatch h⟩

/-- A register result that writes lanes of vd below VL with `f`, and nothing else. -/
def WritesLanes (x : Tile) (o : VOp) (f : Nat → Lane) (y : Tile) : Prop :=
  (∀ i, i < x.vl → i < 128 → y.lane o.vd.toNat i = f i) ∧ (∀ r, r ≠ o.vd.toNat → y.vreg r = x.vreg r) ∧ y.gpr = x.gpr

theorem writesLanes_perLane (x : Tile) (o : VOp) (g : Nat → Lane × Flags) (f : Nat → Lane) (h : ∀ i, (g i).1 = f i) :
    WritesLanes x o f (x.perLane o g).x := by
  refine ⟨fun i hi h128 => ?_, fun r hr => Tile.vreg_perLane_ne _ _ _ _ hr, rfl⟩
  rw [Tile.lane_perLane, if_pos h128, if_pos hi, h]

theorem writesLanes_putLanes (x : Tile) (o : VOp) (g : Nat → Option Lane) (f : Nat → Lane)
    (h : ∀ i, (g i).getD (x.lane o.vd.toNat i) = f i) : WritesLanes x o f (x.putLanes o.vd.toNat g) := by
  refine ⟨fun i hi h128 => ?_, fun r hr => Tile.vreg_putLanes_ne _ _ _ _ hr, rfl⟩
  rw [Tile.lane_putLanes_self, if_pos h128, if_pos hi, h]

theorem regEffect_moveLanes : ∀ e ∈ moveLanes, ∀ (x : Tile) (o : VOp),
    WritesLanes x o (e.2.2 x o) (x.regEffect e.2.1 o 0).x := by
  simp only [moveLanes, List.forall_mem_cons]
  refine ⟨fun x o => writesLanes_perLane _ _ _ _ fun _ => rfl, fun x o => writesLanes_perLane _ _ _ _ fun _ => rfl,
    fun x o => writesLanes_perLane _ _ _ _ fun i => ?_, fun x o => writesLanes_putLanes _ _ _ _ fun i => ?_,
    fun x o => writesLanes_perLane _ _ _ _ fun i => ?_, fun x o => writesLanes_putLanes _ _ _ _ fun _ => rfl,
    fun x o => writesLanes_perLane _ _ _ _ fun _ => rfl, fun _ h => nomatch h⟩
  · exact apply_ite Prod.fst _ _ _
  · exact apply_ite (Option.getD · _) _ _ _
  · exact apply_ite Prod.fst _ _ _

theorem getElem?_append_replicate {α : Type} (l : List α) (n i : Nat) (a : α) (hi : i < n) :
    (l ++ List.replicate (n - l.length) a)[i]? = some (l[i]?.getD a) := by
  by_cases h : i < l.length
  · rw [List.getElem?_append_left h, List.getElem?_eq_getElem h]; rfl
  · rw [List.getElem?_append_right (by omega), List.getElem?_replicate, if_pos (by omega), List.getElem?_eq_none (by omega)]
    rfl

/-- The place of an entry in a list without repeats. -/
theorem findIdx?_of_getElem? {l : List Nat} (hl : l.Nodup) {k i : Nat} (h : l[k]? = some i) : l.findIdx? (· == i) = some k := by
  obtain ⟨hk, rfl⟩ := List.getElem?_eq_some_iff.1 h
  rw [List.findIdx?_eq_some_iff_getElem]
  refine ⟨hk, by simp, fun j hj => ?_⟩
  have hne : l[j] ≠ l[k] := fun he => absurd ((hl.getElem_inj_iff).1 he) (Nat.ne_of_lt hj)
  simpa using hne

theorem findIdx?_of_not_mem {l : List Nat} {i : Nat} (h : i ∉ l) : l.findIdx? (· == i) = none := by
  rw [List.findIdx?_eq_none_iff]
  intro j hj
  have hne : j ≠ i := fun he => h (he ▸ hj)
  simpa using hne

theorem Tile.selected_nodup (x : Tile) (r : Nat) : (x.selected r).Nodup := List.nodup_range.filter _

theorem Tile.lt_vl_of_mem_selected {x : Tile} {r i : Nat} (h : i ∈ x.selected r) : i < x.vl := by
  simp only [Tile.selected, List.mem_filter, List.mem_range] at h
  exact h.1

/-- VCOMPRESS: lane `i` is the `i`-th selected one, zero above. -/
theorem Tile.lane_compress (x : Tile) (o : VOp) (i : Nat) (hi : i < x.vl) (h128 : i < 128) :
    ((x.compress o).x.lane o.vd.toNat i).v =
      match (x.selected o.vb.toNat)[i]? with | some k => (x.lane o.va.toNat k).v | none => 0 := by
  simp only [Tile.compress, Tile.lane_setG, Tile.write, Tile.lane_putLanes_self, if_pos hi, if_pos h128]
  rw [getElem?_append_replicate _ _ _ _ hi, Option.getD_some, List.getElem?_map]
  cases (x.selected o.vb.toNat)[i]? <;> rfl

theorem Tile.lane_expand_of_not_selected (x : Tile) (o : VOp) (i : Nat) (hi : i < x.vl) (h128 : i < 128)
    (h : i ∉ x.selected o.vb.toNat) : (x.expand o).x.lane o.vd.toNat i = x.lane o.vd.toNat i := by
  simp only [Tile.expand, Tile.lane_setG, Tile.lane_putLanes_self, if_pos hi, if_pos h128, findIdx?_of_not_mem h]
  rfl

theorem Tile.lane_expand_of_selected (x : Tile) (o : VOp) (k i : Nat) (h128 : i < 128)
    (h : (x.selected o.vb.toNat)[k]? = some i) : ((x.expand o).x.lane o.vd.toNat i).v = (x.lane o.va.toNat k).v := by
  have hi : i < x.vl := Tile.lt_vl_of_mem_selected (List.mem_of_getElem? h)
  simp only [Tile.expand, Tile.lane_setG, Tile.lane_putLanes_self, if_pos hi, if_pos h128,
    findIdx?_of_getElem? (x.selected_nodup _) h]
  rfl

/-- Settles O11: each move writes lanes of vd by a rule of its own; the two that count also write gpr[sd]. -/
theorem vectorLaneMoves : Obligations.VectorLaneMoves := by
  unfold Obligations.VectorLaneMoves
  refine ⟨fun e he t o s hgo => ?_, fun t o s hgo => ?_, fun t o s hgo => ?_, fun t o s hgo => ?_, fun t o s hgo => ?_,
    fun t o s hgo => ?_⟩
  · have heff := vectorEffect_moveLanes e he t o (s.tbump t 7 1 1)
    rw [State.tile_tbump] at heff
    obtain ⟨u, hu, htile, hframe⟩ := takesRes (exec_moveLanes e he t o s) hgo heff
    obtain ⟨hlane, hreg, hgpr⟩ := regEffect_moveLanes e he (s.tile t) o
    refine ⟨u, hu, ?_, ?_, ?_, hframe⟩ <;> rw [htile]
    · exact hlane
    · exact hreg
    · exact hgpr
  · obtain ⟨u, hu, htile, hframe⟩ := takesRes (I := .vcompress t o) (r := ((s.tbump t 7 1 1).tile t).compress o) rfl hgo rfl
    rw [State.tile_tbump] at htile
    refine ⟨u, hu, fun i hi h128 => ?_, ?_, hframe⟩ <;> rw [htile]
    · exact Tile.lane_compress _ o i hi h128
    · rw [Tile.g_raise, Tile.compress, Tile.g_setG_self]
      simp [BitVec.toNat_eq]
  · obtain ⟨u, hu, htile, hframe⟩ := takesRes (I := .vexpand t o) (r := ((s.tbump t 7 1 1).tile t).expand o) rfl hgo rfl
    rw [State.tile_tbump] at htile
    refine ⟨u, hu, fun i hi h128 hsel => ?_, fun k i _ h128 hsel => ?_, ?_, hframe⟩ <;> rw [htile]
    · exact Tile.lane_expand_of_not_selected _ o i hi h128 hsel
    · exact Tile.lane_expand_of_selected _ o k i h128 hsel
    · rw [Tile.g_raise, Tile.expand, Tile.g_setG_self]
      simp [BitVec.toNat_eq]
  · obtain ⟨u, hu, htile, hframe⟩ := takesRes (I := .vunzip t o) (r := ((s.tbump t 7 1 1).tile t).unzip o) rfl hgo rfl
    rw [State.tile_tbump] at htile
    refine ⟨u, hu, fun i h128 hi => ?_, fun i h128 hi => ?_, by rw [htile]; rfl, hframe⟩ <;> rw [htile, Tile.lane_raise, Tile.unzip]
    · rw [Tile.lane_putLanes_ne _ _ _ _ _ (by omega), Tile.lane_putLanes_self, if_pos h128, if_pos (by omega), if_pos hi]
      rfl
    · rw [Tile.lane_putLanes_self, if_pos h128, Tile.vl_putLanes, if_pos (by omega), if_pos hi]
      rfl
  · obtain ⟨u, hu, hlane, -, -, hgpr, -, hframe⟩ := takesLanes (I := .vunpack t o) rfl hgo rfl
    exact ⟨u, hu, fun i hi h128 => congrArg Lane.v (hlane i hi h128), hgpr, hframe⟩
  · obtain ⟨u, hu, hlane, -, -, hgpr, -, hframe⟩ := takesLanes (I := .vpack t o) rfl hgo rfl
    refine ⟨u, hu, fun i hi h128 => (congrArg Lane.v (hlane i hi h128)).trans ?_, hgpr, hframe⟩
    exact apply_ite Lane.v _ _ _

end Sys2Proof.Machine
end

section
/-! SUPPORT. What a write of bytes changes (06 R154, 14 R387, 15 R407 to R411). -/

open Sys2Proof Sys2Proof.Machine Sys2Proof.Claims

namespace Sys2Proof.Machine

/-- What a write of bytes can change besides the bytes: poison marks, keys, write-backs owed, valid bits, counters. -/
def StoreFrame (s u : State) : Prop :=
  u = { s with mem := u.mem, poison := u.poison, keyed := u.keyed, dies := u.dies, tiles := u.tiles, cnt := u.cnt }

theorem StoreFrame.refl (s : State) : StoreFrame s s := rfl

theorem StoreFrame.trans {s u w : State} (hu : StoreFrame s u) (hw : StoreFrame u w) : StoreFrame s w := by
  unfold StoreFrame at hu
  exact Eq.trans hw (by rw [hu])

theorem storeFrame_bump (s : State) (k n : Nat) : StoreFrame s (s.bump k n) := by
  obtain ⟨c, hc⟩ := s.bump_frame k n
  rw [hc]; rfl

theorem keyGranule_frame (s : State) (g : Nat) : s.keyGranule g = { s with keyed := (s.keyGranule g).keyed } := by
  unfold State.keyGranule; split <;> rfl

theorem foldl_keyGranule_frame (gs : List Nat) (s : State) :
    gs.foldl State.keyGranule s = { s with keyed := (gs.foldl State.keyGranule s).keyed } := by
  induction gs generalizing s with
  | nil => rfl
  | cons g gs ih =>
    have hg := keyGranule_frame s g
    rw [List.foldl_cons]
    exact (ih (s.keyGranule g)).trans (by rw [hg])

/-- The bytes and marks written, before keys, write-backs and valid bits. -/
def State.storeRaw (s : State) (a : Nat) (bs : Bytes) (marks : List Bool) : State :=
  { s with mem := Memory.writes s.mem a bs, poison := markPoison s.poison a bs.length marks }

/-- A write outside stack memory: bytes, marks, an SRAM write-back overtaken, valid bits. -/
theorem store_of_sram (s : State) (a : Nat) (bs : Bytes) (marks : List Bool) (h : faSpace a ≠ 0) :
    s.store a bs marks =
      if faSram a + bs.length ≤ accBase then (s.storeRaw a bs marks).cancelWbs a bs.length else
        ((s.storeRaw a bs marks).cancelWbs a bs.length).modTile (faTile a)
          (fun x => { x with accValid := markValid x.accValid (faSram a) bs.length }) := by
  simp only [State.store, if_neg h]
  rfl

/-- The write-backs a die owes to granules that a port has written are to be discarded (R409). -/
def State.overtake (s : State) (d : Nat) (gs : List Nat) : State :=
  if (s.die d).wbs.any (fun b => gs.contains b.granule) then
    s.modDie d (fun x => { x with wbs := x.wbs.map (fun b => if gs.contains b.granule then { b with cancelled := true } else b) })
  else s

theorem State.overtake_nil (s : State) (d : Nat) : s.overtake d [] = s := by
  simp [State.overtake]

theorem overtake_frame (s : State) (d : Nat) (gs : List Nat) : DieFrame s (s.overtake d gs) := by
  unfold State.overtake; split
  · exact dieFrame_modDie _ _ _
  · exact .refl s

/-- The marked words and owed write-backs of a stack write, up to its counters. -/
def State.storeStack (s : State) (a : Nat) (bs : Bytes) (marks : List Bool) : State :=
  ((granulesOf a bs.length).foldl State.keyGranule { s.storeRaw a bs marks with
    poison := widenSectors (s.storeRaw a bs marks).poison a bs.length marks }).overtake (faDie a) (granulesOf a bs.length)

theorem store_of_stack (s : State) (a : Nat) (bs : Bytes) (marks : List Bool) (h : faSpace a = 0) :
    s.store a bs marks = ((s.storeStack a bs marks).dbump (faDie a) 3 4 (markedSectors a bs.length marks).length).dbump
      (faDie a) 9 2 (granulesOf a bs.length).length := by
  simp only [State.store, if_pos h]
  rfl

theorem storeStack_frame (s : State) (a : Nat) (bs : Bytes) (marks : List Bool) : ∃ p k ds,
    s.storeStack a bs marks = { s with mem := Memory.writes s.mem a bs, poison := p, keyed := k, dies := ds } := by
  unfold State.storeStack
  generalize hx : (granulesOf a bs.length).foldl State.keyGranule { s.storeRaw a bs marks with
    poison := widenSectors (s.storeRaw a bs marks).poison a bs.length marks } = x
  have hkeys := (foldl_keyGranule_frame (granulesOf a bs.length) { s.storeRaw a bs marks with
    poison := widenSectors (s.storeRaw a bs marks).poison a bs.length marks })
  rw [hx] at hkeys
  have hdies := overtake_frame x (faDie a) (granulesOf a bs.length)
  unfold DieFrame at hdies
  rw [hdies, hkeys]
  exact ⟨_, _, _, rfl⟩

theorem storeFrame_store (s : State) (a : Nat) (bs : Bytes) (marks : List Bool) : StoreFrame s (s.store a bs marks) := by
  by_cases h : faSpace a = 0
  · have hstack : StoreFrame s (s.storeStack a bs marks) := by
      obtain ⟨p, k, ds, hf⟩ := storeStack_frame s a bs marks
      rw [hf]; rfl
    rw [store_of_stack s a bs marks h]
    exact (hstack.trans (storeFrame_bump _ _ _)).trans (storeFrame_bump _ _ _)
  · have hc := cancelWbs_frame (s.storeRaw a bs marks) a bs.length
    rw [store_of_sram s a bs marks h]
    split
    · rw [hc]; rfl
    · rw [hc]; rfl

/-- The bytes of a write, and no others. -/
@[simp] theorem State.mem_store (s : State) (a : Nat) (bs : Bytes) (marks : List Bool) :
    (s.store a bs marks).mem = Memory.writes s.mem a bs := by
  by_cases h : faSpace a = 0
  · rw [store_of_stack s a bs marks h, State.dbump, State.bump_mem, State.dbump, State.bump_mem]
    obtain ⟨p, k, ds, hf⟩ := storeStack_frame s a bs marks
    exact congrArg State.mem hf
  · have hc := cancelWbs_frame (s.storeRaw a bs marks) a bs.length
    rw [store_of_sram s a bs marks h]
    split
    · rw [hc]; rfl
    · rw [hc]; rfl

/-- A write outside stack memory changes tiles, bytes and their marks. -/
theorem store_sram_frame (s : State) (a : Nat) (bs : Bytes) (marks : List Bool) (h : faSpace a ≠ 0) : ∃ m p ts,
    s.store a bs marks = { s with mem := m, poison := p, tiles := ts } := by
  have hc := cancelWbs_frame (s.storeRaw a bs marks) a bs.length
  rw [store_of_sram s a bs marks h]
  split
  · rw [hc]; exact ⟨_, _, _, rfl⟩
  · rw [hc]; exact ⟨_, _, _, rfl⟩

/-- Parts of a tile other than its owed write-backs and its valid bits survive every write. -/
theorem store_part {α : Type} (p : Tile → α) (hwb : ∀ x ws, p { x with sramWb := ws } = p x)
    (hacc : ∀ x vs, p { x with accValid := vs } = p x) (s : State) (a : Nat) (bs : Bytes) (marks : List Bool) (t : Nat) :
    p ((s.store a bs marks).tile t) = p (s.tile t) := by
  by_cases h : faSpace a = 0
  · rw [store_of_stack s a bs marks h, State.dbump, State.tile_bump, State.dbump, State.tile_bump]
    obtain ⟨_, k, ds, hf⟩ := storeStack_frame s a bs marks
    rw [hf]; rfl
  · have hc : p (((s.storeRaw a bs marks).cancelWbs a bs.length).tile t) = p (s.tile t) :=
      cancelWbs_part p hwb (s.storeRaw a bs marks) a bs.length t
    rw [store_of_sram s a bs marks h]
    split
    · exact hc
    · exact (State.modTile_part p _ _ _ _ fun x => hacc x _).trans hc

theorem dies_store_of_sram (s : State) (a : Nat) (bs : Bytes) (marks : List Bool) (h : faSpace a ≠ 0) :
    (s.store a bs marks).dies = s.dies := by
  obtain ⟨m, _, ts, hf⟩ := store_sram_frame s a bs marks h
  rw [hf]

/-- A write of no bytes leaves every die. -/
theorem dies_store_nil (s : State) (a : Nat) (marks : List Bool) : (s.store a [] marks).dies = s.dies := by
  by_cases h : faSpace a = 0
  · rw [store_of_stack s a [] marks h, State.dbump, State.bump_dies, State.dbump, State.bump_dies, State.storeStack,
      show granulesOf a ([] : Bytes).length = [] from rfl, State.overtake_nil]
    rfl
  · exact dies_store_of_sram _ _ _ _ h

theorem StoreFrame.jobs {s u : State} (h : StoreFrame s u) : u.jobs = s.jobs := by
  unfold StoreFrame at h
  rw [h]

/-- An address within a tile's SRAM, or its end, is in SRAM space (R11). -/
theorem faSpace_sramFa {t off : Nat} (h : off ≤ sramEnd) : faSpace (sramFa t off) = 1 := by
  unfold sramEnd at h
  have ht : tileOf t < 144 := Nat.mod_lt _ (by decide)
  unfold faSpace sramFa
  omega

end Sys2Proof.Machine
end

section
/-! SUPPORT. Vector loads and stores (04 R102). -/

open Sys2Proof Sys2Proof.Machine Sys2Proof.Claims

namespace Sys2Proof.Machine

theorem exec_wordLoads : ∀ e ∈ wordLoads, ∀ (t : TileNo) (o : VOp) (s : State),
    exec (e.1 t o) s = .next (s.issueVector t e.2.1 o) := by
  simp only [wordLoads, List.forall_mem_cons]
  exact ⟨fun _ _ _ => rfl, fun _ _ _ => rfl, fun _ _ _ => rfl, fun _ h => nomatch h⟩

theorem vectorEffect_wordLoads : ∀ e ∈ wordLoads, ∀ (t : Nat) (o : VOp) (s : State),
    s.vectorEffect t e.2.1 o = s.takeRes t e.2.1 o (s.loadWords t e.2.1 o) := by
  simp only [wordLoads, List.forall_mem_cons]
  exact ⟨fun _ _ _ => rfl, fun _ _ _ => rfl, fun _ _ _ => rfl, fun _ h => nomatch h⟩

theorem elemAddr_wordLoads : ∀ e ∈ wordLoads, ∀ (x : Tile) (o : VOp) (i : Nat), x.elemAddr e.2.1 o i = (e.2.2 x o i).toNat := by
  simp only [wordLoads, List.forall_mem_cons]
  exact ⟨fun _ _ _ => rfl, fun _ _ _ => rfl, fun _ _ _ => rfl, fun _ h => nomatch h⟩

theorem exec_wordStores : ∀ e ∈ wordStores, ∀ (t : TileNo) (o : VOp) (s : State),
    exec (e.1 t o) s = .next (s.issueVector t e.2.1 o) := by
  simp only [wordStores, List.forall_mem_cons]
  exact ⟨fun _ _ _ => rfl, fun _ _ _ => rfl, fun _ _ _ => rfl, fun _ h => nomatch h⟩

theorem vectorEffect_wordStores : ∀ e ∈ wordStores, ∀ (t : Nat) (o : VOp) (s : State),
    s.vectorEffect t e.2.1 o = s.storeWords t e.2.1 o := by
  simp only [wordStores, List.forall_mem_cons]
  exact ⟨fun _ _ _ => rfl, fun _ _ _ => rfl, fun _ _ _ => rfl, fun _ h => nomatch h⟩

theorem elemAddr_wordStores : ∀ e ∈ wordStores, ∀ (x : Tile) (o : VOp) (i : Nat), x.elemAddr e.2.1 o i = (e.2.2 x o i).toNat := by
  simp only [wordStores, List.forall_mem_cons]
  exact ⟨fun _ _ _ => rfl, fun _ _ _ => rfl, fun _ _ _ => rfl, fun _ h => nomatch h⟩

theorem touches_wordStores : ∀ e ∈ wordStores, ∀ (x : Tile) (o : VOp),
    x.touches e.2.1 o = (List.range x.vl).map (fun i => (x.elemAddr e.2.1 o i, 4)) := by
  simp only [wordStores, List.forall_mem_cons]
  exact ⟨fun _ _ => rfl, fun _ _ => rfl, fun _ _ => rfl, fun _ h => nomatch h⟩

/-- An instruction that touches a byte beyond SRAM does not go (R100). -/
theorem vectorCheck_ne_go_of_beyond (s : State) (t : Nat) (jb : Job) (c : VCode) (o : VOp)
    (h : ((s.tile t).touches c o).any (fun (a, n) => decide (a + n > sramEnd)) = true) : s.vectorCheck t jb c o ≠ .go := by
  unfold State.vectorCheck
  dsimp only
  generalize wordFault c o (s.tile t).vl = fault
  cases fault with
  | some r => simp
  | none =>
    simp only [h, if_true]
    split_ifs <;> simp

/-- An instruction that goes touches bytes of its tile's SRAM only (R100). -/
theorem touches_within_sram {s : State} {t : Nat} {c : VCode} {o : VOp} (h : VectorGoes s t c o) :
    ∀ r ∈ (s.tile t).touches c o, r.1 + r.2 ≤ sramEnd := by
  obtain ⟨_, jb, _, _, _, hgo⟩ := h
  intro r hr
  by_contra hout
  exact vectorCheck_ne_go_of_beyond s t jb c o (List.any_eq_true.2 ⟨r, hr, by simpa using hout⟩) hgo

/-- What a word store of a lane leaves of the registers, jobs and dies. -/
structure StoreKeeps (t : Nat) (s u : State) : Prop where
  vregs : (u.tile t).vregs = (s.tile t).vregs
  gpr : (u.tile t).gpr = (s.tile t).gpr
  jobs : u.jobs = s.jobs
  dies : u.dies = s.dies

theorem StoreKeeps.trans {t : Nat} {s u w : State} (hu : StoreKeeps t s u) (hw : StoreKeeps t u w) : StoreKeeps t s w :=
  ⟨hw.vregs.trans hu.vregs, hw.gpr.trans hu.gpr, hw.jobs.trans hu.jobs, hw.dies.trans hu.dies⟩

theorem storeKeeps_bump (t : Nat) (s : State) (k n : Nat) : StoreKeeps t s (s.bump k n) := by
  obtain ⟨c, hc⟩ := s.bump_frame k n
  rw [hc]; exact ⟨rfl, rfl, rfl, rfl⟩

theorem storeKeeps_store (t : Nat) (s : State) (a : Nat) (bs : Bytes) (marks : List Bool) (h : faSpace a ≠ 0) :
    StoreKeeps t s (s.store a bs marks) :=
  ⟨store_part Tile.vregs (fun _ _ => rfl) (fun _ _ => rfl) .., store_part Tile.gpr (fun _ _ => rfl) (fun _ _ => rfl) ..,
    (storeFrame_store ..).jobs, dies_store_of_sram _ _ _ _ h⟩

/-- The words of some lanes stored in order, each at its address. -/
def State.storeLanes (s : State) (t : Nat) (addr : Nat → Nat) (word : Nat → W32) (mark : Nat → Bool) (is : List Nat) : State :=
  is.foldl (fun s i => (s.store (addr i) (leBytes 4 (word i).toNat) [mark i]).tbump t 7 7 (if mark i then 1 else 0)) s

theorem storeLanes_keeps (t : Nat) (addr : Nat → Nat) (word : Nat → W32) (mark : Nat → Bool) (is : List Nat) (s : State)
    (h : ∀ i ∈ is, faSpace (addr i) ≠ 0) : StoreKeeps t s (s.storeLanes t addr word mark is) := by
  unfold State.storeLanes
  induction is generalizing s with
  | nil => exact ⟨rfl, rfl, rfl, rfl⟩
  | cons i is ih =>
    obtain ⟨hi, his⟩ := List.forall_mem_cons.1 h
    exact ((storeKeeps_store t s _ _ _ hi).trans (storeKeeps_bump t _ _ _)).trans (ih _ his)

theorem mem_storeLanes (t : Nat) (addr : Nat → Nat) (word : Nat → W32) (mark : Nat → Bool) (is : List Nat) (s : State) :
    (s.storeLanes t addr word mark is).mem = is.foldl (fun m i => Memory.writes m (addr i) (leBytes 4 (word i).toNat)) s.mem := by
  unfold State.storeLanes
  induction is generalizing s with
  | nil => rfl
  | cons i is ih => rw [List.foldl_cons, ih, State.tbump, State.bump_mem, State.mem_store, List.foldl_cons]

theorem storeWords_eq (s : State) (t : Nat) (c : VCode) (o : VOp) : s.storeWords t c o =
    s.storeLanes t (fun i => sramFa t ((s.tile t).elemAddr c o i)) (fun i => ((s.tile t).lane o.va.toNat i).v)
      (fun i => ((s.tile t).lane o.va.toNat i).p || (c == .vstx && ((s.tile t).lane o.vb.toNat i).p)) (List.range (s.tile t).vl) := rfl

/-- Bytes that no stored word covers. -/
theorem read_foldl_writes_of_apart (addr : Nat → Nat) (word : Nat → W32) (is : List Nat) (m : List Host.Cell) (a : Nat)
    (h : ∀ i ∈ is, a < addr i ∨ addr i + 4 ≤ a) :
    Memory.read (is.foldl (fun m i => Memory.writes m (addr i) (leBytes 4 (word i).toNat)) m) a = Memory.read m a := by
  induction is generalizing m with
  | nil => rfl
  | cons i is ih =>
    obtain ⟨hi, his⟩ := List.forall_mem_cons.1 h
    rw [List.foldl_cons, ih _ his]
    refine (Memory.read_writes _ _ _ _).trans (if_neg ?_)
    rw [length_leBytes]; omega

/-- A word that no later one overlaps. -/
theorem reads_foldl_writes_of_last (addr : Nat → Nat) (word : Nat → W32) (n i : Nat) (m : List Host.Cell) (hi : i < n)
    (h : ∀ k, i < k → k < n → addr i + 4 ≤ addr k ∨ addr k + 4 ≤ addr i) :
    Memory.reads ((List.range n).foldl (fun m i => Memory.writes m (addr i) (leBytes 4 (word i).toNat)) m) (addr i) 4 =
      leBytes 4 (word i).toNat := by
  induction n with
  | zero => omega
  | succ n ih =>
    rw [List.range_succ, List.foldl_append, List.foldl_cons, List.foldl_nil]
    rcases Nat.lt_succ_iff_lt_or_eq.1 hi with hlt | rfl
    · rw [Memory.reads_writes_apart _ _ _ _ _ (by rw [length_leBytes]; exact h n hlt (Nat.lt_succ_self n))]
      exact ih hlt fun k h1 h2 => h k h1 (Nat.lt_succ_of_lt h2)
    · exact Memory.reads_writes_self _ _ (leBytes 4 (word i).toNat)

/-- A store instruction that goes: the bytes of its words, and no others. -/
theorem wordStore_effect : ∀ e ∈ wordStores, ∀ (t : TileNo) (o : VOp) (s : State), VectorGoes s t e.2.1 o →
    ∃ u, exec (e.1 t o) s = .next u ∧ StoreKeeps t s u ∧
      u.mem = (List.range (s.tile t).vl).foldl (fun m i => Memory.writes m (sramFa t (e.2.2 (s.tile t) o i).toNat)
        (leBytes 4 ((s.tile t).lane o.va.toNat i).v.toNat)) s.mem := by
  intro e he t o s hgo
  refine ⟨_, (exec_wordStores e he t o s).trans (congrArg _ ((issueVector_of_goes hgo).trans (vectorEffect_wordStores e he t o _))),
    ?_, ?_⟩
  · rw [storeWords_eq]
    refine (storeKeeps_bump t s _ _).trans (storeLanes_keeps _ _ _ _ _ _ fun i hi => ?_)
    have htouch := touches_within_sram hgo
    rw [touches_wordStores e he] at htouch
    have hend := htouch _ (List.mem_map_of_mem (by simpa using hi))
    rw [State.tile_tbump, faSpace_sramFa (by dsimp only at hend; omega)]
    decide
  · rw [storeWords_eq, mem_storeLanes]
    simp only [State.tile_tbump, elemAddr_wordStores e he]
    rfl

/-- A packed store within SRAM, or of no bytes, leaves registers, jobs and dies. -/
theorem storePacked_keeps (s : State) (t : Nat) (o : VOp)
    (h : faSpace (sramFa t ((s.tile t).baseAddr o)) ≠ 0 ∨ (s.tile t).vl = 0) : StoreKeeps t s (s.storePacked t o) := by
  unfold State.storePacked
  dsimp only
  rw [State.tbump]
  refine StoreKeeps.trans ?_ (storeKeeps_bump t _ _ _)
  rcases h with h | h
  · exact storeKeeps_store _ _ _ _ _ h
  · rw [h, Nat.zero_mul]
    exact ⟨store_part Tile.vregs (fun _ _ => rfl) (fun _ _ => rfl) .., store_part Tile.gpr (fun _ _ => rfl) (fun _ _ => rfl) ..,
      (storeFrame_store ..).jobs, dies_store_nil _ _ _⟩

/-- VSTP: its bytes, and no others. -/
theorem packedStore_effect (t : TileNo) (o : VOp) (s : State) (hgo : VectorGoes s t .vstp o) :
    ∃ u, exec (.vstp t o) s = .next u ∧ StoreKeeps t s u ∧
      u.mem = Memory.writes s.mem (sramFa t ((s.tile t).g o.sa.toNat + o.imm).toNat)
        (leBytes ((s.tile t).vl * width o.fmtD.toNat / 8) ((List.range (s.tile t).vl).map (fun i =>
          ((s.tile t).lane o.va.toNat i).v.toNat % 2 ^ width o.fmtD.toNat * 2 ^ (i * width o.fmtD.toNat))).sum) := by
  have hrun : exec (.vstp t o) s = .next ((s.tbump t 7 1 1).storePacked t o) :=
    (show exec (.vstp t o) s = .next (s.issueVector t .vstp o) from rfl).trans (congrArg _ (issueVector_of_goes hgo))
  have hspace : faSpace (sramFa t ((s.tile t).baseAddr o)) ≠ 0 ∨ (s.tile t).vl = 0 := by
    by_cases hvl : (s.tile t).vl = 0
    · exact .inr hvl
    · have hend := touches_within_sram hgo ((s.tile t).baseAddr o, (s.tile t).vl * width o.fmtD.toNat / 8) (by
        simp [Tile.touches, hvl])
      rw [faSpace_sramFa (by dsimp only at hend; omega)]
      exact .inl (by decide)
  refine ⟨_, hrun, (storeKeeps_bump t s _ _).trans (storePacked_keeps _ t o (by rwa [State.tile_bump])), ?_⟩
  simp only [State.storePacked, State.tbump, State.bump_mem, State.mem_store, State.tile_bump]
  rfl

/-- Settles O13: a load writes lanes from SRAM; a store is a run of byte writes inside the tile's SRAM. -/
theorem vectorMemory : Obligations.VectorMemory := by
  unfold Obligations.VectorMemory
  refine ⟨fun e he t o s hgo => ?_, fun e he t o s hgo => ?_, fun t o s hgo => ?_, fun t o s hgo => ?_⟩
  · have heff := vectorEffect_wordLoads e he t o (s.tbump t 7 1 1)
    rw [State.loadWords, State.tile_tbump] at heff
    obtain ⟨u, hu, hlane, -, hreg, hgpr, -, hframe⟩ := takesLanes (exec_wordLoads e he t o s) hgo heff
    refine ⟨u, hu, fun i hi h128 => ?_, hreg, hgpr, hframe⟩
    rw [hlane i hi h128, elemAddr_wordLoads e he]
    simp only [State.sramWord, State.tbump, State.bump_mem]
  · obtain ⟨u, hu, hkeep, hmem⟩ := wordStore_effect e he t o s hgo
    refine ⟨u, hu, fun i hi hlast => ?_, fun a ha => ?_, hkeep.vregs, hkeep.gpr, hkeep.jobs, hkeep.dies⟩ <;> rw [hmem]
    · refine reads_foldl_writes_of_last (fun i => sramFa t (e.2.2 (s.tile t) o i).toNat) (fun i => ((s.tile t).lane o.va.toNat i).v)
        _ i s.mem hi fun k h1 h2 => ?_
      have := hlast k h1 h2
      unfold sramFa; omega
    · exact read_foldl_writes_of_apart (fun i => sramFa t (e.2.2 (s.tile t) o i).toNat) (fun i => ((s.tile t).lane o.va.toNat i).v)
        _ s.mem a fun i hi => ha i (by simpa using hi)
  · have heff : (s.tbump t 7 1 1).vectorEffect t .vldp o = (s.tbump t 7 1 1).takeRes t .vldp o ((s.tbump t 7 1 1).loadPacked t o) := rfl
    rw [State.loadPacked, State.tile_tbump] at heff
    obtain ⟨u, hu, hlane, -, hreg, hgpr, -, hframe⟩ := takesLanes (I := .vldp t o) rfl hgo heff
    refine ⟨u, hu, fun i hi h128 => (congrArg Lane.v (hlane i hi h128)).trans ?_, hreg, hgpr, hframe⟩
    simp only [State.tbump, State.bump_mem]
    rfl
  · obtain ⟨u, hu, hkeep, hmem⟩ := packedStore_effect t o s hgo
    refine ⟨u, hu, ⟨?_, fun b hb => ?_⟩, hkeep.vregs, hkeep.gpr, hkeep.jobs, hkeep.dies⟩ <;> rw [hmem]
    · have h := Memory.reads_writes_self s.mem (sramFa t ((s.tile t).g o.sa.toNat + o.imm).toNat)
        (leBytes ((s.tile t).vl * width o.fmtD.toNat / 8) ((List.range (s.tile t).vl).map (fun i =>
          ((s.tile t).lane o.va.toNat i).v.toNat % 2 ^ width o.fmtD.toNat * 2 ^ (i * width o.fmtD.toNat))).sum)
      rwa [length_leBytes] at h
    · refine (Memory.read_writes _ _ _ _).trans (if_neg ?_)
      rw [length_leBytes]; omega

end Sys2Proof.Machine
end

section
/-! SUPPORT. The control instructions and the hamper's (04 R101, R115, R121, R123). -/

open Sys2Proof Sys2Proof.Machine Sys2Proof.Claims

namespace Sys2Proof.Machine

@[simp] theorem Tile.vl_setG (x : Tile) (r : Nat) (v : W64) (p : Bool) : (x.setG r v p).vl = x.vl := by
  unfold Tile.setG; split <;> rfl
@[simp] theorem Tile.vsr_setG (x : Tile) (r : Nat) (v : W64) (p : Bool) : (x.setG r v p).vsr = x.vsr := by
  unfold Tile.setG; split <;> rfl
@[simp] theorem Tile.hamper_setG (x : Tile) (r : Nat) (v : W64) (p : Bool) : (x.setG r v p).hamper = x.hamper := by
  unfold Tile.setG; split <;> rfl
@[simp] theorem Tile.vwait_setG (x : Tile) (r : Nat) (v : W64) (p : Bool) : (x.setG r v p).vwait = x.vwait := by
  unfold Tile.setG; split <;> rfl
@[simp] theorem Tile.vq_setG (x : Tile) (r : Nat) (v : W64) (p : Bool) : (x.setG r v p).vq = x.vq := by
  unfold Tile.setG; split <;> rfl
@[simp] theorem Tile.seqWait_setG (x : Tile) (r : Nat) (v : W64) (p : Bool) : (x.setG r v p).seqWait = x.seqWait := by
  unfold Tile.setG; split <;> rfl

/-- No condition and no poison raises nothing. -/
@[simp] theorem Tile.raise_none (x : Tile) : x.raise {} false = x := by
  simp [Tile.raise, Flags.word]

/-- A general register but gpr[0], by its field of the word. -/
theorem Tile.g_setG_of_ne (x : Tile) (r : BitVec 5) (v : W64) (p : Bool) (h : r ≠ 0) : (x.setG r.toNat v p).g r.toNat = v := by
  have h0 : r.toNat ≠ 0 := fun h0 => h (BitVec.eq_of_toNat_eq h0)
  rw [Tile.g_setG_self, if_neg h0]

/-! HPOP (R121) -/

/-- Units popped are the first ones of the hamper. -/
theorem popUnits_append_drop (n : Nat) (l : List QItem) : popUnits n l ++ l.drop (popUnits n l).length = l := by
  induction n generalizing l with
  | zero => rfl
  | succ n ih =>
    cases l with
    | nil => rfl
    | cons i r =>
      by_cases hi : i.last = true
      · simp [popUnits, hi]
      · simpa [popUnits, hi] using ih r

/-- The tile after its HPOP has taken units `us`: the others stay, the lanes take the words, the next register the valid bits. -/
def Tile.popped (x : Tile) (o : VOp) (us : List QItem) (es : List SegFault) : Tile :=
  let q := { x.hamper with items := x.hamper.items.drop us.length,
                           corrected := x.hamper.corrected + (es.filter (fun e => !e.double)).length,
                           uncorrected := x.hamper.uncorrected + (es.filter (·.double)).length }
  let x := { x with hamper := q, vwait := none }
  let x := x.putLanes o.vd.toNat (fun i => (unitLane us es i).map (·.1))
  let x := if o.var = 0 then x else
    x.putLanes (o.vd.toNat + 1) (fun i => (unitLane us es i).map (fun u => ⟨boolWord u.2, false⟩))
  x.setG o.sd.toNat (hpopHeader us) false

section
variable (x : Tile) (o : VOp) (us : List QItem) (es : List SegFault)

theorem Tile.popped_vwait : (x.popped o us es).vwait = none := by
  simp only [Tile.popped, Tile.vwait_setG]; split <;> rfl

theorem Tile.popped_vq : (x.popped o us es).vq = x.vq := by
  simp only [Tile.popped, Tile.vq_setG]; split <;> rfl

theorem Tile.popped_seqWait : (x.popped o us es).seqWait = x.seqWait := by
  simp only [Tile.popped, Tile.seqWait_setG]; split <;> rfl

theorem Tile.popped_items : (x.popped o us es).hamper.items = x.hamper.items.drop us.length := by
  simp only [Tile.popped, Tile.hamper_setG]; split <;> rfl

/-- A lane of vd takes its word of the units. -/
theorem Tile.lane_popped (i : Nat) (hi : i < x.vl) (h128 : i < 128) (u : QItem) (hu : us[i / 32]? = some u) :
    ((x.popped o us es).lane o.vd.toNat i).v =
      BitVec.ofNat 32 (bits (u.segs.getD (i % 32 / 2) 0).toNat (32 * (i % 32 % 2)) 32) := by
  have hlane : ∀ y : Tile, i < y.vl →
      ((y.putLanes o.vd.toNat (fun i => (unitLane us es i).map (·.1))).lane o.vd.toNat i).v =
      BitVec.ofNat 32 (bits (u.segs.getD (i % 32 / 2) 0).toNat (32 * (i % 32 % 2)) 32) := by
    intro y hy
    rw [Tile.lane_putLanes_self, if_pos h128, if_pos hy, unitLane, hu]
    rfl
  simp only [Tile.popped, Tile.lane_setG]
  split
  · exact hlane _ hi
  · rw [Tile.lane_putLanes_ne _ _ _ _ _ (by omega)]
    exact hlane _ hi

/-- A lane of the next register takes its valid bit, where asked. -/
theorem Tile.lane_popped_valid (i : Nat) (hi : i < x.vl) (h128 : i < 128) (u : QItem) (hu : us[i / 32]? = some u) (hvar : o.var ≠ 0) :
    (x.popped o us es).lane (o.vd.toNat + 1) i = ⟨boolWord (bit (u.segs.getD 16 0).toNat (i % 32)), false⟩ := by
  simp only [Tile.popped, Tile.lane_setG, if_neg hvar]
  rw [Tile.lane_putLanes_self, if_pos h128, Tile.vl_putLanes, if_pos hi, unitLane, hu]
  rfl

theorem Tile.g_popped (h : o.sd ≠ 0) : (x.popped o us es).g o.sd.toNat = hpopHeader us := Tile.g_setG_of_ne _ _ _ _ h

end

/-- An HPOP whose units wait takes them, unless a header segment is beyond correction (R115, R121). -/
theorem exec_hpopComplete {t : TileNo} {errs : List SegFault} {s : State} {o : VOp} {j : Nat}
    (hwait : (s.tile t).vwait = some (.hpop, o)) (hjob : (s.tile t).job = some j) (hpow : (s.tile t).power = .running)
    (hready : hpopReady ((s.tile t).vl / 32) (s.tile t).hamper.items = true)
    (hdata : ∀ e ∈ errsIn (popUnits ((s.tile t).vl / 32) (s.tile t).hamper.items) errs, e.double = true → e.seg < 16) :
    exec (.hpopComplete t errs) s = .next ((((((s.tbump t 7 4
        ((errsIn (popUnits ((s.tile t).vl / 32) (s.tile t).hamper.items) errs).filter (fun e => !e.double)).length).tbump t 7 5
        ((errsIn (popUnits ((s.tile t).vl / 32) (s.tile t).hamper.items) errs).filter (·.double)).length)).setTile t
      ((s.tile t).popped o (popUnits ((s.tile t).vl / 32) (s.tile t).hamper.items)
        (errsIn (popUnits ((s.tile t).vl / 32) (s.tile t).hamper.items) errs))).runQueue t 33).retryVector t) := by
  show execHpopComplete t errs s = _
  have hhdr : (errsIn (popUnits ((s.tile t).vl / 32) (s.tile t).hamper.items) errs).any
      (fun e => e.double && decide (e.seg ≥ 16)) = false := by
    refine List.any_eq_false.2 fun e he => ?_
    have := hdata e he
    simpa using this
  have hgo : ¬ ((!hpopReady ((s.tile t).vl / 32) (s.tile t).hamper.items) = true ∨ (s.tile t).power ≠ .running) := by
    simp [hready, hpow]
  simp only [execHpopComplete, Tile.popped, hwait, hjob, if_neg hgo, hhdr, Bool.false_eq_true, if_false]

/-- An engine with an empty queue and a sequencer that does not wait have nothing to run. -/
theorem runQueue_retryVector_of_idle {s : State} {t : Nat} (hq : (s.tile t).vq = []) (hw : (s.tile t).seqWait = none) (n : Nat) :
    (s.runQueue t n).retryVector t = s := by
  have hrun : s.runQueue t n = s := by
    cases n with
    | zero => rfl
    | succ n => simp [State.runQueue, hq]
  simp [hrun, State.retryVector, hw]

/-- Settles O14: register results for SETVL, VSTAT and HSTAT, tile updates for the hamper's, and the popped tile for HPOP. -/
theorem vectorControl : Obligations.VectorControl := by
  unfold Obligations.VectorControl
  refine ⟨⟨fun t o s hgo => ?_, fun t o s hgo => ?_, fun t o s hgo => ?_, fun t o s hgo => ?_, fun t o s hgo => ?_,
    fun t o s hgo => ?_, fun t o s hgo => ?_⟩, fun t errs s o j hwait hjob hpow hq hseq hready hdata => ?_⟩
  · obtain ⟨u, hu, htile, hframe⟩ := takesRes (I := .vnop t o) (r := { x := (s.tbump t 7 1 1).tile t }) rfl hgo rfl
    exact ⟨u, hu, by rw [htile, Tile.raise_none, State.tile_tbump], hframe⟩
  · obtain ⟨u, hu, htile, hframe⟩ := takesRes (I := .vfence t o) (r := { x := (s.tbump t 7 1 1).tile t }) rfl hgo rfl
    exact ⟨u, hu, by rw [htile, Tile.raise_none, State.tile_tbump], hframe⟩
  · obtain ⟨u, hu, htile, hframe⟩ := takesRes (I := .setvl t o) (r := ((s.tbump t 7 1 1).tile t).setVl o) rfl hgo rfl
    rw [State.tile_tbump, show (((s.tile t).setVl o).f) = {} from rfl, show (((s.tile t).setVl o).ps) = false from rfl,
      Tile.raise_none] at htile
    refine ⟨u, hu, ?_, fun hsd => ?_, fun r hr => ?_, ?_, hframe⟩ <;> rw [htile]
    · simp [Tile.setVl]
    · simp only [Tile.setVl, Tile.vl_setG]
      exact Tile.g_setG_of_ne _ _ _ _ hsd
    · exact Tile.g_setG_ne _ _ _ _ _ hr
    · simp [Tile.setVl]
  · obtain ⟨u, hu, htile, hframe⟩ := takesRes (I := .vstat t o) (r := ((s.tbump t 7 1 1).tile t).stat o) rfl hgo rfl
    rw [State.tile_tbump, show (((s.tile t).stat o).f) = {} from rfl, show (((s.tile t).stat o).ps) = false from rfl,
      Tile.raise_none, Tile.stat] at htile
    dsimp only at htile
    refine ⟨u, hu, fun hsd => ?_, ?_, fun r hr => ?_, ?_, hframe⟩ <;> rw [htile] <;> split
    · exact Tile.g_setG_of_ne _ _ _ _ hsd
    · exact Tile.g_setG_of_ne _ _ _ _ hsd
    · rfl
    · simp
    · exact Tile.g_setG_ne _ _ _ _ _ hr
    · exact Tile.g_setG_ne _ _ _ _ _ hr
    · simp
    · simp
  · obtain ⟨u, hu, htile, hframe⟩ := takesRes (I := .hstat t o) (r := ((s.tbump t 7 1 1).tile t).hstat o) rfl hgo rfl
    rw [State.tile_tbump, show (((s.tile t).hstat o).f) = {} from rfl, show (((s.tile t).hstat o).ps) = false from rfl,
      Tile.raise_none] at htile
    refine ⟨u, hu, fun hsd => ?_, ?_, ?_, hframe⟩ <;> rw [htile]
    · exact Tile.g_setG_of_ne _ _ _ _ hsd
    · simp [Tile.hstat]
    · simp [Tile.hstat]
  · have hrun : exec (.hrinse t o) s = .next (((s.tbump t 7 1 1).modTile t (fun x => { x with hamper := x.hamper.rinse })).tbump t 7 6 1) :=
      (show exec (.hrinse t o) s = .next (s.issueVector t .hrinse o) from rfl).trans (congrArg _ (issueVector_of_goes hgo))
    refine ⟨_, hrun, ?_, ?_, ?_, ?_⟩
    · simp
    · simp [Queue.rinse]
    · simp
    · exact ((vectorFrame_tbump s t _ _ _).trans (vectorFrame_setTile _ t _)).trans (vectorFrame_tbump _ t _ _ _)
  · have hrun : exec (.hpop t o) s = .next ((s.tbump t 7 1 1).modTile t (fun x => { x with vwait := some (.hpop, o) })) :=
      (show exec (.hpop t o) s = .next (s.issueVector t .hpop o) from rfl).trans (congrArg _ (issueVector_of_goes hgo))
    refine ⟨_, hrun, ?_, ?_⟩
    · simp
    · exact (vectorFrame_tbump s t _ _ _).trans (vectorFrame_setTile _ t _)
  · have hrun := exec_hpopComplete hwait hjob hpow hready hdata
    generalize hus : popUnits ((s.tile t).vl / 32) (s.tile t).hamper.items = us at hrun
    generalize errsIn us errs = es at hrun
    rw [runQueue_retryVector_of_idle (by rw [State.tile_setTile, Tile.popped_vq, hq])
      (by rw [State.tile_setTile, Tile.popped_seqWait, hseq])] at hrun
    refine ⟨_, hrun, ?_, ((vectorFrame_tbump s t _ _ _).trans (vectorFrame_tbump _ t _ _ _)).trans (vectorFrame_setTile _ t _)⟩
    simp only [State.tile_setTile]
    refine ⟨?_, Tile.popped_vwait _ _ _ _, fun i hi h128 x hx => ⟨Tile.lane_popped _ _ _ _ i hi h128 x hx, fun hvar =>
      Tile.lane_popped_valid _ _ _ _ i hi h128 x hx hvar⟩, fun hsd => Tile.g_popped _ _ _ _ hsd⟩
    rw [Tile.popped_items, ← hus, popUnits_append_drop]

end Sys2Proof.Machine
end

section
/-! SUPPORT. The selection unit (05 R127 to R137). -/

open Sys2Proof Sys2Proof.Machine Sys2Proof.Claims

namespace Sys2Proof.Machine

/-! Entering an element (R133) -/

/-- An entry is put among the others. -/
theorem SelSlot.place_perm (sl : SelSlot) (e : SelEntry) (l : List SelEntry) : (sl.place e l).Perm (e :: l) := by
  induction l with
  | nil => exact .refl _
  | cons x r ih =>
    unfold SelSlot.place
    split
    · exact .refl _
    · exact (ih.cons x).trans (.swap e x r)

/-- A list within its bound without repeated ids. -/
def SelSlot.Sound (sl : SelSlot) : Prop := sl.entries.length ≤ sl.k ∧ (sl.entries.map (·.id)).Nodup

/-- An id that no entry has may be placed; the list stays without repeats. -/
theorem SelSlot.nodup_place (sl : SelSlot) (e : SelEntry) (l : List SelEntry) (hl : (l.map (·.id)).Nodup)
    (hnew : ∀ x ∈ l, x.id ≠ e.id) : ((sl.place e l).map (·.id)).Nodup := by
  rw [((sl.place_perm e l).map (·.id)).nodup_iff, List.map_cons, List.nodup_cons]
  refine ⟨fun h => ?_, hl⟩
  obtain ⟨x, hx, hid⟩ := List.mem_map.1 h
  exact hnew x hx hid

theorem SelSlot.length_place (sl : SelSlot) (e : SelEntry) (l : List SelEntry) : (sl.place e l).length = l.length + 1 :=
  (sl.place_perm e l).length_eq

/-- Without an entry of its id, an element is placed where there is room, and else takes the place of the last where it precedes it. -/
theorem SelSlot.enter_of_new {sl : SelSlot} {e : SelEntry} (h : ∀ x ∈ sl.entries, x.id ≠ e.id) : sl.enter e =
    if sl.entries.length < sl.k then ({ sl with entries := sl.place e sl.entries }, 1, 0, 0)
    else
      match sl.entries.getLast? with
      | some z => if sl.precedes e z then ({ sl with entries := (sl.place e sl.entries).take sl.k }, 1, 0, 0) else (sl, 0, 0, 0)
      | none => (sl, 0, 0, 0) := by
  have hnone : sl.entries.find? (fun x => x.id == e.id) = none := by
    rw [List.find?_eq_none]
    exact fun x hx => by simpa using h x hx
  simp only [SelSlot.enter, hnone] <;> rfl

theorem SelSlot.sound_enter_of_new {sl : SelSlot} {e : SelEntry} (hs : sl.Sound) (h : ∀ x ∈ sl.entries, x.id ≠ e.id) :
    (sl.enter e).1.Sound := by
  obtain ⟨hlen, hdup⟩ := hs
  have hplace := sl.nodup_place e sl.entries hdup h
  rw [SelSlot.enter_of_new h]
  split
  · next hroom => exact ⟨by rw [SelSlot.length_place]; exact hroom, hplace⟩
  · split
    · split
      · refine ⟨List.length_take_le _ _, ?_⟩
        rw [List.map_take]
        exact hplace.sublist (List.take_sublist _ _)
      · exact ⟨hlen, hdup⟩
    · exact ⟨hlen, hdup⟩

/-- An entry of the same id is marked or replaced, so the ids stay as they are. -/
theorem SelSlot.sound_enter_of_find {sl : SelSlot} {e x : SelEntry} (hs : sl.Sound)
    (h : sl.entries.find? (fun x => x.id == e.id) = some x) : (sl.enter e).1.Sound := by
  obtain ⟨hlen, hdup⟩ := hs
  have hx : x ∈ sl.entries := List.mem_of_find?_eq_some h
  have hid : x.id = e.id := by simpa using List.find?_some h
  have hothers : (sl.entries.filter (fun y => y.id ≠ e.id)).length + 1 ≤ sl.entries.length :=
    List.length_filter_lt_length_iff_exists.2 ⟨x, hx, by simp [hid]⟩
  simp only [SelSlot.enter, h]
  split
  · split
    · refine ⟨by simpa using hlen, ?_⟩
      have hmap : (sl.entries.map (fun y => if y.id == e.id then { y with mismatch := true } else y)).map (·.id) =
          sl.entries.map (·.id) := by
        rw [List.map_map]
        exact List.map_congr_left fun y _ => by dsimp only [Function.comp_apply]; split <;> rfl
      dsimp only
      rwa [hmap]
    · exact ⟨hlen, hdup⟩
  · have hkept : ∀ y : SelEntry, y.id = e.id →
        SelSlot.Sound { sl with entries := sl.place y (sl.entries.filter (fun y => y.id ≠ e.id)), dupMismatch := sl.dupMismatch + 1 } := by
      intro y hy
      refine ⟨?_, sl.nodup_place y _ (hdup.sublist ((List.filter_sublist).map _)) fun z hz => ?_⟩
      · dsimp only
        rw [SelSlot.length_place]; omega
      · rw [hy]
        simpa using (List.mem_filter.1 hz).2
    refine hkept _ ?_
    dsimp only
    split
    · rfl
    · exact hid

theorem SelSlot.sound_enter {sl : SelSlot} (e : SelEntry) (hs : sl.Sound) : (sl.enter e).1.Sound := by
  cases h : sl.entries.find? (fun x => x.id == e.id) with
  | some x => exact SelSlot.sound_enter_of_find hs h
  | none =>
    refine SelSlot.sound_enter_of_new hs fun x hx => ?_
    have := List.find?_eq_none.1 h x hx
    simpa using this

theorem SelSlot.enter_k (sl : SelSlot) (e : SelEntry) : (sl.enter e).1.k = sl.k := by
  unfold SelSlot.enter
  split
  · split <;> rfl
  · split
    · rfl
    · split
      · split <;> rfl
      · rfl

/-- A list with room gains an element of a new id. -/
theorem SelSlot.enter_of_room {sl : SelSlot} {e : SelEntry} (hroom : sl.entries.length < sl.k) (h : ∀ x ∈ sl.entries, x.id ≠ e.id) :
    (sl.enter e).1.entries.length = sl.entries.length + 1 ∧ e ∈ (sl.enter e).1.entries := by
  rw [SelSlot.enter_of_new h, if_pos hroom]
  exact ⟨sl.length_place _ _, (sl.place_perm e sl.entries).mem_iff.2 (List.mem_cons_self ..)⟩

/-! The unit's steps on the state -/

/-- Memory, jobs and requests stay. -/
def MemJobsReqs (s u : State) : Prop := u.mem = s.mem ∧ u.jobs = s.jobs ∧ u.reqs = s.reqs

theorem MemJobsReqs.trans {s u w : State} (hu : MemJobsReqs s u) (hw : MemJobsReqs u w) : MemJobsReqs s w :=
  ⟨hw.1.trans hu.1, hw.2.1.trans hu.2.1, hw.2.2.trans hu.2.2⟩

theorem LogFrame.memJobsReqs {s u : State} (h : LogFrame s u) : MemJobsReqs s u := h.keeps.2

theorem HamperFrame.memJobsReqs {s u : State} (h : HamperFrame s u) : MemJobsReqs s u := by
  unfold HamperFrame at h
  rw [h]; exact ⟨rfl, rfl, rfl⟩

theorem State.tile_of_tiles {s u : State} {t : Nat} (h : u.tiles = s.tiles) : u.tile t = s.tile t := by
  rw [State.tile, h, State.tile]

/-- A slot of a tile. -/
def State.slot? (s : State) (t slot : Nat) : Option SelSlot := KMap.find (s.tile t).slots slot

/-- A slot of a tile set. -/
def State.putSlot (s : State) (t slot : Nat) (sl : SelSlot) : State :=
  s.modTile t (fun x => { x with slots := KMap.put x.slots slot sl })

@[simp] theorem State.slot?_putSlot (s : State) (t slot : Nat) (sl : SelSlot) : (s.putSlot t slot sl).slot? t slot = some sl := by
  simp [State.slot?, State.putSlot]

theorem State.slot?_of_tile {s u : State} {t : Nat} (h : u.tile t = s.tile t) (slot : Nat) : u.slot? t slot = s.slot? t slot := by
  rw [State.slot?, h, State.slot?]

@[simp] theorem State.slot?_tbump (s : State) (t k sub n i slot : Nat) : (s.tbump t k sub n).slot? i slot = s.slot? i slot := by
  simp [State.slot?]

theorem hamperFrame_putSlot (s : State) (t slot : Nat) (sl : SelSlot) : HamperFrame s (s.putSlot t slot sl) := rfl

theorem hamperFrame_tbump (s : State) (t k sub n : Nat) : HamperFrame s (s.tbump t k sub n) := hamperFrame_bump _ _ _

/-- The slot after an element is what `SelSlot.take` makes of it; memory, jobs and requests stay. -/
theorem selElem_effect {s : State} {t slot : Nat} {sl : SelSlot} (el : SelElem) (h : s.slot? t slot = some sl) :
    (s.selElem t slot el).slot? t slot = some (sl.take el) ∧ MemJobsReqs s (s.selElem t slot el) := by
  have hfind : KMap.find (s.tile t).slots slot = some sl := h
  simp only [State.selElem, hfind, SelSlot.take]
  split
  · refine ⟨?_, MemJobsReqs.trans ?_ (logFrame_log _ _).memJobsReqs⟩
    · rw [State.slot?_of_tile ((logFrame_log _ _).tile t), State.slot?_tbump]
      exact s.slot?_putSlot t slot _
    · exact ((hamperFrame_putSlot s t slot _).trans (hamperFrame_tbump _ t 8 4 1)).memJobsReqs
  · split
    · refine ⟨?_, ((hamperFrame_putSlot s t slot _).trans (hamperFrame_tbump _ t 8 5 1)).memJobsReqs⟩
      rw [State.slot?_tbump]
      exact s.slot?_putSlot t slot _
    · refine ⟨?_, ((((hamperFrame_putSlot s t slot _).trans (hamperFrame_tbump _ t 8 3 _)).trans (hamperFrame_tbump _ t 8 6 _)).trans
        (hamperFrame_tbump _ t 8 7 _)).memJobsReqs⟩
      simp only [State.slot?_tbump]
      exact s.slot?_putSlot t slot _

theorem foldl_selElem_effect (t slot : Nat) (els : List SelElem) (s : State) (sl : SelSlot) (h : s.slot? t slot = some sl) :
    (els.foldl (fun s el => s.selElem t slot el) s).slot? t slot = some (els.foldl SelSlot.take sl) ∧
    MemJobsReqs s (els.foldl (fun s el => s.selElem t slot el) s) := by
  induction els generalizing s sl with
  | nil => exact ⟨h, rfl, rfl, rfl⟩
  | cons el els ih =>
    obtain ⟨hslot, hkeep⟩ := selElem_effect el h
    obtain ⟨hslots, hkeeps⟩ := ih _ _ hslot
    exact ⟨hslots, hkeep.trans hkeeps⟩

theorem KMap.find_map_key {α : Type} (m : KMap α) (k : Nat) (f : α → α) :
    KMap.find (m.map (fun e => if e.1 = k then (e.1, f e.2) else e)) k = (KMap.find m k).map f := by
  induction m with
  | nil => rfl
  | cons e m ih =>
    obtain ⟨i, v⟩ := e
    by_cases h : i = k <;> simp [KMap.find, h, ih]

/-- Elements received are counted in the slot. -/
theorem receive_effect {s : State} {t slot : Nat} {sl : SelSlot} (n : Nat) (h : s.slot? t slot = some sl) :
    (s.receive t slot n).slot? t slot = some { sl with received := sl.received + n, examined := sl.examined + n } ∧
    HamperFrame s (s.receive t slot n) := by
  refine ⟨?_, (hamperFrame_setTile s t _).trans (hamperFrame_tbump _ t 8 2 n)⟩
  have hfind : KMap.find (s.tile t).slots slot = some sl := h
  rw [State.receive, State.slot?_tbump, State.slot?, State.tile_modTile]
  refine (KMap.find_map_key _ slot (fun x : SelSlot => { x with received := x.received + n, examined := x.examined + n })).trans ?_
  rw [hfind]
  rfl

/-- A descriptor put into the queue leaves the slots. -/
theorem pushSel_effect (s : State) (t : Nat) (d : Bytes) :
    ((s.pushSel t d).tile t).slots = (s.tile t).slots ∧ ((s.pushSel t d).tile t).selQ = (s.tile t).selQ ++ [d] ∧
    HamperFrame s (s.pushSel t d) := by
  refine ⟨?_, ?_, (hamperFrame_setTile s t _).trans (hamperFrame_tbump _ t 8 8 _)⟩ <;> simp [State.pushSel]

/-- The end of the head descriptor leaves the slots. -/
theorem popSel_effect (s : State) (t : Nat) : ((s.popSel t).tile t).slots = (s.tile t).slots ∧ HamperFrame s (s.popSel t) := by
  have hdrop : ((s.modTile t (fun x => { x with selQ := x.selQ.drop 1 })).tile t).slots = (s.tile t).slots := by simp
  simp only [State.popSel]
  split
  · next d _ =>
    obtain ⟨hslots, -, hframe⟩ := pushSel_effect ((s.modTile t (fun x => { x with selQ := x.selQ.drop 1 })).resume t) t d
    refine ⟨hslots.trans ?_, ((hamperFrame_setTile s t _).trans (hamperFrame_setTile _ t _)).trans hframe⟩
    simp [State.resume]
  · exact ⟨hdrop, hamperFrame_setTile s t _⟩

theorem slot?_popSel (s : State) (t slot : Nat) : (s.popSel t).slot? t slot = s.slot? t slot := by
  rw [State.slot?, (popSel_effect s t).1, State.slot?]

/-- What a slot's opening can change. -/
def SelOpenFrame (s u : State) : Prop := u = { s with tiles := u.tiles, cnt := u.cnt, reqs := u.reqs }

theorem SelOpenFrame.trans {s u w : State} (hu : SelOpenFrame s u) (hw : SelOpenFrame u w) : SelOpenFrame s w := by
  unfold SelOpenFrame at hu
  exact Eq.trans hw (by rw [hu])

theorem HamperFrame.selOpenFrame {s u : State} (h : HamperFrame s u) : SelOpenFrame s u := by
  unfold HamperFrame at h
  rw [h]; rfl

theorem selOpenFrame_modReq (s : State) (r : W32) (f : Request → Request) : SelOpenFrame s (s.modReq r f) := by
  unfold State.modReq; split <;> rfl

/-- A slot refused for its row length (R132). -/
theorem refuseRow_effect {s : State} {t slot : Nat} {sl : SelSlot} (n : Nat) (h : s.slot? t slot = some sl) :
    (s.refuseRow t slot n).slot? t slot = some { sl with refused := true } ∧ SelOpenFrame s (s.refuseRow t slot n) := by
  have hfind : KMap.find (s.tile t).slots slot = some sl := h
  simp only [State.refuseRow, hfind]
  refine ⟨?_, ((hamperFrame_putSlot s t slot _).selOpenFrame.trans (selOpenFrame_modReq _ _ _)).trans
    (hamperFrame_tbump _ t 8 8 n).selOpenFrame⟩
  rw [State.slot?_tbump]
  exact (State.slot?_of_tile (by rw [State.tile, State.modReq_tiles]; rfl) slot).trans (s.slot?_putSlot t slot _)

theorem SelOpenFrame.memJobs {s u : State} (h : SelOpenFrame s u) : u.mem = s.mem ∧ u.jobs = s.jobs := by
  unfold SelOpenFrame at h
  rw [h]; exact ⟨rfl, rfl⟩

/-! The commands -/

theorem selOpen_effect {t : TileNo} {s : State} {d : Bytes} {j : Nat} {jb : Job} (h : s.selHead t 1 = some (d, j, jb)) : ∃ u,
    exec (.selOpen t) s = .next u ∧ u.slot? t (slSlot d) = some
      { k := slK d, int32 := slFmt d == 10, asc := bit (field d 5 1) 0, rowLen := slRowLen d, req := BitVec.ofNat 32 (field d 12 4),
        refused := decide (slRowLen d > 16777216) } ∧ SelOpenFrame s u := by
  have hrun : exec (.selOpen t) s = _ := show execSelOpen t s = _ by simp only [execSelOpen, h]; rfl
  refine ⟨_, hrun, ?_⟩
  have hput := s.slot?_putSlot t (slSlot d)
    { k := slK d, int32 := slFmt d == 10, asc := bit (field d 5 1) 0, rowLen := slRowLen d, req := BitVec.ofNat 32 (field d 12 4) }
  rw [slot?_popSel]
  by_cases hrow : slRowLen d > maxRow
  · obtain ⟨hslot, hframe⟩ := refuseRow_effect 0 hput
    rw [if_pos hrow]
    refine ⟨?_, ((hamperFrame_putSlot s t (slSlot d) _).selOpenFrame.trans hframe).trans (popSel_effect _ t).2.selOpenFrame⟩
    rw [show decide (slRowLen d > 16777216) = true from decide_eq_true hrow]
    exact hslot
  · rw [if_neg hrow]
    refine ⟨?_, ((hamperFrame_putSlot s t (slSlot d) _).trans (popSel_effect _ t).2).selOpenFrame⟩
    rw [show decide (slRowLen d > 16777216) = false from decide_eq_false hrow]
    exact hput

theorem selFeed_effect {t : TileNo} {s : State} {d : Bytes} {j : Nat} {jb : Job} {sl : SelSlot} (h : s.selHead t 2 = some (d, j, jb))
    (hslot : KMap.find (s.tile t).slots (slSlot d) = some sl) (href : sl.refused = false) (hrow : sl.received + slCount d ≤ sl.rowLen)
    (hacc : (s.tile t).accAccess (slAddr d) (4 * slCount d) = .go) (hscore : s.notArrived t (slAddr d) (4 * slCount d) = false)
    (hids : slExplicit d = true → s.notArrived t (slIds d) (8 * slCount d) = false) : ∃ u, exec (.selFeed t) s = .next u ∧
    u.slot? t (slSlot d) = some ((s.feedElems t d).foldl SelSlot.take
      { sl with received := sl.received + slCount d, examined := sl.examined + slCount d }) ∧ MemJobsReqs s u := by
  have hcome : (s.notArrived t (slAddr d) (4 * slCount d) || (slExplicit d && s.notArrived t (slIds d) (8 * slCount d))) = false := by
    rw [hscore, Bool.false_or, Bool.and_eq_false_imp]
    exact hids
  have hrun : exec (.selFeed t) s = .next (((s.feedElems t d).foldl (fun s el => s.selElem t (slSlot d) el)
      (s.receive t (slSlot d) (slCount d))).popSel t) := by
    show execSelFeed t s = _
    simp only [execSelFeed, h, hslot, href, if_neg (Nat.not_lt.2 hrow), hacc, hcome, Bool.false_eq_true, if_false]
  obtain ⟨hrec, hframe⟩ := receive_effect (s := s) (slCount d) hslot
  obtain ⟨hfold, hkeep⟩ := foldl_selElem_effect t (slSlot d) (s.feedElems t d) _ _ hrec
  exact ⟨_, hrun, (slot?_popSel _ _ _).trans hfold, (hframe.memJobsReqs.trans hkeep).trans (popSel_effect _ t).2.memJobsReqs⟩

/-- An element leaves the mark of a refused row. -/
theorem SelSlot.take_refused (sl : SelSlot) (el : SelElem) : (sl.take el).refused = sl.refused := by
  unfold SelSlot.take SelSlot.enter
  split
  · rfl
  · split
    · rfl
    · dsimp only
      split
      · split <;> rfl
      · split
        · rfl
        · split
          · split <;> rfl
          · rfl

theorem SelSlot.foldl_take_refused (els : List SelElem) (sl : SelSlot) : (els.foldl SelSlot.take sl).refused = sl.refused := by
  induction els generalizing sl with
  | nil => rfl
  | cons el els ih => rw [List.foldl_cons, ih, SelSlot.take_refused]

theorem SelSlot.with_refused_self {sl : SelSlot} {b : Bool} (h : sl.refused = b) : { sl with refused := b } = sl := by
  subst h; rfl

/-- Elements are read from memory, its marks and the write-backs of dies, which tiles and counters do not touch. -/
theorem listElems_of_hamperFrame {s u : State} (h : HamperFrame s u) (t a n : Nat) : u.listElems t a n = s.listElems t a n := by
  unfold HamperFrame at h
  rw [h]; rfl

/-- A slot that takes a header's counts, and then as many elements as the header says. -/
def SelSlot.merging (sl : SelSlot) (h : Bytes) (n : Nat) : SelSlot :=
  { sl.absorb h with received := sl.received + n, examined := sl.examined + n }

theorem selMerge_effect {t : TileNo} {s : State} {d : Bytes} {j : Nat} {jb : Job} {sl : SelSlot} (hhead : s.selHead t 3 = some (d, j, jb))
    (hslot : KMap.find (s.tile t).slots (slSlot d) = some sl) (href : sl.refused = false) {h : Bytes} {n : Nat}
    (hh : Memory.reads s.mem (sramFa t (slAddr d)) 32 = h) (hn : field h 0 2 = n)
    (hcome : s.notArrived t (slAddr d) 32 = false) (hclean : s.poisonedRange (sramFa t (slAddr d)) 32 = false)
    (hok : headerOk h sl = true) (hin : slAddr d + 32 + 16 * n ≤ accBase) (hown : jb.ownsSram t (slAddr d) (32 + 16 * n) = true)
    (hrow : sl.received + n ≤ sl.rowLen) (hcome' : s.notArrived t (slAddr d + 32) (16 * n) = false) : ∃ u,
    exec (.selMerge t) s = .next u ∧ u.slot? t (slSlot d) = some
      { (s.listElems t (slAddr d) n).foldl SelSlot.take (sl.merging h n) with refused := field h 4 1 == 15 } ∧
    u.mem = s.mem ∧ u.jobs = s.jobs := by
  let s1 := (s.putSlot t (slSlot d) (sl.absorb h)).receive t (slSlot d) n
  let s2 := (s1.listElems t (slAddr d) n).foldl (fun s el => s.selElem t (slSlot d) el) s1
  have hrun : exec (.selMerge t) s = .next ((if field h 4 1 = 15 then s2.refuseRow t (slSlot d) 0 else s2).popSel t) := by
    show execSelMerge t s = _
    simp only [execSelMerge, hhead, hslot, href, hcome, hclean, hh, hn, hok, hown, hcome', if_neg (Nat.not_lt.2 hin),
      if_neg (Nat.not_lt.2 hrow), Bool.not_true, Bool.false_eq_true, if_false]
    rfl
  obtain ⟨hrec, hframe⟩ := receive_effect n (s.slot?_putSlot t (slSlot d) (sl.absorb h))
  have hframe1 : HamperFrame s s1 := (hamperFrame_putSlot s t (slSlot d) _).trans hframe
  have hrec1 : s1.slot? t (slSlot d) = some (sl.merging h n) := hrec
  obtain ⟨hfold1, hkeep⟩ := foldl_selElem_effect t (slSlot d) (s1.listElems t (slAddr d) n) s1 _ hrec1
  have hfold : s2.slot? t (slSlot d) = some ((s.listElems t (slAddr d) n).foldl SelSlot.take (sl.merging h n)) :=
    hfold1.trans (by rw [listElems_of_hamperFrame hframe1])
  have hmem2 := hframe1.memJobsReqs.trans hkeep
  refine ⟨_, hrun, ?_⟩
  rw [slot?_popSel]
  have hpop := fun u : State => (popSel_effect u t).2.memJobsReqs
  by_cases h15 : field h 4 1 = 15
  · obtain ⟨hslot2, hframe2⟩ := refuseRow_effect 0 hfold
    have hmem3 := hframe2.memJobs
    rw [if_pos h15, show (field h 4 1 == 15) = true by simp [h15]]
    exact ⟨hslot2, (hpop _).1.trans (hmem3.1.trans hmem2.1), (hpop _).2.1.trans (hmem3.2.trans hmem2.2.1)⟩
  · rw [if_neg h15, show (field h 4 1 == 15) = false by simpa using h15]
    refine ⟨hfold.trans (congrArg some (SelSlot.with_refused_self ?_).symm), (hpop _).1.trans hmem2.1, (hpop _).2.1.trans hmem2.2.1⟩
    rw [SelSlot.foldl_take_refused]
    exact href

/-- Jobs and memory, which signals and noted conditions leave. -/
theorem signal_dieFrame (s : State) (j d c : Nat) : DieFrame s (s.signal j d c) := by
  unfold State.signal
  dsimp only
  split <;> exact dieFrame_modDie _ _ _

theorem DieFrame.memJobs {s u : State} (h : DieFrame s u) : u.mem = s.mem ∧ u.jobs = s.jobs := by
  unfold DieFrame at h
  rw [h]; exact ⟨rfl, rfl⟩

/-- A closed list: its bytes stored, its slot gone, its condition noted, a counter signalled where asked (R134 to R136). -/
def State.selClosed (s : State) (t j : Nat) (d : Bytes) (sl : SelSlot) : State :=
  let s := s.storeClean (sramFa t (slAddr d)) sl.bytes
  let s := s.modTile t (fun x => { x with slots := KMap.del x.slots (slSlot d) })
  let s := if sl.degraded && !sl.refused then s.modReq sl.req (fun x => x.note .degraded) else s
  if bit (field d 5 1) 0 then s.signal j (dieOf t) (field d 6 2) else s

theorem noteIf_keeps (s : State) (b : Bool) (r : W32) (f : Request → Request) :
    (if b then s.modReq r f else s).tiles = s.tiles ∧ (if b then s.modReq r f else s).mem = s.mem ∧
    (if b then s.modReq r f else s).jobs = s.jobs := by
  split
  · simp
  · exact ⟨rfl, rfl, rfl⟩

theorem signalIf_keeps (s : State) (b : Bool) (j d c : Nat) :
    (if b then s.signal j d c else s).tiles = s.tiles ∧ (if b then s.signal j d c else s).mem = s.mem ∧
    (if b then s.signal j d c else s).jobs = s.jobs := by
  split
  · exact ⟨(signal_dieFrame _ _ _ _).tiles, (signal_dieFrame _ _ _ _).memJobs⟩
  · exact ⟨rfl, rfl, rfl⟩

theorem selClosed_effect (s : State) (t j : Nat) (d : Bytes) (sl : SelSlot) : (s.selClosed t j d sl).slot? t (slSlot d) = none ∧
    (s.selClosed t j d sl).mem = Memory.writes s.mem (sramFa t (slAddr d)) sl.bytes ∧ (s.selClosed t j d sl).jobs = s.jobs := by
  unfold State.selClosed
  dsimp only
  obtain ⟨htiles, hmem, hjobs⟩ := signalIf_keeps (if (sl.degraded && !sl.refused) = true then
      ((s.storeClean (sramFa t (slAddr d)) sl.bytes).modTile t (fun x => { x with slots := KMap.del x.slots (slSlot d) })).modReq sl.req
        (fun x => x.note .degraded)
    else (s.storeClean (sramFa t (slAddr d)) sl.bytes).modTile t (fun x => { x with slots := KMap.del x.slots (slSlot d) }))
    (bit (field d 5 1) 0) j (dieOf t) (field d 6 2)
  obtain ⟨htiles', hmem', hjobs'⟩ := noteIf_keeps ((s.storeClean (sramFa t (slAddr d)) sl.bytes).modTile t
    (fun x => { x with slots := KMap.del x.slots (slSlot d) })) (sl.degraded && !sl.refused) sl.req (fun x => x.note .degraded)
  refine ⟨?_, ?_, ?_⟩
  · rw [State.slot?, State.tile_of_tiles (htiles.trans htiles'), State.tile_modTile]
    simp [KMap.find_del]
  · rw [hmem, hmem', State.modTile_mem, State.storeClean, State.mem_store]
  · rw [hjobs, hjobs', State.modTile_jobs, State.storeClean]
    exact (storeFrame_store _ _ _ _).jobs

theorem selClose_effect {t : TileNo} {s : State} {d : Bytes} {j : Nat} {jb : Job} {sl : SelSlot} (h : s.selHead t 4 = some (d, j, jb))
    (hslot : KMap.find (s.tile t).slots (slSlot d) = some sl) : ∃ u, exec (.selClose t) s = .next u ∧
    u.slot? t (slSlot d) = none ∧ u.mem = Memory.writes s.mem (sramFa t (slAddr d)) sl.bytes ∧ u.jobs = s.jobs := by
  have hrun : exec (.selClose t) s = .next (((s.selClosed t j d sl).tbump t 8 1 1).popSel t) := by
    show execSelClose t s = _
    simp only [execSelClose, h, hslot, State.selClosed]
  obtain ⟨hnone, hmem, hjobs⟩ := selClosed_effect s t j d sl
  obtain ⟨hmem', hjobs', -⟩ := ((hamperFrame_tbump (s.selClosed t j d sl) t 8 1 1).trans (popSel_effect _ t).2).memJobsReqs
  refine ⟨_, hrun, ?_, hmem'.trans hmem, hjobs'.trans hjobs⟩
  rw [slot?_popSel, State.slot?_tbump, hnone]

/-- Settles O17: each command acts on one slot, every element by `SelSlot.take`; entering keeps a list sound. -/
theorem selectionCommands : Obligations.SelectionCommands := by
  unfold Obligations.SelectionCommands
  refine ⟨⟨fun t d s j jb hseq hc hroom => ?_, fun t s d j jb h => selOpen_effect h, fun t s d j jb sl h hslot href hrow hacc hs hi =>
      selFeed_effect h hslot href hrow hacc hs hi, fun t s d j jb sl hhead hslot href => ?_, fun t s d j jb sl h hslot => ?_,
      fun t slot s j jb hseq => ?_, fun t slot s hw hfree => ?_⟩, fun sl e hlen hdup => ?_⟩
  · have hrun : exec (.selIssue t d false) s = .next (s.pushSel t d) := by
      show execSelIssue t d false s = _
      simp only [execSelIssue, hseq.seq, hseq.job, hc, hroom, Bool.false_eq_true, if_false, if_true]
    obtain ⟨-, hq, hframe⟩ := pushSel_effect s t d
    exact ⟨_, hrun, hq, hframe⟩
  · intro a h n hcome hclean hok hin hown hrow hcome'
    exact selMerge_effect hhead hslot href rfl rfl hcome hclean hok hin hown hrow hcome'
  · obtain ⟨u, hu, hnone, hmem, hjobs⟩ := selClose_effect h hslot
    refine ⟨u, hu, hnone, ?_, fun a ha => ?_, hjobs⟩ <;> rw [hmem]
    · exact Memory.reads_writes_self _ _ _
    · exact (Memory.read_writes _ _ _ _).trans (if_neg (by omega))
  · show execSelectWait t slot s = _
    simp only [execSelectWait, hseq.seq]
    rfl
  · show execSelectWaitResume t s = _
    simp only [execSelectWaitResume, hw, hfree, Bool.false_eq_true, if_false]
    rfl
  · obtain ⟨hlen', hdup'⟩ := SelSlot.sound_enter e ⟨hlen, hdup⟩
    exact ⟨hlen'.trans (Nat.le_of_eq (sl.enter_k e)), hdup', SelSlot.enter_of_room⟩

end Sys2Proof.Machine
end

section
/-! SUPPORT. The request slots of a stack channel and its write-backs (06 R147 to R150, 15 R407 to R409). -/

open Sys2Proof Sys2Proof.Machine Sys2Proof.Claims

namespace Sys2Proof.Machine

/-! Granting (R148 to R150) -/

/-- Requests whose bank has room are not marked as held. -/
theorem markHeld_of_room (s : State) (d ch : Nat) (q : List StackReq)
    (h : ∀ r ∈ q, s.bankLoad d (s.chanOf d (r.granule * 256 % 2 ^ 40)).1 (s.chanOf d (r.granule * 256 % 2 ^ 40)).2 < 32 ∧
      (s.chanOf d (r.granule * 256 % 2 ^ 40)).1 = ch) : s.markHeld d ch q = (q, 0) := by
  have hno : ∀ e ∈ q.zipIdx, (decide (e.2 < 64) && (s.chanOf d (e.1.granule * 256 % 2 ^ 40)).1 == ch && !e.1.held &&
      decide (32 ≤ s.bankLoad d ch (s.chanOf d (e.1.granule * 256 % 2 ^ 40)).2)) = false := by
    intro e he
    obtain ⟨hroom, hch⟩ := h e.1 (List.fst_mem_of_mem_zipIdx he)
    rw [hch] at hroom
    rw [decide_eq_false (Nat.not_le.2 hroom), Bool.and_false]
  have hmap : q.zipIdx.map (fun e => if (decide (e.2 < 64) && (s.chanOf d (e.1.granule * 256 % 2 ^ 40)).1 == ch && !e.1.held &&
      decide (32 ≤ s.bankLoad d ch (s.chanOf d (e.1.granule * 256 % 2 ^ 40)).2)) = true then { e.1 with held := true } else e.1) = q := by
    rw [List.map_congr_left (g := Prod.fst) fun e he => by rw [hno e he]; rfl, List.zipIdx_map_fst]
  have hfilter : q.zipIdx.filter (fun e => decide (e.2 < 64) && (s.chanOf d (e.1.granule * 256 % 2 ^ 40)).1 == ch && !e.1.held &&
      decide (32 ≤ s.bankLoad d ch (s.chanOf d (e.1.granule * 256 % 2 ^ 40)).2)) = [] :=
    List.filter_eq_nil_iff.2 fun e he => by rw [hno e he]; exact Bool.false_ne_true
  exact Prod.ext hmap (congrArg List.length hfilter)

/-- A key set twice holds the later value. -/
theorem KMap.put_put {α : Type} (m : KMap α) (k : Nat) (v w : α) : KMap.put (KMap.put m k v) k w = KMap.put m k w := by
  induction m with
  | nil => simp [KMap.put]
  | cons e m ih =>
    obtain ⟨i, x⟩ := e
    by_cases h1 : k < i
    · simp [KMap.put, h1]
    · by_cases h2 : k = i <;> simp [KMap.put, h1, h2, ih]

/-- Two updates of a die are one. -/
theorem State.modDie_modDie (s : State) (d : Nat) (f g : Die → Die) : (s.modDie d f).modDie d g = s.modDie d (fun x => g (f x)) := by
  rw [State.modDie, State.die_modDie]
  exact congrArg (fun ds => ({ s with dies := ds } : State)) (KMap.put_put _ _ _ _)

/-- Two updates of a tile are one. -/
theorem State.modTile_modTile (s : State) (t : Nat) (f g : Tile → Tile) :
    (s.modTile t f).modTile t g = s.modTile t (fun x => g (f x)) := by
  rw [State.modTile, State.tile_modTile]
  exact congrArg (fun ts => ({ s with tiles := ts } : State)) (KMap.put_put _ _ _ _)

/-- A requester with nothing queued takes no slot. -/
theorem grantLoop_of_empty (s : State) (d ch : Nat) (qs : List Nat) (h : ∀ q ∈ qs, KMap.getOr [] (s.die d).issueQ q = []) :
    s.grantLoop d ch qs = s := by
  induction qs with
  | nil => rfl
  | cons q qs ih =>
    obtain ⟨hq, hqs⟩ := List.forall_mem_cons.1 h
    have hstep : s.grantLoop d ch (q :: qs) = s.grantLoop d ch qs := by
      simp only [State.grantLoop, hq]
      congr 1
      split
      · rfl
      · simp [State.markHeld, State.offer]
    rw [hstep, ih hqs]

theorem grantLoop_append (s : State) (d ch : Nat) (l1 l2 : List Nat) :
    s.grantLoop d ch (l1 ++ l2) = (s.grantLoop d ch l1).grantLoop d ch l2 := by
  induction l1 generalizing s with
  | nil => rfl
  | cons q l1 ih => simp only [List.cons_append, State.grantLoop, ih]

/-- A request taken into a slot of its channel: its queue without it, the arbiter's pointer past its requester. -/
def Die.granted (x : Die) (ch q : Nat) (r : StackReq) : Die :=
  { x with issueQ := KMap.put x.issueQ q [], slotArb := KMap.put x.slotArb ch ((q + 1) % 439),
           slots := KMap.put x.slots ch (KMap.getOr [] x.slots ch ++ [r]) }

/-- The one request of a requester, a read of a sealed page whose bank has room, takes a slot (R149, R150, R157). -/
theorem grantLoop_of_one {s : State} {d ch q : Nat} {r : StackReq} (hq : KMap.getOr [] (s.die d).issueQ q = [r])
    (hread : r.write = false) (hseal : s.sealedAt (r.granule * 256) = true)
    (hch : (s.chanOf d (r.granule * 256 % 2 ^ 40)).1 = ch) (hused : (KMap.getOr [] (s.die d).slots ch).length < 192)
    (hbank : s.bankLoad d ch (s.chanOf d (r.granule * 256 % 2 ^ 40)).2 < 32) :
    s.grantLoop d ch [q] = s.modDie d (fun x => x.granted ch q r) := by
  have hmark : s.markHeld d ch [r] = ([r], 0) := by
    refine markHeld_of_room s d ch [r] fun x hx => ?_
    rw [List.mem_singleton.1 hx]
    exact ⟨by rw [hch]; exact hbank, hch⟩
  have hoffer : s.offer d ch [r] = some 0 := by
    simp only [State.offer, List.take_succ_cons, List.take_nil, List.findIdx?_cons, hch, decide_eq_true hbank, beq_self_eq_true,
      Bool.and_self, if_true]
  have hfree : ¬ ((KMap.getOr [] (s.die d).slots ch).length ≥ 256 ∨ (q = reqLint ∧ (KMap.getOr [] (s.die d).slots ch).length > 192)) := by
    omega
  have haccept : ∀ u : State, u.sealedAt (r.granule * 256) = true → u.accept d ch r =
      u.modDie d (fun x => { x with slots := KMap.put x.slots ch (KMap.getOr [] x.slots ch ++ [r]) }) := by
    intro u hu
    simp only [State.accept, hread, hu, Bool.false_eq_true, if_false, if_true]
    split <;> rfl
  simp only [State.grantLoop, hq, hmark, hoffer, if_neg hfree, if_true, List.getElem?_cons_zero]
  have hseal' : ∀ f, (s.modDie d f).sealedAt (r.granule * 256) = true := fun _ => hseal
  refine (haccept _ (hseal' _)).trans ?_
  exact s.modDie_modDie d _ _

theorem mem_cyclic {n p q : Nat} (hq : q < n) : q ∈ cyclic n p := by
  refine List.mem_map.2 ⟨(q + (n - p % n)) % n, List.mem_range.2 (Nat.mod_lt _ (by omega)), ?_⟩
  have hp : p % n < n := Nat.mod_lt _ (by omega)
  rw [Nat.add_mod_mod, Nat.add_mod, show p % n + (q + (n - p % n)) % n = p % n + (q + (n - p % n)) % n from rfl]
  rw [← Nat.mod_mod p n, Nat.mod_mod, ← Nat.add_mod]
  have hdecomp := Nat.div_add_mod p n
  have hsum : p + (q + (n - p % n)) = q + n * (p / n + 1) := by
    rw [Nat.mul_add, Nat.mul_one]; omega
  rw [hsum, Nat.add_mul_mod_self_left, Nat.mod_eq_of_lt hq]

/-! A read that returns (15 R408, R409) -/

/-- What a delivered granule can change: a die's events and write-backs, and what a log record changes. -/
def DeliverFrame (s u : State) : Prop :=
  u = { s with dies := u.dies, cnt := u.cnt, sent := u.sent, kop := u.kop, qps := u.qps, flog := u.flog, flogSeq := u.flogSeq,
               ledger := { s.ledger with sumPending := u.ledger.sumPending } }

theorem DeliverFrame.trans {s u w : State} (hu : DeliverFrame s u) (hw : DeliverFrame u w) : DeliverFrame s w := by
  unfold DeliverFrame at hu
  exact Eq.trans hw (by rw [hu])

theorem LogFrame.deliverFrame {s u : State} (h : LogFrame s u) : DeliverFrame s u := by
  unfold LogFrame at h
  rw [h]; rfl

theorem DieFrame.deliverFrame {s u : State} (h : DieFrame s u) : DeliverFrame s u := by
  unfold DieFrame at h
  rw [h]; rfl

/-- The request slots of every die stay, within that frame. -/
structure SlotsKept (s u : State) : Prop where
  frame : DeliverFrame s u
  slots : ∀ d, (u.die d).slots = (s.die d).slots

theorem SlotsKept.refl (s : State) : SlotsKept s s := ⟨rfl, fun _ => rfl⟩

theorem SlotsKept.trans {s u w : State} (hu : SlotsKept s u) (hw : SlotsKept u w) : SlotsKept s w :=
  ⟨hu.frame.trans hw.frame, fun d => (hw.slots d).trans (hu.slots d)⟩

theorem LogFrame.die {s u : State} (h : LogFrame s u) (d : Nat) : u.die d = s.die d := by
  unfold LogFrame at h
  rw [h]; rfl

theorem LogFrame.slotsKept {s u : State} (h : LogFrame s u) : SlotsKept s u := ⟨h.deliverFrame, fun d => congrArg Die.slots (h.die d)⟩

/-- A part of a die that an update of any die leaves is as before. -/
theorem State.modDie_part {α : Type} (p : Die → α) (s : State) (d i : Nat) (f : Die → Die) (h : p (f (s.die d)) = p (s.die d)) :
    p ((s.modDie d f).die i) = p (s.die i) := by
  by_cases hi : d = i
  · subst hi; rw [State.die_modDie, h]
  · rw [State.modDie, State.die_setDie_ne _ _ _ _ hi]

theorem slotsKept_modDie (s : State) (d : Nat) (f : Die → Die) (h : (f (s.die d)).slots = (s.die d).slots) : SlotsKept s (s.modDie d f) :=
  ⟨(dieFrame_modDie s d f).deliverFrame, fun _ => State.modDie_part Die.slots _ _ _ _ h⟩

theorem SlotsKept.foldl {α : Type} (f : State → α → State) (h : ∀ s x, SlotsKept s (f s x)) (l : List α) (s : State) :
    SlotsKept s (l.foldl f s) := by
  induction l generalizing s with
  | nil => exact .refl s
  | cons x l ih => exact (h s x).trans (ih _)

theorem slotsKept_sectorEvents (s : State) (d g : Nat) (out : List SectorOutcome) : SlotsKept s (s.sectorEvents d g out) := by
  unfold State.sectorEvents
  refine .foldl _ (fun u e => ?_) _ _
  obtain ⟨o, sec⟩ := e
  cases o with
  | uncorrectable => exact slotsKept_modDie _ _ _ rfl
  | corrected => exact slotsKept_modDie _ _ _ rfl
  | clean => exact .refl u
  | poisoned => exact .refl u

theorem slotsKept_logIf (s : State) (b : Bool) (r : LogRec) : SlotsKept s (if b then s.log r else s) := by
  split
  · exact (logFrame_log _ _).slotsKept
  · exact .refl s

theorem slotsKept_dbump (s : State) (d k sub n : Nat) : SlotsKept s (s.dbump d k sub n) := (logFrame_bump _ _ _).slotsKept

theorem slotsKept_dbumpIf (s : State) (p : Prop) [Decidable p] (d k sub n : Nat) : SlotsKept s (if p then s.dbump d k sub n else s) := by
  split
  · exact slotsKept_dbump _ _ _ _ _
  · exact .refl s

theorem slotsKept_deliver (s : State) (d g : Nat) (first out : List SectorOutcome) (all : List (List SectorOutcome)) :
    SlotsKept s (s.deliver d g first out all) := by
  unfold State.deliver
  dsimp only
  refine SlotsKept.trans ?_ (slotsKept_modDie _ _ _ rfl)
  refine SlotsKept.trans ?_ (slotsKept_logIf _ _ _)
  refine SlotsKept.trans ?_ (slotsKept_logIf _ _ _)
  refine SlotsKept.trans ?_ (.foldl _ (fun _ _ => slotsKept_sectorEvents _ _ _ _) _ _)
  exact ((slotsKept_dbump s d 3 1 _).trans (slotsKept_dbump _ d 3 2 _)).trans (slotsKept_dbump _ d 3 3 _)

theorem DeliverFrame.keeps {s u : State} (h : DeliverFrame s u) :
    u.mem = s.mem ∧ u.poison = s.poison ∧ u.jobs = s.jobs ∧ u.tiles = s.tiles := by
  unfold DeliverFrame at h
  rw [h]; exact ⟨rfl, rfl, rfl, rfl⟩

/-- A slot of a channel freed. -/
def State.slotFreed (s : State) (d ch slot : Nat) : State :=
  s.modDie d (fun x => { x with
    slots := KMap.put x.slots ch ((KMap.getOr [] (s.die d).slots ch).take slot ++ (KMap.getOr [] (s.die d).slots ch).drop (slot + 1)) })

theorem stackReadReturn_effect {d : DieNo} {ch : Fin 32} {slot : Nat} (reads : List (List SectorFault)) {s : State} {r : StackReq}
    (h : (KMap.getOr [] (s.die d).slots ch)[slot]? = some r) (hr : r.write = false) : ∃ u,
    exec (.stackReadReturn d ch slot reads) s = .next u ∧ SlotsKept (s.slotFreed d ch slot) u := by
  refine ⟨_, show execStackReadReturn d ch slot reads s = .next _ by simp only [execStackReadReturn, h, hr, Bool.false_eq_true, if_false]; rfl, ?_⟩
  refine SlotsKept.trans ?_ (slotsKept_deliver _ _ _ _ _ _)
  refine SlotsKept.trans ?_ (slotsKept_dbumpIf _ _ _ _ _ _)
  exact slotsKept_dbump (s.slotFreed d ch slot) d 9 1 _

theorem NSet.mem_addRange (s : NSet) (lo n i : Nat) : i ∈ NSet.addRange s lo n ↔ i ∈ s ∨ (lo ≤ i ∧ i < lo + n) := by
  induction n with
  | zero => exact ⟨Or.inl, fun h => h.elim id fun h => absurd h.1 (Nat.not_le.2 h.2)⟩
  | succ n ih =>
    rw [NSet.addRange, NSet.mem_add, ih]
    by_cases hm : i ∈ s
    · simp [hm]
    · simp only [hm, false_or]; omega

/-! The oldest write-back leaves (R407, R409) -/

theorem stackWriteback_effect {d : DieNo} {s : State} {w : StackWb} {rest : List StackWb} (h : (s.die d).wbs = w :: rest) : ∃ u,
    exec (.stackWriteback d) s = .next u ∧ (u.die d).wbs = rest ∧
    (w.cancelled = true → u.poison = s.poison ∧ u.count (dkey d 3 8) = (s.count (dkey d 3 8) + 1) % 2 ^ 64) ∧
    (w.cancelled = false → u.count (dkey d 3 7) = (s.count (dkey d 3 7) + 1) % 2 ^ 64 ∧
      (w.poisoned = true → ∀ i < 8, w.granule * 64 + w.sector * 8 + i ∈ u.poison) ∧ (w.poisoned = false → u.poison = s.poison)) ∧
    u = { s with dies := u.dies, cnt := u.cnt, poison := u.poison } := by
  have hrun : exec (.stackWriteback d) s = _ := show execStackWriteback d s = _ by simp only [execStackWriteback, h]; rfl
  refine ⟨_, hrun, ?_⟩
  cases hc : w.cancelled with
  | true =>
    obtain ⟨c, hf⟩ := (s.modDie d (fun x => { x with wbs := rest })).bump_frame (dkey d 3 8) 1
    refine ⟨by simp [State.dbump], fun _ => ⟨by simp [State.dbump], by simp [State.dbump, State.count_bump]⟩, nofun, ?_⟩
    rw [if_pos rfl, State.dbump, hf]; rfl
  | false =>
    simp only [Bool.false_eq_true, if_false, false_imp_iff, true_and, true_imp_iff]
    have hne : dkey d 3 4 ≠ dkey d 3 7 := by unfold dkey okey; omega
    have hbumps : ∀ (u : State) (n : Nat), ∃ c, (u.dbump d 3 7 1).dbump d 3 4 n = { u with cnt := c } := by
      intro u n
      obtain ⟨c, hf⟩ := u.bump_frame (dkey d 3 7) 1
      rw [State.dbump, State.dbump, hf]
      exact State.bump_frame _ _ _
    have hcount : ∀ (u : State) (n : Nat), ((u.dbump d 3 7 1).dbump d 3 4 n).count (dkey d 3 7) = (u.count (dkey d 3 7) + 1) % 2 ^ 64 := by
      intro u n
      simp [State.dbump, State.count_bump, hne]
    cases hp : w.poisoned with
    | true =>
      obtain ⟨c, hf⟩ := hbumps { s.modDie d (fun x => { x with wbs := rest }) with
        poison := NSet.addRange s.poison (w.granule * 64 + w.sector * 8) 8 } 1
      refine ⟨by simp [State.dbump, State.die, State.modDie, State.setDie], ⟨hcount _ _, fun _ i hi => ?_, nofun⟩, ?_⟩
      · simp only [if_true, State.dbump, State.bump_poison]
        exact (NSet.mem_addRange _ _ _ _).2 (.inr (by omega))
      · simp only [if_true]
        exact hf ▸ rfl
    | false =>
      obtain ⟨c, hf⟩ := hbumps (s.modDie d (fun x => { x with wbs := rest })) 0
      refine ⟨by simp [State.dbump], ⟨hcount _ _, nofun, fun _ => by simp [State.dbump]⟩, ?_⟩
      simp only [Bool.false_eq_true, if_false]
      exact hf ▸ rfl

/-- Settles O18: one grant of the loop, a slot freed under `SlotsKept`, and the two ways of a write-back. -/
theorem stackRequests : Obligations.StackRequests := by
  unfold Obligations.StackRequests
  refine ⟨⟨fun d ch s q r hready hq hissue hothers hread hheld hreq hseal hch hused hbank => ?_,
    fun d ch slot reads s r h hr => ?_, fun d ch slot s r h hw => ?_⟩, fun d s w rest h => stackWriteback_effect h⟩
  · have hone : KMap.getOr [] (s.die d).issueQ q = [r] := by rw [KMap.getOr, hissue]; rfl
    obtain ⟨l1, l2, hsplit, hfirst⟩ := List.eq_append_cons_of_mem (mem_cyclic (n := 439) (p := KMap.getOr 0 (s.die d).slotArb ch) hq)
    let u := s.modDie d (fun x => x.granted ch q r)
    have hdie : u.die d = (s.die d).granted ch q r := State.die_modDie ..
    have hloop : s.grantLoop d ch (cyclic 439 (KMap.getOr 0 (s.die d).slotArb ch)) = u := by
      rw [hsplit, grantLoop_append, ← List.singleton_append, grantLoop_append,
        grantLoop_of_empty s d ch l1 fun k hk => hothers k fun he => hfirst (he ▸ hk),
        grantLoop_of_one hone hread hseal hch hused hbank]
      refine grantLoop_of_empty u d ch l2 fun k _ => ?_
      rw [hdie]
      by_cases hk : k = q
      · subst hk; exact KMap.getOr_put_self ..
      · exact (KMap.getOr_put _ _ _ _ _).trans ((if_neg (Ne.symm hk)).trans (hothers k hk))
    have hrun : exec (.stackRequestGrant d ch) s = .next (u.raiseTo (dkey d 9 3) (((u.die d).slots.map (fun e => e.2.length)).sum)) := by
      show execStackRequestGrant d ch s = _
      simp only [execStackRequestGrant, hready, hloop, ne_eq, not_true_eq_false, if_false]
    obtain ⟨c, hc⟩ := u.raiseTo_frame (dkey d 9 3) (((u.die d).slots.map (fun e => e.2.length)).sum)
    rw [hc] at hrun
    refine ⟨_, hrun, ?_, ?_, rfl⟩
    · exact (congrArg (fun x : Die => KMap.getOr [] x.slots ch) hdie).trans (KMap.getOr_put_self ..)
    · exact (congrArg (fun x : Die => KMap.getOr [] x.issueQ q) hdie).trans (KMap.getOr_put_self ..)
  · obtain ⟨u, hu, hkept⟩ := stackReadReturn_effect reads h hr
    obtain ⟨hmem, hpoison, hjobs, htiles⟩ := hkept.frame.keeps
    refine ⟨u, hu, ?_, hmem, hpoison, hjobs, htiles⟩
    rw [hkept.slots d, State.slotFreed, State.die_modDie, KMap.getOr_put_self]
  · show execStackWriteDone d ch slot s = _
    simp only [execStackWriteDone, h, hw, if_true]

end Sys2Proof.Machine
end

section
/-! SUPPORT. The sequencer's data cache, commit fences and page recycling (06 R153 to R158). -/

open Sys2Proof Sys2Proof.Machine Sys2Proof.Claims

namespace Sys2Proof.Machine

/-! Pages -/

theorem sealedAt_of_pages {s u : State} (h : u.pages = s.pages) (a : Nat) : u.sealedAt a = s.sealedAt a := by
  rw [State.sealedAt, State.page?, h]; rfl

/-- A page of `2 ^ log2` bytes recorded SEALED is sealed at its base, and leaves every byte below its base as it was. -/
theorem sealedAt_setPage (s : State) (b log2 a : Nat) (ha : a ≤ b) :
    ({ s with pages := setPage s.pages b log2 .sealed_ } : State).sealedAt a = if a = b then true else s.sealedAt a := by
  have hp : (0 : Nat) < 2 ^ log2 := Nat.pow_pos (by decide)
  rcases Nat.lt_or_eq_of_le ha with hlt | rfl
  · have hfilter : (s.pages.filter (fun p => p.base ≠ b)).find? (fun p => decide (p.base ≤ a) && decide (a < p.base + 2 ^ p.log2)) =
        s.pages.find? (fun p => decide (p.base ≤ a) && decide (a < p.base + 2 ^ p.log2)) := by
      rw [List.find?_filter]
      refine congrArg (List.find? · s.pages) (funext fun p => ?_)
      by_cases hb : p.base = b
      · simp [hb, Nat.not_le.2 hlt]
      · simp [hb]
    have hpage : ({ s with pages := setPage s.pages b log2 .sealed_ } : State).page? a = s.page? a := by
      simp only [State.page?, setPage, List.find?_cons, decide_eq_false (Nat.not_le.2 hlt), Bool.false_and]
      exact hfilter
    rw [State.sealedAt, hpage, if_neg (Nat.ne_of_lt hlt), State.sealedAt]
  · have hpage : ({ s with pages := setPage s.pages a log2 .sealed_ } : State).page? a = some ⟨a, log2, .sealed_, false⟩ := by
      simp only [State.page?, setPage, List.find?_cons, Nat.le_refl, decide_true, Bool.true_and,
        decide_eq_true (Nat.lt_add_of_pos_right hp)]
    rw [State.sealedAt, hpage, if_pos rfl]
    rfl

/-- Sealing pages changes page records and counters. -/
def PagesFrame (s u : State) : Prop := u = { s with pages := u.pages, cnt := u.cnt }

theorem PagesFrame.trans {s u w : State} (hu : PagesFrame s u) (hw : PagesFrame u w) : PagesFrame s w := by
  unfold PagesFrame at hu
  exact Eq.trans hw (by rw [hu])

/-- One page sealed. -/
def State.sealPage (s : State) (log2 b : Nat) : State :=
  if s.sealedAt b then s else ({ s with pages := setPage s.pages b log2 .sealed_ } : State).dbump (faDie b) 9 0x0B 1

theorem sealPages_eq (s : State) (bases : List Nat) (log2 : Nat) : s.sealPages bases log2 = bases.foldl (·.sealPage log2 ·) s := rfl

theorem pagesFrame_sealPage (s : State) (log2 b : Nat) : PagesFrame s (s.sealPage log2 b) := by
  unfold State.sealPage; split
  · rfl
  · obtain ⟨c, hc⟩ := ({ s with pages := setPage s.pages b log2 .sealed_ } : State).bump_frame (dkey (faDie b) 9 0x0B) 1
    rw [State.dbump, hc]; rfl

theorem sealedAt_sealPage (s : State) (log2 b a : Nat) (ha : a ≤ b) : (s.sealPage log2 b).sealedAt a = if a = b then true else s.sealedAt a := by
  unfold State.sealPage
  split
  · next h =>
    split
    · next hab => rw [hab, h]
    · rfl
  · rw [State.dbump, sealedAt_of_pages (State.bump_pages _ _ _)]
    exact sealedAt_setPage s b log2 a ha

theorem pagesFrame_sealPages (s : State) (bases : List Nat) (log2 : Nat) : PagesFrame s (s.sealPages bases log2) := by
  rw [sealPages_eq]
  induction bases generalizing s with
  | nil => rfl
  | cons b bases ih => exact (pagesFrame_sealPage s log2 b).trans (ih _)

/-- Pages sealed in rising order are sealed, and what was sealed below them stays so. -/
theorem sealedAt_sealPages (log2 : Nat) (bases : List Nat) (s : State) (hsort : bases.Pairwise (· < ·)) :
    (∀ b ∈ bases, (s.sealPages bases log2).sealedAt b = true) ∧
    ∀ a, (∀ b ∈ bases, a < b) → (s.sealPages bases log2).sealedAt a = s.sealedAt a := by
  simp only [sealPages_eq]
  induction bases generalizing s with
  | nil => exact ⟨(fun _ h => nomatch h), fun _ _ => rfl⟩
  | cons b bases ih =>
    obtain ⟨hb, hrest⟩ := List.pairwise_cons.1 hsort
    obtain ⟨hall, hbelow⟩ := ih (s.sealPage log2 b) hrest
    refine ⟨List.forall_mem_cons.2 ⟨?_, hall⟩, fun a ha => ?_⟩
    · rw [List.foldl_cons, hbelow b hb, sealedAt_sealPage _ _ _ _ (Nat.le_refl b), if_pos rfl]
    · obtain ⟨hab, habs⟩ := List.forall_mem_cons.1 ha
      rw [List.foldl_cons, hbelow a habs, sealedAt_sealPage _ _ _ _ (Nat.le_of_lt hab), if_neg (Nat.ne_of_lt hab)]

/-- The pages of a fence rise. -/
theorem fenceRange_rising {jb : Job} {a n l : Nat} {bases : List Nat} (h : jb.fenceRange a n = some (l, bases)) :
    bases.Pairwise (· < ·) := by
  unfold Job.fenceRange at h
  obtain ⟨r, -, hr⟩ := Option.bind_eq_some_iff.1 h
  dsimp only at hr
  split at hr
  · cases hr
  · obtain ⟨rfl, rfl⟩ := Prod.mk.inj (Option.some.inj hr)
    rw [List.pairwise_map]
    refine List.pairwise_lt_range.imp fun hij => ?_
    exact Nat.add_lt_add_left (Nat.mul_lt_mul_of_pos_right hij (Nat.pow_pos (by decide))) _

/-! The commands -/

theorem find_map_values {α β : Type} (m : KMap α) (f : α → β) (k : Nat) :
    KMap.find (m.map (fun e => (e.1, f e.2))) k = (KMap.find m k).map f := by
  induction m with
  | nil => rfl
  | cons e m ih =>
    by_cases h : e.1 = k <;> simp [KMap.find, h, ih]

/-- A line of a cache after lines were dropped from every cache. -/
theorem mem_dcache_of_filtered {s : State} {ps : List Page} {keep : CacheLine → Bool} {t : Nat} {l : CacheLine}
    (h : l ∈ (({ s with pages := ps, tiles := s.tiles.map (fun e => (e.1, { e.2 with dcache := e.2.dcache.filter keep })) } : State).tile
      t).dcache) : keep l = true := by
  have hfind := find_map_values s.tiles (fun x : Tile => { x with dcache := x.dcache.filter keep }) t
  simp only [State.tile, KMap.getOr, hfind] at h
  cases hx : KMap.find s.tiles t with
  | none => rw [hx] at h; exact absurd h (List.not_mem_nil)
  | some x =>
    rw [hx] at h
    exact (List.mem_filter.1 h).2

theorem seqTier1Load_misses {t : TileNo} {a : Fa} {s : State} {j : Nat} {jb : Job} (hseq : SeqRuns s t j jb)
    (hvalid : s.faValid a.toNat = true) (hspace : faSpace a.toNat = 0) (hread : jb.mayRead a.toNat 1 = true)
    (hmiss : ⟨a.toNat / 256, s.ownerOf a.toNat⟩ ∉ (s.tile t).dcache) (hseal : s.sealedAt a.toNat = true) :
    exec (.seqTier1Load t a) s = .next ((s.modTile t (fun x => { x with
      dcache := ⟨a.toNat / 256, s.ownerOf a.toNat⟩ :: x.dcache.filter (fun l => l.granule ≠ a.toNat / 256) })).request (dieOf t)
        (reqCache t) false (a.toNat / 256 * 256) 256) := by
  show execSeqTier1Load t a s = _
  have hno : (s.tile t).dcache.contains ⟨a.toNat / 256, s.ownerOf a.toNat⟩ = false := by simpa using hmiss
  simp only [execSeqTier1Load, hseq.seq, hseq.job, hvalid, hspace, hread, hno, hseal, Bool.not_true, Bool.false_or, ne_eq,
    not_true_eq_false, decide_false, Bool.false_eq_true, if_false]

/-- Settles O19: loads and stores are one branch each; a fence seals its rising pages; a recycle drops page and lines. -/
theorem pagesAndTierOne : Obligations.PagesAndTierOne := by
  unfold Obligations.PagesAndTierOne
  refine ⟨⟨fun t a s j jb hseq hv hsp hr hmiss hseal => ?_, fun t a s j jb hseq hv hsp hr hhit => ?_, fun t a s j jb hseq => ?_⟩,
    fun t a n s j jb l bases hseq hrange => ?_, fun t s a n j jb l bases hwait hjob hjb hrange hdone => ?_,
    fun t a s j jb l bases hseq hrange hseal => ?_, fun d a s p hp hrec hdie hout => ?_⟩
  · have hrun := seqTier1Load_misses hseq hv hsp hr hmiss hseal
    have hframe := dieFrame_request (s.modTile t (fun x => { x with
      dcache := ⟨a.toNat / 256, s.ownerOf a.toNat⟩ :: x.dcache.filter (fun l => l.granule ≠ a.toNat / 256) })) (dieOf t)
        (reqCache t) false (a.toNat / 256 * 256) 256
    refine ⟨_, hrun, ?_, fun l hl hne => ?_, ?_⟩
    · rw [hframe.tile, State.tile_modTile]
      exact List.mem_cons_self ..
    · rw [hframe.tile, State.tile_modTile]
      exact List.mem_cons_of_mem _ (List.mem_filter.2 ⟨hl, by simpa using hne⟩)
    · rw [hframe.tiles]
      exact hframe
  · show execSeqTier1Load t a s = _
    simp [execSeqTier1Load, hseq.seq, hseq.job, hv, hsp, hr, hhit]
  · show execSeqTier1Store t a s = _
    simp only [execSeqTier1Store, hseq.seq]
  · show execCommitFence t a n s = _
    simp only [execCommitFence, hseq.seq, hseq.job, Option.bind_some, hrange]
    rfl
  · have hrun : exec (.commitFenceDone t) s = .next ((s.sealPages bases l).resume t) := by
      show execCommitFenceDone t s = _
      simp only [execCommitFenceDone, hwait, hjob, hjb, Option.bind_some, hrange, hdone, Bool.false_eq_true, if_false]
    have hframe := pagesFrame_sealPages s bases l
    refine ⟨_, hrun, (sealedAt_sealPages l bases s (fenceRange_rising hrange)).1, ?_, ?_⟩
    · simp [State.resume]
    · unfold PagesFrame at hframe
      rw [hframe]; rfl
  · show execPageRecycle t a s = _
    simp only [execPageRecycle, hseq.seq, hseq.job, Option.bind_some, hrange, hseal, if_true]
  · have hrun : exec (.pageRecycleDone d a) s = _ := show execPageRecycleDone d a s = _ by
      simp only [execPageRecycleDone, hp, hrec, hdie, hout, Bool.not_true, Bool.false_eq_true, ne_eq, not_true_eq_false, or_self, if_false]
      rfl
    refine ⟨_, hrun, rfl, fun t l hl => ?_, rfl⟩
    have hkeep := mem_dcache_of_filtered hl
    simp only [Bool.not_eq_true', Bool.and_eq_false_iff, decide_eq_false_iff_not] at hkeep
    rcases hkeep with h | h
    · exact fun hin => h hin.1
    · exact fun hin => h hin.2

end Sys2Proof.Machine
end

section
/-! SUPPORT. The stream feeder (06 R160 to R163). -/

open Sys2Proof Sys2Proof.Machine Sys2Proof.Claims

namespace Sys2Proof.Machine

/-! Sets of arrival bits -/

/-- Ranges added one after another keep what was there. -/
theorem mem_foldl_addRange_of_mem (l : List (Nat × Nat)) (f : Nat × Nat → Nat) (n : Nat × Nat → Nat) (s : NSet) (i : Nat) (h : i ∈ s) :
    i ∈ l.foldl (fun a r => NSet.addRange a (f r) (n r)) s := by
  induction l generalizing s with
  | nil => exact h
  | cons r l ih => exact ih _ ((NSet.mem_addRange _ _ _ _).2 (.inl h))

/-- Ranges added one after another hold each range. -/
theorem mem_foldl_addRange (l : List (Nat × Nat)) (f : Nat × Nat → Nat) (n : Nat × Nat → Nat) (s : NSet) (i : Nat) {r : Nat × Nat}
    (hr : r ∈ l) (h : f r ≤ i ∧ i < f r + n r) : i ∈ l.foldl (fun a r => NSet.addRange a (f r) (n r)) s := by
  induction l generalizing s with
  | nil => nomatch hr
  | cons x l ih =>
    rcases List.mem_cons.1 hr with rfl | hl
    · exact mem_foldl_addRange_of_mem l f n _ i ((NSet.mem_addRange _ _ _ _).2 (.inr h))
    · exact ih _ hl

/-! Arrival -/

theorem tile_store_stream (s : State) (a : Nat) (bs : Bytes) (marks : List Bool) (t : Nat) :
    ((s.store a bs marks).tile t).stream = (s.tile t).stream ∧ ((s.store a bs marks).tile t).vwait = (s.tile t).vwait ∧
    ((s.store a bs marks).tile t).arrived = (s.tile t).arrived :=
  ⟨store_part Tile.stream (fun _ _ => rfl) (fun _ _ => rfl) .., store_part Tile.vwait (fun _ _ => rfl) (fun _ _ => rfl) ..,
    store_part Tile.arrived (fun _ _ => rfl) (fun _ _ => rfl) ..⟩

/-- Landing bytes, scales and patches leaves jobs and what waits on the tile. -/
structure Lands (t : Nat) (s u : State) : Prop where
  vwait : (u.tile t).vwait = (s.tile t).vwait
  jobs : u.jobs = s.jobs

theorem Lands.refl (t : Nat) (s : State) : Lands t s s := ⟨rfl, rfl⟩
theorem Lands.trans {t : Nat} {s u w : State} (hu : Lands t s u) (hw : Lands t u w) : Lands t s w :=
  ⟨hw.vwait.trans hu.vwait, hw.jobs.trans hu.jobs⟩

theorem Lands.foldl {t : Nat} {α : Type} (f : State → α → State) (h : ∀ s x, Lands t s (f s x)) (l : List α) (s : State) :
    Lands t s (l.foldl f s) := by
  induction l generalizing s with
  | nil => exact .refl t s
  | cons x l ih => exact (h s x).trans (ih _)

theorem lands_store (t : Nat) (s : State) (a : Nat) (bs : Bytes) (marks : List Bool) : Lands t s (s.store a bs marks) :=
  ⟨(tile_store_stream ..).2.1, (storeFrame_store ..).jobs⟩

theorem LogFrame.lands {s u : State} (h : LogFrame s u) (t : Nat) : Lands t s u := ⟨congrArg _ (h.tile t), h.keeps.2.2.1⟩

theorem lands_patchTile (t : Nat) (s : State) (off fmt : Nat) (sc : Nat → Nat) (blk : Nat × Nat × Bool) :
    Lands t s (s.patchTile t off fmt sc blk) := by
  unfold State.patchTile
  exact ((lands_store t s _ _ _).trans ((logFrame_bump _ _ _).lands t)).trans ((logFrame_bump _ _ _).lands t)

theorem lands_applyPatch (t : Nat) (s : State) (e : Bytes) : Lands t s (s.applyPatch t e) := by
  unfold State.applyPatch
  split
  · exact .refl t s
  · split
    · exact .refl t s
    · refine .foldl _ (fun u i => ?_) _ _
      split
      · exact .refl t u
      · exact lands_patchTile t u _ _ _ _

theorem applyPatch_of_no_patch (s : State) (t : Nat) (e : Bytes) (h : sePatch e = false) : s.applyPatch t e = s := by
  simp [State.applyPatch, h]

/-- The bytes of an entry in its destination, before the arrival is noted. -/
def State.landEntry (s : State) (t : Nat) (e : Bytes) : State :=
  let s := s.copy (seSrc e) (sramFa t (seDst e)) (seLen e)
  let s := if seScales e then s.copy (seScaleSrc e) (sramFa t (seScaleDst e)) (seScaleLen e) else s
  s.applyPatch t e

theorem lands_copyIf (t : Nat) (s : State) (b : Bool) (src dst n : Nat) : Lands t s (if b then s.copy src dst n else s) := by
  split
  · exact lands_store ..
  · exact .refl t s

theorem lands_landEntry (t : Nat) (s : State) (e : Bytes) : Lands t s (s.landEntry t e) := by
  unfold State.landEntry
  exact ((lands_store t s _ _ _).trans (lands_copyIf t _ _ _ _ _)).trans (lands_applyPatch t _ e)

theorem mem_landEntry (s : State) (t : Nat) (e : Bytes) (hp : sePatch e = false) (hs : seScales e = false) :
    (s.landEntry t e).mem = Memory.writes s.mem (sramFa t (seDst e)) (s.bytesAt (seSrc e) (seLen e)) := by
  simp only [State.landEntry, hs, Bool.false_eq_true, if_false, applyPatch_of_no_patch _ _ _ hp, State.copy, State.mem_store]

/-- An entry's arrival noted: it is in flight no more, and its units are marked. -/
def Tile.arrive (x : Tile) (st : Stream) (n : Nat) (e : Bytes) : Tile :=
  { x with
    stream := some { st with flight := st.flight.filter (· ≠ n), arrived := st.arrived ++ [n] },
    arrived := (seDsts e).foldl (fun a (off, n) => NSet.addRange a (off / 64) ((off + n + 63) / 64 - off / 64)) x.arrived }

theorem wakeVector_of_no_wait {s : State} {t : Nat} (h : (s.tile t).vwait = none) : s.wakeVector t = s := by
  simp [State.wakeVector, h]

theorem exec_streamEntryArrived {t : TileNo} {n : Nat} {s : State} {st : Stream} {e : Bytes} (hst : (s.tile t).stream = some st)
    (he : s.streamEntry t st n = some e) (hfly : n ∈ st.flight) (hpow : (s.tile t).power = .running)
    (hback : ∀ r ∈ seSrcs e, s.outstanding false r.1 r.2 = false) (hwait : (s.tile t).vwait = none) :
    exec (.streamEntryArrived t n) s =
      .next (((s.landEntry t e).modTile t (fun x => x.arrive st n e)).tbump t 9 5 (seLen e + seScaleLen e)) := by
  show execStreamEntryArrived t n s = _
  have hready : ¬ ((!(st.flight.contains n)) = true ∨ (s.tile t).power ≠ .running ∨
      ((seSrcs e).any (fun (a, n) => s.outstanding false a n)) = true) := by
    have hany : (seSrcs e).any (fun (a, n) => s.outstanding false a n) = false :=
      List.any_eq_false.2 fun r hr => by simp [hback r hr]
    rw [hany]
    simp [hfly, hpow]
  simp only [execStreamEntryArrived, hst, he, if_neg hready]
  refine congrArg Host.Outcome.next (wakeVector_of_no_wait ?_)
  rw [State.tile_tbump, State.tile_modTile]
  exact (lands_landEntry t s e).vwait.trans hwait

/-- Settles O20: each command's branch; an arrival is `landEntry` and `Tile.arrive`. -/
theorem streamCommands : Obligations.StreamCommands := by
  unfold Obligations.StreamCommands
  refine ⟨fun t a s j jb hseq hclean hcheck => ?_, fun t s st j jb e hst hjob hjb he hworks hlead hfree hclean hcheck hseal => ?_,
    fun t n s st e hst he hfly hpow hback hwait => ?_, fun t n s j jb st hseq hst hn => ?_, fun t n s j jb hseq => ?_,
    fun t n s hwait harr => ?_⟩
  · have hrun : exec (.streamStart t a) s = _ := show execStreamStart t a s = _ by
      simp only [execStreamStart, hseq.seq, State.startStream, hseq.job, hclean, hcheck, Bool.false_eq_true, if_false]
      rfl
    refine ⟨_, hrun, by simp, fun i hi => ?_, rfl⟩
    rw [State.tile_modTile] at hi
    exact ((NSet.mem_delRange _ _ _ _).1 hi).1
  · have hgo : ¬ ((!(s.tileWorks t)) = true ∨ st.issued ≥ st.released + shLead (Memory.reads s.mem (sramFa t st.hdr) 32) ∨
        (((List.range (st.issued - st.released)).map (fun k => (s.streamEntry t st (st.released + k)).getD [])).any
          (fun f => seOverlap f e)) = true) := by
      have hany : ((List.range (st.issued - st.released)).map (fun k => (s.streamEntry t st (st.released + k)).getD [])).any
          (fun f => seOverlap f e) = false := by
        rw [List.any_map]
        exact List.any_eq_false.2 fun k hk => by simp [hfree k (List.mem_range.1 hk)]
      rw [hany]
      simp [hworks, hlead]
    have hsealed : (seSrcs e).find? (fun (a, n) => !(s.sealedRange a n)) = none :=
      List.find?_eq_none.2 fun r hr => by simp [hseal r hr]
    have hrun : exec (.streamEntryIssue t) s = .next ((seSrcs e).foldl (fun s (a, n) => s.request (dieOf t) (reqFeeder t) false a n)
        (s.modTile t (fun x => { x with stream := some { st with issued := st.issued + 1, flight := st.flight ++ [st.issued] } }))) := by
      show execStreamEntryIssue t s = _
      simp only [execStreamEntryIssue, hst, hjob, Option.bind_some, hjb, he, if_neg hgo, hclean, hcheck, hsealed, Bool.false_eq_true,
        if_false]
    have hframe := DieFrame.foldl (fun (s : State) (r : Nat × Nat) => s.request (dieOf t) (reqFeeder t) false r.1 r.2)
      (fun _ _ => dieFrame_request _ _ _ _ _ _) (seSrcs e)
      (s.modTile t (fun x => { x with stream := some { st with issued := st.issued + 1, flight := st.flight ++ [st.issued] } }))
    refine ⟨_, hrun, ?_, ?_⟩
    · refine (congrArg Tile.stream (hframe.tile t)).trans ?_
      rw [State.tile_modTile]
    · have htiles := hframe.tiles
      unfold DieFrame at hframe
      exact hframe.trans (by rw [htiles]; rfl)
  · refine ⟨_, exec_streamEntryArrived hst he hfly hpow hback hwait, ?_, fun a ha i hlo hhi => ?_, fun hp hs => ?_, ?_⟩
    · rw [State.tile_tbump, State.tile_modTile]; rfl
    · rw [State.tile_tbump, State.tile_modTile]
      exact mem_foldl_addRange (seDsts e) (fun r => r.1 / 64) (fun r => (r.1 + r.2 + 63) / 64 - r.1 / 64) _ i ha ⟨hlo, by omega⟩
    · rw [State.tbump, State.bump_mem, State.modTile_mem, mem_landEntry s t e hp hs]
      have h := Memory.reads_writes_self s.mem (sramFa t (seDst e)) (s.bytesAt (seSrc e) (seLen e))
      rwa [State.bytesAt, List.length_map, List.length_range] at h
    · rw [State.tbump, State.bump_jobs, State.modTile_jobs]
      exact (lands_landEntry t s e).jobs
  · have hrun : exec (.streamRelease t n) s = _ := show execStreamRelease t n s = _ by
      simp only [execStreamRelease, hseq.seq, hst, if_neg (Nat.not_lt.2 hn)]
      rfl
    exact ⟨_, hrun, by simp, rfl⟩
  · show execStreamWait t n s = _
    simp only [execStreamWait, hseq.seq]
    rfl
  · show execStreamWaitResume t s = _
    simp only [execStreamWaitResume, hwait, harr, if_true]
    rfl

end Sys2Proof.Machine
end

section
/-! SUPPORT. The gather engine and transfers to and from host windows (06 R166 to R171). -/

open Sys2Proof Sys2Proof.Machine Sys2Proof.Claims

namespace Sys2Proof.Machine

/-- A descriptor taken by the engine of a die. -/
def State.addGather (s : State) (t j : Nat) (d : Bytes) (host : Option Transfer) : State :=
  s.modDie (dieOf t) (fun x =>
    { x with gathers := x.gathers ++ [{ id := (s.die (dieOf t)).gatherSeq, tile := t, job := j, desc := d, pos := 0, landed := 0,
                                         host := host, acked := false }],
             gatherSeq := (s.die (dieOf t)).gatherSeq + 1 })

theorem issueGather_of_check {s : State} {t j : Nat} {jb : Job} {d : Bytes} (host : Option Transfer) (hseq : SeqRuns s t j jb)
    (hop : gdOp d = 1 ∨ gdOp d = 2) (hcheck : gatherCheck s jb t d = none) (hroom : s.gathersFull t = false) :
    s.issueGather t d false host = s.addGather t j d host := by
  have hhost : gdIsHost d = false := by
    unfold gdIsHost
    rcases hop with h | h <;> rw [h] <;> rfl
  simp only [State.issueGather, hseq.seq, hseq.job, if_pos hop, hcheck, hroom, State.pushGather, hhost, Bool.not_false, Bool.false_eq_true,
    if_false, if_true]
  rfl

theorem issueGather_of_host {s : State} {t j : Nat} {jb : Job} {d : Bytes} (host : Option Transfer) {w : Window} (hseq : SeqRuns s t j jb)
    (hop : gdOp d = 3 ∨ gdOp d = 4) (hcheck : hostCheck s jb t d = none)
    (hpages : ¬ (faSpace (hdLocal d) = 0 ∧ ((gdOp d = 4 ∧ ¬ s.sealedRange (hdLocal d) (hdBytes d)) ∨
      (gdOp d = 3 ∧ ¬ s.writableRange (hdLocal d) (hdBytes d))))) (hroom : s.gathersFull t = false)
    (hw : jb.windowOf d = some w) (hqp : s.qpCause w.qp = none) :
    s.issueGather t d false host = (s.addGather t j d host).startHost t j (s.die (dieOf t)).gatherSeq d w := by
  have hhost : gdIsHost d = true := by
    unfold gdIsHost
    rcases hop with h | h <;> rw [h] <;> rfl
  have hop' : ¬ (gdOp d = 1 ∨ gdOp d = 2) := by omega
  simp only [State.issueGather, hseq.seq, hseq.job, if_neg hop', hhost, hcheck, if_neg hpages, hroom, State.pushGather, Option.bind_some,
    hw, hqp, Bool.not_true, Bool.false_eq_true, if_false, if_true]
  rfl

/-! Sends -/

/-- What a message can change. -/
def SendFrame (s u : State) : Prop := u = { s with qps := u.qps, sent := u.sent, cnt := u.cnt }

theorem SendFrame.trans {s u w : State} (hu : SendFrame s u) (hw : SendFrame u w) : SendFrame s w := by
  unfold SendFrame at hu
  exact Eq.trans hw (by rw [hu])

theorem sendFrame_bump (s : State) (k n : Nat) : SendFrame s (s.bump k n) := by
  obtain ⟨c, hc⟩ := s.bump_frame k n
  rw [hc]; rfl

theorem sendFrame_send (s : State) (m : Sent) : SendFrame s (s.send m) := by
  simp only [State.send]
  cases s.framesOf m with
  | none => rfl
  | some f => exact SendFrame.trans (u := { s with sent := _, qps := _ }) rfl (sendFrame_bump _ _ _)

@[simp] theorem State.sent_send (s : State) (m : Sent) : (s.send m).sent = m :: s.sent := by
  simp only [State.send]
  cases s.framesOf m with
  | none => rfl
  | some f => exact State.bump_sent _ _ _

theorem sendFrame_addOut (s : State) (q : Nat) (o : OutOp) : SendFrame s (s.addOut q o) ∧ (s.addOut q o).sent = s.sent := by
  unfold State.addOut
  split <;> exact ⟨rfl, rfl⟩

theorem SendFrame.die {s u : State} (h : SendFrame s u) (d : Nat) : u.die d = s.die d := by
  unfold SendFrame at h
  rw [h]; rfl

/-- Reads of bytes and marks go by memory, marks, keys and the write-backs of dies. -/
theorem hostBytes_of_sendFrame {s u : State} (h : SendFrame s u) (a n : Nat) :
    u.hostBytes a n = s.hostBytes a n ∧ u.poisonedRange a n = s.poisonedRange a n := by
  unfold SendFrame at h
  rw [h]; exact ⟨rfl, rfl⟩

theorem poisonedWord_addGather (s : State) (t j : Nat) (d : Bytes) (host : Option Transfer) :
    (s.addGather t j d host).poisonedWord = s.poisonedWord := by
  funext w
  have hwbs : ((s.addGather t j d host).die (faDie (4 * w))).wbs = (s.die (faDie (4 * w))).wbs := State.modDie_part Die.wbs _ _ _ _ rfl
  simp only [State.poisonedWord, hwbs]
  rfl

theorem hostBytes_addGather (s : State) (t j : Nat) (d : Bytes) (host : Option Transfer) (a n : Nat) :
    (s.addGather t j d host).hostBytes a n = s.hostBytes a n ∧
    (s.addGather t j d host).poisonedRange a n = s.poisonedRange a n := by
  simp only [State.hostBytes, State.poisonedRange, poisonedWord_addGather]
  exact ⟨rfl, trivial⟩

/-- A READ goes out (R170). -/
theorem startHost_read {s : State} {t j id : Nat} {d : Bytes} {w : Window} (hop : gdOp d = 3) :
    (s.startHost t j id d w).sent = .rdmaRead w.qp (w.base + BitVec.ofNat 64 (hdOffset d)) w.rkey (hdBytes d) :: s.sent ∧
    SendFrame s (s.startHost t j id d w) := by
  obtain ⟨hframe, hsent⟩ := sendFrame_addOut s w.qp (.gather (dieOf t) id)
  simp only [State.startHost, hop, if_true]
  exact ⟨by rw [State.sent_send, hsent], hframe.trans (sendFrame_send _ _)⟩

/-- A WRITE of clean bytes goes out (R170). -/
theorem startHost_write {s : State} {t j id : Nat} {d : Bytes} {w : Window} (hop : gdOp d = 4)
    (hclean : s.poisonedRange (hdLocal d) (hdBytes d) = false) :
    (s.startHost t j id d w).sent =
      .rdmaWrite w.qp (w.base + BitVec.ofNat 64 (hdOffset d)) w.rkey (s.hostBytes (hdLocal d) (hdBytes d)) none :: s.sent ∧
    SendFrame s (s.startHost t j id d w) := by
  obtain ⟨hframe, hsent⟩ := sendFrame_addOut s w.qp (.gather (dieOf t) id)
  obtain ⟨hbytes, hrange⟩ := hostBytes_of_sendFrame hframe (hdLocal d) (hdBytes d)
  have hne : ¬ gdOp d = 3 := by omega
  simp only [State.startHost, if_neg hne, hrange, hclean, hbytes, Bool.false_eq_true, if_false]
  refine ⟨?_, (hframe.trans (sendFrame_send _ _)).trans (sendFrame_bump _ _ _)⟩
  rw [State.tbump, State.bump_sent, State.sent_send, hsent]

/-- An engine that took a descriptor and sent its message. -/
theorem host_frame {s u : State} {t j : Nat} {d : Bytes} {host : Option Transfer} (h : SendFrame (s.addGather t j d host) u) :
    (u.die (dieOf t)).gathers = (s.die (dieOf t)).gathers ++
      [{ id := (s.die (dieOf t)).gatherSeq, tile := t, job := j, desc := d, pos := 0, landed := 0, host := host, acked := false }] ∧
    u = { s with dies := u.dies, qps := u.qps, sent := u.sent, cnt := u.cnt } := by
  refine ⟨?_, ?_⟩
  · rw [h.die, State.addGather, State.die_modDie]
  · unfold SendFrame at h
    rw [h]; rfl

theorem exec_gatherOps : ∀ e ∈ [(Instr.gatherAddr, 1), (Instr.gatherIndex, 2)], ∀ (t : TileNo) (d : Bytes) (s : State),
    exec (e.1 t d false) s = .next (s.issueGather t d false none) ∧ (e.2 = 1 ∨ e.2 = 2) := by
  intro e he t d s
  obtain rfl | rfl : e = (Instr.gatherAddr, 1) ∨ e = (Instr.gatherIndex, 2) := by simpa using he
  · exact ⟨rfl, .inl rfl⟩
  · exact ⟨rfl, .inr rfl⟩

/-- A request for granules leaves every die's descriptors. -/
theorem gathers_request (s : State) (src own : Nat) (w : Bool) (a n d : Nat) :
    ((s.request src own w a n).die d).gathers = (s.die d).gathers := by
  unfold State.request
  split
  · rfl
  · unfold State.enqueue
    split
    · rfl
    · exact State.modDie_part Die.gathers _ _ _ _ rfl

/-- Settles O21: descriptors join by `addGather`; a host transfer's message is `startHost`; the rest is one branch each. -/
theorem gatherCommands : Obligations.GatherCommands := by
  unfold Obligations.GatherCommands
  refine ⟨⟨fun e he t d s j jb hseq hop hcheck hroom => ?_, fun d s g jb a hnext hjb => ?_, fun d n s g hg hpow hjob hhost hcount hback => ?_,
    fun t n s j jb hseq => ?_, fun t n s hwait hgone => ?_⟩, fun t d x s j jb w hseq hop hcheck hpages hroom hw hqp => ?_,
    fun t d s j jb w hseq hop hcheck hpages hroom hw hqp hclean => ?_, fun t n s g jb w c hg hjb hw hhost hfail => ?_⟩
  · obtain ⟨hrun, hops⟩ := exec_gatherOps e he t d s
    rw [issueGather_of_check none hseq (by rwa [hop]) hcheck hroom] at hrun
    refine ⟨_, hrun, ?_, ?_, rfl⟩ <;> rw [State.addGather, State.die_modDie]
  · intro entry hcome hclean helem hspace hrange hread hseal hroom
    simp only [entry] at hcome hclean
    have hrun : exec (.gatherElementIssue d) s =
        .next ((s.modGather d g.id (fun g => { g with pos := g.pos + 1 })).request d reqGather false a (gdElem g.desc)) := by
      show execGatherElementIssue d s = _
      have hok : ¬ (faSpace a ≠ 0 ∨ (!(s.faRange a (gdElem g.desc))) = true) := by simp [hspace, hrange]
      simp only [execGatherElementIssue, hnext, hjb, hcome, hclean, helem, if_neg hok, hread, hseal, if_neg (Nat.not_lt.2 hroom),
        Bool.not_true, Bool.false_eq_true, if_false]
    refine ⟨_, hrun, ?_, (dieFrame_modDie s d _).trans (dieFrame_request _ _ _ _ _ _)⟩
    rw [gathers_request, State.modGather, State.die_modDie]
  · show execGatherComplete d n s = _
    have hwork : ¬ ((s.tile g.tile).power ≠ .running ∨ (s.tile g.tile).job ≠ some g.job) := by simp [hpow, hjob]
    have hall : ¬ (g.pos < gdCount g.desc ∨ (!(s.elementsBack g)) = true) := by simp [hback, hcount]
    simp only [execGatherComplete, hg, if_neg hwork, hhost, if_neg hall, Bool.false_eq_true, if_false]
  · show execGatherWait t n s = _
    simp only [execGatherWait, hseq.seq]
    rfl
  · show execGatherWaitResume t s = _
    simp only [execGatherWaitResume, hwait, hgone, Bool.false_eq_true, if_false]
    rfl
  · have hgo : ¬ (faSpace (hdLocal d) = 0 ∧ ((gdOp d = 4 ∧ ¬ s.sealedRange (hdLocal d) (hdBytes d)) ∨
        (gdOp d = 3 ∧ ¬ s.writableRange (hdLocal d) (hdBytes d)))) := by
      rintro ⟨h0, h | h⟩
      · omega
      · exact h.2 (hpages h0)
    have hrun : exec (.gatherHostRead t d false x) s = .next (s.issueGather t d false (some x)) := rfl
    rw [issueGather_of_host (some x) hseq (.inl hop) hcheck hgo hroom hw hqp] at hrun
    obtain ⟨hsent, hframe⟩ := startHost_read (s := s.addGather t j d (some x)) (t := t) (j := j) (id := (s.die (dieOf t)).gatherSeq)
      (w := w) hop
    exact ⟨_, hrun, hsent, host_frame hframe⟩
  · have hgo : ¬ (faSpace (hdLocal d) = 0 ∧ ((gdOp d = 4 ∧ ¬ s.sealedRange (hdLocal d) (hdBytes d)) ∨
        (gdOp d = 3 ∧ ¬ s.writableRange (hdLocal d) (hdBytes d)))) := by
      rintro ⟨h0, h | h⟩
      · exact h.2 (hpages h0)
      · omega
    have hrun : exec (.gatherHostWrite t d false) s = .next (s.issueGather t d false none) := rfl
    rw [issueGather_of_host none hseq (.inr hop) hcheck hgo hroom hw hqp] at hrun
    obtain ⟨hbytes, hrange⟩ := hostBytes_addGather s t j d none (hdLocal d) (hdBytes d)
    obtain ⟨hsent, hframe⟩ := startHost_write (s := s.addGather t j d none) (t := t) (j := j) (id := (s.die (dieOf t)).gatherSeq)
      (w := w) hop (hrange.trans hclean)
    rw [hbytes] at hsent
    exact ⟨_, hrun, hsent, host_frame hframe⟩
  · show execHostTransferFail t n s = _
    simp only [execHostTransferFail, hg, hjb, Option.bind_some, hw, hhost, hfail, Bool.not_true, Bool.false_eq_true, if_false]

end Sys2Proof.Machine
end

section
/-! SUPPORT. Notices, readiness and replies (13 R360, R361, R371; 17 R460, R461): what sending them can change. -/

open Sys2Proof Sys2Proof.Machine Sys2Proof.Claims

namespace Sys2Proof.Machine

/-! Messages and counters -/

/-- A counter that no message moves: neither a port's frames sent nor the notices dropped. -/
def Quiet (k : Nat) : Prop := k ≠ okey 0x2401 5 ∧ k ≠ okey 0x2402 5 ∧ k ≠ okey 0x1110 0x0B

theorem quiet_dkey (d k sub : Nat) : Quiet (dkey d k sub) := by
  unfold Quiet dkey okey; omega

theorem State.count_bump_ne (s : State) {k i : Nat} (n : Nat) (h : k ≠ i) : (s.bump k n).count i = s.count i := by
  rw [State.count_bump, if_neg (fun hk => h hk.2)]

theorem okey_portIndex_ne {k : Nat} (h : Quiet k) (p : Port) : okey (portIndex p) 5 ≠ k := by
  obtain ⟨ha, hb, -⟩ := h
  cases p
  · exact ha.symm
  · exact hb.symm

theorem count_send_of_frames (s : State) (m : Sent) {k : Nat} (h : ∀ p n, s.framesOf m = some (p, n) → okey (portIndex p) 5 ≠ k) :
    (s.send m).count k = s.count k := by
  simp only [State.send]
  cases hf : s.framesOf m with
  | none => rfl
  | some f => exact State.count_bump_ne _ _ (h f.1 f.2 hf)

theorem count_send (s : State) (m : Sent) {k : Nat} (h : Quiet k) : (s.send m).count k = s.count k :=
  count_send_of_frames s m fun p _ _ => okey_portIndex_ne h p

/-- A message without packet sequence numbers is put out and counted, no more. -/
theorem send_frame_of_psns (s : State) (m : Sent) (h : m.psns = none) :
    s.send m = { s with sent := m :: s.sent, cnt := (s.send m).cnt } := by
  simp only [State.send, h]
  cases s.framesOf m with
  | none => rfl
  | some f =>
    obtain ⟨c, hc⟩ := State.bump_frame { s with sent := m :: s.sent, qps := s.qps } (okey (portIndex f.1) 5) f.2
    dsimp only
    rw [hc]

/-! Notices -/

/-- Who a session is: its number, its role and its peer. -/
def Session.who (x : Session) : W32 × Nat × BitVec 128 := (x.sid, x.role, x.src)

theorem sids_of_who {l m : List Session} (h : l.map Session.who = m.map Session.who) : l.map Session.sid = m.map Session.sid := by
  have hl : ∀ l : List Session, l.map Session.sid = (l.map Session.who).map Prod.fst := fun l => by rw [List.map_map]; rfl
  rw [hl, hl, h]

/-- What notices to the sessions change (R371): messages sent, their counts, and what the sessions hold. -/
structure Noticed (s u : State) : Prop where
  frame : u = { s with cnt := u.cnt, sent := u.sent, kop := { s.kop with sessions := u.kop.sessions } }
  count : ∀ k, Quiet k → u.count k = s.count k
  who : u.kop.sessions.map Session.who = s.kop.sessions.map Session.who

theorem Noticed.refl (s : State) : Noticed s s := ⟨rfl, fun _ _ => rfl, rfl⟩

theorem Noticed.trans {s u w : State} (hu : Noticed s u) (hw : Noticed u w) : Noticed s w := by
  obtain ⟨fu, cu, su⟩ := hu
  obtain ⟨fw, cw, sw⟩ := hw
  exact ⟨fw.trans (by rw [fu]), fun k hk => (cw k hk).trans (cu k hk), sw.trans su⟩

/-- One notice leaves the sessions to its caller. -/
theorem noticed_notifySession (s : State) (sn : Session) (cls : Nat) (body : Bytes) :
    Noticed s (notifySession s sn cls body).2 ∧ (notifySession s sn cls body).2.kop = s.kop ∧
      (notifySession s sn cls body).1.who = sn.who := by
  simp only [notifySession]
  split
  · obtain ⟨c, hc⟩ := s.bump_frame (okey 0x1110 0x0B) 1
    refine ⟨⟨by rw [hc], fun k hk => State.count_bump_ne _ _ hk.2.2.symm, by rw [State.bump_kop]⟩, by rw [State.bump_kop], rfl⟩
  · have hframe := send_frame_of_psns s (.notify sn.sid (sn.notifySeq + 1)
      ([BitVec.ofNat 8 cls, 0] ++ leBytes 2 (min sn.dropped 0xFFFF) ++ [0, 0, 0, 0] ++ body)) rfl
    refine ⟨⟨?_, fun k hk => count_send s _ hk, ?_⟩, ?_, rfl⟩ <;> rw [hframe]

theorem noticed_notifyAll (s : State) (cls : Nat) (body : Bytes) (l : List Session) :
    Noticed s (notifyAll s cls body l).2 ∧ (notifyAll s cls body l).2.kop = s.kop ∧
      (notifyAll s cls body l).1.map Session.who = l.map Session.who := by
  induction l generalizing s with
  | nil => exact ⟨.refl s, rfl, rfl⟩
  | cons sn l ih =>
    simp only [notifyAll]
    split
    · obtain ⟨hone, hkop, hwho1⟩ := noticed_notifySession s sn cls body
      obtain ⟨hrest, hkops, hwho⟩ := ih (notifySession s sn cls body).2
      exact ⟨hone.trans hrest, hkops.trans hkop, by simp only [List.map_cons, hwho1, hwho]⟩
    · obtain ⟨hrest, hkops, hwho⟩ := ih s
      exact ⟨hrest, hkops, by simp only [List.map_cons, hwho]⟩

theorem noticed_notify (s : State) (cls : Nat) (body : Bytes) : Noticed s (s.notify cls body) := by
  obtain ⟨⟨hframe, hcount, -⟩, hkop, hwho⟩ := noticed_notifyAll s cls body s.kop.sessions
  refine ⟨?_, hcount, hwho⟩
  simp only [State.notify, hkop]
  rw [hframe]

theorem noticed_notifyReady (s : State) (idx sub v : Nat) : Noticed s (s.notifyReady idx sub v) := noticed_notify _ _ _
theorem noticed_notifyJob (s : State) (j st endSt : Nat) : Noticed s (s.notifyJob j st endSt) := noticed_notify _ _ _

/-- A state with one more record in the fault log and on its way into the ledger's summary (R444, R445). -/
def State.withRecord (s : State) (r : LogRec) : State :=
  { s with flog := (s.flog.write (QItem.ofBytes (r.bytes (s.flogSeq + 1) s.now))).getD s.flog, flogSeq := s.flogSeq + 1,
           ledger := { s.ledger with sumPending := s.ledger.sumPending ++ [r.bytes (s.flogSeq + 1) s.now] } }

theorem noticed_log (s : State) (r : LogRec) : Noticed (s.withRecord r) (s.log r) := noticed_notify _ _ _

theorem Noticed.jobs {s u : State} (h : Noticed s u) : u.jobs = s.jobs := by rw [h.frame]
theorem Noticed.dies {s u : State} (h : Noticed s u) : u.dies = s.dies := by rw [h.frame]
theorem Noticed.tiles {s u : State} (h : Noticed s u) : u.tiles = s.tiles := by rw [h.frame]
theorem Noticed.mem {s u : State} (h : Noticed s u) : u.mem = s.mem := by rw [h.frame]
theorem Noticed.boot {s u : State} (h : Noticed s u) : u.boot = s.boot := by rw [h.frame]

theorem State.flogSeq_log (s : State) (r : LogRec) : (s.log r).flogSeq = s.flogSeq + 1 := by
  rw [(noticed_log s r).frame]; rfl

theorem State.count_log (s : State) (r : LogRec) {k : Nat} (h : Quiet k) : (s.log r).count k = s.count k := (noticed_log s r).count k h

theorem State.die_log (s : State) (r : LogRec) (d : Nat) : (s.log r).die d = s.die d := (logFrame_log s r).die d

theorem Noticed.sids {s u : State} (h : Noticed s u) : u.kop.sessions.map Session.sid = s.kop.sessions.map Session.sid := sids_of_who h.who

/-! Readiness (17 R460, R461) -/

/-- What a change of readiness leaves: all but the readiness bits and its notices. -/
structure Readied (s u : State) : Prop where
  noticed : Noticed { s with boot := u.boot } u
  boot : u.boot = { s.boot with ready := u.boot.ready, bringupMs := u.boot.bringupMs }

theorem Noticed.readied {s u : State} (h : Noticed s u) : Readied s u := by
  refine ⟨?_, ?_⟩ <;> rw [h.boot]
  exact h

theorem Readied.trans {s u w : State} (hu : Readied s u) (hw : Readied u w) : Readied s w := by
  obtain ⟨⟨fu, cu, su⟩, bu⟩ := hu
  obtain ⟨⟨fw, cw, sw⟩, bw⟩ := hw
  refine ⟨⟨fw.trans ?_, fun k hk => (cw k hk).trans (cu k hk), sw.trans su⟩, bw.trans (by rw [bu])⟩
  rw [fu]

theorem Readied.dies {s u : State} (h : Readied s u) : u.dies = s.dies := by rw [h.noticed.frame]
theorem Readied.die {s u : State} (h : Readied s u) (d : Nat) : u.die d = s.die d := by rw [State.die, h.dies]; rfl
theorem Readied.tiles {s u : State} (h : Readied s u) : u.tiles = s.tiles := by rw [h.noticed.frame]
theorem Readied.tile {s u : State} (h : Readied s u) (t : Nat) : u.tile t = s.tile t := by rw [State.tile, h.tiles]; rfl
theorem Readied.jobs {s u : State} (h : Readied s u) : u.jobs = s.jobs := by rw [h.noticed.frame]
theorem Readied.mem {s u : State} (h : Readied s u) : u.mem = s.mem := by rw [h.noticed.frame]
theorem Readied.count {s u : State} (h : Readied s u) {k : Nat} (hk : Quiet k) : u.count k = s.count k := h.noticed.count k hk

/-- The readiness word after bits of it were set and cleared. -/
def State.readyWord (s : State) (on off : Nat) : Nat :=
  let v := (s.boot.ready.toNat ||| on) &&& (0x1FF ^^^ off)
  v % 128 + (if (List.range 64).all (fun d => s.isRetired (.die d) || (s.die d).state == .ready) then 128 else 0) +
    (if bit v 8 || (bit v 0 && bit v 1 && s.diesReady ≠ 0) then 256 else 0)

/-- New readiness bits and their notice. -/
theorem readied_newWord (s : State) (w : W32) (ms idx sub v : Nat) :
    Readied s (({ s with boot := { s.boot with ready := w, bringupMs := ms } } : State).notifyReady idx sub v) := by
  have h := noticed_notifyReady { s with boot := { s.boot with ready := w, bringupMs := ms } } idx sub v
  refine ⟨?_, ?_⟩ <;> rw [h.boot]
  exact h

/-- The bring-up time that goes with a change of the readiness word. -/
def State.readyMs (s : State) : Nat :=
  if (List.range 64).all (fun d => s.isRetired (.die d) || (s.die d).state == .ready) && !(readyBit s 7) && s.boot.bringupMs == 0 then
    (s.now - s.boot.releasedAt) / 25000
  else s.boot.bringupMs

theorem withReady_eq (s : State) (on off : Nat) : s.withReady on off =
    if s.readyWord on off = s.boot.ready.toNat then s
    else ({ s with boot := { s.boot with ready := BitVec.ofNat 32 (s.readyWord on off), bringupMs := s.readyMs } } : State).notifyReady
      0x1300 1 (s.readyWord on off) := rfl

theorem readied_withReady (s : State) (on off : Nat) : Readied s (s.withReady on off) := by
  rw [withReady_eq]
  split
  · exact (Noticed.refl s).readied
  · exact readied_newWord _ _ _ _ _ _

theorem ready_withReady (s : State) (on off : Nat) :
    (s.withReady on off).boot.ready = BitVec.ofNat 32 (s.readyWord on off) := by
  rw [withReady_eq]
  split
  · rename_i h
    rw [h, BitVec.ofNat_toNat, BitVec.setWidth_eq]
  · rw [(noticed_notifyReady _ _ _ _).boot]

theorem readyWord_lt (s : State) (on off : Nat) : s.readyWord on off < 512 := by
  unfold State.readyWord
  dsimp only
  split <;> split <;> omega

/-- A readiness bit below DIES_ALL is what was set and not cleared. -/
theorem readyBit_withReady (s : State) (on off b : Nat) (hb : b < 7) :
    readyBit (s.withReady on off) b = ((readyBit s b || bit on b) && bit (0x1FF ^^^ off) b) := by
  have hlow : s.readyWord on off % 128 = ((s.boot.ready.toNat ||| on) &&& (0x1FF ^^^ off)) % 128 := by
    unfold State.readyWord
    dsimp only
    split <;> split <;> omega
  have hbits : ∀ x : Nat, x.testBit b = (x % 128).testBit b := fun x => by
    rw [show 128 = 2 ^ 7 from rfl, Nat.testBit_mod_two_pow]; simp [hb]
  have hlt := readyWord_lt s on off
  simp only [readyBit, bit, ready_withReady, BitVec.toNat_ofNat]
  rw [Nat.mod_eq_of_lt (by omega), hbits, hlow, ← hbits, Nat.testBit_and, Nat.testBit_or]

theorem readied_setDieState (s : State) (d : Nat) (st : DieState) :
    Readied (s.modDie d (fun x => { x with state := st })) (s.setDieState d st) := by
  unfold State.setDieState
  dsimp only
  refine Readied.trans ?_ (readied_withReady _ _ _)
  split
  · exact (Noticed.refl _).readied
  · exact (noticed_notifyReady _ _ _ _).readied

@[simp] theorem State.die_setDieState (s : State) (d : Nat) (st : DieState) : (s.setDieState d st).die d = { s.die d with state := st } := by
  rw [(readied_setDieState s d st).die, State.die_modDie]

theorem State.die_setDieState_ne (s : State) {d i : Nat} (st : DieState) (h : d ≠ i) : (s.setDieState d st).die i = s.die i := by
  rw [(readied_setDieState s d st).die, State.modDie, State.die_setDie_ne _ _ _ _ h]

/-! Replies and object writes (R360, R361, R365, R366) -/

theorem State.session?_isSome {s : State} {sid : W32} : (s.session? sid).isSome = true ↔ sid ∈ s.kop.sessions.map Session.sid := by
  simp [State.session?, List.find?_isSome]

/-- A request was answered: the reply is the newest thing sent, and only its session and what carried it changed. -/
structure Answered (s u : State) (r : Requester) (st : Status) : Prop where
  frame : u = { s with cnt := u.cnt, sent := u.sent, kop := { s.kop with sessions := u.kop.sessions, blockEnds := u.kop.blockEnds } }
  count : ∀ k, k ≠ okey (portIndex r.port) 5 → u.count k = s.count k
  who : u.kop.sessions.map Session.who = s.kop.sessions.map Session.who
  replied : Replied u r st

theorem map_who_modSession (l : List Session) (sid : W32) (f : Session → Session) (h : ∀ x, (f x).who = x.who) :
    (l.map (fun x => if x.sid = sid then f x else x)).map Session.who = l.map Session.who := by
  rw [List.map_map]
  refine List.map_congr_left fun x _ => ?_
  simp only [Function.comp_apply]
  split
  · exact h x
  · rfl

theorem answered_answer {s : State} {r : Requester} (h : (s.session? r.sid).isSome = true) (type : Byte) (st : Status) (payload : Bytes) :
    Answered s (s.answer r type st payload) r st ∧ (s.answer r type st payload).kop.blockEnds = s.kop.blockEnds := by
  obtain ⟨sn, hsn⟩ := Option.isSome_iff_exists.1 h
  simp only [State.answer, hsn]
  generalize hm : mkReply sn.key r.port r.src type st r.sid r.seq payload = m
  generalize hv : s.modSession r.sid (fun x => { x with
      replies := (x.replies ++ [m]).drop (x.replies.length - 15), executing := x.executing.filter (· ≠ r.seq) }) = v
  have hframe := send_frame_of_psns v (.kop m) rfl
  have hwho : v.kop.sessions.map Session.who = s.kop.sessions.map Session.who := by
    rw [← hv]; exact map_who_modSession _ _ _ fun _ => rfl
  have hvs : v = { s with kop := { s.kop with sessions := v.kop.sessions } } := by rw [← hv]; rfl
  have hport : m.port = r.port := by rw [← hm]; rfl
  refine ⟨⟨?_, fun k hk => ?_, ?_, m, v.sent, State.sent_send v (.kop m), ?_⟩, ?_⟩
  · rw [hframe]
    show ({ v with sent := _, cnt := _ } : State) = _
    rw [hvs]
  · refine (count_send_of_frames v (.kop m) fun p n hp => ?_).trans (by rw [hvs]; rfl)
    obtain ⟨rfl, -⟩ : m.port = p ∧ 1 = n := by simpa [State.framesOf] using hp
    rw [hport]; exact hk.symm
  · rw [hframe]; exact hwho
  · rw [← hm]; exact ⟨rfl, rfl, rfl, rfl, rfl⟩
  · rw [hframe, hvs]

theorem answered_replyWrite {s : State} {r : Requester} (h : (s.session? r.sid).isSome = true) (key : Nat) (st : Status) :
    Answered s (s.replyWrite r key st) r st := by
  simp only [State.replyWrite]
  split
  · obtain ⟨hframe, hcount, hwho, hreply⟩ := (answered_answer (s := { s with kop := { s.kop with blockEnds := s.kop.blockEnds.erase (r, key) } }) h
      0x04 st (blockHeader 3 (key / 256) (key % 256) 0xFFFFFFFF 0)).1
    exact ⟨hframe, hcount, hwho, hreply⟩
  · exact (answered_answer h _ _ _).1

theorem Answered.sids {s u : State} {r : Requester} {st : Status} (h : Answered s u r st) :
    u.kop.sessions.map Session.sid = s.kop.sessions.map Session.sid := sids_of_who h.who

theorem Answered.frame_kop {s u : State} {r : Requester} {st : Status} (h : Answered s u r st) :
    u = { s with cnt := u.cnt, sent := u.sent, kop := u.kop } := by rw [h.frame]

/-- What replies change, answered or not: what is sent, its counts, and the sessions. -/
def ReplyFrame (s u : State) : Prop := u = { s with cnt := u.cnt, sent := u.sent, kop := u.kop }

theorem ReplyFrame.refl (s : State) : ReplyFrame s s := rfl

theorem ReplyFrame.trans {s u w : State} (hu : ReplyFrame s u) (hw : ReplyFrame u w) : ReplyFrame s w := by
  unfold ReplyFrame at hu
  exact Eq.trans hw (by rw [hu])

theorem ReplyFrame.foldl {α : Type} (f : State → α → State) (h : ∀ s x, ReplyFrame s (f s x)) (l : List α) (s : State) :
    ReplyFrame s (l.foldl f s) := by
  induction l generalizing s with
  | nil => exact .refl s
  | cons x l ih => exact (h s x).trans (ih _)

theorem replyFrame_bump (s : State) (k n : Nat) : ReplyFrame s (s.bump k n) := by
  obtain ⟨c, hc⟩ := s.bump_frame k n
  rw [hc]; rfl

theorem replyFrame_send (s : State) (m : Sent) (h : m.psns = none) : ReplyFrame s (s.send m) := by
  rw [send_frame_of_psns s m h]; rfl

theorem replyFrame_answer (s : State) (r : Requester) (type : Byte) (st : Status) (payload : Bytes) :
    ReplyFrame s (s.answer r type st payload) := by
  cases h : s.session? r.sid with
  | none => simp only [State.answer, h]; exact .refl s
  | some sn => exact (answered_answer (by rw [h]; rfl) type st payload).1.frame_kop

theorem replyFrame_replyWrite (s : State) (r : Requester) (key : Nat) (st : Status) : ReplyFrame s (s.replyWrite r key st) := by
  simp only [State.replyWrite]
  split
  · exact ReplyFrame.trans (u := { s with kop := _ }) rfl (replyFrame_answer _ _ _ _ _)
  · exact replyFrame_answer _ _ _ _ _

theorem ReplyFrame.mem {s u : State} (h : ReplyFrame s u) : u.mem = s.mem := by
  unfold ReplyFrame at h
  rw [h]

theorem ReplyFrame.tile {s u : State} (h : ReplyFrame s u) (t : Nat) : u.tile t = s.tile t := by
  unfold ReplyFrame at h
  rw [h]; rfl

theorem ReplyFrame.die {s u : State} (h : ReplyFrame s u) (d : Nat) : u.die d = s.die d := by
  unfold ReplyFrame at h
  rw [h]; rfl

theorem Answered.countQuiet {s u : State} {r : Requester} {st : Status} (h : Answered s u r st) {k : Nat} (hk : Quiet k) :
    u.count k = s.count k := h.count k (okey_portIndex_ne hk _).symm

/-- A write that may act acts. -/
theorem objWrite_of_may {s : State} {r : Requester} {idx sub : Nat} {v : Bytes} {extra : List Status} (h : WriteMay s r idx sub v [])
    (hx : extra = []) (act : State → State) : s.objWrite r idx sub v (objType idx sub) extra act = act s := by
  obtain ⟨sn, hsn, howner, hbusy, hok⟩ := h
  simp only [State.objWrite, hsn, howner, hbusy, hx, hok, Bool.false_eq_true, if_false, if_true]

theorem objWriteNow_of_may {s : State} {r : Requester} {idx sub : Nat} {v : Bytes} {extra : List Status} (h : WriteMay s r idx sub v [])
    (hx : extra = []) (act : State → State) :
    s.objWriteNow r idx sub v extra act = (act s).replyWrite r (okey idx sub) .ok := objWrite_of_may h hx _

theorem session_of_may {s : State} {r : Requester} {idx sub : Nat} {v : Bytes} {own : List Status} (h : WriteMay s r idx sub v own) :
    (s.session? r.sid).isSome = true := by
  obtain ⟨sn, hsn, -⟩ := h
  rw [hsn]; rfl

/-- A write that may act and is answered when it has acted: `w` is the state in which it has. -/
theorem answered_objWriteNow {s w : State} {r : Requester} {idx sub : Nat} {v : Bytes} {extra : List Status} {act : State → State}
    (h : WriteMay s r idx sub v []) (hx : extra = []) (hact : act s = w) (hkop : w.kop = s.kop) :
    Answered w (s.objWriteNow r idx sub v extra act) r .ok := by
  rw [objWriteNow_of_may h hx, hact]
  refine answered_replyWrite ?_ _ _
  rw [State.session?, hkop]
  exact session_of_may h

/-- A command that is such a write. -/
theorem exec_writeNow {i : Instr} {s w : State} {r : Requester} {idx sub : Nat} {v : Bytes} {extra : List Status} {act : State → State}
    (hmay : WriteMay s r idx sub v []) (hrun : exec i s = .next (s.objWriteNow r idx sub v extra act)) (hx : extra = []) (hact : act s = w)
    (hkop : w.kop = s.kop) : ∃ u, exec i s = .next u ∧ Answered w u r .ok :=
  ⟨_, hrun, answered_objWriteNow hmay hx hact hkop⟩

/-- A status condition that does not hold leaves no status. -/
theorem conds_of_false {b c : Bool} (hb : b = false) (hc : c = false) (x y : Status) : cond b x ++ cond c y = [] := by rw [hb, hc]; rfl

theorem beq_zero_of_ne {n : Nat} (h : n ≠ 0) : (n == 0) = false := by simpa using h

@[simp] theorem cond_false (st : Status) : cond false st = [] := rfl
theorem cond_of_eq_false {b : Bool} (h : b = false) (st : Status) : cond b st = [] := by rw [h]; rfl

end Sys2Proof.Machine
end

section
/-! SUPPORT. The soak fill (15 R412): an address of the filled die that the frame of the statement also names. -/

open Sys2Proof Sys2Proof.Machine Sys2Proof.Claims

namespace Sys2Proof.Machine

/-- Die 0 in its soak fill, with a byte of its stack memory set. -/
def soakingDieZero : State := { State.reset with dies := [(0, { state := .soak })], mem := [(0, 1)] }

/-- Refutes O22: in the last frame of the soak fill, `a` ranges over the die numbers (it is compared with `d * 2 ^ 42` for a `DieNo`, which
is taken modulo 64 and is zero), so the frame keeps bytes 0 to 63 of memory for every die; for die 0 the fill sets them to zero. -/
theorem not_integrityCommands : ¬ Obligations.IntegrityCommands := by
  unfold Obligations.IntegrityCommands
  rintro ⟨-, -, -, hfill⟩
  obtain ⟨u, -, -, hzero, -, hframe⟩ := hfill 0 0 soakingDieZero rfl rfl
  have hset : Memory.read u.mem 0 = Memory.read soakingDieZero.mem 0 := hframe 0 (.inr (by decide))
  have hclear : Memory.read u.mem 0 = 0 := hzero 0 (by decide)
  exact absurd (hset.symm.trans hclear) (by decide)

end Sys2Proof.Machine
end

section
/-! SUPPORT. Darning and the queue of repairs (15 R418 to R420; 16 R432, R433). -/

open Sys2Proof Sys2Proof.Machine Sys2Proof.Claims

namespace Sys2Proof.Machine

/-! Darning -/

theorem State.die_of_dies {s u : State} (h : u.dies = s.dies) (d : Nat) : u.die d = s.die d := by rw [State.die, h]; rfl

theorem mem_putRemap (es : List RemapEntry) (e : RemapEntry) : e ∈ putRemap es e := by simp [putRemap]

/-- A die with a remap entry in force, and the event that goes with it (R419). -/
def Die.darn (x : Die) (e : RemapEntry) (now : Nat) : Die :=
  { x with remaps := putRemap x.remaps e, events := x.events ++ [⟨.channel ⟨e.ch % 32, Nat.mod_lt _ (by decide)⟩, now⟩] }

/-- A remap in force before the ledger's write: the spare it took the place of is spent. -/
def State.darn (s : State) (e : RemapEntry) : State :=
  let old := (s.die e.die).remaps.find? (fun x => x.ch == e.ch && x.bank == e.bank && x.row == e.row)
  { s.modDie e.die (fun x => x.darn e s.now) with
    ledger := { s.ledger with spent := match old with | some o => s.ledger.spent ++ [(e.die, e.ch, o.spare)] | none => s.ledger.spent } }

theorem die_darn (s : State) (e : RemapEntry) : (s.darn e).die e.die = (s.die e.die).darn e s.now :=
  (State.die_of_dies (s := s.modDie e.die (fun x => x.darn e s.now)) rfl _).trans (s.die_modDie e.die _)

theorem installRemap_true (s : State) (e : RemapEntry) : s.installRemap e true =
    { s.darn e with ledger := { (s.darn e).ledger with remaps := putRemap (s.darn e).ledger.remaps e,
                                                       remapRecords := (s.darn e).ledger.remapRecords + 1 } } := rfl

theorem installRemap_false (s : State) (e : RemapEntry) : s.installRemap e false = (s.darn e).dbump e.die 3 0x0F 1 := rfl

/-- What an installed remap changes: its die's entries and events, and the ledger's copy where that was written. -/
theorem installRemap_effect (s : State) (e : RemapEntry) (ok : Bool) :
    e ∈ ((s.installRemap e ok).die e.die).remaps ∧
    (ok = true → e ∈ (s.installRemap e ok).ledger.remaps) ∧
    (ok = false → (s.installRemap e ok).ledger.remaps = s.ledger.remaps ∧
      (s.installRemap e ok).count (dkey e.die 3 0xF) = (s.count (dkey e.die 3 0xF) + 1) % 2 ^ 64) ∧
    s.installRemap e ok = { s with dies := (s.installRemap e ok).dies, ledger := (s.installRemap e ok).ledger, cnt := (s.installRemap e ok).cnt } := by
  have hin : e ∈ ((s.darn e).die e.die).remaps := by
    rw [die_darn]
    exact mem_putRemap _ _
  cases ok with
  | true =>
    rw [installRemap_true]
    exact ⟨hin, fun _ => mem_putRemap _ _, nofun, rfl⟩
  | false =>
    rw [installRemap_false]
    obtain ⟨c, hc⟩ := (s.darn e).bump_frame (dkey e.die 3 0xF) 1
    refine ⟨by rw [State.dbump, State.die_bump]; exact hin, nofun, fun _ => ⟨by rw [State.dbump, State.bump_ledger]; rfl, ?_⟩, ?_⟩
    · rw [State.dbump, State.count_bump, if_pos ⟨by omega, rfl⟩]
      rfl
    · rw [State.dbump, hc]; rfl

theorem exec_remap_spare {d : DieNo} {ch : Fin 32} {bank : Fin 16} {row n : Nat} {ok : Bool} {s : State}
    (hnext : s.nextRepair d (.row ch bank row) = true) (hgoing : s.popRepair.channelGoing d ch = false) (hfree : s.freeSpare d ch = some n) :
    exec (.remap d ch bank row ok) s = .next ((s.popRepair.installRemap ⟨d, ch, bank, n, row⟩ ok).log
      { kind := 6, resource := 1, die := d, unit := ch, sub := bank, row := row }) := by
  show execRemap d ch bank row ok s = _
  have hfree' : s.popRepair.freeSpare d ch = some n := hfree
  simp only [execRemap, hnext, hgoing, hfree', Bool.not_true, Bool.false_eq_true, if_false]

theorem exec_remap_none {d : DieNo} {ch : Fin 32} {bank : Fin 16} {row : Nat} {ok : Bool} {s : State}
    (hnext : s.nextRepair d (.row ch bank row) = true) (hgoing : s.popRepair.channelGoing d ch = false) (hfree : s.freeSpare d ch = none) : ∃ u,
    exec (.remap d ch bank row ok) s = .next
      { u.modDie d (fun x => { x with remapRefused := x.remapRefused ++ [(ch.val, bank.val, row)] }) with
        repairs := u.repairs ++ [⟨d, .channel ch, u.now⟩] } ∧ LogFrame (s.popRepair) u ∧
    u.count (dkey d 3 0xE) = (s.count (dkey d 3 0xE) + 1) % 2 ^ 64 := by
  have hfree' : s.popRepair.freeSpare d ch = none := hfree
  refine ⟨(s.popRepair.dbump d 3 0x0E 1).log
    { status := .refusedFit, kind := 4, resource := 1, die := d, unit := ch, sub := bank, row := row, reason := 8 }, ?_,
    (logFrame_bump _ _ _).trans (logFrame_log _ _), ?_⟩
  · show execRemap d ch bank row ok s = _
    simp only [execRemap, hnext, hgoing, hfree', Bool.not_true, Bool.false_eq_true, if_false]
    rfl
  · rw [State.count_log _ _ (quiet_dkey _ _ _), State.dbump, State.count_bump, if_pos ⟨by omega, rfl⟩]
    rfl

theorem LogFrame.repairs {s u : State} (h : LogFrame s u) : u.repairs = s.repairs ∧ u.now = s.now := by
  unfold LogFrame at h
  rw [h]; exact ⟨rfl, rfl⟩

/-! The queue of repairs -/

/-- A repair that is not moot joins the queue, and its events are spent (R433). -/
theorem queueRepair_effect {s : State} {d : Nat} {res : Resource} (h : s.repairMoot d res = false) :
    ⟨d, res, s.now⟩ ∈ (s.queueRepair d res).repairs ∧ (∀ r ∈ s.repairs, r ∈ (s.queueRepair d res).repairs) ∧
    (s.queueRepair d res).repairs.length = s.repairs.length + 1 ∧
    ((s.queueRepair d res).die d).events = (s.die d).events.filter (fun e => e.res ≠ res) ∧
    s.queueRepair d res = { s with repairs := (s.queueRepair d res).repairs, dies := (s.queueRepair d res).dies } := by
  generalize hr : (⟨d, res, s.now⟩ : Repair) = r
  have hrun : s.queueRepair d res = { s.modDie d (fun x => { x with events := x.events.filter (fun e => e.res ≠ res) }) with
      repairs := s.repairs.takeWhile (fun a => a.before r) ++ [r] ++ s.repairs.dropWhile (fun a => a.before r) } := by
    rw [← hr]
    simp only [State.queueRepair, h, Bool.false_eq_true, if_false]
    rfl
  have hsplit := List.takeWhile_append_dropWhile (p := fun a => a.before r) (l := s.repairs)
  rw [hrun]
  refine ⟨by simp, fun x hx => ?_, ?_, ?_, rfl⟩
  · rw [← hsplit, List.mem_append] at hx
    simp only [List.mem_append, List.mem_singleton]
    exact hx.elim (fun h => .inl (.inl h)) .inr
  · have hlen := congrArg List.length hsplit
    rw [List.length_append] at hlen
    simp only [List.length_append, List.length_singleton]
    omega
  · exact congrArg Die.events ((State.die_of_dies (s := s.modDie d (fun x => { x with events := x.events.filter (fun e => e.res ≠ res) }))
      rfl d).trans (s.die_modDie d _))

/-- Settles O23: a remap is `installRemap`, and a repair that comes due is `queueRepair`. -/
theorem repairCommands : Obligations.RepairCommands := by
  unfold Obligations.RepairCommands
  refine ⟨⟨fun d ch bank row n ok s hnext hgoing hfree => ?_, fun d ch bank row ok s hnext hgoing hfree => ?_⟩,
    fun d res s hth hmoot => ?_, fun d dir lane s hlink hlane hmoot => ?_⟩
  · obtain ⟨hin, hkeep, hlost, hframe⟩ := installRemap_effect s.popRepair ⟨d, ch, bank, n, row⟩ ok
    have hlog := logFrame_log (s.popRepair.installRemap ⟨d, ch, bank, n, row⟩ ok)
      { kind := 6, resource := 1, die := d, unit := ch, sub := bank, row := row }
    have hrecord := noticed_log (s.popRepair.installRemap ⟨d, ch, bank, n, row⟩ ok)
      { kind := 6, resource := 1, die := d, unit := ch, sub := bank, row := row }
    have hremaps : (State.log (s.popRepair.installRemap ⟨d, ch, bank, n, row⟩ ok)
        { kind := 6, resource := 1, die := d, unit := ch, sub := bank, row := row }).ledger.remaps =
        (s.popRepair.installRemap ⟨d, ch, bank, n, row⟩ ok).ledger.remaps := by
      rw [hrecord.frame]; rfl
    obtain ⟨hreps, -⟩ := hlog.repairs
    obtain ⟨-, hmem, hjobs, -⟩ := hlog.keeps
    refine ⟨_, exec_remap_spare hnext hgoing hfree, ?_, ?_, ?_, fun hok => ?_, fun hok => ⟨?_, ?_⟩, ?_, ?_⟩
    · rw [State.die_log]; exact hin
    · rw [hreps, hframe]; rfl
    · rw [State.flogSeq_log, hframe]; rfl
    · rw [hremaps]; exact hkeep hok
    · rw [hremaps]; exact (hlost hok).1
    · rw [State.count_log _ _ (quiet_dkey _ _ _)]; exact (hlost hok).2
    · rw [hmem, hframe]; rfl
    · rw [hjobs, hframe]; rfl
  · obtain ⟨u, hrun, hlog, hcount⟩ := exec_remap_none (ok := ok) hnext hgoing hfree
    obtain ⟨hreps, hnow⟩ := hlog.repairs
    have hdie := (State.die_of_dies (u := { u.modDie d (fun x => { x with remapRefused := x.remapRefused ++ [(ch.val, bank.val, row)] }) with
        repairs := u.repairs ++ [⟨d, .channel ch, u.now⟩] }) rfl d).trans (u.die_modDie d
      (fun x => { x with remapRefused := x.remapRefused ++ [(ch.val, bank.val, row)] }))
    refine ⟨_, hrun, ?_, ?_, ?_, hcount⟩
    · rw [hdie]
      show (u.die d).remaps = _
      rw [hlog.die]; rfl
    · rw [hdie]
      exact List.mem_append_right _ (List.mem_singleton_self _)
    · show u.repairs ++ [(⟨d, .channel ch, u.now⟩ : Repair)] = _
      rw [hreps, hnow]; rfl
  · obtain ⟨hin, hold, hlen, hev, hframe⟩ := queueRepair_effect hmoot
    refine ⟨_, ?_, hin, hold, hlen, hev, hframe⟩
    show execThresholdReached d res s = _
    simp only [execThresholdReached, ge_iff_le, hth, or_true, if_true]
  · obtain ⟨hin, -, hlen, -, hframe⟩ := queueRepair_effect hmoot
    refine ⟨_, ?_, hin, hlen, hframe⟩
    show execLinkLockLoss d dir lane s = _
    simp only [execLinkLockLoss, hlink, laneOk, decide_eq_true hlane, Bool.not_true, Bool.false_eq_true, or_self, if_false]

end Sys2Proof.Machine
end

section
/-! SUPPORT. Endings (11 R299, 16 R439): what the end of jobs and requests leaves alone, and how it leaves the jobs. -/

open Sys2Proof Sys2Proof.Machine Sys2Proof.Claims

namespace Sys2Proof.Machine

/-! What an ending changes, but for the jobs themselves -/

/-- The fields an ending can change. -/
def EndFrame (s u : State) : Prop :=
  u = { s with free := u.free, sent := u.sent, cnt := u.cnt, kop := u.kop, qps := u.qps, rings := u.rings, crings := u.crings,
               flog := u.flog, flogSeq := u.flogSeq, dies := u.dies, tiles := u.tiles, mem := u.mem, poison := u.poison, pages := u.pages,
               colls := u.colls, tables := u.tables, vocabs := u.vocabs, models := u.models, stores := u.stores,
               templates := u.templates, grammars := u.grammars, patches := u.patches, reqs := u.reqs, nextHandle := u.nextHandle,
               ledger := { s.ledger with sumPending := u.ledger.sumPending } }

/-- The fields of a die an ending can change. -/
def Die.torn (x y : Die) : Prop := y = { x with gathers := y.gathers, issueQ := y.issueQ, sigHeld := y.sigHeld, events := y.events }

/-- What the parts of an ending leave: all outside `EndFrame`; the dies' states; and the job of a tile, unless the tile loses it. -/
structure Tears (s u : State) : Prop where
  frame : EndFrame s u
  die : ∀ d, (s.die d).torn (u.die d)
  tileJob : ∀ t, (u.tile t).job = (s.tile t).job ∨ (u.tile t).job = none

theorem Tears.refl (s : State) : Tears s s := ⟨rfl, fun _ => rfl, fun _ => .inl rfl⟩

theorem Die.torn.trans {x y z : Die} (hy : x.torn y) (hz : y.torn z) : x.torn z := by
  unfold Die.torn at hy hz ⊢
  rw [hz, hy]

theorem Tears.trans {s u w : State} (hu : Tears s u) (hw : Tears u w) : Tears s w := by
  obtain ⟨fu, du, tu⟩ := hu
  obtain ⟨fw, dw, tw⟩ := hw
  refine ⟨?_, fun d => (du d).trans (dw d), fun t => ?_⟩
  · unfold EndFrame at fu
    exact Eq.trans fw (by rw [fu])
  · rcases tw t with h | h
    · rw [h]; exact tu t
    · exact .inr h

theorem Tears.foldl {α : Type} (f : State → α → State) (h : ∀ s x, Tears s (f s x)) (l : List α) (s : State) : Tears s (l.foldl f s) := by
  induction l generalizing s with
  | nil => exact .refl s
  | cons x l ih => exact (h s x).trans (ih _)

theorem Tears.ite {p : Prop} [Decidable p] {s u w : State} (hu : Tears s u) (hw : Tears s w) : Tears s (if p then u else w) := by
  split
  · exact hu
  · exact hw

theorem Tears.jobs {s u : State} (h : Tears s u) : u.jobs = s.jobs := by rw [h.frame]
theorem Tears.repairs {s u : State} (h : Tears s u) : u.repairs = s.repairs := by rw [h.frame]
theorem Tears.fuses {s u : State} (h : Tears s u) : u.fuses = s.fuses := by rw [h.frame]
theorem Tears.retired {s u : State} (h : Tears s u) : u.ledger.retired = s.ledger.retired := by rw [h.frame]
theorem Tears.dieState {s u : State} (h : Tears s u) (d : Nat) : (u.die d).state = (s.die d).state := by rw [h.die d]

theorem LogFrame.tears {s u : State} (h : LogFrame s u) : Tears s u := by
  refine ⟨?_, fun d => by rw [h.die d]; rfl, fun t => .inl (by rw [h.tile t])⟩
  unfold LogFrame at h
  rw [h]; rfl

theorem tears_bump (s : State) (k n : Nat) : Tears s (s.bump k n) := (logFrame_bump s k n).tears

theorem tears_modTile (s : State) (t : Nat) (f : Tile → Tile) (h : ∀ x, (f x).job = x.job ∨ (f x).job = none) : Tears s (s.modTile t f) := by
  refine ⟨rfl, fun _ => rfl, fun i => ?_⟩
  by_cases hi : t = i
  · subst hi; rw [State.tile_modTile]; exact h _
  · rw [State.modTile, State.tile_setTile_ne _ _ _ _ hi]; exact .inl rfl

theorem tears_modDie (s : State) (d : Nat) (f : Die → Die) (h : ∀ x : Die, x.torn (f x)) : Tears s (s.modDie d f) := by
  refine ⟨rfl, fun i => ?_, fun _ => .inl rfl⟩
  by_cases hi : d = i
  · subst hi; rw [State.die_modDie]; exact h _
  · rw [State.modDie, State.die_setDie_ne _ _ _ _ hi]; rfl

theorem tears_arrayEvent (s : State) (t : Nat) : Tears s (s.arrayEvent t) := by
  unfold State.arrayEvent State.dbump
  refine Tears.trans ?_ (tears_bump _ _ _)
  exact tears_modDie s _ _ fun _ => rfl

theorem tears_knownAnswer (s : State) (t : Nat) : Tears s (s.knownAnswer t) := by
  have hdraw : Tears s s.draw.2 := ⟨rfl, fun _ => rfl, fun _ => .inl rfl⟩
  simp only [State.knownAnswer]
  refine .ite (.refl s) (.ite hdraw (.ite (hdraw.trans (tears_arrayEvent _ _)) ?_))
  exact (hdraw.trans (tears_arrayEvent _ _)).trans (tears_arrayEvent _ _)

theorem tears_zeroRange (s : State) (a n : Nat) : Tears s (s.zeroRange a n) := ⟨rfl, fun _ => rfl, fun _ => .inl rfl⟩

theorem tears_setTile (s : State) (t : Nat) (x : Tile) (h : x.job = (s.tile t).job ∨ x.job = none) : Tears s (s.setTile t x) := by
  refine ⟨rfl, fun _ => rfl, fun i => ?_⟩
  by_cases hi : t = i
  · subst hi; rw [State.tile_setTile]; exact h
  · rw [State.tile_setTile_ne _ _ _ _ hi]; exact .inl rfl

theorem tears_blankTile (s : State) (t : Nat) : Tears s (s.blankTile t) := by
  simp only [State.blankTile]
  refine Tears.trans ?_ (tears_knownAnswer _ _)
  refine Tears.trans ?_ (tears_bump _ _ _)
  refine Tears.trans ?_ (tears_modDie _ _ _ fun _ => rfl)
  exact (tears_zeroRange s _ _).trans (tears_setTile _ _ _ (.inl rfl))

theorem tears_zeroTile (s : State) (t : Nat) : Tears s (s.zeroTile t) := (tears_blankTile s t).trans (tears_bump _ _ _)

theorem tears_powerOffIdle (s : State) (t : Nat) : Tears s (s.powerOffIdle t) := by
  unfold State.powerOffIdle
  exact .ite (.refl s) ((tears_zeroRange s _ _).trans (tears_setTile _ _ _ (.inr rfl)))

theorem tears_dropHeld (s : State) (j : Nat) : Tears s (s.dropHeld j) := by
  refine ⟨rfl, fun d => ?_, fun _ => .inl rfl⟩
  have hfind := find_map_values s.dies (fun x : Die => { x with sigHeld := x.sigHeld.filter (fun h => h.1 ≠ j) }) d
  unfold Die.torn
  simp only [State.die, State.dropHeld, KMap.getOr, hfind]
  cases KMap.find s.dies d <;> rfl

theorem tears_log (s : State) (r : LogRec) : Tears s (s.log r) := (logFrame_log s r).tears
theorem tears_notifyJob (s : State) (j st endSt : Nat) : Tears s (s.notifyJob j st endSt) := (logFrame_notify _ _ _).tears

theorem tears_failReq (s : State) (r : W32) (st : Status) : Tears s (s.failReq r st) := by
  unfold State.failReq
  split
  · exact .ite ⟨rfl, fun _ => rfl, fun _ => .inl rfl⟩ (.refl s)
  · exact .refl s

theorem tears_endReqs (s : State) (j : Nat) (st : Status) : Tears s (s.endReqs j st) := .foldl _ (fun _ _ => tears_failReq _ _ _) _ _

theorem tears_dropServices (s : State) (j : Nat) : Tears s (s.dropServices j) := ⟨rfl, fun _ => rfl, fun _ => .inl rfl⟩

/-! The end of a job (11 R299) -/

/-- A job that has ended. -/
def Job.ended (jb : Job) (st : Status) : Job :=
  { jb with state := .ended, endStatus := st, step := .none_, asked := false, savePending := [], cheapWait := [], saved := [],
            endedTiles := [], urgent := false }

/-- The tiles of a job that hold it. -/
def State.heldTiles (s : State) (j : Nat) (jb : Job) : List Nat := (jb.tiles.map (·.tile)).filter (fun t => (s.tile t).job == some j)

/-- Tiles zeroed and without their job. -/
def State.vacate (s : State) (held : List Nat) : State :=
  let s := held.foldl (fun s t => s.tbump t 9 6 (s.unusedStream t)) s
  let s := held.foldl State.zeroTile s
  held.foldl (fun s t => s.modTile t (fun x => { x with job := none })) s

/-- A job's requests ended, and its tiles vacated. -/
def State.leaveTiles (s : State) (j : Nat) (jb : Job) (st : Status) : State :=
  (s.endReqs j st).vacate ((s.endReqs j st).heldTiles j jb)

/-- A job's tiles Off, its held increments gone, and its end logged and notified. -/
def State.afterEnd (s : State) (j : Nat) (jb : Job) (st : Status) : State :=
  let s := (jb.tiles.map (·.tile)).foldl State.powerOffIdle s
  let s := s.dropHeld j
  let s := if st = .ok ∨ st = .versionGone then s else s.log { status := st, kind := 8, resource := 0x0C, job := j }
  s.notifyJob j 5 st.code

/-- A job's ending up to the unload that may wait for it. -/
def State.jobEnded (s : State) (j : Nat) (jb : Job) (st : Status) : State :=
  let u := s.leaveTiles j jb st
  (({ u with pages := endPages u.pages jb.regions }.dropServices j).setJob j (jb.ended st)).afterEnd j jb st

theorem endJob_eq {s : State} {j : Nat} {jb : Job} (st : Status) (hj : s.job? j = some jb) (hlive : jb.state ≠ .ended) : s.endJob j st =
    if jb.unload then ({ s.jobEnded j jb st with jobs := (s.jobEnded j jb st).jobs.del j } : State).notifyJob j 0 st.code
    else s.jobEnded j jb st := by
  simp only [State.endJob, hj, if_neg hlive]
  rfl

theorem endJob_of_none {s : State} {j : Nat} (st : Status) (hj : s.job? j = none) : s.endJob j st = s := by simp only [State.endJob, hj]
theorem endJob_of_ended {s : State} {j : Nat} {jb : Job} (st : Status) (hj : s.job? j = some jb) (h : jb.state = .ended) : s.endJob j st = s := by
  simp only [State.endJob, hj, if_pos h]

theorem tears_vacate (s : State) (held : List Nat) : Tears s (s.vacate held) := by
  simp only [State.vacate]
  refine Tears.trans ?_ (.foldl _ (fun _ _ => tears_modTile _ _ _ fun _ => .inr rfl) _ _)
  refine Tears.trans ?_ (.foldl _ (fun _ _ => tears_zeroTile _ _) _ _)
  exact .foldl _ (fun _ _ => tears_bump _ _ _) _ _

theorem tears_leaveTiles (s : State) (j : Nat) (jb : Job) (st : Status) : Tears s (s.leaveTiles j jb st) :=
  (tears_endReqs s j st).trans (tears_vacate _ _)

theorem tears_afterEnd (s : State) (j : Nat) (jb : Job) (st : Status) : Tears s (s.afterEnd j jb st) := by
  simp only [State.afterEnd]
  refine Tears.trans ?_ (tears_notifyJob _ _ _ _)
  refine Tears.trans ?_ (.ite (.refl _) (tears_log _ _))
  refine Tears.trans ?_ (tears_dropHeld _ _)
  exact .foldl _ (fun _ _ => tears_powerOffIdle _ _) _ _

theorem tears_pages (s : State) (ps : List Page) : Tears s { s with pages := ps } := ⟨rfl, fun _ => rfl, fun _ => .inl rfl⟩

/-- With the jobs put back an ending is one of its parts. -/
theorem Tears.withJobs {s u : State} (h : Tears s u) (js : KMap Job) : Tears { s with jobs := js } { u with jobs := js } := by
  obtain ⟨frame, die, tileJob⟩ := h
  refine ⟨?_, die, tileJob⟩
  unfold EndFrame at frame
  rw [frame]; rfl

/-- What an ending leaves, jobs apart. -/
def Ends (s u : State) : Prop := Tears { s with jobs := u.jobs } u

theorem Tears.ends {s u : State} (h : Tears s u) : Ends s u := by
  have hjobs := h.jobs
  unfold Ends
  rw [hjobs]; exact h

theorem ends_jobs (s : State) (js : KMap Job) : Ends s { s with jobs := js } := Tears.refl _

theorem Ends.trans {s u w : State} (hu : Ends s u) (hw : Ends u w) : Ends s w := (hu.withJobs w.jobs).trans hw

theorem Ends.foldl {α : Type} (f : State → α → State) (h : ∀ s x, Ends s (f s x)) (l : List α) (s : State) : Ends s (l.foldl f s) := by
  induction l generalizing s with
  | nil => exact (Tears.refl s).ends
  | cons x l ih => exact (h s x).trans (ih _)

theorem ends_jobEnded (s : State) (j : Nat) (jb : Job) (st : Status) : Ends s (s.jobEnded j jb st) := by
  simp only [State.jobEnded]
  refine Ends.trans ?_ (tears_afterEnd _ _ _ _).ends
  refine Ends.trans ?_ (ends_jobs _ (KMap.put _ j (jb.ended st)))
  exact (((tears_leaveTiles s j jb st).trans (tears_pages _ _)).trans (tears_dropServices _ _)).ends

theorem ends_endJob (s : State) (j : Nat) (st : Status) : Ends s (s.endJob j st) := by
  cases hj : s.job? j with
  | none => rw [endJob_of_none st hj]; exact (Tears.refl s).ends
  | some jb =>
    by_cases hlive : jb.state = .ended
    · rw [endJob_of_ended st hj hlive]; exact (Tears.refl s).ends
    · rw [endJob_eq st hj hlive]
      split
      · exact ((ends_jobEnded s j jb st).trans (ends_jobs _ _)).trans (tears_notifyJob _ _ _ _).ends
      · exact ends_jobEnded s j jb st

theorem jobs_jobEnded (s : State) (j : Nat) (jb : Job) (st : Status) : (s.jobEnded j jb st).jobs = s.jobs.put j (jb.ended st) := by
  simp only [State.jobEnded]
  rw [(tears_afterEnd _ _ _ _).jobs]
  show KMap.put (s.leaveTiles j jb st).jobs j _ = _
  rw [(tears_leaveTiles s j jb st).jobs]

/-- The jobs after one ends: it is ENDED, or gone where an unload waited for it. -/
theorem job_endJob {s : State} {j : Nat} {jb : Job} (st : Status) (hj : s.job? j = some jb) (hlive : jb.state ≠ .ended) (i : Nat) :
    (s.endJob j st).job? i = if j = i then (if jb.unload then none else some (jb.ended st)) else s.job? i := by
  have hput := jobs_jobEnded s j jb st
  rw [endJob_eq st hj hlive]
  split
  · rw [State.job?, (tears_notifyJob _ _ _ _).jobs]
    show KMap.find (KMap.del (s.jobEnded j jb st).jobs j) i = _
    rw [hput, KMap.find_del, KMap.find_put]
    split <;> rfl
  · rw [State.job?, hput, KMap.find_put]; rfl

/-- Once a fold of endings is over, none of its jobs is left but ENDED. -/
theorem job_endJob_ended (s : State) (j : Nat) (st : Status) {jb : Job} (h : (s.endJob j st).job? j = some jb) : jb.state = .ended := by
  cases hj : s.job? j with
  | none => rw [endJob_of_none st hj, hj] at h; exact nomatch h
  | some x =>
    by_cases hlive : x.state = .ended
    · rw [endJob_of_ended st hj hlive, hj] at h
      obtain rfl := Option.some.inj h
      exact hlive
    · rw [job_endJob st hj hlive, if_pos rfl] at h
      split at h
      · exact nomatch h
      · obtain rfl := Option.some.inj h
        rfl

/-- An ended job stays ENDED while others end. -/
theorem job_endJob_stays (s : State) (j i : Nat) (st : Status) (h : ∀ jb, s.job? i = some jb → jb.state = .ended) {jb : Job}
    (hi : (s.endJob j st).job? i = some jb) : jb.state = .ended := by
  by_cases hji : j = i
  · subst hji; exact job_endJob_ended s j st hi
  · cases hj : s.job? j with
    | none => rw [endJob_of_none st hj] at hi; exact h jb hi
    | some x =>
      by_cases hlive : x.state = .ended
      · rw [endJob_of_ended st hj hlive] at hi; exact h jb hi
      · rw [job_endJob st hj hlive, if_neg hji] at hi; exact h jb hi

theorem job_foldl_endJob {l : List Nat} {st : Status} {i : Nat} {s : State}
    (h : i ∈ l ∨ ∀ jb, s.job? i = some jb → jb.state = .ended) {jb : Job}
    (hi : (l.foldl (fun s j => s.endJob j st) s).job? i = some jb) : jb.state = .ended := by
  induction l generalizing s with
  | nil => exact h.elim (fun h => nomatch h) fun h => h jb hi
  | cons j l ih =>
    refine ih ?_ hi
    rcases h with hmem | hended
    · rcases List.mem_cons.1 hmem with rfl | hl
      · exact .inr fun _ => job_endJob_ended s i st
      · exact .inl hl
    · exact .inr fun _ => job_endJob_stays s j i st hended

/-! Tiles that a job leaves -/

theorem job_foldl_clear (l : List Nat) (s : State) (t : Nat) (h : t ∈ l) :
    ((l.foldl (fun s t => s.modTile t (fun x => { x with job := none })) s).tile t).job = none := by
  induction l generalizing s with
  | nil => nomatch h
  | cons i l ih =>
    have hkeep : ∀ u : State, (u.tile t).job = none →
        ((l.foldl (fun s t => s.modTile t (fun x => { x with job := none })) u).tile t).job = none := fun u hu => by
      have htear := Tears.foldl (fun (s : State) t => s.modTile t (fun x => { x with job := none }))
        (fun _ _ => tears_modTile _ _ _ fun _ => .inr rfl) l u
      exact (htear.tileJob t).elim (fun h => h.trans hu) id
    rcases List.mem_cons.1 h with rfl | hl
    · exact hkeep _ (by rw [State.tile_modTile])
    · exact ih _ hl

/-- None of a job's tiles holds it once it has ended. -/
theorem tile_endJob {s : State} {j : Nat} {jb : Job} (st : Status) (hj : s.job? j = some jb) (hlive : jb.state ≠ .ended) {d : TileDecl}
    (hd : d ∈ jb.tiles) : ((s.endJob j st).tile d.tile).job ≠ some j := by
  have hleave : ((s.leaveTiles j jb st).tile d.tile).job ≠ some j := by
    by_cases hheld : d.tile ∈ (s.endReqs j st).heldTiles j jb
    · rw [State.leaveTiles, State.vacate, job_foldl_clear _ _ _ hheld]
      exact nofun
    · have hnot : ((s.endReqs j st).tile d.tile).job ≠ some j := fun h =>
        hheld (List.mem_filter.2 ⟨List.mem_map.2 ⟨d, hd, rfl⟩, by simp [h]⟩)
      rw [State.leaveTiles]
      rcases (tears_vacate (s.endReqs j st) ((s.endReqs j st).heldTiles j jb)).tileJob d.tile with h | h
      · rw [h]; exact hnot
      · rw [h]; exact nofun
  have hended : ((s.jobEnded j jb st).tile d.tile).job ≠ some j := by
    simp only [State.jobEnded]
    rcases (tears_afterEnd _ j jb st).tileJob d.tile with h | h
    · rw [h]; exact hleave
    · rw [h]; exact nofun
  rw [endJob_eq st hj hlive]
  split
  · rcases (tears_notifyJob ({ s.jobEnded j jb st with jobs := (s.jobEnded j jb st).jobs.del j } : State) j 0 st.code).tileJob d.tile with h | h
    · rw [h]; exact hended
    · rw [h]; exact nofun
  · exact hended

/-! Endings a die or a tile brings about (16 R438, R439) -/

theorem ends_abortJobs (s : State) (which : Job → Bool) : Ends s (s.abortJobs which) := .foldl _ (fun _ _ => ends_endJob _ _ _) _ _

theorem tears_fetch (s : State) (n : Nat) (x : ReqRing) (c : CompRing) : Tears s (s.fetch n x c).2.2 := by
  unfold State.fetch
  dsimp only
  have hnumber : ∀ (u : State) (h : Nat), Tears u { u with nextHandle := h } := fun _ _ => ⟨rfl, fun _ => rfl, fun _ => .inl rfl⟩
  refine Tears.trans ?_ (hnumber _ _)
  refine Tears.trans ?_ (tears_bump _ _ _)
  exact ⟨rfl, fun _ => rfl, fun _ => .inl rfl⟩

theorem tears_setReq (s : State) (r : W32) (x : Request) : Tears s (s.setReq r x) := ⟨rfl, fun _ => rfl, fun _ => .inl rfl⟩

theorem tears_abortEntries (s : State) (n k : Nat) : Tears s (s.abortEntries n k) := by
  induction k generalizing s with
  | zero => exact .refl s
  | succ k ih =>
    simp only [State.abortEntries]
    split
    · exact .refl s
    · split
      · exact ⟨rfl, fun _ => rfl, fun _ => .inl rfl⟩
      · refine Tears.trans ?_ (ih _)
        refine Tears.trans ?_ (tears_setReq _ _ _)
        exact tears_fetch _ _ _ _

theorem tears_abortRing (s : State) (n : Nat) : Tears s (s.abortRing n) := by
  simp only [State.abortRing]
  split
  · refine Tears.trans ?_ (tears_abortEntries _ _ _)
    exact .foldl _ (fun _ _ => tears_failReq _ _ _) _ _
  · exact .foldl _ (fun _ _ => tears_failReq _ _ _) _ _

theorem tears_abortRings (s : State) (l : List Nat) : Tears s (l.foldl State.abortRing s) := .foldl _ (fun _ _ => tears_abortRing _ _) _ _

theorem ends_abortDie (s : State) (d : Nat) : Ends s (s.abortDie d) := (ends_abortJobs s _).trans (tears_abortRings _ _).ends

theorem find_mem {α : Type} {m : KMap α} {k : Nat} {v : α} (h : KMap.find m k = some v) : (k, v) ∈ m := by
  induction m with
  | nil => exact nomatch h
  | cons e m ih =>
    obtain ⟨i, w⟩ := e
    simp only [KMap.find] at h
    split at h
    · rename_i hi
      obtain rfl := Option.some.inj h
      exact hi ▸ List.mem_cons_self
    · exact List.mem_cons_of_mem _ (ih h)

/-- The jobs on a die that is aborted have ended. -/
theorem job_abortDie {s : State} {d j : Nat} {jb : Job} (hj : s.job? j = some jb) (hon : jb.onDie d = true) {jb' : Job}
    (h : (s.abortDie d).job? j = some jb') : jb'.state = .ended := by
  have h' : (s.abortJobs (fun jb => jb.onDie d)).job? j = some jb' := by
    rw [← h, State.job?, State.job?, State.abortDie, (tears_abortRings _ _).jobs]
  by_cases hlive : jb.state = .ended
  · exact job_foldl_endJob (.inr fun x hx => Option.some.inj (hj.symm.trans hx) ▸ hlive) h'
  · refine job_foldl_endJob (.inl (List.mem_map.2 ⟨(j, jb), List.mem_filter.2 ⟨List.mem_filter.2 ⟨find_mem hj, by simpa using hlive⟩, hon⟩, rfl⟩)) h'

theorem Ends.repairs {s u : State} (h : Ends s u) : u.repairs = s.repairs :=
  Tears.repairs (s := { s with jobs := u.jobs }) h
theorem Ends.retired {s u : State} (h : Ends s u) : u.ledger.retired = s.ledger.retired :=
  Tears.retired (s := { s with jobs := u.jobs }) h
theorem Ends.fuses {s u : State} (h : Ends s u) : u.fuses = s.fuses :=
  Tears.fuses (s := { s with jobs := u.jobs }) h
theorem Ends.dieState {s u : State} (h : Ends s u) (d : Nat) : (u.die d).state = (s.die d).state :=
  Tears.dieState (s := { s with jobs := u.jobs }) h d

theorem Ends.isRetired {s u : State} (h : Ends s u) (r : Retired) : u.isRetired r = s.isRetired r := by
  rw [State.isRetired, h.retired]; rfl

end Sys2Proof.Machine
end

section
/-! SUPPORT. Links and retirements (16 R429 to R439, R445). -/

open Sys2Proof Sys2Proof.Machine Sys2Proof.Claims

namespace Sys2Proof.Machine

/-! Links -/

theorem queueRepair_moot {s : State} {d : Nat} {res : Resource} (h : s.repairMoot d res = true) : s.queueRepair d res = s := by
  simp only [State.queueRepair, h, if_true]

/-- Queued repairs change the queue and the events of dies. -/
def QueueRepairFrame (s u : State) : Prop :=
  u = { s with repairs := u.repairs, dies := u.dies } ∧ ∀ d, (u.die d).retraining = (s.die d).retraining

theorem QueueRepairFrame.trans {s u w : State} (hu : QueueRepairFrame s u) (hw : QueueRepairFrame u w) : QueueRepairFrame s w := by
  obtain ⟨fu, du⟩ := hu
  obtain ⟨fw, dw⟩ := hw
  exact ⟨fw.trans (by rw [fu]), fun d => (dw d).trans (du d)⟩

theorem queueRepair_frame (s : State) (d : Nat) (res : Resource) : QueueRepairFrame s (s.queueRepair d res) := by
  unfold State.queueRepair
  split
  · exact ⟨rfl, fun _ => rfl⟩
  · refine ⟨rfl, fun i => ?_⟩
    refine (congrArg Die.retraining (State.die_of_dies (s := s.modDie d (fun x =>
      { x with events := x.events.filter (fun e => e.res ≠ res) })) rfl i)).trans ?_
    exact State.modDie_part Die.retraining s d i _ rfl

theorem queueRepairs_frame (s : State) (d : Nat) (dir : Fin 4) (l : List Nat) :
    QueueRepairFrame s (l.foldl (fun s l => s.queueRepair d (.lane dir l)) s) := by
  induction l generalizing s with
  | nil => exact ⟨rfl, fun _ => rfl⟩
  | cons x l ih => exact (queueRepair_frame s d (.lane dir x)).trans (ih _)

/-- Both directions of a link retrain. -/
def State.retrainBoth (s : State) (d e dir : Nat) : State :=
  (s.modDie d (fun x => { x with retraining := x.retraining.add dir })).modDie e (fun x => { x with retraining := x.retraining.add (opposite dir) })

theorem mem_retrainBoth (s : State) (d e dir : Nat) :
    dir ∈ ((s.retrainBoth d e dir).die d).retraining ∧ opposite dir ∈ ((s.retrainBoth d e dir).die e).retraining := by
  unfold State.retrainBoth
  refine ⟨?_, ?_⟩
  · by_cases he : e = d
    · subst he
      rw [State.die_modDie, State.die_modDie]
      exact (NSet.mem_add _ _ _).2 (.inr ((NSet.mem_add _ _ _).2 (.inl rfl)))
    · rw [State.modDie, State.die_setDie_ne _ _ _ _ he, State.die_modDie]
      exact (NSet.mem_add _ _ _).2 (.inl rfl)
  · rw [State.die_modDie]
    exact (NSet.mem_add _ _ _).2 (.inl rfl)

/-! Retirements -/

theorem isRetired_iff (s : State) (r : Retired) : s.isRetired r = true ↔ r ∈ s.ledger.retired := by simp [State.isRetired]

theorem isRetired_of_retired {s u : State} (h : u.ledger.retired = s.ledger.retired) (r : Retired) : u.isRetired r = s.isRetired r := by
  rw [State.isRetired, h]; rfl

/-- What the record of a retirement changes. -/
theorem retire_effect (s : State) (d : Nat) (r : Retired) (rec : LogRec) :
    (s.retire d r rec).ledger.retired = s.ledger.retired ++ [r] ∧
    (s.retire d r rec).count (dkey d 4 6) = (s.count (dkey d 4 6) + 1) % 2 ^ 64 ∧
    LogFrame { s with ledger := { s.ledger with retired := s.ledger.retired ++ [r], retiredRecords := s.ledger.retiredRecords + 1 } }
      (s.retire d r rec) := by
  simp only [State.retire]
  generalize hv : ({ s with ledger := { s.ledger with retired := s.ledger.retired ++ [r], retiredRecords := s.ledger.retiredRecords + 1 } } : State) = v
  have hframe : LogFrame v ((v.dbump d 4 6 1).log { rec with kind := 5, die := d }) := (logFrame_bump _ _ _).trans (logFrame_log _ _)
  have hv1 : v.ledger.retired = s.ledger.retired ++ [r] := by rw [← hv]
  have hv2 : v.count (dkey d 4 6) = s.count (dkey d 4 6) := by rw [← hv]; rfl
  refine ⟨?_, ?_, hframe⟩
  · unfold LogFrame at hframe
    rw [hframe]; exact hv1
  · rw [State.count_log _ _ (quiet_dkey _ _ _), State.dbump, State.count_bump, if_pos ⟨by omega, rfl⟩, hv2]

theorem retired_of_retire {s u : State} {d : Nat} {r : Retired} {rec : LogRec} (h : u.ledger.retired = (s.retire d r rec).ledger.retired) :
    u.isRetired r = true := by
  rw [isRetired_iff, h, (retire_effect s d r rec).1]
  exact List.mem_append_right _ (List.mem_singleton_self r)

/-- What a retirement's record leaves: all but the ledger and what a log record changes. -/
theorem retire_keeps (s : State) (d : Nat) (r : Retired) (rec : LogRec) :
    (s.retire d r rec).repairs = s.repairs ∧ (s.retire d r rec).tiles = s.tiles ∧ (s.retire d r rec).dies = s.dies ∧
    (s.retire d r rec).mem = s.mem ∧ (s.retire d r rec).jobs = s.jobs ∧ (s.retire d r rec).fuses = s.fuses ∧
    (s.retire d r rec).routed = s.routed := by
  have h := (retire_effect s d r rec).2.2
  unfold LogFrame at h
  rw [h]
  exact ⟨rfl, rfl, rfl, rfl, rfl, rfl, rfl⟩

/-- A link of a state whose retired-resource map is the same. -/
theorem linkRetired_of_retired {s u : State} (h : u.ledger.retired = s.ledger.retired) (d dir : Nat) : u.linkRetired d dir = s.linkRetired d dir := by
  simp only [State.linkRetired, State.lanesRetired, h]

theorem liveChannels_of_retired {s u : State} (h : u.ledger.retired = s.ledger.retired) (d : Nat) : u.liveChannels d = s.liveChannels d := by
  simp only [State.liveChannels, State.isRetired, h]

theorem arrayLive_of_retired {s : State} {t : Nat} (h : s.isRetired (.array t) = true) : s.arrayLive t = false := by
  simp [State.arrayLive, h]

/-- An array retired: its record is in the map, whatever was there before. -/
theorem retireArray_effect {s : State} {t : Nat} (h : s.arrayLive t = true) :
    (s.retireArray t).ledger.retired = s.ledger.retired ++ [.array t] ∧ (s.retireArray t).repairs = s.repairs := by
  simp only [State.retireArray, h, Bool.not_true, Bool.false_eq_true, if_false]
  have hr := (retire_effect s (dieOf t) (.array t) { kind := 5, resource := 6, tile := tileOf t }).1
  have hk := (retire_keeps s (dieOf t) (.array t) { kind := 5, resource := 6, tile := tileOf t }).1
  exact ⟨hr, hk⟩

theorem retireArray_repairs (s : State) (t : Nat) : (s.retireArray t).repairs = s.repairs := by
  cases h : s.arrayLive t with
  | true => exact (retireArray_effect h).2
  | false => simp only [State.retireArray, h, Bool.not_false, if_true]

/-! What each retirement leaves -/

theorem tile_clearDie (s : State) (d : Nat) {i : Nat} (hi : i < 144) : (s.clearDie d).tile (144 * d + i) = {} := by
  have htiles : (s.clearDie d).tiles = KMap.delRange s.tiles (144 * d) (144 * d + 144) := rfl
  rw [State.tile, htiles, KMap.getOr, KMap.find_delRange, if_pos (by omega)]; rfl

theorem die_clearDie (s : State) (d : Nat) : (s.clearDie d).die d = (s.die d).cleared := by
  unfold State.clearDie
  rw [State.die_modDie]
  rfl

/-- A tile's tables back to raw, its SRAM zero, and the tile as if never used. -/
def State.tileGone (s : State) (t : Nat) : State := ((s.rawTables t).zeroRange (sramFa t 0) sramEnd).setTile t {}

theorem tileGone_keeps (s : State) (t : Nat) :
    (s.tileGone t).repairs = s.repairs ∧ (s.tileGone t).ledger = s.ledger ∧ (s.tileGone t).tile t = {} :=
  ⟨rfl, rfl, State.tile_setTile _ _ _⟩

theorem tileRetire_effect (t : TileNo) (s : State) (h : s.nextTile t = true) : ∃ u, exec (.tileRetire t) s = .next u ∧
    u.isRetired (.tile t) = true ∧ u.arrayLive t = false ∧ u.tile t = {} ∧ u.repairs = s.repairs.drop 1 := by
  have hrun : exec (.tileRetire t) s = .next ((((s.popRepair.abortTile t).retireArray t).retire (dieOf t) (.tile t)
      { kind := 5, resource := 7, tile := tileOf t }).tileGone t) := by
    show execTileRetire t s = _
    simp only [execTileRetire, h, Bool.not_true, Bool.false_eq_true, if_false]
    rfl
  have hends : (s.popRepair.abortTile t).repairs = s.repairs.drop 1 := (ends_abortJobs s.popRepair _).repairs
  obtain ⟨hret, -, -⟩ := retire_effect ((s.popRepair.abortTile t).retireArray t) (dieOf t) (.tile t)
    { kind := 5, resource := 7, tile := tileOf t }
  obtain ⟨hkeep, -⟩ := retire_keeps ((s.popRepair.abortTile t).retireArray t) (dieOf t) (.tile t)
    { kind := 5, resource := 7, tile := tileOf t }
  generalize State.retire ((s.popRepair.abortTile t).retireArray t) (dieOf t) (.tile t) { kind := 5, resource := 7, tile := tileOf t } = v
    at hrun hret hkeep
  obtain ⟨hreps, hledger, htile⟩ := tileGone_keeps v t
  have hretired : (v.tileGone t).isRetired (.tile t) = true := by
    rw [isRetired_iff, hledger, hret]
    exact List.mem_append_right _ (List.mem_singleton_self _)
  refine ⟨_, hrun, hretired, ?_, htile, ?_⟩
  · simp only [State.arrayLive, hretired, Bool.not_true, Bool.and_false, Bool.false_and]
  · rw [hreps, hkeep, retireArray_repairs, hends]

theorem arrayRetire_effect (t : TileNo) (s : State) (h : s.nextRepair (dieOf t) (.array ⟨tileOf t, Nat.mod_lt _ (by decide)⟩) = true)
    (hlive : s.arrayLive t = true) : ∃ u, exec (.arrayRetire t) s = .next u ∧ u.isRetired (.array t) = true ∧ u.arrayLive t = false ∧
    u.repairs = s.repairs.drop 1 := by
  have hrun : exec (.arrayRetire t) s = .next ((s.popRepair.retireArray t).abortTile t) := by
    show execArrayRetire t s = _
    simp only [execArrayRetire, h, Bool.not_true, Bool.false_eq_true, if_false]
  obtain ⟨hret, hreps⟩ := retireArray_effect (s := s.popRepair) (t := t) hlive
  have hends : Ends (s.popRepair.retireArray t) ((s.popRepair.retireArray t).abortTile t) := ends_abortJobs _ _
  have hgone : State.isRetired ((s.popRepair.retireArray t).abortTile t) (.array t) = true := by
    rw [hends.isRetired, isRetired_iff, hret]
    exact List.mem_append_right _ (List.mem_singleton_self _)
  exact ⟨_, hrun, hgone, arrayLive_of_retired hgone, hends.repairs.trans hreps⟩

/-- The repairs of a die that is gone leave the queue, but for those of its lanes. -/
def State.dropRepairs (s : State) (d : Nat) : State :=
  { s with repairs := s.repairs.filter (fun r => r.die ≠ d || (match r.res with | .lane _ _ => true | _ => false)) }

theorem dieRetire_effect (d : DieNo) (s : State) (h : s.isRetired (.die d) = false) (hspent : s.dieSpent d = true) : ∃ u,
    exec (.dieRetire d) s = .next u ∧ u.isRetired (.die d) = true ∧ (u.die d).powered = false ∧ (u.die d).state = .off ∧
    ∀ i < 144, u.tile (144 * d + i) = {} := by
  have hrun : exec (.dieRetire d) s = .next (((((State.retire (s.abortDie d) d (.die d) { kind := 5, resource := 0x0B }).dropRepairs d).clearDie d).modDie d
      (fun x => { x with powered := false })).setDieState d .off) := by
    show execDieRetire d s = _
    simp only [execDieRetire, h, hspent, Bool.not_true, Bool.false_eq_true, or_self, if_false]
    rfl
  obtain ⟨hret, -, -⟩ := retire_effect (s.abortDie d) d (.die d) { kind := 5, resource := 0x0B }
  generalize State.retire (s.abortDie d) d (.die d) { kind := 5, resource := 0x0B } = v at hrun hret
  have hset := readied_setDieState (((v.dropRepairs d).clearDie d).modDie d (fun x => { x with powered := false })) d .off
  refine ⟨_, hrun, ?_, ?_, ?_, fun i hi => ?_⟩
  · rw [isRetired_iff, hset.noticed.frame]
    show _ ∈ v.ledger.retired
    rw [hret]
    exact List.mem_append_right _ (List.mem_singleton_self _)
  · rw [State.die_setDieState, State.die_modDie]
  · rw [State.die_setDieState]
  · exact (hset.tile _).trans (tile_clearDie (v.dropRepairs d) d hi)

/-- The remaps and the queued remaps of a channel that is gone leave with it. -/
def State.channelGone (s : State) (d : Nat) (ch : Fin 32) : State :=
  ({ s with
    ledger := { s.ledger with remaps := s.ledger.remaps.filter (fun e => !(e.die == d && e.ch == ch.val)) },
    repairs := s.repairs.filter (fun r => !(r.die == d && (match r.res with | .row c _ _ => c == ch | _ => false))) } : State).modDie d
      (fun x => { x with remaps := x.remaps.filter (fun e => !(e.die == d && e.ch == ch.val)) })

theorem channelGone_keeps (s : State) (d : Nat) (ch : Fin 32) :
    (s.channelGone d ch).ledger.retired = s.ledger.retired ∧ (s.channelGone d ch).pages = s.pages ∧
    ((s.channelGone d ch).die d).state = (s.die d).state := by
  refine ⟨rfl, rfl, ?_⟩
  unfold State.channelGone
  rw [State.die_modDie]
  rfl

theorem logFrame_cutRegions (s : State) (d : Nat) : ∃ rs, LogFrame { s with regions := rs } (s.cutRegions d) := by
  have hfold : ∀ (l : List RegionEntry) (u : State), LogFrame u (l.foldl (fun s e =>
      s.log { kind := 5, resource := 0x0A, die := d, fa := e.base, job := e.domain }) u) := by
    intro l
    induction l with
    | nil => exact fun u => rfl
    | cons e l ih => exact fun u => (logFrame_log u _).trans (ih _)
  exact ⟨_, hfold _ _⟩

/-- A die that fills again, and its regions cut (R436). -/
def State.refillDie (s : State) (d : Nat) : State :=
  ((s.modDie d (fun x => { x.noRequests with rebuild := true })).setDieState d .soak).cutRegions d

theorem LogFrame.map_pages {s u : State} (h : LogFrame s u) : u.ledger.retired = s.ledger.retired ∧ u.pages = s.pages ∧ u.routed = s.routed := by
  unfold LogFrame at h
  rw [h]; exact ⟨rfl, rfl, rfl⟩

theorem Readied.map_pages {s u : State} (h : Readied s u) : u.ledger = s.ledger ∧ u.pages = s.pages := by
  rw [h.noticed.frame]; exact ⟨rfl, rfl⟩

theorem refillDie_keeps (s : State) (d : Nat) : (s.refillDie d).ledger.retired = s.ledger.retired ∧ (s.refillDie d).pages = s.pages ∧
    ((s.refillDie d).die d).state = .soak := by
  obtain ⟨hledger, hpages⟩ := (readied_setDieState (s.modDie d (fun x => { x.noRequests with rebuild := true })) d .soak).map_pages
  have hdie := congrArg Die.state (State.die_setDieState (s.modDie d (fun x => { x.noRequests with rebuild := true })) d .soak)
  unfold State.refillDie
  generalize (s.modDie d (fun x => { x.noRequests with rebuild := true })).setDieState d .soak = v at hledger hpages hdie
  obtain ⟨rs, hcut⟩ := logFrame_cutRegions v d
  obtain ⟨hcret, hcpages, -⟩ := hcut.map_pages
  exact ⟨hcret.trans (congrArg Ledger.retired hledger), hcpages.trans hpages, (congrArg Die.state (hcut.die d)).trans hdie⟩

theorem channelRetire_effect (d : DieNo) (ch : Fin 32) (s : State) (h : s.nextRepair d (.channel ch) = true) : ∃ u,
    exec (.channelRetire d ch) s = .next u ∧ u.isRetired (.channel d ch) = true ∧ (∀ p ∈ u.pages, faDie p.base ≠ d) ∧
    ch.val ∉ u.liveChannels d ∧ ((s.die d).state = .ready → u.liveChannels d ≠ [] → (u.die d).state = .soak) := by
  have hrun : exec (.channelRetire d ch) s = .next
      (let v := (((s.popRepair.retire d (.channel d ch) { kind := 5, resource := 8, unit := ch }).abortDie d).dropPages d).channelGone d ch
       if v.liveChannels d = [] ∨ (v.die d).state ≠ .ready then v else v.refillDie d) := by
    show execChannelRetire d ch s = _
    simp only [execChannelRetire, h, Bool.not_true, Bool.false_eq_true, if_false]
    rfl
  obtain ⟨hret, -, -⟩ := retire_effect s.popRepair d (.channel d ch) { kind := 5, resource := 8, unit := ch }
  obtain ⟨-, -, hdies, -⟩ := retire_keeps s.popRepair d (.channel d ch) { kind := 5, resource := 8, unit := ch }
  have hdie : ((s.popRepair.retire d (.channel d ch) { kind := 5, resource := 8, unit := ch }).die d).state = (s.die d).state :=
    congrArg Die.state (State.die_of_dies hdies d)
  generalize s.popRepair.retire d (.channel d ch) { kind := 5, resource := 8, unit := ch } = v at hrun hret hdie
  have hends := ends_abortDie v d
  obtain ⟨hgret, hgpages, hgdie⟩ := channelGone_keeps ((v.abortDie d).dropPages d) d ch
  have hpages : ∀ p ∈ (((v.abortDie d).dropPages d).channelGone d ch).pages, faDie p.base ≠ d := by
    rw [hgpages]
    exact fun p hp => by simpa using (List.mem_filter.1 hp).2
  have hmap : (((v.abortDie d).dropPages d).channelGone d ch).ledger.retired = v.ledger.retired := hgret.trans hends.retired
  have hstate : ((((v.abortDie d).dropPages d).channelGone d ch).die d).state = (s.die d).state :=
    hgdie.trans ((hends.dieState d).trans hdie)
  generalize ((v.abortDie d).dropPages d).channelGone d ch = w at hrun hpages hmap hstate
  have hin : .channel d ch ∈ w.ledger.retired := by
    rw [hmap, hret]
    exact List.mem_append_right _ (List.mem_singleton_self _)
  have hdead : ∀ u : State, u.ledger.retired = w.ledger.retired → u.isRetired (.channel d ch) = true ∧ ch.val ∉ u.liveChannels d := by
    intro u hu
    have hgone : u.isRetired (.channel d ch) = true := by rw [isRetired_iff, hu]; exact hin
    exact ⟨hgone, fun hmem => by simp [State.liveChannels, hgone] at hmem⟩
  refine ⟨_, hrun, ?_⟩
  dsimp only
  split
  · rename_i hstay
    obtain ⟨hgone, hlive⟩ := hdead w rfl
    exact ⟨hgone, hpages, hlive, fun hready hne => absurd hstay (by simp [hne, hstate, hready])⟩
  · obtain ⟨hrret, hrpages, hrdie⟩ := refillDie_keeps w d
    obtain ⟨hgone, hlive⟩ := hdead _ hrret
    exact ⟨hgone, by rw [hrpages]; exact hpages, hlive, fun _ _ => hrdie⟩

theorem Ends.routed {s u : State} (h : Ends s u) : u.routed = s.routed := by
  have hframe : EndFrame { s with jobs := u.jobs } u := h.frame
  unfold EndFrame at hframe
  rw [hframe]

/-- A link out of the routes, neither direction of it retraining. -/
def State.unroute (s : State) (d e dir : Nat) : State :=
  ((({ s with routed := (s.routed.add (linkKey d dir)).add (linkKey e (opposite dir)) } : State).modDie d
    (fun x => { x with retraining := x.retraining.del dir })).modDie e (fun x => { x with retraining := x.retraining.del (opposite dir) }))

/-- Settles O24: a retirement's record is `retire`, and what an ending leaves is `Ends`. -/
theorem linksAndRetirements : Obligations.LinksAndRetirements := by
  unfold Obligations.LinksAndRetirements
  refine ⟨⟨fun d dir lanes n s hlink => ?_, fun d dir failed s hmem => ?_, fun d e dir lane s hnext hne => ?_,
    fun d e dir s hne hgone hnew => ?_⟩, arrayRetire_effect, tileRetire_effect, channelRetire_effect, dieRetire_effect⟩
  · have hrun : exec (.linkFlitError d dir lanes n) s = .next ((s.modDie d (fun x => { x with
        events := x.events ++ (lanes.filter (fun l => laneOk l && !(s.isRetired (.lane d dir l)))).map (fun l => (⟨.lane dir l, s.now⟩ : FaultEv)),
        retraining := if n > 8 then x.retraining.add dir else x.retraining })).dbump d 1 3 (min n 8)) := by
      show execLinkFlitError d dir lanes n s = _
      simp only [execLinkFlitError, hlink, Bool.false_eq_true, if_false]
    refine ⟨_, hrun, ?_, ?_, ?_⟩
    · rw [State.dbump, State.count_bump, State.count_modDie]
      split
      · exact Nat.mod_mod _ _
      · rename_i h
        rw [show min n 8 = 0 by by_contra hne; exact h ⟨hne, rfl⟩]
        rfl
    · rw [State.dbump, State.die_bump, State.die_modDie]
      dsimp only
      split
      · rename_i hn
        rw [NSet.mem_add]
        exact ⟨fun _ => .inr hn, fun _ => .inl rfl⟩
      · rename_i hn
        exact ⟨.inl, fun h => h.elim id fun h => absurd h hn⟩
    · obtain ⟨c, hc⟩ := State.bump_frame (s.modDie d (fun x => { x with
        events := x.events ++ (lanes.filter (fun l => laneOk l && !(s.isRetired (.lane d dir l)))).map (fun l => (⟨.lane dir l, s.now⟩ : FaultEv)),
        retraining := if n > 8 then x.retraining.add dir else x.retraining })) (dkey d 1 3) (min n 8)
      rw [State.dbump, hc]; rfl
  · have hrun : exec (.linkRetrainDone d dir failed false) s = .next ((failed.filter laneOk).foldl (fun s l => s.queueRepair d (.lane dir l))
        (s.modDie d (fun x => { x with retraining := x.retraining.del dir }))) := by
      show execLinkRetrainDone d dir failed false s = _
      have hc : (s.die d).retraining.contains dir.val = true := by simpa using hmem
      simp only [execLinkRetrainDone, hc, Bool.not_true, Bool.not_false, Bool.false_eq_true, if_false, if_true]
    obtain ⟨hframe, hret⟩ := queueRepairs_frame (s.modDie d (fun x => { x with retraining := x.retraining.del dir })) d dir
      (failed.filter laneOk)
    refine ⟨_, hrun, ?_, ?_, ?_⟩
    · rw [hret, State.die_modDie]
      exact fun hin => ((NSet.mem_del _ _ _).1 hin).2 rfl
    · rintro rfl
      rfl
    · rw [hframe]; rfl
  · have hbase : ∃ v : State, v = s.popRepair.retire d (.lane d dir lane) { kind := 5, resource := 4, unit := dir, sub := lane } ∧
        exec (.laneRetire d dir lane) s = .next (if v.linkRetired d dir then v else v.retrainBoth d e dir) := by
      refine ⟨_, rfl, ?_⟩
      show execLaneRetire d dir lane s = _
      simp only [execLaneRetire, hnext, hne, Bool.not_true, Bool.false_eq_true, if_false]
      rfl
    obtain ⟨v, hv, hrun⟩ := hbase
    obtain ⟨hret, hcount, -⟩ := retire_effect s.popRepair d (.lane d dir lane) { kind := 5, resource := 4, unit := dir, sub := lane }
    obtain ⟨hreps, -, -, hmem, hjobs, -⟩ := retire_keeps s.popRepair d (.lane d dir lane) { kind := 5, resource := 4, unit := dir, sub := lane }
    rw [← hv] at hret hcount hreps hmem hjobs
    have hin : v.isRetired (.lane d dir lane) = true := by
      rw [isRetired_iff, hret]
      exact List.mem_append_right _ (List.mem_singleton_self _)
    refine ⟨_, hrun, ?_⟩
    cases hlink : v.linkRetired d dir with
    | true =>
      rw [if_pos rfl]
      exact ⟨hin, hreps, fun h => absurd (hlink.symm.trans h) (by decide), hcount, hjobs, hmem⟩
    | false =>
      rw [if_neg (by decide)]
      obtain ⟨hd, he⟩ := mem_retrainBoth v d e dir
      exact ⟨hin, hreps, fun _ => ⟨hd, he⟩, hcount, hjobs, hmem⟩
  · have hrun : exec (.linkRetire d dir) s = .next (((s.unroute d e dir).log { kind := 5, resource := 5, die := d, unit := dir }).abortJobs
        (fun jb => State.anyUnreachable ((s.unroute d e dir).log { kind := 5, resource := 5, die := d, unit := dir }) jb.dies)) := by
      show execLinkRetire d dir s = _
      have hc : s.routed.contains (linkKey d dir) = false := by simpa using hnew
      simp only [execLinkRetire, hne, hgone, hc, Bool.not_true, Bool.false_eq_true, or_self, if_false]
      rfl
    obtain ⟨-, -, hlog⟩ := (logFrame_log (s.unroute d e dir) { kind := 5, resource := 5, die := d, unit := dir }).map_pages
    have hroutes : ∀ which, ((State.log (s.unroute d e dir) { kind := 5, resource := 5, die := d, unit := dir }).abortJobs which).routed =
        (s.routed.add (linkKey d dir)).add (linkKey e (opposite dir)) := fun which =>
      (ends_abortJobs _ which).routed.trans hlog
    refine ⟨_, hrun, ?_, ?_, fun k hk => ?_⟩ <;> rw [hroutes, NSet.mem_add, NSet.mem_add]
    · exact .inr (.inl rfl)
    · exact .inl rfl
    · exact .inr (.inr hk)

end Sys2Proof.Machine
end

section
/-! SUPPORT. Contexts, domains and region tables (14 R380 to R384). -/

open Sys2Proof Sys2Proof.Machine Sys2Proof.Claims

namespace Sys2Proof.Machine

theorem contextSetup_effect (r : Requester) (v : Bytes) (s : State) (hmay : WriteMay s r 0x2320 3 v []) (hne : field v 0 2 ≠ 0)
    (hz : zeros v 4 4 = true) (hlive : s.domainLive (field v 2 2) = true) (hnew : s.contextLive (field v 0 2) = false) : ∃ u,
    exec (.contextSetup r v) s = .next u ∧ u.contexts = s.contexts.put (field v 0 2) (field v 2 2) ∧ Replied u r .ok ∧
    u = { s with contexts := u.contexts, cnt := u.cnt, sent := u.sent, kop := u.kop } := by
  obtain ⟨u, hrun, hans⟩ := exec_writeNow (i := .contextSetup r v) (w := { s with contexts := s.contexts.put (field v 0 2) (field v 2 2) })
    hmay rfl (conds_of_false (by rw [beq_zero_of_ne hne, hz, hlive]; rfl) hnew _ _) rfl rfl
  exact ⟨u, hrun, by rw [hans.frame], hans.replied, by rw [hans.frame]⟩

theorem contextDelete_effect (r : Requester) (v : Bytes) (s : State) (hmay : WriteMay s r 0x2320 4 v []) (hne : leNat v ≠ 0)
    (hlive : s.contextLive (leNat v) = true) (hfree : s.contextInUse (leNat v) = false) : ∃ u, exec (.contextDelete r v) s = .next u ∧
    u.contexts = s.contexts.del (leNat v) ∧ u.events = s.events.del (leNat v) ∧ Replied u r .ok ∧
    u = { s with contexts := u.contexts, events := u.events, cnt := u.cnt, sent := u.sent, kop := u.kop } := by
  obtain ⟨u, hrun, hans⟩ := exec_writeNow (i := .contextDelete r v)
    (w := { s with contexts := s.contexts.del (leNat v), events := s.events.del (leNat v) })
    hmay rfl (conds_of_false (by rw [beq_zero_of_ne hne, hlive]; rfl) hfree _ _) rfl rfl
  exact ⟨u, hrun, by rw [hans.frame], by rw [hans.frame], hans.replied, by rw [hans.frame]⟩

/-! Domains -/

theorem domains_put {s u : State} {d : Nat} {x : Domain} (h : u.domains = s.domains.put d x) :
    u.domainLive d = x.live ∧ u.domainGen d = x.gen ∧ ∀ e, e ≠ d → KMap.find u.domains e = KMap.find s.domains e := by
  refine ⟨?_, ?_, fun e he => ?_⟩
  · rw [State.domainLive, h, KMap.getOr_put_self]
  · rw [State.domainGen, h, KMap.getOr_put_self]
  · rw [h, KMap.find_put, if_neg he.symm]

theorem domainCreate_effect (r : Requester) (v : Bytes) (s : State) (hmay : WriteMay s r 0x2320 5 v []) (hne : leNat v ≠ 0)
    (hnew : s.domainLive (leNat v) = false) : ∃ u, exec (.domainCreate r v) s = .next u ∧ u.domainLive (leNat v) = true ∧
    u.domainGen (leNat v) = (s.domainGen (leNat v) + 1) % 2 ^ 32 ∧
    (∀ d, d ≠ leNat v → KMap.find u.domains d = KMap.find s.domains d) ∧ Replied u r .ok ∧
    u = { s with domains := u.domains, cnt := u.cnt, sent := u.sent, kop := u.kop } := by
  obtain ⟨u, hrun, hans⟩ := exec_writeNow (i := .domainCreate r v)
    (w := { s with domains := s.domains.put (leNat v) ⟨true, (s.domainGen (leNat v) + 1) % 2 ^ 32⟩ })
    hmay rfl (conds_of_false (beq_zero_of_ne hne) hnew _ _) rfl rfl
  obtain ⟨hlive, hgen, hothers⟩ := domains_put (s := s) (u := u) (by rw [hans.frame])
  exact ⟨u, hrun, hlive, hgen, hothers, hans.replied, by rw [hans.frame]⟩

theorem domainDestroy_effect (r : Requester) (v : Bytes) (s : State) (hmay : WriteMay s r 0x2320 6 v []) (hne : leNat v ≠ 0)
    (hlive : s.domainLive (leNat v) = true) (hfree : s.domainInUse (leNat v) = false) : ∃ u, exec (.domainDestroy r v) s = .next u ∧
    u.domainLive (leNat v) = false ∧ u.domainGen (leNat v) = s.domainGen (leNat v) ∧
    (∀ d, d ≠ leNat v → KMap.find u.domains d = KMap.find s.domains d) ∧ Replied u r .ok ∧
    u = { s with domains := u.domains, cnt := u.cnt, sent := u.sent, kop := u.kop } := by
  obtain ⟨u, hrun, hans⟩ := exec_writeNow (i := .domainDestroy r v)
    (w := { s with domains := s.domains.put (leNat v) ⟨false, s.domainGen (leNat v)⟩ })
    hmay rfl (conds_of_false (by rw [beq_zero_of_ne hne, hlive]; rfl) hfree _ _) rfl rfl
  obtain ⟨hdead, hgen, hothers⟩ := domains_put (s := s) (u := u) (by rw [hans.frame])
  exact ⟨u, hrun, hdead, hgen, hothers, hans.replied, by rw [hans.frame]⟩

/-- The value of an object just written. -/
theorem objNat_put {s u : State} {idx sub : Nat} {v : Bytes} (h : u.objs = s.objs.put (okey idx sub) v) (dflt : Nat) :
    u.objNat idx sub dflt = leNat v := by
  simp only [State.objNat, h, KMap.find_put_self]

theorem jobDomainWrite_effect (j : Fin 256) (r : Requester) (v : Bytes) (s : State)
    (hmay : WriteMay s r (jobDomainObj j).1 (jobDomainObj j).2 v []) (hlive : s.domainLive (leNat v) = true) (hnone : s.job? j = none) : ∃ u,
    exec (.jobDomainWrite j r v) s = .next u ∧ u.jobDomain j = leNat v ∧ Replied u r .ok ∧
    u = { s with objs := u.objs, cnt := u.cnt, sent := u.sent, kop := u.kop } := by
  obtain ⟨u, hrun, hans⟩ := exec_writeNow (i := .jobDomainWrite j r v)
    (w := { s with objs := s.objs.put (okey (jobDomainObj j).1 (jobDomainObj j).2) v })
    hmay rfl (conds_of_false (by rw [hlive]; rfl) (by rw [hnone]; rfl) _ _) rfl rfl
  have hobjs : u.objs = s.objs.put (okey (jobDomainObj j).1 (jobDomainObj j).2) v := by rw [hans.frame]
  refine ⟨u, hrun, ?_, hans.replied, by rw [hans.frame]⟩
  unfold State.jobDomain
  unfold jobDomainObj at hobjs
  split
  · rename_i hj
    rw [if_pos hj] at hobjs
    exact objNat_put hobjs 0
  · rename_i hj
    rw [if_neg hj] at hobjs
    exact objNat_put hobjs 0

/-! Region tables -/

/-- A region write that may act is `applyRegion`. -/
theorem exec_regionWrite {r : Requester} {v : Bytes} {s : State} (hmay : WriteMay s r 0x2320 7 v []) (hbad : s.regionBad v = false)
    (hlive : s.domainLive (rgDomain v) = true) (howner : rgKind v = 2 → s.domainLive (rgOwner v) = true)
    (href : s.regionRefused v = false) : exec (.regionWrite r v) s = .next (s.applyRegion r v) := by
  have hforeign : (rgKind v == 2 && !(s.domainLive (rgOwner v))) = false := by
    by_cases hk : rgKind v = 2
    · simp [howner hk]
    · simp [hk]
  exact congrArg Host.Outcome.next
    (objWrite_of_may hmay (conds_of_false (by rw [hbad, hlive, hforeign]; rfl) href .badDescriptor .refusedFit) (fun s => s.applyRegion r v))

/-- The entries of the region tables but for one slot. -/
def otherRegions (s : State) (v : Bytes) : List RegionEntry := s.regions.filter (fun x => ¬ (x.domain = rgDomain v ∧ x.slot = rgSlot v))

theorem applyRegion_own {r : Requester} {v : Bytes} {s : State} (h : rgKind v = 1) : s.applyRegion r v =
    { s with regions := otherRegions s v ++ [regionOf v], fills := s.fills ++ [(r, regionOf v)] } := by
  have hown : (regionOf v).own = true := by simp [regionOf, h]
  have hne : ¬ rgKind v = 0 := by omega
  simp only [State.applyRegion, if_neg hne, hown, if_true]
  rfl

theorem applyRegion_other {r : Requester} {v : Bytes} {s : State} (h : rgKind v ≠ 1) : s.applyRegion r v =
    ({ s with regions := otherRegions s v ++ (if rgKind v = 0 then [] else [regionOf v]) } : State).replyWrite r (okey 0x2320 7) .ok := by
  have hown : (regionOf v).own = false := by simp [regionOf, h]
  by_cases hz : rgKind v = 0
  · simp only [State.applyRegion, if_pos hz, List.append_nil]
    rfl
  · simp only [State.applyRegion, if_neg hz, hown, Bool.false_eq_true, if_false]
    rfl

theorem regionWrite_effect (r : Requester) (v : Bytes) (s : State) (hmay : WriteMay s r 0x2320 7 v []) (hbad : s.regionBad v = false)
    (hlive : s.domainLive (rgDomain v) = true) (howner : rgKind v = 2 → s.domainLive (rgOwner v) = true)
    (href : s.regionRefused v = false) : ∃ u, exec (.regionWrite r v) s = .next u ∧
    u.regions = s.regions.filter (fun x => ¬ (x.domain = rgDomain v ∧ x.slot = rgSlot v)) ++ (if rgKind v = 0 then [] else [regionOf v]) ∧
    (rgKind v = 1 → u.fills = s.fills ++ [(r, regionOf v)]) ∧ (rgKind v ≠ 1 → u.fills = s.fills ∧ Replied u r .ok) ∧
    u = { s with regions := u.regions, fills := u.fills, cnt := u.cnt, sent := u.sent, kop := u.kop } := by
  refine ⟨_, exec_regionWrite hmay hbad hlive howner href, ?_⟩
  by_cases hk : rgKind v = 1
  · rw [applyRegion_own hk]
    have hz : ¬ rgKind v = 0 := by omega
    exact ⟨by rw [if_neg hz]; rfl, fun _ => rfl, fun h => absurd hk h, rfl⟩
  · rw [applyRegion_other hk]
    have hans := answered_replyWrite (s := { s with regions := otherRegions s v ++ (if rgKind v = 0 then [] else [regionOf v]) })
      (r := r) (session_of_may hmay) (okey 0x2320 7) .ok
    generalize State.replyWrite _ r (okey 0x2320 7) .ok = u at hans
    exact ⟨by rw [hans.frame]; rfl, fun h => absurd h hk, fun _ => ⟨by rw [hans.frame], hans.replied⟩, by rw [hans.frame]⟩

/-- A range filled: zeros under its owner's key, and two counters (R384). -/
theorem fillRange_effect (s : State) (base n : Nat) :
    (∀ a, Memory.read (s.fillRange base n).mem a = if base ≤ a ∧ a < base + n then 0 else Memory.read s.mem a) ∧
    (∀ g, base / 256 ≤ g → g < (base + n) / 256 → (s.fillRange base n).keyAt g = some (s.keyNow (base / 256))) ∧
    (s.fillRange base n).fills = s.fills ∧ (s.fillRange base n).kop = s.kop := by
  simp only [State.fillRange, State.dbump]
  obtain ⟨c, hc⟩ := State.bump_frame ({ s.zeroRange base n with
    keyed := setKey (s.zeroRange base n).keyed (base / 256) ((base + n) / 256) ((s.zeroRange base n).keyNow (base / 256)) } : State)
    (dkey (faDie base) 9 2) (n / 256)
  rw [hc]
  obtain ⟨c', hc'⟩ := State.bump_frame ({ s.zeroRange base n with
    keyed := setKey (s.zeroRange base n).keyed (base / 256) ((base + n) / 256) ((s.zeroRange base n).keyNow (base / 256)), cnt := c } : State)
    (okey 0x2320 0x0B) n
  rw [hc']
  refine ⟨fun a => Memory.read_zero _ _ _ _, fun g hlo hhi => ?_, rfl, rfl⟩
  simp only [State.keyAt, setKey, List.find?_cons, hlo, hhi, decide_true, Bool.and_self, Option.map_some]
  rfl

theorem regionFillDone_effect (r : Requester) (e : RegionEntry) (rest : List (Requester × RegionEntry)) (sn : Session) (s : State)
    (hfills : s.fills = (r, e) :: rest) (hsn : s.session? r.sid = some sn) : ∃ u : State, exec .regionFillDone s = .next u.wake ∧
    u.fills = rest ∧ Replied u r .ok ∧ (∀ a, Memory.read u.mem a = if e.base ≤ a ∧ a < e.base + e.length then 0 else Memory.read s.mem a) ∧
    (∀ g, e.base / 256 ≤ g → g < (e.base + e.length) / 256 → u.keyAt g = some (s.keyNow (e.base / 256))) := by
  obtain ⟨hmem, hkey, hrest, hkop⟩ := fillRange_effect { s with fills := rest } e.base e.length
  have hans := answered_replyWrite (s := ({ s with fills := rest } : State).fillRange e.base e.length) (r := r)
    (by rw [State.session?, hkop]; exact congrArg Option.isSome hsn) (okey 0x2320 7) .ok
  refine ⟨_, show execRegionFillDone s = .next (State.wake _) by simp only [execRegionFillDone, State.regionFilled, hfills], ?_, hans.replied,
    fun a => ?_, fun g hlo hhi => ?_⟩
  · rw [hans.frame]; exact hrest
  · rw [hans.frame]; exact hmem a
  · rw [hans.frame]; exact hkey g hlo hhi

/-- Settles O25: each write acts and is answered (`exec_writeNow`); a region write is `applyRegion`, and a fill `fillRange`. -/
theorem domainsAndRegions : Obligations.DomainsAndRegions := by
  unfold Obligations.DomainsAndRegions
  exact ⟨⟨contextSetup_effect, contextDelete_effect, domainCreate_effect, domainDestroy_effect, jobDomainWrite_effect⟩, regionWrite_effect,
    regionFillDone_effect⟩

end Sys2Proof.Machine
end

section
/-! SUPPORT. Role keys, reports, the seal (14 R395 to R401), the claim and the sessions that close (12 R344, R345; 13 R362, R370). -/

open Sys2Proof Sys2Proof.Machine Sys2Proof.Claims

namespace Sys2Proof.Machine

/-! Keys, reports and the seal -/

/-- A command that is a write which is answered later. -/
theorem exec_write {i : Instr} {s : State} {r : Requester} {idx sub : Nat} {v : Bytes} {extra : List Status} {act : State → State}
    (hmay : WriteMay s r idx sub v []) (hrun : exec i s = .next (s.objWrite r idx sub v (objType idx sub) extra act)) (hx : extra = []) :
    exec i s = .next (act s) := by
  rw [hrun, objWrite_of_may hmay hx]

theorem cond_false_of {b : Bool} (h : b = false) (st : Status) : cond b st = [] := by rw [h]; rfl

/-- Settles O26: each write is its act (`exec_write`, `exec_writeNow`), and a signed report one branch of its command. -/
theorem keysReportsSeal : Obligations.KeysReportsSeal := by
  unfold Obligations.KeysReportsSeal
  refine ⟨fun r v s hmay hne hle hz hnot => ?_, fun r v s hmay hnone => ?_, fun b s hb => ?_, fun r v s hmay hcrc hdbg => ?_⟩
  · refine exec_write (act := fun s => s.persist r (okey 0x2900 1) v) hmay rfl (cond_false_of ?_ _)
    have hgt : decide (field v 0 1 > 3) = false := by simpa using hle
    have hthree : (field v 0 1 == 3 && zeros v 4 32) = false := by simpa using hnot
    rw [beq_zero_of_ne hne, hgt, hz, hthree]
    rfl
  · obtain ⟨u, hrun, hans⟩ := exec_writeNow (i := .attestNonce r v)
      (w := { s with boot := { s.boot with signing := some (s.reportBody v), report := none } })
      hmay rfl (cond_false_of (by rw [hnone]; rfl) _) rfl rfl
    exact ⟨u, hrun, by rw [hans.frame], hans.replied, by rw [hans.frame]⟩
  · obtain ⟨c, hc⟩ := State.bump_frame { s with boot := { s.boot with
      signing := none, report := some (b ++ Config.slhSign s.fuses.dus b), reportSeq := s.boot.reportSeq + 1 } } (okey 0x2910 3) 1
    refine ⟨_, show execAttestSigned s = .next _ by simp only [execAttestSigned, hb]; rfl, ?_, ?_⟩ <;> rw [hc]
  · refine exec_write (act := fun s => { s with fuses := { s.fuses with blowing := some (.seal r false) } }) hmay rfl
      (conds_of_false ?_ hdbg _ _)
    simpa using hcrc

/-! Sessions that close -/

theorem closeSession_kop (s : State) (sid : W32) : (s.closeSession sid).kop = { s.kop with
    sessions := s.kop.sessions.filter (fun x => x.sid ≠ sid), transfers := s.kop.transfers.filter (fun t => t.sid ≠ sid) } := by
  unfold State.closeSession
  exact State.bump_kop _ _ _

/-- Closing sessions leaves all but the sessions, the transfers and a count. -/
theorem closeSession_frame (s : State) (sid : W32) : ReplyFrame s (s.closeSession sid) := by
  unfold State.closeSession
  exact ReplyFrame.trans (u := { s with kop := _ }) rfl (replyFrame_bump _ _ _)

theorem foldl_closeSession_kop (l : List W32) (s : State) : (l.foldl State.closeSession s).kop = { s.kop with
    sessions := s.kop.sessions.filter (fun x => x.sid ∉ l), transfers := s.kop.transfers.filter (fun t => t.sid ∉ l) } := by
  induction l generalizing s with
  | nil => simp
  | cons sid l ih =>
    rw [List.foldl_cons, ih, closeSession_kop]
    simp only [List.filter_filter, List.mem_cons, not_or, Bool.decide_and, Bool.and_comm]

theorem kop_log (s : State) (r : LogRec) : ∃ l, (s.log r).kop = { s.kop with sessions := l } ∧ l.map Session.who = s.kop.sessions.map Session.who :=
  ⟨(s.log r).kop.sessions, congrArg State.kop (noticed_log s r).frame, (noticed_log s r).who⟩

/-- What a failed staging changes: the staging, a count, and a log record with its notices. -/
theorem settleStage_kop (s : State) : ∃ l, s.settleStage.kop = { s.kop with sessions := l } ∧ l.map Session.who = s.kop.sessions.map Session.who := by
  unfold State.settleStage
  split
  · unfold State.stageFail
    dsimp only
    generalize hv : State.bump _ (okey 0x2800 8) 1 = v
    have hkop : v.kop = s.kop := by rw [← hv, State.bump_kop]; rfl
    obtain ⟨l, hlog, hwho⟩ := kop_log v { status := .cancelled, kind := 4, resource := 0x0C, reason := 7 }
    exact ⟨l, by rw [hlog, hkop], by rw [hwho, hkop]⟩
  · exact ⟨s.kop.sessions, rfl, rfl⟩

theorem mem_who {l m : List Session} (h : l.map Session.who = m.map Session.who) {x : Session} (hx : x ∈ l) : ∃ y ∈ m, y.who = x.who := by
  have hmem : x.who ∈ m.map Session.who := h ▸ List.mem_map_of_mem hx
  obtain ⟨y, hy, he⟩ := List.mem_map.1 hmem
  exact ⟨y, hy, he⟩

theorem who_eq {x y : Session} (h : y.who = x.who) : y.sid = x.sid ∧ y.role = x.role ∧ y.src = x.src := by
  simpa [Session.who] using h

/-- The sessions after a settled staging are those before, by number, role and peer. -/
theorem settleStage_sessions (s : State) (P : W32 → Nat → BitVec 128 → Prop) (h : ∀ x ∈ s.kop.sessions, P x.sid x.role x.src) :
    ∀ x ∈ s.settleStage.kop.sessions, P x.sid x.role x.src := by
  obtain ⟨l, hkop, hwho⟩ := settleStage_kop s
  intro x hx
  rw [hkop] at hx
  obtain ⟨y, hy, he⟩ := mem_who hwho hx
  obtain ⟨h1, h2, h3⟩ := who_eq he
  rw [← h1, ← h2, ← h3]
  exact h y hy

/-! The claim (12 R344, R345) -/

theorem startProbe_effect (s : State) (r : Requester) (rec : Bytes) (message : Bool) :
    (s.startProbe r rec message).kop = { s.kop with probe := some ⟨rec, r, message⟩ } ∧
    s.startProbe r rec message = { s with kop := (s.startProbe r rec message).kop, sent := (s.startProbe r rec message).sent,
                                          cnt := (s.startProbe r rec message).cnt } := by
  have hstep : ∀ (u : State) (p : Port) (n : W16), (if (u.port p).ready then u.send (.identifyProbe p n) else u).kop = u.kop ∧
      ReplyFrame u (if (u.port p).ready then u.send (.identifyProbe p n) else u) := by
    intro u p n
    split
    · exact ⟨by rw [send_frame_of_psns _ _ rfl], replyFrame_send _ _ rfl⟩
    · exact ⟨rfl, .refl u⟩
  simp only [State.startProbe, List.foldl_cons, List.foldl_nil]
  generalize hv : ({ s with kop := { s.kop with probe := some ⟨rec, r, message⟩ } } : State) = v
  obtain ⟨hka, hfa⟩ := hstep v .a (BitVec.ofNat 16 (field rec 0 2))
  obtain ⟨hkb, hfb⟩ := hstep _ .b (BitVec.ofNat 16 (field rec 0 2))
  refine ⟨hkb.trans (hka.trans (by rw [← hv])), ?_⟩
  have hframe := hfa.trans hfb
  unfold ReplyFrame at hframe
  rw [hframe, ← hv]

theorem Answered.kop {s u : State} {r : Requester} {st : Status} (h : Answered s u r st) :
    u.kop = { s.kop with sessions := u.kop.sessions, blockEnds := u.kop.blockEnds } := congrArg State.kop h.frame

/-- A claim's reply leaves who owns the module, the probe and the sessions by number, role and peer. -/
theorem answerClaim_kop (s : State) (p : Probe) (st : Status) :
    ∃ l b, (s.answerClaim p st).kop = { s.kop with sessions := l, blockEnds := b } ∧ l.map Session.who = s.kop.sessions.map Session.who := by
  unfold State.answerClaim
  cases hs : s.session? p.r.sid with
  | none =>
    split
    · exact ⟨s.kop.sessions, s.kop.blockEnds, by simp only [State.answer, hs], rfl⟩
    · simp only [State.replyWrite]
      split
      · have hs' : State.session? { s with kop := { s.kop with blockEnds := s.kop.blockEnds.erase (p.r, okey 0x1100 4) } } p.r.sid = none := hs
        exact ⟨s.kop.sessions, s.kop.blockEnds.erase (p.r, okey 0x1100 4), by simp only [State.answer, hs'], rfl⟩
      · exact ⟨s.kop.sessions, s.kop.blockEnds, by simp only [State.answer, hs], rfl⟩
  | some sn =>
    have hsome : (s.session? p.r.sid).isSome = true := by rw [hs]; rfl
    split
    · have hans := (answered_answer hsome 7 st []).1
      exact ⟨_, _, hans.kop, hans.who⟩
    · have hans := answered_replyWrite hsome (okey 0x1100 4) st
      exact ⟨_, _, hans.kop, hans.who⟩

theorem claimWrite_effect (r : Requester) (v : Bytes) (s : State) (sn : Session) (hsn : s.session? r.sid = some sn)
    (hmay : WriteMay s r 0x1100 4 v []) (hconds : s.claimConds sn.role v = []) : ∃ u, exec (.claimWrite r v) s = .next u ∧
    u.kop.probe = some ⟨v, r, false⟩ ∧ u.kop.claimed = s.kop.claimed ∧ u = { s with kop := u.kop, sent := u.sent, cnt := u.cnt } := by
  have hrun : exec (.claimWrite r v) s = .next (s.startProbe r v false) :=
    exec_write (i := .claimWrite r v) (act := fun s => s.startProbe r v false) hmay rfl (by rw [hsn]; exact hconds)
  obtain ⟨hkop, hframe⟩ := startProbe_effect s r v false
  exact ⟨_, hrun, by rw [hkop], by rw [hkop], hframe⟩

theorem claimProbeEnd_clear (s : State) (p : Probe) (hp : s.kop.probe = some p) : ∃ u : State, exec (.claimProbeEnd false) s = .next u.wake ∧
    u.kop.claimed = true ∧ u.kop.owner = p.r.src ∧ u.kop.record = p.record ∧ u.kop.probe = none ∧
    ∀ x ∈ u.kop.sessions, x.role = 3 ∨ x.src = p.r.src ∨ x.sid = 0 := by
  have hrun : exec (.claimProbeEnd false) s = .next (State.wake (State.installClaim { s with kop := { s.kop with probe := none } } p)) := by
    show execClaimProbeEnd false s = _
    simp only [execClaimProbeEnd, State.probeDone, hp, Bool.false_eq_true, if_false]
  refine ⟨_, hrun, ?_⟩
  unfold State.installClaim
  dsimp only
  obtain ⟨l, b, hans, -⟩ := answerClaim_kop ({ s with kop := ({ s.kop with probe := none } : Kop).claim p } : State) p .ok
  generalize State.answerClaim _ p .ok = v at hans
  have hclosed : ∀ x ∈ (v.closeSessions 0 (fun x => x.role ≠ 3 && x.src ≠ p.r.src)).kop.sessions, x.role = 3 ∨ x.src = p.r.src ∨ x.sid = 0 := by
    intro x hx
    rw [State.closeSessions, foldl_closeSession_kop] at hx
    obtain ⟨hin, hout⟩ := List.mem_filter.1 hx
    by_contra hcon
    simp only [not_or] at hcon
    obtain ⟨hrole, hsrc, hsid⟩ := hcon
    refine (of_decide_eq_true hout) (List.mem_map.2 ⟨x, List.mem_filter.2 ⟨hin, ?_⟩, rfl⟩)
    simp only [ne_eq, hsid, hrole, hsrc, not_false_eq_true, decide_true, Bool.and_self]
  have hkeep : (v.closeSessions 0 (fun x => x.role ≠ 3 && x.src ≠ p.r.src)).kop.claimed = true ∧
      (v.closeSessions 0 (fun x => x.role ≠ 3 && x.src ≠ p.r.src)).kop.owner = p.r.src ∧
      (v.closeSessions 0 (fun x => x.role ≠ 3 && x.src ≠ p.r.src)).kop.record = p.record ∧
      (v.closeSessions 0 (fun x => x.role ≠ 3 && x.src ≠ p.r.src)).kop.probe = none := by
    rw [State.closeSessions, foldl_closeSession_kop, hans]
    exact ⟨rfl, rfl, rfl, rfl⟩
  generalize v.closeSessions 0 (fun x => x.role ≠ 3 && x.src ≠ p.r.src) = w at hclosed hkeep
  obtain ⟨l, hkop, -⟩ := settleStage_kop w
  obtain ⟨hc, ho, hr, hn⟩ := hkeep
  exact ⟨by rw [hkop]; exact hc, by rw [hkop]; exact ho, by rw [hkop]; exact hr, by rw [hkop]; exact hn,
    settleStage_sessions w (fun sid role src => role = 3 ∨ src = p.r.src ∨ sid = 0) hclosed⟩

theorem claimProbeEnd_conflict (s : State) (p : Probe) (hp : s.kop.probe = some p) : ∃ u : State, exec (.claimProbeEnd true) s = .next u.wake ∧
    u.kop.claimed = s.kop.claimed ∧ u.kop.owner = s.kop.owner ∧ u.kop.record = s.kop.record ∧ u.kop.probe = none := by
  have hrun : exec (.claimProbeEnd true) s = .next (State.wake (State.answerClaim { s with kop := { s.kop with probe := none } } p .refusedFit)) := by
    show execClaimProbeEnd true s = _
    simp only [execClaimProbeEnd, State.probeDone, hp, if_true]
  obtain ⟨l, b, hans, -⟩ := answerClaim_kop { s with kop := { s.kop with probe := none } } p .refusedFit
  refine ⟨_, hrun, ?_⟩
  rw [hans]
  exact ⟨rfl, rfl, rfl, rfl⟩

/-- A write may act in a state whose sessions are who they were. -/
theorem isSome_session_of_who {s u : State} {sid : W32} (h : u.kop.sessions.map Session.who = s.kop.sessions.map Session.who)
    (hs : (s.session? sid).isSome = true) : (u.session? sid).isSome = true := by
  rw [State.session?_isSome] at hs ⊢
  rw [sids_of_who h]
  exact hs

theorem closeOthers_effect (r : Requester) (s : State) (hmay : WriteMay s r 0x1110 5 [0x01] []) : ∃ u,
    exec (.closeOthers r [0x01]) s = .next u ∧ (∀ x ∈ u.kop.sessions, x.sid = r.sid) ∧ (∃ x ∈ u.kop.sessions, x.sid = r.sid) ∧
    Replied u r .ok := by
  have hrun : exec (.closeOthers r [0x01]) s = .next (((s.closeSessions r.sid (fun _ => true)).settleStage).replyWrite r (okey 0x1110 5) .ok) :=
    congrArg Host.Outcome.next (objWriteNow_of_may hmay rfl (fun s => (s.closeSessions r.sid (fun _ => true)).settleStage))
  have hsome := session_of_may hmay
  have honly : ∀ x ∈ (s.closeSessions r.sid (fun _ => true)).kop.sessions, x.sid = r.sid := by
    intro x hx
    rw [State.closeSessions, foldl_closeSession_kop] at hx
    obtain ⟨hin, hout⟩ := List.mem_filter.1 hx
    by_contra hne
    exact (of_decide_eq_true hout) (List.mem_map.2 ⟨x, List.mem_filter.2 ⟨hin, by simp [hne]⟩, rfl⟩)
  have hopen : ((s.closeSessions r.sid (fun _ => true)).session? r.sid).isSome = true := by
    rw [State.session?_isSome] at hsome ⊢
    obtain ⟨x, hx, hsid⟩ := List.mem_map.1 hsome
    refine List.mem_map.2 ⟨x, ?_, hsid⟩
    rw [State.closeSessions, foldl_closeSession_kop]
    refine List.mem_filter.2 ⟨hx, decide_eq_true fun hmem => ?_⟩
    obtain ⟨y, hy, hysid⟩ := List.mem_map.1 hmem
    have hyne := (List.mem_filter.1 hy).2
    simp [hysid, hsid] at hyne
  generalize s.closeSessions r.sid (fun _ => true) = v at hrun honly hopen
  obtain ⟨l, hkop, hwho⟩ := settleStage_kop v
  have hans := answered_replyWrite (s := v.settleStage) (r := r)
    (isSome_session_of_who (by rw [hkop]; exact hwho) hopen) (okey 0x1110 5) .ok
  have hsettled := settleStage_sessions v (fun sid _ _ => sid = r.sid) honly
  refine ⟨_, hrun, fun x hx => ?_, ?_, hans.replied⟩
  · obtain ⟨y, hy, he⟩ := mem_who hans.who hx
    exact (who_eq he).1 ▸ hsettled y hy
  · have hend : ((v.settleStage.replyWrite r (okey 0x1110 5) .ok).session? r.sid).isSome = true :=
      isSome_session_of_who hans.who (isSome_session_of_who (by rw [hkop]; exact hwho) hopen)
    rw [State.session?_isSome] at hend
    exact List.mem_map.1 hend

theorem sessionIdleExpiry_effect (sid : W32) (s : State) : ∃ u, exec (.sessionIdleExpiry sid) s = .next u ∧
    (∀ x ∈ u.kop.sessions, x.sid ≠ sid) ∧ (∀ x ∈ s.kop.sessions, x.sid ≠ sid → ∃ y ∈ u.kop.sessions, y.sid = x.sid) ∧
    (∀ x ∈ u.kop.transfers, x.sid ≠ sid) := by
  have hclose := closeSession_kop s sid
  obtain ⟨l, hkop, hwho⟩ := settleStage_kop (s.closeSession sid)
  refine ⟨_, rfl, settleStage_sessions _ (fun i _ _ => i ≠ sid) fun x hx => ?_, fun x hx hne => ?_, fun x hx => ?_⟩
  · rw [hclose] at hx
    simpa using (List.mem_filter.1 hx).2
  · have hin : x ∈ (s.closeSession sid).kop.sessions := by
      rw [hclose]
      exact List.mem_filter.2 ⟨hx, by simpa using hne⟩
    obtain ⟨y, hy, he⟩ := mem_who hwho.symm hin
    exact ⟨y, by rw [hkop]; exact hy, (who_eq he).1⟩
  · rw [hkop, hclose] at hx
    simpa using (List.mem_filter.1 hx).2

theorem releaseClaim_effect (r : Requester) (s : State) (hmay : WriteMay s r 0x1100 7 [0x01] [])
    (hfree : s.kop.claimed = true → s.anyQpInUse = false) : ∃ u, exec (.releaseClaim r [0x01]) s = .next u ∧ u.kop.claimed = false ∧
    u.kop.owner = 0 ∧ u.kop.record = [] ∧ Replied u r .ok ∧ u = { s with cnt := u.cnt, sent := u.sent, kop := u.kop } := by
  have hrun : exec (.releaseClaim r [0x01]) s = .next (State.replyWrite { s with kop := s.kop.released } r (okey 0x1100 7) .ok) :=
    congrArg Host.Outcome.next (objWriteNow_of_may hmay (conds_of_false rfl (by simpa using hfree) .badDescriptor .refusedFit)
      (fun s => { s with kop := s.kop.released }))
  have hans := answered_replyWrite (s := { s with kop := s.kop.released }) (r := r)
    (show (s.session? r.sid).isSome = true from session_of_may hmay) (okey 0x1100 7) .ok
  refine ⟨_, hrun, ?_, ?_, ?_, hans.replied, hans.frame_kop⟩ <;> rw [hans.frame] <;> rfl

/-- Settles O27: a claim's probe, reply and closings, each by what it leaves of the module controller's state. -/
theorem claimsAndSessions : Obligations.ClaimsAndSessions := by
  unfold Obligations.ClaimsAndSessions
  exact ⟨⟨fun r v s sn hsn hmay hconds => claimWrite_effect r v s sn hsn hmay hconds, claimProbeEnd_clear, claimProbeEnd_conflict,
    releaseClaim_effect⟩, closeOthers_effect, fun sid s _ => sessionIdleExpiry_effect sid s⟩

end Sys2Proof.Machine
end

section
/-! SUPPORT. Counter-clear objects and objects with no behaviour of their own (13 R352, R354, R377). -/

open Sys2Proof Sys2Proof.Machine Sys2Proof.Claims

namespace Sys2Proof.Machine

/-! Counters cleared -/

/-- A counter lies in one of the runs of an object. -/
def inRuns (idx : Nat) (runs : List (Nat × Nat)) (k : Nat) : Bool :=
  runs.any (fun (lo, hi) => decide (okey idx lo ≤ k) && decide (k ≤ okey idx hi))

theorem count_clearCounts (s : State) (idx lo hi k : Nat) :
    (s.clearCounts idx lo hi).count k = if okey idx lo ≤ k ∧ k ≤ okey idx hi then 0 else s.count k := by
  have hlt : (okey idx lo ≤ k ∧ k < okey idx hi + 1) ↔ (okey idx lo ≤ k ∧ k ≤ okey idx hi) := by omega
  unfold State.count State.clearCounts
  simp only [KMap.getOr, KMap.find_delRange, hlt]
  split <;> rfl

/-- The runs of an object cleared one after another. -/
def State.clearRunsOf (s : State) (idx : Nat) (runs : List (Nat × Nat)) : State := runs.foldl (fun s (lo, hi) => s.clearCounts idx lo hi) s

theorem count_clearRunsOf (s : State) (idx : Nat) (runs : List (Nat × Nat)) (k : Nat) :
    (s.clearRunsOf idx runs).count k = if inRuns idx runs k then 0 else s.count k := by
  induction runs generalizing s with
  | nil => rfl
  | cons e runs ih =>
    obtain ⟨lo, hi⟩ := e
    have hstep : s.clearRunsOf idx ((lo, hi) :: runs) = (s.clearCounts idx lo hi).clearRunsOf idx runs := rfl
    have hany : inRuns idx ((lo, hi) :: runs) k = ((decide (okey idx lo ≤ k) && decide (k ≤ okey idx hi)) || inRuns idx runs k) := rfl
    rw [hstep, ih, count_clearCounts, hany]
    by_cases hin : okey idx lo ≤ k ∧ k ≤ okey idx hi
    · simp [hin]
    · rw [if_neg hin]
      have hb : (decide (okey idx lo ≤ k) && decide (k ≤ okey idx hi)) = false := by simpa using hin
      rw [hb, Bool.false_or]

theorem clearRunsOf_frame (s : State) (idx : Nat) (runs : List (Nat × Nat)) :
    s.clearRunsOf idx runs = { s with cnt := (s.clearRunsOf idx runs).cnt } := by
  induction runs generalizing s with
  | nil => rfl
  | cons e runs ih =>
    have hstep : s.clearRunsOf idx (e :: runs) = (s.clearCounts idx e.1 e.2).clearRunsOf idx runs := rfl
    rw [hstep, ih]; rfl

/-- A counter-clear write that may act clears its object's runs and is answered. -/
theorem clearWrite_effect {i : Instr} {s : State} {r : Requester} {idx sub : Nat} {runs : List (Nat × Nat)}
    (hmay : WriteMay s r idx sub [0x01] []) (hrun : exec i s = .next (s.clearWrite r idx sub [0x01])) (hruns : clearsOf idx sub = some runs) :
    ∃ u, exec i s = .next u ∧ (∀ k, k ≠ okey (portIndex r.port) 5 → u.count k = if inRuns idx runs k then 0 else s.count k) ∧
      Replied u r .ok ∧ u = { s with cnt := u.cnt, sent := u.sent, kop := u.kop } := by
  have hkop : (s.clearRunsOf idx runs).kop = s.kop := by rw [clearRunsOf_frame]
  obtain ⟨u, hu, hans⟩ := exec_writeNow (i := i) (w := s.clearRunsOf idx runs) hmay hrun rfl (by rw [hruns]; rfl) hkop
  refine ⟨u, hu, fun k hk => ?_, hans.replied, ?_⟩
  · rw [hans.count k hk, count_clearRunsOf]
  · rw [hans.frame, clearRunsOf_frame]

/-- The runs of an object of a die's block are those of die 0's. -/
theorem clearsOf_die {a : Nat} (ha : 0x3000 ≤ a ∧ a < 0x3010) (d : DieNo) (sub : Nat) : clearsOf (a + 16 * d) sub = clearsOf a sub := by
  have hd := d.isLt
  have hlo : 0x3000 ≤ a + 16 * d ∧ a + 16 * d < 0x3400 := by omega
  have hla : 0x3000 ≤ a ∧ a < 0x3400 := by omega
  have hindex : dieIndex (a + 16 * d) = dieIndex a := by
    rw [dieIndex, dieIndex, if_pos hlo, if_pos hla]
    omega
  rw [clearsOf, clearsOf, hindex]

/-- A command for each die writes a counter-clear object, whose runs these are. -/
def ClearsRuns (f : DieNo → Requester → Bytes → Instr) (idx : Nat → Nat) (sub : Nat) (runs : List (Nat × Nat)) : Prop :=
  ∀ (d : DieNo) (r : Requester) (s : State),
    exec (f d r [0x01]) s = .next (s.clearWrite r (idx d) sub [0x01]) ∧ clearsOf (idx d) sub = some runs

theorem clearsRuns_of_die {f : DieNo → Requester → Bytes → Instr} {a sub : Nat} {runs : List (Nat × Nat)} (ha : 0x3000 ≤ a ∧ a < 0x3010)
    (h : clearsOf a sub = some runs) (hrun : ∀ d r s, exec (f d r [0x01]) s = .next (s.clearWrite r (a + 16 * d) sub [0x01])) :
    ClearsRuns f (fun d => a + 16 * d) sub runs := fun d r s => ⟨hrun d r s, (clearsOf_die ha d sub).trans h⟩

/-- The objects that the model names by their place in a die's block. -/
theorem dieObj_eq (d : DieNo) : dieObj d 0xA = 0x300A + 16 * d ∧ dieObj d 0xB = 0x300B + 16 * d := by
  unfold dieObj; omega

theorem exec_tableCountersClear (d : DieNo) (r : Requester) (s : State) :
    exec (.tableCountersClear d r [0x01]) s = .next (s.clearWrite r (0x300A + 16 * d) 8 [0x01]) := by
  show Host.Outcome.next (s.clearWrite r (dieObj d 0xA) 8 [0x01]) = _
  rw [(dieObj_eq d).1]

theorem exec_textdieCountersClear (d : DieNo) (r : Requester) (s : State) :
    exec (.textdieCountersClear d r [0x01]) s = .next (s.clearWrite r (0x300B + 16 * d) 7 [0x01]) := by
  show Host.Outcome.next (s.clearWrite r (dieObj d 0xB) 7 [0x01]) = _
  rw [(dieObj_eq d).2]

theorem exec_thermalCountersClear (d : DieNo) (r : Requester) (s : State) :
    exec (.thermalCountersClear d r [0x01]) s = .next (s.clearWrite r (0x300C + 16 * d) 6 [0x01]) := by
  show Host.Outcome.next (s.clearWrite r (0x3000 + 16 * d + 0xC) 6 [0x01]) = _
  rw [show 0x3000 + 16 * (d : Nat) + 0xC = 0x300C + 16 * d by omega]

/-! Objects with no behaviour of their own -/

/-- A write of such an object with its own type is `writePlain`. -/
theorem exec_objectWrite {r : Requester} {i : W16} {sub ty : Byte} {v : Bytes} {s : State} {o : ObjRow} (hrow : objRow i.toNat sub.toNat = some o)
    (hty : ty.toNat = o.typ) (hclear : clearsOf i.toNat sub.toNat = none) (hhost : s.writeHost r i.toNat sub.toNat v = none)
    (hmodule : s.writeModule r i.toNat sub.toNat v = none) (hacc : o.acc ≠ .ro) :
    exec (.objectWrite r i sub ty v) s = .next (s.writePlain r i.toNat sub.toNat v) := by
  show execObjectWrite r i sub ty v s = _
  have hgo : ¬ (o.typ ≠ o.typ ∨ o.acc = .ro) := by simp [hacc]
  simp only [execObjectWrite, State.writeObject, hrow, hty, if_neg hgo, hclear, hhost, hmodule, Option.isSome_none, Bool.false_eq_true, if_false,
    Option.or_none]

/-- Settles O28: a counter-clear command by `clearWrite_effect`, a plain object by its access. -/
theorem objectWrites : Obligations.ObjectWrites := by
  unfold Obligations.ObjectWrites
  refine ⟨fun e he d r s hmay => ?_, fun r i sub ty v s o hrow hty hclear hhost hmodule hkey hbad hmay => ⟨fun hacc => ?_, fun hacc => ?_⟩⟩
  · suffices hall : ClearsRuns e.1 e.2.1 e.2.2.1 e.2.2.2 from clearWrite_effect hmay (hall d r s).1 (hall d r s).2
    clear hmay
    revert e
    simp only [List.forall_mem_cons]
    exact ⟨clearsRuns_of_die (by decide) rfl fun _ _ _ => rfl,
      clearsRuns_of_die (by decide) rfl fun _ _ _ => rfl,
      clearsRuns_of_die (by decide) rfl fun _ _ _ => rfl,
      clearsRuns_of_die (by decide) rfl fun _ _ _ => rfl,
      clearsRuns_of_die (by decide) rfl fun _ _ _ => rfl,
      fun _ _ _ => ⟨rfl, rfl⟩,
      clearsRuns_of_die (by decide) rfl exec_tableCountersClear,
      fun _ _ _ => ⟨rfl, rfl⟩,
      clearsRuns_of_die (by decide) rfl exec_textdieCountersClear,
      fun _ _ _ => ⟨rfl, rfl⟩,
      fun _ _ _ => ⟨rfl, rfl⟩,
      fun _ _ _ => ⟨rfl, rfl⟩,
      fun _ _ _ => ⟨rfl, rfl⟩,
      fun _ _ _ => ⟨rfl, rfl⟩,
      fun _ _ _ => ⟨rfl, rfl⟩,
      clearsRuns_of_die (by decide) rfl fun _ _ _ => rfl,
      clearsRuns_of_die (by decide) rfl fun _ _ _ => rfl,
      fun _ _ _ => ⟨rfl, rfl⟩,
      clearsRuns_of_die (by decide) rfl fun _ _ _ => rfl,
      clearsRuns_of_die (by decide) rfl exec_thermalCountersClear,
      clearsRuns_of_die (by decide) rfl fun _ _ _ => rfl,
      clearsRuns_of_die (by decide) rfl fun _ _ _ => rfl,
      fun _ _ _ => ⟨rfl, rfl⟩,
      fun _ h => nomatch h⟩
  · have hown : [okey 0x1110 3, okey 0x2300 5, okey 0x2300 9].contains (okey i.toNat sub.toNat) = false := by simpa using hkey
    have hrwp : (objRow i.toNat sub.toNat).map (·.acc) = some .rwp := by rw [hrow, Option.map_some, hacc]
    rw [exec_objectWrite hrow hty hclear hhost hmodule (by rw [hacc]; decide)]
    refine congrArg Host.Outcome.next ?_
    simp only [State.writePlain, hown, Bool.false_eq_true, if_false, if_pos hrwp]
    exact objWrite_of_may hmay (cond_false_of hbad .badDescriptor) _
  · have hown : [okey 0x1110 3, okey 0x2300 5, okey 0x2300 9].contains (okey i.toNat sub.toNat) = false := by simpa using hkey
    have hrwp : ¬ (objRow i.toNat sub.toNat).map (·.acc) = some .rwp := by rw [hrow, Option.map_some, hacc]; decide
    have hrun : exec (.objectWrite r i sub ty v) s = .next (s.objWriteNow r i.toNat sub.toNat v
        (cond (s.plainBad (okey i.toNat sub.toNat) v) .badDescriptor) (fun s => { s with objs := s.objs.put (okey i.toNat sub.toNat) v })) := by
      rw [exec_objectWrite hrow hty hclear hhost hmodule (by rw [hacc]; decide)]
      simp only [State.writePlain, hown, Bool.false_eq_true, if_false, if_neg hrwp]
    obtain ⟨u, hu, hans⟩ := exec_writeNow hmay hrun (cond_false_of hbad _) rfl rfl
    have hobjs : u.objs = s.objs.put (okey i.toNat sub.toNat) v := by rw [hans.frame]
    exact ⟨u, hu, by rw [hobjs, KMap.find_put_self], fun k hk => by rw [hobjs, KMap.find_put, if_neg hk.symm], hans.replied, by rw [hans.frame]⟩

end Sys2Proof.Machine
end

section
/-! SUPPORT. The window of sequence numbers (13 R361) and the messages of a session (13 R356 to R366; 12 R341, R345). -/

open Sys2Proof Sys2Proof.Machine Sys2Proof.Claims

namespace Sys2Proof.Machine

/-! The window of sequence numbers (R361) -/

/-- A number runs when it is above the highest accepted, or in the window and not accepted yet. -/
theorem check_run {x y : Session} {q : W32} (h : x.check q = .run y) :
    (x.high.toNat < q.toNat ∧ y = x.accept q q) ∨ (q.toNat ≤ x.high.toNat ∧ x.high.toNat ≤ q.toNat + 63 ∧ y = x.accept q x.high) := by
  unfold Session.check at h
  split at h
  case isTrue habove => exact .inl ⟨habove, (SeqCheck.run.inj h).symm⟩
  case isFalse habove =>
    split at h
    case isTrue => cases h
    case isFalse hbelow =>
      split at h
      case isTrue => exact .inr ⟨by omega, by omega, (SeqCheck.run.inj h).symm⟩
      case isFalse => split at h <;> cases h

/-- An accepted number within the window does not run. -/
theorem check_accepted {x z : Session} {q : W32} (hle : q.toNat ≤ x.high.toNat) (hin : q ∈ x.accepted) : x.check q ≠ .run z := by
  unfold Session.check
  rw [if_neg (by omega), List.contains_iff_mem.2 hin]
  split
  · exact SeqCheck.noConfusion
  · rw [if_neg (by decide)]
    split <;> exact SeqCheck.noConfusion

theorem mem_accepted_accept (x : Session) (q high : W32) : q ∈ (x.accept q high).accepted := List.mem_append_right _ List.mem_cons_self

theorem accepted_accept_of_window {x : Session} {q high n : W32} (hn : n ∈ x.accepted) (hw : high.toNat ≤ n.toNat + 63) :
    n ∈ (x.accept q high).accepted := List.mem_append_left _ (List.mem_filter.2 ⟨hn, decide_eq_true hw⟩)

/-- Settles O29: the number that runs is accepted at a window whose top does not fall, whichever of the two ways it runs. -/
theorem sequenceWindow : Obligations.SequenceWindow := by
  unfold Obligations.SequenceWindow
  intro x y q h
  obtain ⟨habove, rfl⟩ | ⟨hle, hin, rfl⟩ := check_run h
  · exact ⟨fun z => check_accepted le_rfl (mem_accepted_accept _ _ _), habove.le, mem_accepted_accept _ _ _,
      List.mem_append_right _ List.mem_cons_self, fun n hn hw => accepted_accept_of_window hn hw⟩
  · exact ⟨fun z => check_accepted hle (mem_accepted_accept _ _ _), le_rfl, mem_accepted_accept _ _ _,
      List.mem_append_right _ List.mem_cons_self, fun n hn hw => accepted_accept_of_window hn hw⟩

/-! Messages that reach their meaning -/

theorem intake_taken {s u : State} {m : KMsg} (h : s.intake m = .taken u) : u = s.bump (kopCount 6) 1 := by
  unfold State.intake at h
  split at h
  · cases h
  · split at h
    · cases h
    · dsimp only at h
      split at h
      · cases h
      · exact (Intake.taken.inj h).symm

/-- A datagram taken is counted, and no more. -/
theorem intake_frame {s u : State} {m : KMsg} (h : s.intake m = .taken u) : u = { s with cnt := u.cnt } := by
  obtain ⟨c, hc⟩ := s.bump_frame (kopCount 6) 1
  rw [intake_taken h, hc]

/-- A message that reaches its meaning is what its type does. -/
theorem kopMsg_of_runs {s s1 : State} {m : KMsg} {type : Byte} {sn : Session} (h : KopRuns s m type s1 sn)
    (act : State → Session → State) : s.kopMsg m type act = act s1 sn := by
  obtain ⟨s0, sn0, hin, hsn, htag, hseq, hcheck, hs1, howner, hres⟩ := h
  have hcheck' : ({ sn0 with last := (s0.modSession m.sid (fun x => { x with last := s0.now })).now } : Session).check m.seq = .run sn := hcheck
  simp only [State.kopMsg, hin, hsn, htag, if_true, State.sessionMsg, hseq, if_false, hcheck', ← hs1, howner, hres, Bool.false_eq_true]

/-- Where a message runs, its session alone and the counts have changed. -/
theorem kop_of_runs {s s1 : State} {m : KMsg} {type : Byte} {sn : Session} (h : KopRuns s m type s1 sn) :
    s1.kop = { s.kop with sessions := s1.kop.sessions } := by
  obtain ⟨s0, sn0, hin, -, -, -, -, hs1, -, -⟩ := h
  have hkop : s0.kop = s.kop := by rw [intake_frame hin]
  rw [hs1]
  show ({ s0.kop with sessions := _ } : Kop) = _
  rw [hkop]; rfl

/-- The reply to a message of an open session. -/
theorem repliedWith_answer {s : State} {m : KMsg} (h : (s.session? m.sid).isSome = true) (type : Byte) (st : Status) (payload : Bytes) :
    RepliedWith (s.answer (requesterOf m) type st payload) m type st payload := by
  obtain ⟨sn, hsn⟩ := Option.isSome_iff_exists.1 h
  have hsn' : s.session? (requesterOf m).sid = some sn := hsn
  simp only [State.answer, hsn']
  exact ⟨_, _, State.sent_send _ (.kop _), rfl, rfl, rfl, rfl, rfl⟩

/-! READ, and a pop of events -/

theorem readMsg_answers {s t : State} {r : Requester} {idx sub : Nat} {sn : Session} {v : Bytes} (hsn : s.session? r.sid = some sn)
    (hbusy : s.objBusy (okey idx sub) = false) (hconds : firstStatus (s.readConds sn idx sub) = .ok)
    (hval : s.readValue sn idx sub = (v, t)) (hlen : v.length ≤ 1152) :
    s.readMsg r idx sub = t.answer r 1 .ok (valuePrefix idx sub (objType idx sub) v.length ++ v) := by
  simp only [State.readMsg, hsn, hbusy, hconds, hval, Nat.not_lt.2 hlen, Bool.false_eq_true, if_false, ne_eq, not_true_eq_false]

theorem kopRead_effect (m : KMsg) (s s1 : State) (sn : Session) (o : ObjRow) (hruns : KopRuns s m 1 s1 sn) (hlen : m.payload.length = 4)
    (hpad : field m.payload 3 1 = 0) (hsn : s1.session? m.sid = some sn)
    (hbusy : s1.objBusy (okey (field m.payload 0 2) (field m.payload 2 1)) = false)
    (hconds : firstStatus (s1.readConds sn (field m.payload 0 2) (field m.payload 2 1)) = .ok)
    (hpop : ¬ (field m.payload 0 2 = 0x2300 ∧ field m.payload 2 1 = 0xD)) (hrow : objRow (field m.payload 0 2) (field m.payload 2 1) = some o)
    (hfits : (s1.objValue sn (field m.payload 0 2) (field m.payload 2 1) o).length ≤ 1152) : ∃ u, exec (.kopRead m) s = .next u ∧
    RepliedWith u m 1 .ok (valuePrefix (field m.payload 0 2) (field m.payload 2 1) (objType (field m.payload 0 2) (field m.payload 2 1))
      (s1.objValue sn (field m.payload 0 2) (field m.payload 2 1) o).length ++ s1.objValue sn (field m.payload 0 2) (field m.payload 2 1) o) := by
  have hval : s1.readValue sn (field m.payload 0 2) (field m.payload 2 1) =
      (s1.objValue sn (field m.payload 0 2) (field m.payload 2 1) o, s1) := by
    simp only [State.readValue, if_neg hpop, hrow]
  have hread := readMsg_answers (r := requesterOf m) hsn hbusy hconds hval hfits
  refine ⟨_, ?_, repliedWith_answer (by rw [hsn]; rfl) 1 .ok _⟩
  show execKopRead m s = _
  simp only [execKopRead, kopMsg_of_runs hruns, hlen, hpad, ne_eq, not_true_eq_false, or_self, if_false, hread]

theorem settle_of_not_dropping {x : Queue} (h : x.dropping = false) (l : List QItem) : Queue.settle x l = { x with items := l } := by
  cases l with
  | nil => rfl
  | cons i l => simp only [Queue.settle, h, Bool.false_eq_true, if_false]

theorem queue?_setQueue {s : State} {q : QueueId} {x : Queue} (h : s.queue? q = some x) (y : Queue) : (s.setQueue q y).queue? q = some y := by
  cases q with
  | hamper t => simp only [State.queue?, State.setQueue, State.tile_modTile]
  | context c =>
    have hlive : (KMap.find s.contexts c.toNat).isSome = true := by
      by_contra hcon
      simp only [State.queue?, hcon, if_false, reduceCtorEq] at h
    show (if (KMap.find s.contexts c.toNat).isSome then some _ else none) = _
    rw [if_pos hlive]
    simp [State.setQueue, State.ctxQueue, KMap.getOr]
  | events => rfl
  | faultLog => rfl

theorem queue?_replyFrame {s u : State} (h : ReplyFrame s u) (q : QueueId) : u.queue? q = s.queue? q := by
  unfold ReplyFrame at h
  rw [h]
  cases q <;> rfl

theorem session?_setQueue (s : State) (q : QueueId) (x : Queue) (sid : W32) : (s.setQueue q x).session? sid = s.session? sid := by
  cases q <;> rfl

theorem eventPop_effect (r : Requester) (s : State) (sn : Session) (q : QueueId) (x : Queue) (hsn : s.session? r.sid = some sn)
    (hbusy : s.objBusy (okey 0x2300 0xD) = false) (hconds : firstStatus (s.readConds sn 0x2300 0xD) = .ok) (hsel : s.selected sn = some q)
    (hq : s.queue? q = some x) (hdrop : x.dropping = false) (hlen : (s.popEvents sn).1.length ≤ 1152) : ∃ u y,
    exec (.eventPop r) s = .next u ∧ u.queue? q = some y ∧ y.items = x.items.drop (min x.items.length 32) ∧ Replied u r .ok := by
  have hpop : (s.popEvents sn).2 = s.setQueue q { x with items := x.items.drop (min x.items.length 32) } := by
    simp only [State.popEvents, hsel, hq, settle_of_not_dropping hdrop]
  have hval : s.readValue sn 0x2300 0xD = ((s.popEvents sn).1, (s.popEvents sn).2) := by
    simp only [State.readValue, and_self, if_true]
  have hread := readMsg_answers hsn hbusy hconds hval hlen
  rw [hpop] at hread
  have hsome : ((s.setQueue q { x with items := x.items.drop (min x.items.length 32) }).session? r.sid).isSome = true := by
    rw [session?_setQueue, hsn]; rfl
  have hans := (answered_answer hsome 1 .ok
    (valuePrefix 0x2300 0xD (objType 0x2300 0xD) (s.popEvents sn).1.length ++ (s.popEvents sn).1)).1
  exact ⟨_, _, congrArg Host.Outcome.next hread, (queue?_replyFrame hans.frame_kop q).trans (queue?_setQueue hq _), rfl, hans.replied⟩

/-! CLOSE, NOTIFY, CLAIM and OPEN -/

theorem kopClose_effect (m : KMsg) (s s1 : State) (sn : Session) (hruns : KopRuns s m 9 s1 sn) (hempty : m.payload = []) : ∃ u,
    exec (.kopClose m) s = .next u ∧ (∀ x ∈ u.kop.sessions, x.sid ≠ m.sid) ∧ ∀ x ∈ u.kop.transfers, x.sid ≠ m.sid := by
  have hrun : exec (.kopClose m) s = .next (((s1.answer (requesterOf m) 9 .ok []).closeSession m.sid).settleStage) := by
    show execKopClose m s = _
    simp only [execKopClose, kopMsg_of_runs hruns, hempty, ne_eq, not_true_eq_false, if_false]
  generalize s1.answer (requesterOf m) 9 .ok [] = v at hrun
  have hclose := closeSession_kop v m.sid
  obtain ⟨l, hkop, -⟩ := settleStage_kop (v.closeSession m.sid)
  refine ⟨_, hrun, settleStage_sessions _ (fun sid _ _ => sid ≠ m.sid) fun x hx => ?_, fun x hx => ?_⟩
  · rw [hclose] at hx
    simpa using (List.mem_filter.1 hx).2
  · rw [hkop, hclose] at hx
    simpa using (List.mem_filter.1 hx).2

theorem claim_effect (m : KMsg) (s s1 : State) (sn : Session) (hruns : KopRuns s m 7 s1 sn) (hsn : s1.session? m.sid = some sn)
    (hbusy : s1.objBusy (okey 0x1100 4) = false) (hconds : s1.claimConds sn.role m.payload = []) : ∃ u, exec (.claim m) s = .next u ∧
    u.kop.probe = some ⟨m.payload, requesterOf m, true⟩ ∧ u.kop.claimed = s.kop.claimed := by
  have hsn' : s1.session? (requesterOf m).sid = some sn := hsn
  have hrun : exec (.claim m) s = .next (s1.startProbe (requesterOf m) m.payload true) := by
    show execClaim m s = _
    simp only [execClaim, kopMsg_of_runs hruns, State.claimMsg, hsn', hbusy, hconds, Bool.false_eq_true, if_false, firstStatus]
    rfl
  obtain ⟨hkop, -⟩ := startProbe_effect s1 (requesterOf m) m.payload true
  exact ⟨_, hrun, by rw [hkop], by rw [hkop, kop_of_runs hruns]⟩

theorem openSession_effect (s : State) (m : KMsg) (role : Nat) (key nonce : Bytes) : ∃ sn : Session,
    (s.openSession m role key nonce).kop.sessions = s.kop.sessions ++ [sn] ∧ sn.sid = s.kop.nextSid ∧ sn.role = role ∧
    sn.key = hmac key (ascii "KOP1" ++ slice m.payload 4 16 ++ nonce ++ leBytes 4 s.kop.nextSid.toNat) ∧
    (s.openSession m role key nonce).kop.nextSid = s.kop.nextSid + 1 ∧ ReplyFrame s (s.openSession m role key nonce) := by
  unfold State.openSession
  dsimp only
  rw [send_frame_of_psns _ _ rfl]
  exact ⟨_, rfl, rfl, rfl, rfl, rfl, rfl⟩

theorem kopOpen_effect (m : KMsg) (nonce key : Bytes) (s s1 : State) (hin : s.intake m = .taken s1) (hready : readyBit s1 1 = true)
    (hlo : 1 ≤ field m.payload 0 1) (hhi : field m.payload 0 1 ≤ 4) (hkey : s1.roleKey (field m.payload 0 1) = some key)
    (htag : tagOk m 8 key = true) (hshape : openShape m = true)
    (hnew : ∀ x ∈ s.kop.sessions, ¬ (x.src = m.src ∧ x.nonce = slice m.payload 4 16)) (hden : s1.openDenied m (field m.payload 0 1) = false)
    (hroom : s.kop.sessions.length < 16) : ∃ u sn, exec (.kopOpen m nonce) s = .next u ∧ u.kop.sessions = s.kop.sessions ++ [sn] ∧
    sn.sid = s.kop.nextSid ∧ sn.role = field m.payload 0 1 ∧
    sn.key = hmac key (ascii "KOP1" ++ slice m.payload 4 16 ++ nonce ++ leBytes 4 s.kop.nextSid.toNat) ∧
    u.kop.nextSid = s.kop.nextSid + 1 ∧ u = { s with kop := u.kop, sent := u.sent, cnt := u.cnt } := by
  have hkop : s1.kop = s.kop := by rw [intake_frame hin]
  have hnone : s1.kop.sessions.find? (fun x => x.src == m.src && x.nonce == slice m.payload 4 16) = none := by
    rw [hkop, List.find?_eq_none]
    intro x hx
    simpa using fun hsrc => not_and.1 (hnew x hx) hsrc
  have hroom' : ¬ s1.kop.sessions.length ≥ 16 := by rw [hkop]; omega
  have hrun : exec (.kopOpen m nonce) s = .next (s1.openSession m (field m.payload 0 1) key nonce) := by
    show execKopOpen m nonce s = _
    simp only [execKopOpen, hin, hready, hlo, hhi, hkey, htag, hshape, hnone, hden, hroom', State.openMsg, Bool.not_true, Bool.false_eq_true,
      and_self, if_true, if_false]
  obtain ⟨sn, hs, hsid, hrole, hk, hnext, hframe⟩ := openSession_effect s1 m (field m.payload 0 1) key nonce
  rw [hkop] at hs hsid hk hnext
  have hall := ReplyFrame.trans (s := s) (by rw [intake_frame hin]; rfl) hframe
  exact ⟨_, sn, hrun, hs, hsid, hrole, hk, hnext, hall⟩

/-- Settles O30: a message that runs is what its type does (`kopMsg_of_runs`), each type one branch of it. -/
theorem kopMessages : Obligations.KopMessages := by
  unfold Obligations.KopMessages
  refine ⟨⟨fun m s s1 sn o hruns hlen hpad hsn hbusy hconds hpop hrow hfits =>
      kopRead_effect m s s1 sn o hruns hlen hpad hsn hbusy hconds hpop hrow hfits, fun m s s1 sn hruns hlen hfield hz => ?_, eventPop_effect⟩,
    kopClose_effect, fun m s s1 sn hruns hsn => ?_, claim_effect, kopOpen_effect⟩
  · show execKopWrite m s = _
    simp only [execKopWrite, kopMsg_of_runs hruns, Nat.not_lt.2 hlen, hfield, hz, ne_eq, not_true_eq_false, Bool.not_true, Bool.false_eq_true,
      or_self, if_false]
  · refine ⟨_, ?_, repliedWith_answer (by rw [hsn]; rfl) 5 .badDescriptor []⟩
    show execKopNotifyIn m s = _
    simp only [execKopNotifyIn, kopMsg_of_runs hruns]

end Sys2Proof.Machine
end

section
/-! SUPPORT. Finding the module (12 R342, R343; 13 R357), and block transfers (13 R367 to R370). -/

open Sys2Proof Sys2Proof.Machine Sys2Proof.Claims

namespace Sys2Proof.Machine

/-! IDENTIFY and addresses -/

theorem identify_effect (m : KMsg) (s s1 : State) (hin : s.intake m = .taken s1) (hres : kopReserved m = false) (hsid : m.sid = 0)
    (htag : zeros m.tag 0 32 = true) (hlen : m.payload.length = 4) (hpad : zeros m.payload 2 2 = true)
    (hunit : field m.payload 0 2 = 0 ∨ field m.payload 0 2 = s1.unitShown) : ∃ u, exec (.identify m) s = .next u ∧
    u.kop.identifies = s.kop.identifies ++ [m] ∧ u = { s with kop := u.kop, cnt := u.cnt } := by
  have hours : ¬ (field m.payload 0 2 ≠ 0 ∧ field m.payload 0 2 ≠ s1.unitShown) := fun h => hunit.elim h.1 h.2
  refine ⟨{ s1 with kop := { s1.kop with identifies := s1.kop.identifies ++ [m] } }, ?_, ?_, ?_⟩
  · show execIdentify m s = _
    simp only [execIdentify, hin, hres, hsid, htag, hlen, hpad, hours, ne_eq, not_true_eq_false, Bool.not_true, Bool.false_eq_true, or_self,
      if_false]
  · dsimp only
    rw [intake_frame hin]
  · dsimp only
    rw [intake_frame hin]

/-- The answer a port sends to an IDENTIFY, if it is ready. -/
def State.identifyFrom (w : State) (m : KMsg) (s : State) (p : Port) : State :=
  if w.kopUp p then s.send (.identifyReply p m.src m.seq (w.identity p)) else s

theorem replyFrame_identifyFrom (w : State) (m : KMsg) (s : State) (p : Port) :
    ReplyFrame s (w.identifyFrom m s p) ∧ (w.identifyFrom m s p).kop = s.kop ∧ (∀ x ∈ s.sent, x ∈ (w.identifyFrom m s p).sent) ∧
    (w.kopUp p = true → .identifyReply p m.src m.seq (w.identity p) ∈ (w.identifyFrom m s p).sent) := by
  unfold State.identifyFrom
  split
  case isTrue =>
    refine ⟨replyFrame_send _ _ rfl, by rw [send_frame_of_psns _ _ rfl], fun x hx => ?_, fun _ => ?_⟩ <;> rw [State.sent_send]
    · exact List.mem_cons_of_mem _ hx
    · exact List.mem_cons_self
  case isFalse hdown => exact ⟨.refl s, rfl, fun x hx => hx, fun h => absurd h hdown⟩

theorem identifyReply_effect (n : Nat) (s : State) (m : KMsg) (h : s.kop.identifies[n]? = some m) : ∃ u,
    exec (.identifyReply n) s = .next u ∧ u.kop.identifies = s.kop.identifies.eraseIdx n ∧
    (∀ p, s.kopUp p = true → .identifyReply p m.src m.seq (s.identity p) ∈ u.sent) ∧
    u = { s with kop := u.kop, sent := u.sent, cnt := u.cnt } := by
  have hstep : ∀ {v : State} {p : Port}, ReplyFrame s v → v.kop = { s.kop with identifies := s.kop.identifies.eraseIdx n } →
      (if v.kopUp p then v.send (.identifyReply p m.src m.seq (v.identity p)) else v) = s.identifyFrom m v p := by
    intro v p hv hk
    unfold ReplyFrame at hv
    rw [hk] at hv
    have hup : v.kopUp p = s.kopUp p := by rw [hv]; cases p <;> rfl
    have hid : v.identity p = s.identity p := by rw [hv]; rfl
    rw [hup, hid]; rfl
  let v : State := { s with kop := { s.kop with identifies := s.kop.identifies.eraseIdx n } }
  have hv : ReplyFrame s v := rfl
  obtain ⟨hfa, hka, hma, hsa⟩ := replyFrame_identifyFrom s m v .a
  obtain ⟨hfb, hkb, hmb, hsb⟩ := replyFrame_identifyFrom s m (s.identifyFrom m v .a) .b
  have hrun : exec (.identifyReply n) s = .next (s.identifyFrom m (s.identifyFrom m v .a) .b) := by
    show execIdentifyReply n s = _
    simp only [execIdentifyReply, h, List.foldl_cons, List.foldl_nil]
    rw [hstep (v := v) hv rfl, hstep (hv.trans hfa) hka]
  refine ⟨_, hrun, by rw [hkb, hka], fun p hp => ?_, ?_⟩
  · cases p with
    | a => exact hmb _ (hsa hp)
    | b => exact hsb hp
  · exact (hv.trans hfa).trans hfb

@[simp] theorem State.port_setPort (s : State) (p : Port) (x : PortState) : (s.setPort p x).port p = x := by cases p <;> rfl
@[simp] theorem State.mem_setPort (s : State) (p : Port) (x : PortState) : (s.setPort p x).mem = s.mem := by cases p <;> rfl
@[simp] theorem State.jobs_setPort (s : State) (p : Port) (x : PortState) : (s.setPort p x).jobs = s.jobs := by cases p <;> rfl
@[simp] theorem State.cnt_setPort (s : State) (p : Port) (x : PortState) : (s.setPort p x).cnt = s.cnt := by cases p <;> rfl

theorem Readied.port {s u : State} (h : Readied s u) (p : Port) : u.port p = s.port p := by
  rw [h.noticed.frame]
  cases p <;> rfl

theorem dadComplete_effect (p : Port) (iid : W64) (s : State) (hready : (s.port p).ready = false) (hrate : (s.port p).rate ≠ 0)
    (htries : (s.port p).dadTries ≤ 3) (hmode : s.boot.mode ≠ .none_) : ∃ u, exec (.dadComplete p false iid) s = .next u ∧
    (u.port p).ready = true ∧ (u.port p).iid = some (s.dadId p iid) ∧ u.mem = s.mem ∧ u.jobs = s.jobs := by
  have hrun : exec (.dadComplete p false iid) s = .next
      ((s.setPort p { s.port p with iid := some (s.dadId p iid), ready := true }).withReady (kopBit p) 0) := by
    show execDadComplete p false iid s = _
    simp only [execDadComplete, hready, hrate, Nat.not_lt.2 htries, hmode, Bool.false_eq_true, or_self, if_false]
  have hr := readied_withReady (s.setPort p { s.port p with iid := some (s.dadId p iid), ready := true }) (kopBit p) 0
  refine ⟨_, hrun, ?_, ?_, ?_, ?_⟩
  · rw [hr.port, State.port_setPort]
  · rw [hr.port, State.port_setPort]
  · rw [hr.mem, State.mem_setPort]
  · rw [hr.jobs, State.jobs_setPort]

theorem kopMalformed_effect (p : Port) (dport : W16) (d : Bytes) (s : State) (hup : s.kopUp p = true) (hport : dport.toNat = s.kop.portActive)
    (hlen : d.length < 48 ∨ 1232 < d.length) : ∃ u, exec (.kopMalformed p dport d) s = .next u ∧
    u.count (okey 0x1110 7) = (s.count (okey 0x1110 7) + 1) % 2 ^ 64 ∧ u.count (okey 0x1110 6) = (s.count (okey 0x1110 6) + 1) % 2 ^ 64 ∧
    u = { s with cnt := u.cnt } := by
  have hbad : d.length < 48 ∨ d.length > 1232 ∨ kopBad (kmsgOf p 0 dport d) := hlen.elim .inl (fun h => .inr (.inl h))
  have hrun : exec (.kopMalformed p dport d) s = .next ((s.bump (kopCount 6) 1).bump (kopCount 7) 1) := by
    show execKopMalformed p dport d s = _
    simp only [execKopMalformed, hup, hport, hbad, Bool.not_true, Bool.false_eq_true, ne_eq, not_true_eq_false, if_false, if_true]
  obtain ⟨c, hc⟩ := State.bump_frame (s.bump (kopCount 6) 1) (kopCount 7) 1
  obtain ⟨b, hb⟩ := State.bump_frame s (kopCount 6) 1
  refine ⟨_, hrun, ?_, ?_, by rw [hc, hb]⟩
  · rw [State.count_bump, if_pos ⟨by decide, rfl⟩, State.count_bump_ne _ _ (by decide)]
  · rw [State.count_bump_ne _ _ (by decide), State.count_bump, if_pos ⟨by decide, rfl⟩]

/-- Settles O31: the four commands, each by the one branch its conditions leave. -/
theorem identifyAndAddresses : Obligations.IdentifyAndAddresses := by
  unfold Obligations.IdentifyAndAddresses
  exact ⟨identify_effect, identifyReply_effect, dadComplete_effect, kopMalformed_effect⟩

/-! Block transfers: the parts the messages share -/

theorem otherOp_same {m : KMsg} {op : Nat} (h : bkOp m.payload = op) : otherOp m op = false := by
  simp only [otherOp, h, ne_eq, not_true_eq_false, decide_false, Bool.false_and]

/-- A right message of an open transfer acts on it, the transfer's time renewed. -/
theorem onTransfer_acts {s : State} {r : Requester} {write : Bool} {op : Nat} {p : Bytes} {x : BlockTransfer}
    (hx : s.transfer? r write p = some x) (hshape : bkShape p = true) (hop : bkOp p = op) (type : Byte)
    (act : State → BlockTransfer → State) :
    s.onTransfer r type write op p act = act (s.setTransfer { x with last := s.now }) { x with last := s.now } := by
  simp only [State.onTransfer, hx, hshape, hop, Bool.not_true, ne_eq, not_true_eq_false, decide_false, Bool.or_false, Bool.false_eq_true,
    if_false]

theorem transfer?_mem {s : State} {r : Requester} {write : Bool} {p : Bytes} {x : BlockTransfer} (h : s.transfer? r write p = some x) :
    x ∈ s.kop.transfers ∧ x.sid = r.sid ∧ x.write = write ∧ x.key = bkKey p := by
  have hx := List.find?_some h
  simp only [Bool.and_eq_true, beq_iff_eq] at hx
  exact ⟨List.mem_of_find?_eq_some h, hx.1.1, hx.1.2, hx.2⟩

theorem transfers_answerBlock (s : State) (r : Requester) (type : Byte) (st : Status) (payload : Bytes) :
    (s.answer r type st payload).kop.transfers = s.kop.transfers := by
  cases h : s.session? r.sid with
  | none => simp only [State.answer, h]
  | some sn => rw [(answered_answer (by rw [h]; rfl) type st payload).1.frame]

/-- A transfer replaced and then dropped is a transfer dropped. -/
theorem filter_setTransfer (s : State) (x : BlockTransfer) :
    ((s.setTransfer x).dropTransfer x.sid).kop.transfers = s.kop.transfers.filter (fun t => t.sid ≠ x.sid) := by
  show (s.kop.transfers.map (fun t => if t.sid = x.sid then x else t)).filter _ = _
  induction s.kop.transfers with
  | nil => rfl
  | cons t l ih =>
    by_cases h : t.sid = x.sid
    · simpa [h] using ih
    · simpa [h] using ih

theorem not_mem_dropTransfer {s : State} {sid : W32} {t : BlockTransfer} (h : t ∈ (s.dropTransfer sid).kop.transfers) : t.sid ≠ sid := by
  simpa using (List.mem_filter.1 h).2

theorem isSome_settleStage {s : State} {sid : W32} (h : (s.session? sid).isSome = true) : (s.settleStage.session? sid).isSome = true := by
  obtain ⟨l, hkop, hwho⟩ := settleStage_kop s
  exact isSome_session_of_who (by rw [hkop]; exact hwho) h

theorem settleStage_transfers (s : State) : s.settleStage.kop.transfers = s.kop.transfers := by
  obtain ⟨l, hkop, -⟩ := settleStage_kop s
  rw [hkop]

/-- A settled staging counts in its own counter alone. -/
theorem settleStage_count (s : State) {k : Nat} (hk : Quiet k) (hne : k ≠ okey 0x2800 8) : s.settleStage.count k = s.count k := by
  unfold State.settleStage
  split
  · unfold State.stageFail
    rw [State.count_log _ _ hk]
    exact State.count_bump_ne _ _ hne.symm
  · rfl

/-- An ABORT closes the session's transfer and is answered. -/
theorem abortMsg_effect {m : KMsg} {s : State} {sn : Session} {x : BlockTransfer} {write : Bool} (hsn : s.session? m.sid = some sn)
    (hx : s.transfer? (requesterOf m) write m.payload = some x) (hshape : bkShape m.payload = true) (hop : bkOp m.payload = 4)
    (hlen : m.payload.length = 16) (hcrc : bkCrc m.payload = 0) (hsize : bkSize m.payload = 0) (type : Byte) :
    (∀ t ∈ (s.abortMsg m type write).kop.transfers, t.sid ≠ m.sid) ∧
    RepliedWith (s.abortMsg m type write) m type .ok (blockHeader 4 (bkIdx m.payload) (bkSub m.payload) 0 0) := by
  have hrun : s.abortMsg m type write = ((s.setTransfer { x with last := s.now }).dropTransfer m.sid).settleStage.answer (requesterOf m) type .ok
      (blockHeader 4 (bkIdx m.payload) (bkSub m.payload) 0 0) := by
    simp only [State.abortMsg, onTransfer_acts hx hshape hop, hlen, hcrc, hsize, ne_eq, not_true_eq_false, decide_false, Bool.or_self,
      Bool.false_eq_true, if_false, State.answerBlock, hop]
  have hsome : (((s.setTransfer { x with last := s.now }).dropTransfer m.sid).session? m.sid).isSome = true := by
    show (s.session? m.sid).isSome = true
    rw [hsn]; rfl
  rw [hrun]
  refine ⟨fun t ht => ?_, repliedWith_answer (isSome_settleStage hsome) _ _ _⟩
  rw [transfers_answerBlock, settleStage_transfers] at ht
  exact not_mem_dropTransfer ht

/-! Block reads -/

theorem firstStatus_append_nil {l : List Status} (h : firstStatus l = .ok) {b c : Bool} (hb : b = false) (hc : c = false) (x y : Status) :
    firstStatus (l ++ cond b x ++ cond c y) = .ok := by
  rw [hb, hc, cond_false, cond_false, List.append_nil, List.append_nil, h]

theorem rbInitiate_effect (m : KMsg) (s s1 : State) (sn : Session) (o : ObjRow) (hruns : KopRuns s m 3 s1 sn)
    (hshape : bkShape m.payload = true) (hop : bkOp m.payload = 1) (hlen : m.payload.length = 16) (hsize : bkSize m.payload = 0)
    (hcrc : bkCrc m.payload = 0) (hsn : s1.session? m.sid = some sn) (hbusy : s1.objBusy (bkKey m.payload) = false)
    (hconds : firstStatus (s1.readConds sn (bkIdx m.payload) (bkSub m.payload)) = .ok)
    (hrow : objRow (bkIdx m.payload) (bkSub m.payload) = some o) (htyp : o.typ = 8) (hpop : bkKey m.payload ≠ okey 0x2300 0xD)
    (hnone : ∀ t ∈ s1.kop.transfers, t.sid ≠ m.sid) (hroom : s1.kop.transfers.length < 4) : ∃ u, exec (.rbInitiate m) s = .next u ∧
    (let v := s1.objValue sn (bkIdx m.payload) (bkSub m.payload) o
     u.kop.transfers = s1.kop.transfers ++ [⟨m.sid, false, bkKey m.payload, v.length, [], v, s1.now⟩] ∧
     RepliedWith u m 3 .ok (blockHeader 1 (bkIdx m.payload) (bkSub m.payload) v.length (crc32c v).toNat)) := by
  have hval : s1.readValue sn (bkIdx m.payload) (bkSub m.payload) = (s1.objValue sn (bkIdx m.payload) (bkSub m.payload) o, s1) := by
    have hne : ¬ (bkIdx m.payload = 0x2300 ∧ bkSub m.payload = 0xD) := fun ⟨hi, hk⟩ => hpop (by rw [bkKey, hi, hk])
    simp only [State.readValue, if_neg hne, hrow]
  have hbytes : decide (objType (bkIdx m.payload) (bkSub m.payload) ≠ 8) = false := by simp [objType, hrow, htyp]
  have hfree : (s1.kop.transfers.any (fun t => t.sid == (requesterOf m).sid) || decide (s1.kop.transfers.length ≥ 4)) = false := by
    rw [Bool.or_eq_false_iff]
    exact ⟨List.any_eq_false.2 fun t ht => (beq_eq_false_iff_ne.2 (hnone t ht)).trans_ne Bool.false_ne_true, by simpa using hroom⟩
  have hst := firstStatus_append_nil hconds hbytes hfree .badDescriptor .refusedFit
  have hsn' : s1.session? (requesterOf m).sid = some sn := hsn
  have hbusy' : s1.objBusy (okey (bkIdx m.payload) (bkSub m.payload)) = false := hbusy
  have hinit : s1.initRead (requesterOf m) (bkIdx m.payload) (bkSub m.payload) =
      ({ s1 with kop := { s1.kop with transfers := s1.kop.transfers ++ [⟨m.sid, false, bkKey m.payload,
        (s1.objValue sn (bkIdx m.payload) (bkSub m.payload) o).length, [], s1.objValue sn (bkIdx m.payload) (bkSub m.payload) o, s1.now⟩] } } :
        State).answer (requesterOf m) 3 .ok (blockHeader 1 (bkIdx m.payload) (bkSub m.payload)
        (s1.objValue sn (bkIdx m.payload) (bkSub m.payload) o).length (crc32c (s1.objValue sn (bkIdx m.payload) (bkSub m.payload) o)).toNat) := by
    simp only [State.initRead, hsn', hbusy', hst, hval, Bool.false_eq_true, if_false, ne_eq, not_true_eq_false]
    rfl
  refine ⟨s1.initRead (requesterOf m) (bkIdx m.payload) (bkSub m.payload), ?_, ?_⟩
  · show execRbInitiate m s = _
    simp only [execRbInitiate, otherOp_same hop, kopMsg_of_runs hruns, hshape, hop, hlen, hsize, hcrc, Bool.not_true, Bool.false_eq_true, ne_eq,
      not_true_eq_false, decide_false, Bool.or_self, if_false]
  · rw [hinit]
    refine ⟨transfers_answerBlock _ _ _ _ _, repliedWith_answer ?_ _ _ _⟩
    show (s1.session? m.sid).isSome = true
    rw [hsn]; rfl

theorem rbSegment_effect (m : KMsg) (s s1 : State) (sn : Session) (x : BlockTransfer) (hruns : KopRuns s m 3 s1 sn)
    (hsn : s1.session? m.sid = some sn) (hx : s1.transfer? (requesterOf m) false m.payload = some x) (hshape : bkShape m.payload = true)
    (hop : bkOp m.payload = 2) (hlen : m.payload.length = 16) (hcrc : bkCrc m.payload = 0) (halign : bkSize m.payload % 1024 = 0)
    (hin : bkSize m.payload < x.total) : ∃ u, exec (.rbSegment m) s = .next u ∧
    RepliedWith u m 3 .ok (blockHeader 2 (bkIdx m.payload) (bkSub m.payload) (bkSize m.payload) 0 ++
      slice x.snapshot (bkSize m.payload) (min 1024 (x.total - bkSize m.payload))) := by
  refine ⟨(s1.setTransfer { x with last := s1.now }).answer (requesterOf m) 3 .ok
    (blockHeader 2 (bkIdx m.payload) (bkSub m.payload) (bkSize m.payload) 0 ++
      slice x.snapshot (bkSize m.payload) (min 1024 (x.total - bkSize m.payload))), ?_, repliedWith_answer ?_ _ _ _⟩
  · show execRbSegment m s = _
    simp only [execRbSegment, otherOp_same hop, kopMsg_of_runs hruns, onTransfer_acts hx hshape hop, hlen, hcrc, halign, ge_iff_le,
      Nat.not_le.2 hin, Bool.false_eq_true, ne_eq, not_true_eq_false, decide_false, Bool.or_self, if_false]
  · show (s1.session? m.sid).isSome = true
    rw [hsn]; rfl

theorem rbEnd_effect (m : KMsg) (s s1 : State) (sn : Session) (x : BlockTransfer) (hruns : KopRuns s m 3 s1 sn)
    (hsn : s1.session? m.sid = some sn) (hx : s1.transfer? (requesterOf m) false m.payload = some x) (hshape : bkShape m.payload = true)
    (hop : bkOp m.payload = 3) (hlen : m.payload.length = 16) (hcrc : bkCrc m.payload = 0) : ∃ u, exec (.rbEnd m) s = .next u ∧
    u.kop.transfers = s1.kop.transfers.filter (fun t => t.sid ≠ m.sid) ∧
    RepliedWith u m 3 .ok (blockHeader 3 (bkIdx m.payload) (bkSub m.payload) 0 0) := by
  obtain ⟨-, hsid, -, -⟩ := transfer?_mem hx
  have hsid' : ({ x with last := s1.now } : BlockTransfer).sid = m.sid := hsid
  refine ⟨((s1.setTransfer { x with last := s1.now }).dropTransfer m.sid).answer (requesterOf m) 3 .ok
    (blockHeader 3 (bkIdx m.payload) (bkSub m.payload) 0 0), ?_, ?_, repliedWith_answer ?_ _ _ _⟩
  · show execRbEnd m s = _
    simp only [execRbEnd, otherOp_same hop, kopMsg_of_runs hruns, onTransfer_acts hx hshape hop, hlen, hcrc, State.answerBlock, hop,
      Bool.false_eq_true, ne_eq, not_true_eq_false, decide_false, Bool.or_self, if_false]
  · rw [transfers_answerBlock, ← hsid', filter_setTransfer]
  · show (s1.session? m.sid).isSome = true
    rw [hsn]; rfl

theorem rbAbort_effect (m : KMsg) (s s1 : State) (sn : Session) (x : BlockTransfer) (hruns : KopRuns s m 3 s1 sn)
    (hsn : s1.session? m.sid = some sn) (hx : s1.transfer? (requesterOf m) false m.payload = some x) (hshape : bkShape m.payload = true)
    (hop : bkOp m.payload = 4) (hlen : m.payload.length = 16) (hcrc : bkCrc m.payload = 0) (hsize : bkSize m.payload = 0) : ∃ u,
    exec (.rbAbort m) s = .next u ∧ (∀ t ∈ u.kop.transfers, t.sid ≠ m.sid) ∧
    RepliedWith u m 3 .ok (blockHeader 4 (bkIdx m.payload) (bkSub m.payload) 0 0) := by
  refine ⟨_, ?_, abortMsg_effect hsn hx hshape hop hlen hcrc hsize 3⟩
  show execRbAbort m s = _
  simp only [execRbAbort, otherOp_same hop, kopMsg_of_runs hruns, Bool.false_eq_true, if_false]

/-! Block writes -/

theorem openWrite_kop (s : State) (sid : W32) (key total : Nat) :
    (s.openWrite sid key total).kop = { s.kop with transfers := s.kop.transfers ++ [⟨sid, true, key, total, [], [], s.now⟩] } := by
  unfold State.openWrite
  dsimp only
  split <;> rfl

theorem wbInitiate_effect (m : KMsg) (s s1 : State) (sn : Session) (hruns : KopRuns s m 4 s1 sn) (hsn : s1.session? m.sid = some sn)
    (hshape : bkShape m.payload = true) (hop : bkOp m.payload = 1) (hlen : m.payload.length = 16) (hcrc : bkCrc m.payload = 0)
    (hconds : firstStatus (s1.initConds sn (bkIdx m.payload) (bkSub m.payload) (bkSize m.payload)) = .ok) : ∃ u,
    exec (.wbInitiate m) s = .next u ∧
    u.kop.transfers = s1.kop.transfers ++ [⟨m.sid, true, bkKey m.payload, bkSize m.payload, [], [], s1.now⟩] ∧
    RepliedWith u m 4 .ok (blockHeader 1 (bkIdx m.payload) (bkSub m.payload) (bkSize m.payload) 0) := by
  have hkop := openWrite_kop s1 m.sid (bkKey m.payload) (bkSize m.payload)
  refine ⟨(s1.openWrite m.sid (bkKey m.payload) (bkSize m.payload)).answer (requesterOf m) 4 .ok
    (blockHeader 1 (bkIdx m.payload) (bkSub m.payload) (bkSize m.payload) 0), ?_, ?_, repliedWith_answer ?_ _ _ _⟩
  · show execWbInitiate m s = _
    simp only [execWbInitiate, otherOp_same hop, kopMsg_of_runs hruns, hshape, hop, hlen, hcrc, hconds, State.answerBlock, Bool.not_true,
      Bool.false_eq_true, ne_eq, not_true_eq_false, decide_false, Bool.or_self, if_false, if_true]
  · rw [transfers_answerBlock, hkop]
  · rw [State.session?, hkop]
    show (s1.session? m.sid).isSome = true
    rw [hsn]; rfl

theorem wbSegment_effect (m : KMsg) (ok : Bool) (s s1 : State) (sn : Session) (x : BlockTransfer) (hruns : KopRuns s m 4 s1 sn)
    (hsn : s1.session? m.sid = some sn) (hx : s1.transfer? (requesterOf m) true m.payload = some x) (hshape : bkShape m.payload = true)
    (hop : bkOp m.payload = 2) (hcrc : bkCrc m.payload = 0) (halign : bkSize m.payload % 1024 = 0) (hin : bkSize m.payload < x.total)
    (hlen : m.payload.length - 16 = min 1024 (x.total - bkSize m.payload)) (hkey : x.key ≠ stageKey) (hsid : x.sid = m.sid) : ∃ u y,
    exec (.wbSegment m ok) s = .next u ∧ y ∈ u.kop.transfers ∧ y.sid = m.sid ∧ KMap.find y.segs (bkSize m.payload) = some (m.payload.drop 16) ∧
    RepliedWith u m 4 .ok (blockHeader 2 (bkIdx m.payload) (bkSub m.payload) (bkSize m.payload) 0) := by
  obtain ⟨hmem, -, -, -⟩ := transfer?_mem hx
  refine ⟨((s1.setTransfer { x with last := s1.now }).setTransfer
      { x with last := s1.now, segs := x.segs.put (bkSize m.payload) (m.payload.drop 16) }).answer (requesterOf m) 4 .ok
      (blockHeader 2 (bkIdx m.payload) (bkSub m.payload) (bkSize m.payload) 0),
    { x with last := s1.now, segs := x.segs.put (bkSize m.payload) (m.payload.drop 16) }, ?_, ?_, hsid, KMap.find_put_self _ _ _, repliedWith_answer ?_ _ _ _⟩
  · show execWbSegment m ok s = _
    simp only [execWbSegment, otherOp_same hop, kopMsg_of_runs hruns, onTransfer_acts hx hshape hop, hcrc, halign, ge_iff_le,
      Nat.not_le.2 hin, hlen, hkey, hop, State.answerBlock, Bool.false_eq_true, ne_eq, not_true_eq_false, decide_false, Bool.or_self, if_false]
  · rw [transfers_answerBlock]
    refine List.mem_map.2 ⟨{ x with last := s1.now }, List.mem_map.2 ⟨x, hmem, if_pos rfl⟩, if_pos rfl⟩
  · show (s1.session? m.sid).isSome = true
    rw [hsn]; rfl

theorem wbEnd_effect (m : KMsg) (s s1 : State) (sn : Session) (x : BlockTransfer) (hruns : KopRuns s m 4 s1 sn)
    (hx : s1.transfer? (requesterOf m) true m.payload = some x) (hshape : bkShape m.payload = true) (hop : bkOp m.payload = 3)
    (hlen : m.payload.length = 16) (htotal : bkSize m.payload = x.total) (hfull : x.missing = none) (hkey : x.key ≠ stageKey)
    (hcrc : (crc32c (x.segs.flatMap (·.2))).toNat = bkCrc m.payload) :
    exec (.wbEnd m) s = .next
      (let t := (s1.setTransfer { x with last := s1.now }).dropTransfer x.sid
       ({ t with kop := { t.kop with blockEnds := t.kop.blockEnds ++ [(requesterOf m, x.key)] } } : State).writeObject (requesterOf m)
         (bkIdx m.payload) (bkSub m.payload) 8 (x.segs.flatMap (·.2))) := by
  have hfull' : ({ x with last := s1.now } : BlockTransfer).missing = none := hfull
  show execWbEnd m s = _
  simp only [execWbEnd, otherOp_same hop, kopMsg_of_runs hruns, onTransfer_acts hx hshape hop, hlen, htotal, hfull', hkey, hcrc,
    State.applyBlock, State.blockValue, Bool.false_eq_true, ne_eq, not_true_eq_false, if_false]

theorem wbAbort_effect (m : KMsg) (s s1 : State) (sn : Session) (x : BlockTransfer) (hruns : KopRuns s m 4 s1 sn)
    (hsn : s1.session? m.sid = some sn) (hx : s1.transfer? (requesterOf m) true m.payload = some x) (hshape : bkShape m.payload = true)
    (hop : bkOp m.payload = 4) (hlen : m.payload.length = 16) (hcrc : bkCrc m.payload = 0) (hsize : bkSize m.payload = 0) : ∃ u,
    exec (.wbAbort m) s = .next u ∧ (∀ t ∈ u.kop.transfers, t.sid ≠ m.sid) ∧
    RepliedWith u m 4 .ok (blockHeader 4 (bkIdx m.payload) (bkSub m.payload) 0 0) := by
  refine ⟨_, ?_, abortMsg_effect hsn hx hshape hop hlen hcrc hsize 4⟩
  show execWbAbort m s = _
  simp only [execWbAbort, otherOp_same hop, kopMsg_of_runs hruns, Bool.false_eq_true, if_false]

theorem blockTimeout_effect (sid : W32) (s : State) (h : ∃ t ∈ s.kop.transfers, t.sid = sid) : ∃ u, exec (.blockTimeout sid) s = .next u ∧
    (∀ t ∈ u.kop.transfers, t.sid ≠ sid) ∧ u.count (okey 0x1110 0xC) = (s.count (okey 0x1110 0xC) + 1) % 2 ^ 64 := by
  obtain ⟨t, ht, hsid⟩ := h
  have hany : s.kop.transfers.any (fun t => t.sid == sid) = true := List.any_eq_true.2 ⟨t, ht, by simpa using hsid⟩
  refine ⟨((s.dropTransfer sid).bump (kopCount 0xC) 1).settleStage, ?_, fun t ht => ?_, ?_⟩
  · show execBlockTimeout sid s = _
    simp only [execBlockTimeout, hany, if_true]
  · rw [settleStage_transfers, State.bump_kop] at ht
    exact not_mem_dropTransfer ht
  · rw [settleStage_count _ (by unfold Quiet; decide) (by decide), State.count_bump, if_pos ⟨by decide, rfl⟩]; rfl

/-- Settles O32: each message of an open transfer acts on it (`onTransfer_acts`), and the transfers left are read off. -/
theorem blockTransfers : Obligations.BlockTransfers := by
  unfold Obligations.BlockTransfers
  exact ⟨⟨rbInitiate_effect, rbSegment_effect, rbEnd_effect, rbAbort_effect⟩, wbInitiate_effect, wbSegment_effect,
    wbEnd_effect, wbAbort_effect, blockTimeout_effect⟩

end Sys2Proof.Machine
end

section
/-! SUPPORT. The fault log's summary and the TAP (16 R445, R446; 19 R500 to R502), and the supply (16 R442; 19 R487, R488, R497). -/

open Sys2Proof Sys2Proof.Machine Sys2Proof.Claims

namespace Sys2Proof.Machine

/-! The log's summary -/

/-- A count of records by kind, one more for each record of the kind. -/
theorem getOr_countKinds (l : List Bytes) (m : KMap Nat) (k : Nat) (h : l.length + KMap.getOr 0 m k < 2 ^ 64) :
    KMap.getOr 0 (l.foldl (fun m r => KMap.put m (field r 5 1) ((KMap.getOr 0 m (field r 5 1) + 1) % 2 ^ 64)) m) k =
      KMap.getOr 0 m k + (l.filter (fun r => field r 5 1 == k)).length := by
  induction l generalizing m with
  | nil => rfl
  | cons r l ih =>
    rw [List.length_cons] at h
    rw [List.foldl_cons]
    by_cases hk : field r 5 1 = k
    · have hput : KMap.getOr 0 (KMap.put m (field r 5 1) ((KMap.getOr 0 m (field r 5 1) + 1) % 2 ^ 64)) k = KMap.getOr 0 m k + 1 := by
        rw [KMap.getOr_put, if_pos hk, hk]
        omega
      have hkind : (field r 5 1 == k) = true := by simpa using hk
      rw [ih _ (by omega), hput, List.filter_cons, if_pos hkind, List.length_cons]
      omega
    · have hput : KMap.getOr 0 (KMap.put m (field r 5 1) ((KMap.getOr 0 m (field r 5 1) + 1) % 2 ^ 64)) k = KMap.getOr 0 m k := by
        rw [KMap.getOr_put, if_neg hk]
      have hkind : ¬ (field r 5 1 == k) = true := by simpa using hk
      rw [ih _ (by omega), hput, List.filter_cons, if_neg hkind]

theorem ledgerSummaryWrite_effect (s : State) : ∃ u, exec .ledgerSummaryWrite s = .next u ∧ u.ledger.sumPending = [] ∧
    u.ledger.sumRecs.length ≤ 64 ∧
    (∀ r ∈ u.ledger.sumRecs, r ∈ s.ledger.sumRecs ∨ (r ∈ s.ledger.sumPending ∧ keptKind (field r 5 1) = true)) ∧
    (∀ k, (s.ledger.sumPending.length + KMap.getOr 0 s.ledger.sumCounts k < 2 ^ 64) → KMap.getOr 0 u.ledger.sumCounts k =
      KMap.getOr 0 s.ledger.sumCounts k + (s.ledger.sumPending.filter (fun r => field r 5 1 == k)).length) ∧
    u = { s with ledger := u.ledger } := by
  refine ⟨_, rfl, rfl, ?_, fun r hr => ?_, fun k hk => getOr_countKinds _ _ k hk, rfl⟩
  · rw [List.length_drop]
    omega
  · rcases List.mem_append.1 (List.mem_of_mem_drop hr) with h | h
    · exact .inl h
    · exact .inr (List.mem_filter.1 h)

/-- Settles O55: the summary's counts by induction on its records, the rinse as a write that acts, and the TAP one branch each. -/
theorem logAndTapCommands : Obligations.LogAndTapCommands := by
  unfold Obligations.LogAndTapCommands
  refine ⟨⟨ledgerSummaryWrite_effect, fun r s hmay => ?_⟩, fun s hgood => ⟨?_, ?_, ?_, ?_, fun bits hir => ?_, fun code hlo hhi => ?_⟩⟩
  · obtain ⟨u, hrun, hans⟩ := exec_writeNow (i := .logRinse r [0x01]) (w := { s with flog := s.flog.rinse }) hmay rfl rfl rfl rfl
    exact ⟨u, hrun, by rw [hans.frame], hans.replied, by rw [hans.frame]⟩
  · show execTapExtest s = _
    simp only [execTapExtest, State.tapSelect, hgood, if_true]
  · show execTapBypass s = _
    simp only [execTapBypass, State.tapSelect, hgood, if_true]
  · refine ⟨({ s with tap := { s.tap with ir := 0x02 } } : State).send (.tdo idcode), ?_, ?_, ?_, ?_⟩
    · show execTapIdcode s = _
      simp only [execTapIdcode, State.tapSelect, hgood, if_true]
    · rw [send_frame_of_psns _ _ rfl]
    · rw [State.sent_send]; rfl
    · rfl
  · show execTapTestLogicReset s = _
    simp only [execTapTestLogicReset, hgood, if_true]
  · show execTapUpdateDr bits s = _
    simp only [execTapUpdateDr, hgood, hir, and_self, if_true]
  · have hin : ¬ (code < 0x10 ∨ code > 0x3F) := by
      rintro (h | h)
      · exact absurd hlo (BitVec.not_le.2 h)
      · exact absurd hhi (BitVec.not_le.2 h)
    have hrun : exec (.tapVendorDebug code) s = .next (if s.sealBlown then s.tapSelect 0xFF
        else { s with tap := { s.tap with ir := code, debugOpen := true }, boot := { s.boot with debugOpened := true } }) := by
      show execTapVendorDebug code s = _
      simp only [execTapVendorDebug, hgood, hin, Bool.not_true, Bool.false_eq_true, false_or, if_false]
    refine ⟨_, hrun, fun hseal => ?_, fun hseal => ?_⟩
    · rw [if_pos hseal, State.tapSelect, if_pos hgood]
    · simp only [hseal, Bool.false_eq_true, if_false]

/-! The governor (16 R442) -/

theorem State.count_stretch_ne (s : State) (d : Nat) (f : Die → Die) {k : Nat} (h : dkey d 0 8 ≠ k) : (s.stretch d f).count k = s.count k := by
  simp only [State.stretch]
  split
  · exact State.count_bump_ne _ _ h
  · rfl

theorem State.die_stretch_ne (s : State) {d i : Nat} (f : Die → Die) (h : d ≠ i) : (s.stretch d f).die i = s.die i := by
  obtain ⟨c, hc⟩ := s.stretch_frame d f
  rw [hc]
  exact State.die_setDie_ne s _ _ _ h

theorem State.die_dbump (s : State) (d k sub n i : Nat) : (s.dbump d k sub n).die i = s.die i := by
  obtain ⟨c, hc⟩ := s.bump_frame (dkey d k sub) n
  rw [State.dbump, hc]; rfl

theorem State.dbump_frame (s : State) (d k sub n : Nat) : ∃ c, s.dbump d k sub n = { s with cnt := c } := s.bump_frame _ _

theorem State.notePower_frame (s : State) (w : Nat) : s.notePower w = { s with power := { s.power with watts := w, peak := max s.power.peak w } } := rfl

/-- What stretching changes: dies and counters of dies. -/
structure Stretches (s u : State) : Prop where
  frame : u = { s with dies := u.dies, cnt := u.cnt }
  count : ∀ i j, i < 0x3000 → j < 256 → u.count (okey i j) = s.count (okey i j)

theorem Stretches.refl (s : State) : Stretches s s := ⟨rfl, fun _ _ _ _ => rfl⟩

theorem Stretches.trans {s u w : State} (hu : Stretches s u) (hw : Stretches u w) : Stretches s w := by
  obtain ⟨fu, cu⟩ := hu
  obtain ⟨fw, cw⟩ := hw
  exact ⟨fw.trans (by rw [fu]), fun i j hi hj => (cw i j hi hj).trans (cu i j hi hj)⟩

/-- A counter of a die lies above the module's own. -/
theorem dkey_ne_okey {d k sub i j : Nat} (hi : i < 0x3000) (hj : j < 256) : dkey d k sub ≠ okey i j := by
  unfold dkey okey; omega

theorem stretches_stretch (s : State) (d : Nat) (f : Die → Die) : Stretches s (s.stretch d f) := by
  obtain ⟨c, hc⟩ := s.stretch_frame d f
  exact ⟨by rw [hc]; rfl, fun i j hi hj => State.count_stretch_ne _ _ _ (dkey_ne_okey hi hj)⟩

theorem stretches_dbump (s : State) (d k sub n : Nat) : Stretches s (s.dbump d k sub n) := by
  obtain ⟨c, hc⟩ := s.dbump_frame d k sub n
  exact ⟨by rw [hc], fun i j hi hj => State.count_bump_ne _ _ (dkey_ne_okey hi hj)⟩

theorem stretches_governDie (s : State) (d : Nat) : Stretches s (s.governDie d) := by
  unfold State.governDie
  split
  · exact .refl s
  · exact (stretches_stretch s d _).trans (stretches_dbump _ _ _ _ _)

theorem governor_governDie (s : State) (d : Nat) : ((s.governDie d).die d).governor = true := by
  unfold State.governDie
  split
  · assumption
  · rw [State.die_dbump, State.die_stretch]

theorem governor_governDie_keeps {s : State} {i : Nat} (d : Nat) (h : (s.die i).governor = true) : ((s.governDie d).die i).governor = true := by
  by_cases hi : d = i
  · subst hi; exact governor_governDie s d
  · unfold State.governDie
    split
    · exact h
    · rw [State.die_dbump, State.die_stretch_ne _ _ hi]; exact h

/-- Every die of a list ends up governed. -/
theorem foldl_governDie (l : List Nat) (s : State) : Stretches s (l.foldl State.governDie s) ∧
    ∀ i, (i ∈ l ∨ (s.die i).governor = true) → ((l.foldl State.governDie s).die i).governor = true := by
  induction l generalizing s with
  | nil => exact ⟨.refl s, fun i h => h.elim (fun h => nomatch h) id⟩
  | cons d l ih =>
    obtain ⟨hs, hg⟩ := ih (s.governDie d)
    refine ⟨(stretches_governDie s d).trans hs, fun i h => hg i ?_⟩
    rcases h with h | h
    · rcases List.mem_cons.1 h with rfl | h
      · exact .inr (governor_governDie s i)
      · exact .inl h
    · exact .inr (governor_governDie_keeps d h)

/-- A die with power is one of those listed. -/
theorem mem_poweredDies {s : State} {d : Nat} (h : (s.die d).powered = true) : d ∈ s.poweredDies := by
  cases hfind : KMap.find s.dies d with
  | none => simp [State.die, KMap.getOr, hfind] at h
  | some x =>
    have hx : s.die d = x := by simp [State.die, KMap.getOr, hfind]
    exact List.mem_map.2 ⟨(d, x), List.mem_filter.2 ⟨find_mem hfind, hx ▸ h⟩, rfl⟩

theorem governorStretch_effect (d : DieNo) (w : Nat) (s : State) (hrunning : s.running = true) (hw : s.powerLimit < w)
    (hpow : (s.die d).powered = true) (hst : (s.die d).stretched = false) : ∃ u,
    exec (.governorStretch d w) s = .next u ∧ u.die d = { s.die d with governor := true } ∧
    u.count (dkey d 0xC 5) = (s.count (dkey d 0xC 5) + 1) % 2 ^ 64 ∧ u.count (dkey d 0 8) = (s.count (dkey d 0 8) + 1) % 2 ^ 64 ∧
    u.power = { s.power with watts := w, peak := max s.power.peak w } ∧ u = { s with dies := u.dies, power := u.power, cnt := u.cnt } := by
  have hgov : ((s.notePower w).die d).governor = false := by
    have h := hst
    simp only [Die.stretched, Bool.or_eq_false_iff] at h
    exact h.1.2
  have hrun : exec (.governorStretch d w) s = .next
      (((s.notePower w).stretch d (fun x => { x with governor := true })).dbump d 0xC 5 1) := by
    show execGovernorStretch d w s = _
    simp only [execGovernorStretch, hrunning, Nat.not_le.2 hw, hpow, hst, Bool.not_true, Bool.false_eq_true, or_self, if_false,
      State.governDie, hgov]
  have hstretch := State.count_stretch (s.notePower w) d (fun x => { x with governor := true })
  have hnew : (!((s.notePower w).die d).stretched && ({ (s.notePower w).die d with governor := true } : Die).stretched) = true := by
    rw [show (s.notePower w).die d = s.die d from rfl, hst]
    simp [Die.stretched]
  rw [if_pos hnew] at hstretch
  obtain ⟨c, hc⟩ := State.stretch_frame (s.notePower w) d (fun x => { x with governor := true })
  obtain ⟨b, hb⟩ := State.dbump_frame ((s.notePower w).stretch d (fun x => { x with governor := true })) d 0xC 5 1
  refine ⟨_, hrun, ?_, ?_, ?_, ?_, ?_⟩
  · rw [State.die_dbump, State.die_stretch]; rfl
  · rw [State.dbump, State.count_bump, if_pos ⟨by decide, rfl⟩, State.count_stretch_ne _ _ _ (by unfold dkey okey; omega)]; rfl
  · rw [State.dbump, State.count_bump_ne _ _ (by unfold dkey okey; omega), hstretch]; rfl
  · rw [hb, hc]; rfl
  · rw [hb, hc]; rfl

theorem governorRelease_effect (d : DieNo) (w : Nat) (s : State) (hrunning : s.running = true) (hw : 100 * w < 95 * s.powerLimit)
    (hgov : (s.die d).governor = true) : ∃ u, exec (.governorRelease d w) s = .next u ∧ u.die d = { s.die d with governor := false } ∧
    u.power = { s.power with watts := w, peak := max s.power.peak w } ∧ u = { s with dies := u.dies, power := u.power, cnt := u.cnt } := by
  have hrun : exec (.governorRelease d w) s = .next ((s.notePower w).stretch d (fun x => { x with governor := false })) := by
    show execGovernorRelease d w s = _
    simp only [execGovernorRelease, hrunning, ge_iff_le, Nat.not_le.2 hw, hgov, Bool.not_true, Bool.false_eq_true, or_self, if_false]
  obtain ⟨c, hc⟩ := State.stretch_frame (s.notePower w) d (fun x => { x with governor := false })
  refine ⟨_, hrun, by rw [State.die_stretch]; rfl, ?_, ?_⟩ <;> rw [hc] <;> rfl

theorem supplyTrip_effect (w : Nat) (s : State) (hrunning : s.running = true) (hw : 19000 < w) : ∃ u, exec (.supplyTrip w) s = .next u ∧
    u.power.tripAlert = true ∧ (∀ d, (s.die d).powered = true → (u.die d).governor = true) ∧ u.flogSeq = s.flogSeq + 1 ∧
    u.count (okey 0x2080 8) = (s.count (okey 0x2080 8) + 1) % 2 ^ 64 ∧ u.mem = s.mem ∧ u.jobs = s.jobs := by
  have hrun : exec (.supplyTrip w) s = .next ((({ s.poweredDies.foldl State.governDie s with
      power := { (s.poweredDies.foldl State.governDie s).power with tripAlert := true } } : State).bump (okey 0x2080 8) 1).log
      { kind := 0x0A, resource := 0x0C }) := by
    show execSupplyTrip w s = _
    simp only [execSupplyTrip, hrunning, Nat.not_le.2 hw, Bool.not_true, Bool.false_eq_true, or_self, if_false]
  obtain ⟨hs, hg⟩ := foldl_governDie s.poweredDies s
  generalize s.poweredDies.foldl State.governDie s = v at hrun hs hg
  obtain ⟨c, hc⟩ := State.bump_frame ({ v with power := { v.power with tripAlert := true } } : State) (okey 0x2080 8) 1
  have hlog := logFrame_log (({ v with power := { v.power with tripAlert := true } } : State).bump (okey 0x2080 8) 1)
    { kind := 0x0A, resource := 0x0C }
  obtain ⟨-, hmem, hjobs, -⟩ := hlog.keeps
  refine ⟨_, hrun, ?_, fun d hd => ?_, ?_, ?_, ?_, ?_⟩
  · rw [hlog, hc]
  · rw [hlog.die, hc]
    exact hg d (.inl (mem_poweredDies hd))
  · rw [State.flogSeq_log, hc, hs.frame]
  · rw [State.count_log _ _ (by unfold Quiet; decide), State.count_bump, if_pos ⟨by decide, rfl⟩]
    exact congrArg (fun n => (n + 1) % 2 ^ 64) (hs.count 0x2080 8 (by decide) (by decide))
  · rw [hmem, hc, hs.frame]
  · rw [hjobs, hc, hs.frame]

/-! The bus (19 R488) -/

theorem setBus_eq (s : State) (mv : Nat) (b : BusBand) : s.setBus mv b = { s with power := { s.power with busMv := mv, band := b } } := rfl

/-- The input capacitance holds no charge once the bus is gone. -/
def State.uncharge (s : State) (mv : Nat) : State := { s with power := { s.power with charged := s.power.charged && mv ≠ 0 } }

theorem powerLoss_effect (s : State) : s.powerLoss.power.good = false ∧ s.powerLoss.power.hold = [.power] ∧ s.powerLoss.mem = [] ∧
    s.powerLoss.jobs = [] := ⟨rfl, rfl, rfl, rfl⟩

/-- Settles O51: each command is the one branch its conditions leave; a trip governs every powered die (`foldl_governDie`). -/
theorem supplyCommands : Obligations.SupplyCommands := by
  unfold Obligations.SupplyCommands
  refine ⟨governorStretch_effect, governorRelease_effect, supplyTrip_effect, fun s => rfl, fun mv s hgood => ?_, fun mv s cmd b h => ?_,
    fun mv s cmd b hgood h => ?_⟩
  · refine ⟨_, show execBusInsert mv s = .next _ by simp only [execBusInsert, hgood, Bool.false_eq_true, if_false]; rfl, rfl, rfl, rfl, rfl⟩
  · rcases h with ⟨rfl, rfl, hgood, hlo, hhi⟩ | ⟨rfl, rfl, hband, hlo, hhi⟩ | ⟨rfl, rfl, hgood, hlo, hhi⟩ | ⟨rfl, rfl, hband, hlo, hhi⟩
    · show execBusHighBand mv s = _
      simp only [execBusHighBand, hgood, Nat.not_le.2 hlo, gt_iff_lt, Nat.not_lt.2 hhi, Bool.not_true, Bool.false_eq_true, or_self, if_false,
        setBus_eq]
    · show execBusHighBandExit mv s = _
      simp only [execBusHighBandExit, hband, Nat.not_lt.2 hlo, gt_iff_lt, Nat.not_lt.2 hhi, ne_eq, not_true_eq_false, or_self, if_false,
        setBus_eq]
    · show execBusLowBand mv s = _
      simp only [execBusLowBand, hgood, Nat.not_lt.2 hlo, ge_iff_le, Nat.not_le.2 hhi, Bool.not_true, Bool.false_eq_true, or_self, if_false,
        setBus_eq]
    · show execBusLowRecover mv s = _
      simp only [execBusLowRecover, hband, Nat.not_lt.2 hlo, gt_iff_lt, Nat.not_lt.2 hhi, ne_eq, not_true_eq_false, or_self, if_false,
        setBus_eq]
  · obtain ⟨hg, hh, hm, hj⟩ := powerLoss_effect s
    rcases h with ⟨rfl, rfl, hlo⟩ | ⟨rfl, rfl, hhi⟩
    · refine ⟨s.powerLoss.setBus mv .over, ?_, hg, rfl, rfl, hh, hm, hj⟩
      show execBusOvervolt mv s = _
      simp only [execBusOvervolt, hgood, Nat.not_le.2 hlo, Bool.not_true, Bool.false_eq_true, or_self, if_false]
    · refine ⟨(s.powerLoss.setBus mv .under).uncharge mv, ?_, hg, rfl, rfl, hh, hm, hj⟩
      show execBusUndervolt mv s = _
      simp only [execBusUndervolt, hgood, ge_iff_le, Nat.not_le.2 hhi, Bool.not_true, Bool.false_eq_true, or_self, if_false]
      rfl

end Sys2Proof.Machine
end

section
/-! SUPPORT. Temperature and coolant (16 R443; 19 R492, R494). -/

open Sys2Proof Sys2Proof.Machine Sys2Proof.Claims

namespace Sys2Proof.Machine

/-! Dies held and reset -/

theorem Ends.power {s u : State} (h : Ends s u) : u.power = s.power := by
  have hframe := Tears.frame h
  unfold EndFrame at hframe
  rw [hframe]

theorem Ends.torn {s u : State} (h : Ends s u) (d : Nat) : (s.die d).torn (u.die d) := Tears.die h d

theorem die_clearDie_ne (s : State) {d i : Nat} (h : d ≠ i) : (s.clearDie d).die i = s.die i := by
  unfold State.clearDie
  exact State.die_setDie_ne _ _ _ _ h

theorem Readied.power {s u : State} (h : Readied s u) : u.power = s.power := by rw [h.noticed.frame]
theorem Readied.ledger {s u : State} (h : Readied s u) : u.ledger = s.ledger := h.map_pages.1

/-- A die held in reset: its state and its tiles; what its sensors and the fault logic hold stays, as do the power state, the
retired-resource map and the other dies' states. -/
structure Held (s u : State) (d : Nat) : Prop where
  state : (u.die d).state = .held
  thermal : (u.die d).thermal = (s.die d).thermal
  temp : (u.die d).temp = (s.die d).temp
  tiles : ∀ i < 144, u.tile (144 * d + i) = {}
  others : ∀ i, d ≠ i → (u.die i).state = (s.die i).state
  power : u.power = s.power
  retired : u.ledger.retired = s.ledger.retired

theorem clearDie_keeps (s : State) (d : Nat) : (s.clearDie d).power = s.power ∧ (s.clearDie d).ledger = s.ledger := ⟨rfl, rfl⟩

theorem setDieState_keeps (s : State) (d : Nat) (st : DieState) : (s.setDieState d st).power = s.power ∧
    (s.setDieState d st).ledger = s.ledger ∧ ∀ t, (s.setDieState d st).tile t = s.tile t := by
  have hset := readied_setDieState s d st
  exact ⟨hset.power, hset.ledger, hset.tile⟩

theorem held_holdDie (s : State) (d : Nat) : Held s (s.holdDie d) d := by
  unfold State.holdDie
  have hends := ends_abortDie s d
  generalize s.abortDie d = v at hends
  have htorn : (s.die d).torn (v.die d) := hends.torn d
  unfold Die.torn at htorn
  obtain ⟨hpower, hledger⟩ := clearDie_keeps v d
  have hself := die_clearDie v d
  have hothers := fun i (hi : d ≠ i) => die_clearDie_ne v hi
  have htiles := fun i (hi : i < 144) => tile_clearDie v d hi
  generalize v.clearDie d = w at hpower hledger hself hothers htiles
  obtain ⟨hpower', hledger', htiles'⟩ := setDieState_keeps w d .held
  refine ⟨by rw [State.die_setDieState], ?_, ?_, fun i hi => (htiles' _).trans (htiles i hi), fun i hi => ?_,
    hpower'.trans (hpower.trans hends.power), ?_⟩
  · rw [State.die_setDieState, hself, htorn]; rfl
  · rw [State.die_setDieState, hself, htorn]; rfl
  · rw [State.die_setDieState_ne _ _ hi, hothers i hi, hends.dieState]
  · rw [hledger', hledger, hends.retired]

/-- A die reset: the die is Off and no longer held for coolant; temperatures stay, and the other dies. -/
structure Unheld (s u : State) (d : Nat) : Prop where
  state : (u.die d).state = .off
  temp : ∀ i, (u.die i).temp = (s.die i).temp
  power : u.power = { s.power with heldDies := s.power.heldDies.del d }

/-- The die as a reset leaves it before its state is set: a trip ends. -/
def Die.rise (x : Die) (up : Bool) (warn : Int) : Die :=
  if x.thermal = 3 then { x with powered := up, throttle := false, thermal := if x.temp ≥ warn then 1 else 0 } else { x with powered := up }

theorem Die.temp_rise (x : Die) (up : Bool) (warn : Int) : (x.rise up warn).temp = x.temp := by
  unfold Die.rise
  split <;> rfl

/-- A die no longer held for coolant. -/
def State.unhold (s : State) (d : Nat) : State := { s with power := { s.power with heldDies := s.power.heldDies.del d } }

theorem unhold_keeps (s : State) (d : Nat) : (∀ i, (s.unhold d).die i = s.die i) ∧
    (s.unhold d).power = { s.power with heldDies := s.power.heldDies.del d } := ⟨fun _ => rfl, rfl⟩

/-- A die cleared, and ready to come up again. -/
def State.risen (s : State) (d : Nat) : State :=
  (s.clearDie d).modDie d (fun x => x.rise (decide (d / 8 < s.power.groups)) (s.objInt 0x2081 1 9500))

theorem risen_keeps (s : State) (d : Nat) : (∀ i, ((s.risen d).die i).temp = (s.die i).temp) ∧ (s.risen d).power = s.power := by
  unfold State.risen
  obtain ⟨hpower, -⟩ := clearDie_keeps s d
  have hself := die_clearDie s d
  have hothers := fun i (hi : d ≠ i) => die_clearDie_ne s hi
  generalize s.clearDie d = w at hpower hself hothers
  refine ⟨fun i => ?_, hpower⟩
  by_cases hi : d = i
  · subst hi
    rw [State.die_modDie, Die.temp_rise, hself]; rfl
  · rw [State.modDie, State.die_setDie_ne _ _ _ _ hi, hothers i hi]

theorem resetDie_eq (s : State) (d : Nat) : s.resetDie d = (((s.risen d).unhold d).setDieState d .off).bump (okey 0x1202 4) 1 := rfl

theorem unheld_resetDie (s : State) (d : Nat) : Unheld s (s.resetDie d) d := by
  rw [resetDie_eq]
  obtain ⟨htemp, hpower⟩ := risen_keeps s d
  obtain ⟨hdie, hheld⟩ := unhold_keeps (s.risen d) d
  generalize (s.risen d).unhold d = v at hdie hheld
  obtain ⟨hpower', -, -⟩ := setDieState_keeps v d .off
  refine ⟨by rw [State.die_bump, State.die_setDieState], fun i => ?_, ?_⟩
  · rw [State.die_bump, ← htemp i, ← hdie i]
    by_cases hi : d = i
    · subst hi
      rw [State.die_setDieState]
    · rw [State.die_setDieState_ne _ _ hi]
  · obtain ⟨c, hc⟩ := State.bump_frame (v.setDieState d .off) (okey 0x1202 4) 1
    rw [hc]
    exact hpower'.trans (hheld.trans (by rw [hpower]))

/-! Thresholds (R443) -/

theorem die_noteTemp (s : State) (d : Nat) (t : Int) : (s.noteTemp d t).die d = { s.die d with temp := t, tempMax := max (s.die d).tempMax t } :=
  State.die_modDie _ _ _

theorem die_setThermal (s : State) (d n : Nat) : (s.setThermal d n).die d = { s.die d with thermal := n } := State.die_modDie _ _ _

theorem logFrame_logThermal (s : State) (d : Nat) : LogFrame s (s.logThermal d) := logFrame_log _ _

theorem thermalWarn_effect (d : DieNo) (temp : Int) (s : State) (hpow : (s.die d).powered = true) : ∃ u,
    exec (.thermalWarn d temp) s = .next u ∧ (u.die d).temp = temp ∧
    (s.dieWarn ≤ temp → (s.die d).thermal = 0 → (u.die d).thermal = 1 ∧ u.flogSeq = s.flogSeq + 1) ∧
    (temp < s.dieWarn → (s.die d).thermal = 1 → (u.die d).thermal = 0 ∧ u = { s with dies := u.dies }) ∧ u.mem = s.mem ∧ u.jobs = s.jobs := by
  have hth : ((s.noteTemp d temp).die d).thermal = (s.die d).thermal := by rw [die_noteTemp]
  have hrun : exec (.thermalWarn d temp) s = .next (if temp ≥ s.dieWarn then
      (if (s.die d).thermal = 0 then ((s.noteTemp d temp).logThermal d).setThermal d 1 else s.noteTemp d temp)
      else if (s.die d).thermal = 1 then (s.noteTemp d temp).setThermal d 0 else s.noteTemp d temp) := by
    show execThermalWarn d temp s = _
    simp only [execThermalWarn, hpow, hth, Bool.not_true, Bool.false_eq_true, if_false]
    rfl
  refine ⟨_, hrun, ?_⟩
  split
  case isTrue hwarm =>
    split
    case isTrue hzero =>
      have hlog := logFrame_logThermal (s.noteTemp d temp) d
      obtain ⟨-, hmem, hjobs, -⟩ := hlog.keeps
      have hseq : ((s.noteTemp d temp).logThermal d).flogSeq = s.flogSeq + 1 := State.flogSeq_log _ _
      refine ⟨?_, fun _ _ => ⟨by rw [die_setThermal], hseq⟩, fun hcold => absurd hwarm (not_le.2 hcold), hmem, hjobs⟩
      rw [die_setThermal, hlog.die, die_noteTemp]
    case isFalse hzero =>
      exact ⟨by rw [die_noteTemp], fun _ h => absurd h hzero, fun hcold => absurd hwarm (not_le.2 hcold), rfl, rfl⟩
  case isFalse hcold =>
    split
    case isTrue hone =>
      exact ⟨by rw [die_setThermal, die_noteTemp], fun hwarm => absurd hwarm hcold, fun _ _ => ⟨by rw [die_setThermal], rfl⟩, rfl, rfl⟩
    case isFalse hone =>
      exact ⟨by rw [die_noteTemp], fun hwarm => absurd hwarm hcold, fun _ h => absurd h hone, rfl, rfl⟩

theorem noteCrossing_frame (s : State) (d : Nat) : LogFrame s (s.noteCrossing d) ∧ ∀ k, Quiet k → (s.noteCrossing d).count k = s.count k := by
  unfold State.noteCrossing
  split
  · exact ⟨logFrame_logThermal s d, fun k hk => State.count_log _ _ hk⟩
  · exact ⟨.refl s, fun _ _ => rfl⟩

theorem thermalThrottle_effect (d : DieNo) (temp : Int) (s : State) (hpow : (s.die d).powered = true) (hhot : s.dieThrottle ≤ temp)
    (hth : (s.die d).thermal < 2) : ∃ u, exec (.thermalThrottle d temp) s = .next u ∧ (u.die d).temp = temp ∧ (u.die d).thermal = 2 ∧
    (u.die d).throttle = true ∧ u.count (dkey d 0xC 4) = (s.count (dkey d 0xC 4) + 1) % 2 ^ 64 ∧ u.mem = s.mem ∧ u.jobs = s.jobs := by
  have hrun : exec (.thermalThrottle d temp) s = .next ((((((s.noteTemp d temp).noteCrossing d).setThermal d 2).stretch d
      (fun x => { x with throttle := true }))).dbump d 0xC 4 1) := by
    show execThermalThrottle d temp s = _
    simp only [execThermalThrottle, hpow, not_lt.2 hhot, ge_iff_le, Nat.not_le.2 hth, Bool.not_true, Bool.false_eq_true, or_self, if_false]
  obtain ⟨hlog, hcount⟩ := noteCrossing_frame (s.noteTemp d temp) d
  have hdie := (hlog.die d).trans (die_noteTemp s d temp)
  have hkey := hcount _ (quiet_dkey d 0xC 4)
  obtain ⟨-, hmem, hjobs, -⟩ := hlog.keeps
  generalize State.noteCrossing (s.noteTemp d temp) d = v at hrun hdie hkey hmem hjobs
  have hst := stretches_stretch (v.setThermal d 2) d (fun x => { x with throttle := true })
  obtain ⟨c, hc⟩ := State.dbump_frame ((v.setThermal d 2).stretch d (fun x => { x with throttle := true })) d 0xC 4 1
  refine ⟨_, hrun, ?_, ?_, ?_, ?_, ?_, ?_⟩
  · rw [State.die_dbump, State.die_stretch, die_setThermal, hdie]
  · rw [State.die_dbump, State.die_stretch, die_setThermal]
  · rw [State.die_dbump, State.die_stretch]
  · rw [State.dbump, State.count_bump, if_pos ⟨by decide, rfl⟩, State.count_stretch_ne _ _ _ (by unfold dkey okey; omega)]
    exact congrArg (fun n => (n + 1) % 2 ^ 64) hkey
  · rw [hc, hst.frame]; exact hmem
  · rw [hc, hst.frame]; exact hjobs

theorem thermalThrottleEnd_effect (d : DieNo) (temp : Int) (s : State) (hcool : temp < s.dieThrottle - 500) (hth : (s.die d).thermal = 2) :
    ∃ u, exec (.thermalThrottleEnd d temp) s = .next u ∧ (u.die d).throttle = false ∧
    (u.die d).thermal = (if s.dieWarn ≤ temp then 1 else 0) ∧ u = { s with dies := u.dies, cnt := u.cnt } := by
  have hrun : exec (.thermalThrottleEnd d temp) s = .next (((s.noteTemp d temp).setThermal d (if temp ≥ s.dieWarn then 1 else 0)).stretch d
      (fun x => { x with throttle := false })) := by
    show execThermalThrottleEnd d temp s = _
    simp only [execThermalThrottleEnd, ge_iff_le, not_le.2 hcool, hth, ne_eq, not_true_eq_false, or_self, if_false]
  have hst := stretches_stretch ((s.noteTemp d temp).setThermal d (if temp ≥ s.dieWarn then 1 else 0)) d (fun x => { x with throttle := false })
  refine ⟨_, hrun, by rw [State.die_stretch], ?_, ?_⟩
  · rw [State.die_stretch, die_setThermal]
  · rw [hst.frame]; rfl

theorem thermalTrip_effect (d : DieNo) (temp : Int) (s : State) (hpow : (s.die d).powered = true) (hhot : 11500 ≤ temp)
    (hth : (s.die d).thermal ≠ 3) (hret : s.isRetired (.die d) = false) : ∃ u, exec (.thermalTrip d temp) s = .next u ∧
    (u.die d).state = .held ∧ (u.die d).thermal = 3 ∧ (u.die d).temp = temp ∧ (∀ i < 144, u.tile (144 * d + i) = {}) := by
  have hrun : exec (.thermalTrip d temp) s = .next ((((s.noteTemp d temp).noteCrossing d).setThermal d 3).holdDie d) := by
    show execThermalTrip d temp s = _
    simp only [execThermalTrip, hpow, not_lt.2 hhot, hth, hret, Bool.not_true, Bool.false_eq_true, or_self, if_false]
  obtain ⟨hlog, -⟩ := noteCrossing_frame (s.noteTemp d temp) d
  obtain ⟨hstate, hthermal, htemp, htiles, -, -, -⟩ := held_holdDie (((s.noteTemp d temp).noteCrossing d).setThermal d 3) d
  refine ⟨_, hrun, hstate, ?_, ?_, htiles⟩
  · rw [hthermal, die_setThermal]
  · rw [htemp, die_setThermal, hlog.die, die_noteTemp]

/-! Coolant (19 R494) -/

/-- A die of the coolant hold is held and listed, unless it is retired; the others stay as they were. -/
theorem coolHold_effect (s : State) (d : Nat) :
    (s.coolHold d).power = { s.power with heldDies := (s.coolHold d).power.heldDies } ∧
    (s.coolHold d).ledger.retired = s.ledger.retired ∧
    (s.isRetired (.die d) = false → ((s.coolHold d).die d).state = .held ∧ d ∈ (s.coolHold d).power.heldDies) ∧
    ∀ i, (s.die i).state = .held ∧ i ∈ s.power.heldDies → ((s.coolHold d).die i).state = .held ∧ i ∈ (s.coolHold d).power.heldDies := by
  unfold State.coolHold
  split
  case isTrue hret => exact ⟨rfl, rfl, fun h => absurd hret (by simp [h]), fun i h => h⟩
  case isFalse hret =>
    have hself : d ∈ s.power.heldDies.add d := (NSet.mem_add _ _ _).2 (.inl rfl)
    have hkeep : ∀ i, i ∈ s.power.heldDies → i ∈ s.power.heldDies.add d := fun i hi => (NSet.mem_add _ _ _).2 (.inr hi)
    dsimp only
    split
    case isTrue hheld => exact ⟨rfl, rfl, fun _ => ⟨hheld, hself⟩, fun i ⟨h, hi⟩ => ⟨h, hkeep i hi⟩⟩
    case isFalse =>
      obtain ⟨hstate, -, -, -, hothers, hpower, hretired⟩ :=
        held_holdDie ({ s with power := { s.power with heldDies := s.power.heldDies.add d } } : State) d
      refine ⟨by rw [hpower], hretired, fun _ => ⟨hstate, by rw [hpower]; exact hself⟩, fun i ⟨h, hi⟩ => ⟨?_, by rw [hpower]; exact hkeep i hi⟩⟩
      by_cases hdi : d = i
      · exact hdi ▸ hstate
      · exact (hothers i hdi).trans h

theorem foldl_coolHold (l : List Nat) (s : State) :
    (l.foldl State.coolHold s).power = { s.power with heldDies := (l.foldl State.coolHold s).power.heldDies } ∧
    ∀ i, (i ∈ l ∧ s.isRetired (.die i) = false) ∨ ((s.die i).state = .held ∧ i ∈ s.power.heldDies) →
      ((l.foldl State.coolHold s).die i).state = .held ∧ i ∈ (l.foldl State.coolHold s).power.heldDies := by
  induction l generalizing s with
  | nil => exact ⟨rfl, fun i h => h.elim (fun h => nomatch h.1) id⟩
  | cons d l ih =>
    obtain ⟨hpower, hretired, hheld, hkeep⟩ := coolHold_effect s d
    obtain ⟨hpower', hall⟩ := ih (s.coolHold d)
    refine ⟨hpower'.trans (by rw [hpower]; rfl), fun i h => hall i ?_⟩
    rcases h with ⟨hi, hret⟩ | h
    · rcases List.mem_cons.1 hi with rfl | hi
      · exact .inr (hheld hret)
      · exact .inl ⟨hi, (isRetired_of_retired hretired _).trans hret⟩
    · exact .inr (hkeep i h)

theorem coolantHold_effect (inlet outlet : Int) (flow : Nat) (fault : Bool) (s : State) (hawake : s.awake = true)
    (hhold : s.power.coolantHold = false) (hout : coolantOutside inlet flow fault = true) : ∃ u,
    exec (.coolantHold inlet outlet flow fault) s = .next u ∧ u.power.coolantHold = true ∧ u.power.inlet = inlet ∧ u.power.flow = flow ∧
    (∀ d, (s.die d).powered = true → s.isRetired (.die d) = false → (u.die d).state = .held ∧ d ∈ u.power.heldDies) := by
  have hrun : exec (.coolantHold inlet outlet flow fault) s = .next (s.poweredDies.foldl State.coolHold
      { s with power := { s.power.coolant inlet outlet flow with coolantHold := true } }) := by
    show execCoolantHold inlet outlet flow fault s = _
    simp only [execCoolantHold, hawake, hhold, hout, Bool.not_true, Bool.false_eq_true, or_self, if_false]
    rfl
  obtain ⟨hpower, hheld⟩ := foldl_coolHold s.poweredDies
    ({ s with power := { s.power.coolant inlet outlet flow with coolantHold := true } } : State)
  refine ⟨_, hrun, ?_, ?_, ?_, fun d hd hret => hheld d (.inl ⟨mem_poweredDies hd, hret⟩)⟩ <;> rw [hpower] <;> rfl

/-- A held die that has cooled is released, and no temperature changes. -/
theorem releaseDie_effect (s : State) (d : Nat) : (∀ i, ((s.releaseDie d).die i).temp = (s.die i).temp) ∧
    (s.releaseDie d).power = { s.power with heldDies := (s.releaseDie d).power.heldDies } ∧
    ∀ i ∈ (s.releaseDie d).power.heldDies, i ∈ s.power.heldDies ∧ (i = d → 9000 < (s.die d).temp) := by
  unfold State.releaseDie
  split
  case isTrue hcool =>
    obtain ⟨-, htemp, hpower⟩ := unheld_resetDie s d
    refine ⟨htemp, by rw [hpower], fun i hi => ?_⟩
    rw [hpower] at hi
    obtain ⟨hin, hne⟩ := (NSet.mem_del _ _ _).1 hi
    exact ⟨hin, fun h => absurd h hne⟩
  case isFalse hhot => exact ⟨fun _ => rfl, rfl, fun i hi => ⟨hi, fun _ => not_le.1 hhot⟩⟩

theorem foldl_releaseDie (l : List Nat) (s : State) : (∀ i, ((l.foldl State.releaseDie s).die i).temp = (s.die i).temp) ∧
    (l.foldl State.releaseDie s).power = { s.power with heldDies := (l.foldl State.releaseDie s).power.heldDies } ∧
    ∀ i ∈ (l.foldl State.releaseDie s).power.heldDies, i ∈ s.power.heldDies ∧ (i ∈ l → 9000 < (s.die i).temp) := by
  induction l generalizing s with
  | nil => exact ⟨fun _ => rfl, rfl, fun i hi => ⟨hi, fun h => nomatch h⟩⟩
  | cons d l ih =>
    obtain ⟨htemp, hpower, hheld⟩ := releaseDie_effect s d
    obtain ⟨htemp', hpower', hheld'⟩ := ih (s.releaseDie d)
    refine ⟨fun i => (htemp' i).trans (htemp i), hpower'.trans (by rw [hpower]; rfl), fun i hi => ?_⟩
    obtain ⟨hin, hhot⟩ := hheld' i hi
    obtain ⟨hin', hhot'⟩ := hheld i hin
    refine ⟨hin', fun h => ?_⟩
    rcases List.mem_cons.1 h with rfl | h
    · exact hhot' rfl
    · exact htemp i ▸ hhot h

theorem coolantRelease_effect (inlet outlet : Int) (flow : Nat) (s : State) (hawake : s.awake = true) (hhold : s.power.coolantHold = true)
    (hin : coolantInRange inlet flow = true) : ∃ u, exec (.coolantRelease inlet outlet flow) s = .next u ∧ u.power.coolantHold = false ∧
    u.power.coolantOk = true ∧ (∀ d ∈ u.power.heldDies, d ∈ s.power.heldDies ∧ 9000 < (u.die d).temp) := by
  have hrun : exec (.coolantRelease inlet outlet flow) s = .next (s.power.heldDies.foldl State.releaseDie
      { s with power := { s.power.coolant inlet outlet flow with coolantHold := false, coolantOk := true } }) := by
    show execCoolantRelease inlet outlet flow s = _
    simp only [execCoolantRelease, hawake, hhold, hin, Bool.not_true, Bool.false_eq_true, or_self, if_false]
    rfl
  obtain ⟨htemp, hpower, hheld⟩ := foldl_releaseDie s.power.heldDies
    ({ s with power := { s.power.coolant inlet outlet flow with coolantHold := false, coolantOk := true } } : State)
  refine ⟨_, hrun, ?_, ?_, fun d hd => ?_⟩
  · rw [hpower]
  · rw [hpower]
  · obtain ⟨hmem, hhot⟩ := hheld d hd
    exact ⟨hmem, by rw [htemp]; exact hhot hmem⟩

theorem heldDieCooled_effect (d : DieNo) (temp : Int) (s : State) (hawake : s.awake = true) (hhold : s.power.coolantHold = false)
    (hcool : temp ≤ 9000) (hheld : d.val ∈ s.power.heldDies) : ∃ u, exec (.heldDieCooled d temp) s = .next u ∧ (u.die d).state = .off ∧
    (u.die d).temp = temp ∧ d.val ∉ u.power.heldDies := by
  have hlisted : s.power.heldDies.contains d.val = true := List.contains_iff_mem.2 hheld
  have hrun : exec (.heldDieCooled d temp) s = .next ((s.noteTemp d temp).resetDie d) := by
    show execHeldDieCooled d temp s = _
    simp only [execHeldDieCooled, hawake, hhold, gt_iff_lt, not_lt.2 hcool, hlisted, Bool.not_true, Bool.false_eq_true, or_self, if_false]
  obtain ⟨hstate, htemp, hpower⟩ := unheld_resetDie (s.noteTemp d temp) d
  refine ⟨_, hrun, hstate, by rw [htemp, die_noteTemp], ?_⟩
  rw [hpower]
  exact fun h => ((NSet.mem_del _ _ _).1 h).2 rfl

/-- Settles O52: the thresholds branch by branch; the coolant's holds and releases die by die (`held_holdDie`, `unheld_resetDie`). -/
theorem thermalCommands : Obligations.ThermalCommands := by
  unfold Obligations.ThermalCommands
  refine ⟨thermalWarn_effect, thermalThrottle_effect, thermalThrottleEnd_effect, thermalTrip_effect, coolantHold_effect,
    coolantRelease_effect, heldDieCooled_effect, fun inlet outlet flow s hawake hok hhold hin => ?_⟩
  show execCoolantQualified inlet outlet flow s = _
  simp only [execCoolantQualified, hawake, hok, hhold, hin, Bool.not_true, Bool.false_eq_true, or_self, if_false, Power.coolant]

end Sys2Proof.Machine
end

section
/-! SUPPORT. Firmware update (18 R474 to R481), and fuses and the ledger's writes (17 R465; 18 R473, R481; 14 R401; 19 R498). -/

open Sys2Proof Sys2Proof.Machine Sys2Proof.Claims

namespace Sys2Proof.Machine

/-! Staging -/

/-- The block a failed staging reports. -/
def failedBlock (bad : Option Nat) : W32 := match bad with | some b => BitVec.ofNat 32 b | none => 0xFFFFFFFF

theorem ledger_log (s : State) (r : LogRec) : (s.log r).ledger = { s.ledger with sumPending := (s.log r).ledger.sumPending } :=
  congrArg State.ledger (logFrame_log s r)

/-- What a failed staging changes: the staging, its count, and a log record. -/
theorem stageFail_effect (s : State) (reason : Nat) (st : Status) (bad : Option Nat) :
    (s.stageFail reason st bad).boot = { s.boot with stage := { s.boot.stage with state := .failed, reason := reason, bad := failedBlock bad } } ∧
    (s.stageFail reason st bad).count (okey 0x2800 8) = (s.count (okey 0x2800 8) + 1) % 2 ^ 64 ∧
    (s.stageFail reason st bad).flogSeq = s.flogSeq + 1 ∧
    (s.stageFail reason st bad).ledger = { s.ledger with sumPending := (s.stageFail reason st bad).ledger.sumPending } ∧
    (s.stageFail reason st bad).kop.sessions.map Session.who = s.kop.sessions.map Session.who := by
  unfold State.stageFail
  dsimp only
  generalize hv : s.setStage _ = v
  have hstage : v.boot = { s.boot with stage := { s.boot.stage with state := .failed, reason := reason, bad := failedBlock bad } } := by
    rw [← hv]; cases bad <;> rfl
  have hkeep : v.cnt = s.cnt ∧ v.flogSeq = s.flogSeq ∧ v.ledger = s.ledger ∧ v.kop = s.kop := by rw [← hv]; exact ⟨rfl, rfl, rfl, rfl⟩
  obtain ⟨hcnt, hseq, hledger, hkop⟩ := hkeep
  obtain ⟨c, hc⟩ := v.bump_frame (okey 0x2800 8) 1
  obtain ⟨hframe, hcount, hwho⟩ := noticed_log (v.bump (okey 0x2800 8) 1) { status := st, kind := 4, resource := 0x0C, reason := 7 }
  refine ⟨?_, ?_, ?_, ?_, ?_⟩
  · rw [hframe, hc]
    exact hstage
  · rw [State.count_log _ _ (by unfold Quiet; decide), State.count_bump, if_pos ⟨by decide, rfl⟩]
    exact congrArg (fun c => (KMap.getOr 0 c _ + 1) % 2 ^ 64) hcnt
  · rw [State.flogSeq_log, hc]
    exact congrArg (· + 1) hseq
  · have hbump : (v.bump (okey 0x2800 8) 1).ledger = s.ledger := by rw [hc]; exact hledger
    exact (ledger_log _ _).trans (by rw [hbump])
  · rw [hwho, hc]
    exact congrArg (fun k : Kop => k.sessions.map Session.who) hkop

theorem prepare_network {s : State} {n : Nat} (h : s.networkWait = true) :
    s.prepare n = { s with boot := { s.boot with stage := { state := .empty, prepared := n, erased := n }, image := [] } } := by
  simp only [State.prepare, h, if_true]
  rfl

theorem prepare_slot {s : State} {n : Nat} (h : s.networkWait = false) :
    s.prepare n = { s with
      boot := { s.boot with stage := { state := .erasing, prepared := n, targetB := s.stageTarget } },
      ledger := { s.ledger with
        flash := s.ledger.flash.delRange (slotBase s.stageTarget) (slotBase s.stageTarget + n * blockBytes) } } := by
  simp only [State.prepare, h, Bool.false_eq_true, if_false]
  rfl

theorem stagePrepare_effect (r : Requester) (v : Bytes) (s : State) (hmay : WriteMay s r 0x2801 1 v []) (hlo : 8 ≤ leNat v)
    (hhi : leNat v ≤ s.stageMax) (href : s.prepareRefused = false) :
    ∃ u, exec (.stagePrepare r v) s = .next u ∧ Replied u r .ok ∧ u.boot.stage.prepared = leNat v ∧
    (s.networkWait = true → u.boot.stage.state = .empty ∧ u.boot.stage.erased = leNat v ∧ u.boot.image = [] ∧ u.ledger = s.ledger) ∧
    (s.networkWait = false → u.boot.stage.state = .erasing ∧ u.boot.stage.targetB = s.stageTarget ∧
      (∀ a, KMap.find u.ledger.flash a = if slotBase s.stageTarget ≤ a ∧ a < slotBase s.stageTarget + leNat v * blockBytes then none
        else KMap.find s.ledger.flash a)) ∧
    u = { s with boot := u.boot, ledger := u.ledger, cnt := u.cnt, sent := u.sent, kop := u.kop } := by
  have hfits : (decide (leNat v < 8) || decide (leNat v > s.stageMax)) = false := by
    rw [Bool.or_eq_false_iff, decide_eq_false_iff_not, decide_eq_false_iff_not]
    omega
  have hkop : (s.prepare (leNat v)).kop = s.kop := by
    unfold State.prepare
    dsimp only
    split <;> rfl
  obtain ⟨u, hrun, hans⟩ := exec_writeNow (i := .stagePrepare r v) (w := s.prepare (leNat v)) hmay rfl
    (conds_of_false hfits href .badDescriptor .refusedFit) rfl hkop
  refine ⟨u, hrun, hans.replied, ?_⟩
  rw [hans.frame_kop]
  cases hnet : s.networkWait with
  | true =>
    rw [prepare_network hnet]
    exact ⟨rfl, fun _ => ⟨rfl, rfl, rfl, rfl⟩, nofun, rfl⟩
  | false =>
    rw [prepare_slot hnet]
    exact ⟨rfl, nofun, fun _ => ⟨rfl, rfl, fun a => KMap.find_delRange _ _ _ _⟩, rfl⟩

theorem prepareEraseDone_bad (b : Nat) (s : State) (hst : s.boot.stage.state = .erasing) (hb : b < s.boot.stage.prepared) : ∃ u,
    exec (.prepareEraseDone (some b)) s = .next u ∧ u.boot.stage.state = .failed ∧ u.boot.stage.reason = 8 ∧
    u.boot.stage.bad = BitVec.ofNat 32 b ∧ u.count (okey 0x2800 8) = (s.count (okey 0x2800 8) + 1) % 2 ^ 64 ∧ u.flogSeq = s.flogSeq + 1 := by
  have hrun : exec (.prepareEraseDone (some b)) s = .next
      ((s.setStage { s.boot.stage with erased := b }).stageFail 8 .retryExhausted (some b)) := by
    show execPrepareEraseDone (some b) s = _
    simp only [execPrepareEraseDone, hst, hb, ne_eq, not_true_eq_false, if_false, if_true]
  obtain ⟨hboot, hcount, hseq, -, -⟩ := stageFail_effect (s.setStage { s.boot.stage with erased := b }) 8 .retryExhausted (some b)
  exact ⟨_, hrun, by rw [hboot], by rw [hboot], by rw [hboot]; rfl, hcount, hseq⟩

/-! Activation, confirm and revert -/

/-- An activation that may act begins: its write is the record's, or the staging fails with the slot's fault. -/
theorem activate_effect {r : Requester} {v : Bytes} {s : State} (hmay : WriteMay s r 0x2801 4 v []) :
    (s.slotFault s.ledger.flash (slotBase s.boot.stage.targetB) = none →
      s.activate r (leNat v) = { s with
        ledger := { s.ledger with actWrite := some (.activate r (leNat v) s.activation) },
        boot := { s.boot with stage := { s.boot.stage with state := .activating } } }) ∧
    (∀ f, s.slotFault s.ledger.flash (slotBase s.boot.stage.targetB) = some f → (s.activate r (leNat v)).boot.stage.state = .failed ∧
      (s.activate r (leNat v)).boot.stage.reason = f.1 ∧ Replied (s.activate r (leNat v)) r .badDescriptor ∧
      (s.activate r (leNat v)).ledger.actWrite = s.ledger.actWrite ∧ (s.activate r (leNat v)).ledger.act = s.ledger.act) := by
  refine ⟨fun hnone => ?_, fun f hf => ?_⟩
  · unfold State.activate
    rw [hnone]
    rfl
  · have hact : s.activate r (leNat v) = (s.stageFail f.1 .badDescriptor f.2).replyWrite r (okey 0x2801 4) .badDescriptor := by
      unfold State.activate
      rw [hf]
    obtain ⟨hboot, -, -, hledger, hwho⟩ := stageFail_effect s f.1 .badDescriptor f.2
    have hans := answered_replyWrite (isSome_session_of_who hwho (session_of_may hmay)) (okey 0x2801 4) .badDescriptor
    rw [hact]
    refine ⟨?_, ?_, hans.replied, ?_, ?_⟩ <;> rw [hans.frame]
    · exact congrArg (fun b : Boot => b.stage.state) hboot
    · exact congrArg (fun b : Boot => b.stage.reason) hboot
    · exact (congrArg Ledger.actWrite hledger).trans rfl
    · exact (congrArg Ledger.act hledger).trans rfl

theorem objType_activate : objType 0x2801 4 = 1 := rfl
theorem objType_confirm : objType 0x2801 5 = 1 := rfl

/-- A write whose command names its type. -/
theorem exec_writeTyped {i : Instr} {s : State} {r : Requester} {idx sub typ : Nat} {v : Bytes} {extra : List Status} {act : State → State}
    (hmay : WriteMay s r idx sub v []) (htyp : objType idx sub = typ) (hrun : exec i s = .next (s.objWrite r idx sub v typ extra act))
    (hx : extra = []) : exec i s = .next (act s) := exec_write hmay (htyp ▸ hrun) hx

theorem exec_activate {r : Requester} {v : Bytes} {s : State} {cmd : Instr}
    (hcmd : (cmd = .activateWarm r v ∧ v = [0x01]) ∨ (cmd = .activateCold r v ∧ v = [0x02]) ∨ (cmd = .activateDefer r v ∧ v = [0x03]))
    (hmay : WriteMay s r 0x2801 4 v []) (hmode : s.boot.mode ≠ .network) (hst : s.boot.stage.state = .verified) :
    exec cmd s = .next (s.activate r (leNat v)) := by
  have hconds : ∀ n : Nat, (n == 0 || decide (n > 3)) = false → cond (n == 0 || decide (n > 3)) .badDescriptor ++
      cond (s.boot.mode == .network) .refusedFit ++ cond (s.boot.stage.state ≠ .verified) .notReady = [] := by
    intro n hn
    rw [hn, beq_eq_false_iff_ne.2 hmode, hst]; rfl
  obtain ⟨rfl, rfl⟩ | ⟨rfl, rfl⟩ | ⟨rfl, rfl⟩ := hcmd
  · exact exec_writeTyped (act := fun s => s.activate r 1) hmay objType_activate rfl (hconds 1 rfl)
  · exact exec_writeTyped (act := fun s => s.activate r 2) hmay objType_activate rfl (hconds 2 rfl)
  · exact exec_writeTyped (act := fun s => s.activate r 3) hmay objType_activate rfl (hconds 3 rfl)

/-- The conditions of a confirm or a revert that may act. -/
theorem confirmConds {s : State} {a : ActRec} {v : Bytes} (hv : v = [0x01] ∨ (v = [0x02] ∧ s.revertBarred = false))
    (hmode : s.boot.mode ≠ .network) (hact : s.act? = some a) (htrial : a.trial = true) :
    cond (v ≠ [0x01] && v ≠ [0x02]) .badDescriptor ++
      cond (s.boot.mode == .network || !s.inTrial || (v == [0x02] && s.revertBarred)) .refusedFit = [] := by
  have hin : s.inTrial = true := by simp only [State.inTrial, hact, htrial]
  rw [beq_eq_false_iff_ne.2 hmode, hin]
  rcases hv with rfl | ⟨rfl, hbar⟩
  · rfl
  · rw [hbar]; rfl

/-- Settles O53: each write is its act (`exec_writeNow`, `exec_write`), and a staging that fails is one lemma (`stageFail_effect`). -/
theorem firmwareCommands : Obligations.FirmwareCommands := by
  unfold Obligations.FirmwareCommands
  refine ⟨stagePrepare_effect, fun s hst => ?_, prepareEraseDone_bad, fun r v s cmd hcmd hmay hmode hst => ?_,
    fun r s a hmay hmode hact htrial => ?_, fun r s a hmay hmode hact htrial hbar => ?_⟩
  · show execPrepareEraseDone none s = _
    simp only [execPrepareEraseDone, hst, ne_eq, not_true_eq_false, if_false]
  · obtain ⟨hok, hbad⟩ := activate_effect hmay
    refine ⟨_, exec_activate hcmd hmay hmode hst, fun hnone => ?_, hbad⟩
    rw [hok hnone]
    exact ⟨rfl, rfl, rfl⟩
  · have hrun : exec (.confirm r [0x01]) s = .next (s.confirm r) :=
      exec_writeTyped (act := fun s => s.confirm r) hmay objType_confirm rfl (confirmConds (.inl rfl) hmode hact htrial)
    refine ⟨fun hlt => ?_, fun hle => ?_⟩
    · rw [hrun]
      simp only [State.confirm, hact, hlt, if_true]
    · rw [hrun]
      simp only [State.confirm, hact, Nat.not_lt.2 hle, if_false, State.confirmRecord]
  · have hrun : exec (.revert r [0x02]) s = .next (s.revert r) :=
      exec_writeTyped (act := fun s => s.revert r) hmay objType_confirm rfl (confirmConds (.inr ⟨rfl, hbar⟩) hmode hact htrial)
    rw [hrun]
    simp only [State.revert, hact]

/-! Fuses (19 R498) -/

theorem exec_fuseProgramDone {s : State} {j : FuseJob} (hj : s.fuses.blowing = some j) (hdef : (s.fuseGood j).fuses.deferred = []) :
    exec (.fuseProgramDone true) s = .next (s.fuseGood j).wake := by
  show execFuseProgramDone true s = _
  simp only [execFuseProgramDone, State.fuseDone, hj, hdef, if_true]

theorem fuses_of_replyFrame {s u : State} {f : Fuses} (h : ReplyFrame { s with fuses := f } u) :
    u.fuses = f ∧ u = { s with fuses := u.fuses, cnt := u.cnt, sent := u.sent, kop := u.kop } := by
  unfold ReplyFrame at h
  rw [h]
  exact ⟨rfl, rfl⟩

theorem fuse_second (s : State) (r : Requester) (sn : Session) (hj : s.fuses.blowing = some (.seal r true)) (hdef : s.fuses.deferred = [])
    (hsn : s.session? r.sid = some sn) : ∃ u : State, exec (.fuseProgramDone true) s = .next u.wake ∧ Replied u r .ok ∧
    u.fuses = { s.fuses with seal1 := true, blowing := none } ∧ u = { s with fuses := u.fuses, cnt := u.cnt, sent := u.sent, kop := u.kop } := by
  have hgood : s.fuseGood (.seal r true) =
      ({ s with fuses := { s.fuses with seal1 := true, blowing := none } } : State).replyWrite r (okey 0x2901 2) .ok := rfl
  have hans := answered_replyWrite (s := ({ s with fuses := { s.fuses with seal1 := true, blowing := none } } : State)) (r := r)
    (show (s.session? r.sid).isSome = true by rw [hsn]; rfl) (okey 0x2901 2) .ok
  rw [← hgood] at hans
  obtain ⟨hfuses, hframe⟩ := fuses_of_replyFrame hans.frame_kop
  exact ⟨_, exec_fuseProgramDone hj (by rw [hfuses]; exact hdef), hans.replied, hfuses, hframe⟩

theorem fuse_rollback (s : State) (r : Requester) (n : Nat) (hj : s.fuses.blowing = some (.rollback r n)) (hdef : s.fuses.deferred = [])
    (hlt : s.fuses.rollback + 1 < n) : ∃ u : State, exec (.fuseProgramDone true) s = .next u.wake ∧
    u = { s with fuses := { s.fuses with rollback := s.fuses.rollback + 1 } } := by
  have hgood : s.fuseGood (.rollback r n) = { s with fuses := { s.fuses with rollback := s.fuses.rollback + 1 } } := by
    simp only [State.fuseGood, hlt, if_true]
  exact ⟨_, exec_fuseProgramDone hj (by rw [hgood]; exact hdef), hgood⟩

/-! The ledger's writes (17 R465) -/

/-- The next write of the object banks changes the queue of writes and the write under way. -/
theorem nextObjWrite_frame (s : State) : s.nextObjWrite = { s with ledger := { s.ledger with
    objQueue := s.nextObjWrite.ledger.objQueue, objWrite := s.nextObjWrite.ledger.objWrite } } := by
  unfold State.nextObjWrite
  split
  · split <;> rfl
  · rfl

theorem replied_nextObjWrite {s : State} {r : Requester} {st : Status} (h : Replied s r st) : Replied s.nextObjWrite r st := by
  obtain ⟨k, rest, hsent, hk⟩ := h
  exact ⟨k, rest, by rw [nextObjWrite_frame]; exact hsent, hk⟩

theorem torn_current {α : Type} (b : Banks α) (w : Bool) : (b.torn w).current = b.current := by
  unfold Banks.torn
  split
  · rfl
  · cases hf : b.inForce with
    | none => simp only [Banks.current, hf]
    | some f => cases f <;> simp only [Banks.current, hf]

/-- A port's restart leaves the objects, the ledger and the sessions. -/
theorem restartPort_keeps (s : State) (p : Port) : (s.restartPort p).objs = s.objs ∧ (s.restartPort p).ledger = s.ledger ∧
    (s.restartPort p).kop.sessions.map Session.who = s.kop.sessions.map Session.who := by
  unfold State.restartPort
  generalize hv : State.pbump _ p 0x10 1 = v
  have hkeep : v.objs = s.objs ∧ v.ledger = s.ledger ∧ v.kop = s.kop := by
    obtain ⟨c, hc⟩ := State.bump_frame (s.setPort p { s.port p with rate := 0, lanes := 0 }) (okey (portIndex p) 0x10) 1
    rw [← hv, State.pbump, hc]
    cases p <;> exact ⟨rfl, rfl, rfl⟩
  obtain ⟨hobjs, hledger, hkop⟩ := hkeep
  have hr := readied_withReady v 0 (linkBit p)
  refine ⟨?_, hr.ledger.trans hledger, ?_⟩
  · rw [hr.noticed.frame]; exact hobjs
  · exact hr.noticed.who.trans (congrArg (fun k : Kop => k.sessions.map Session.who) hkop)

/-- What a persisted value brings about leaves the ledger, the session that wrote it, and the other objects. -/
theorem inForce_effect (s : State) (w : LedgerWrite) (hsn : (s.session? w.r.sid).isSome = true) : (s.inForce w).ledger = s.ledger ∧
    ((s.inForce w).session? w.r.sid).isSome = true ∧ (w.key ≠ okey 0x2900 1 → (s.inForce w).objs = s.objs.put w.key w.v) := by
  unfold State.inForce
  split
  case isTrue hrole =>
    refine ⟨?_, ?_, fun h => absurd hrole h⟩
    · have hframe := ReplyFrame.foldl State.closeSession (fun s sid => closeSession_frame s sid)
        ((s.kop.sessions.filter (fun x => x.sid ≠ w.r.sid && (x.role == field w.v 0 1))).map (·.sid)) s
      unfold ReplyFrame at hframe
      rw [State.closeSessions, hframe]
    · rw [State.session?_isSome] at hsn ⊢
      obtain ⟨x, hx, hsid⟩ := List.mem_map.1 hsn
      rw [State.closeSessions, foldl_closeSession_kop]
      refine List.mem_map.2 ⟨x, List.mem_filter.2 ⟨hx, decide_eq_true fun hmem => ?_⟩, hsid⟩
      obtain ⟨y, hy, hysid⟩ := List.mem_map.1 hmem
      have hyne := (List.mem_filter.1 hy).2
      simp [hysid, hsid] at hyne
  case isFalse =>
    have hport : ∀ p, (State.restartPort { s with objs := s.objs.put w.key w.v } p).ledger = s.ledger ∧
        ((State.restartPort { s with objs := s.objs.put w.key w.v } p).session? w.r.sid).isSome = true ∧
        (w.key ≠ okey 0x2900 1 → (State.restartPort { s with objs := s.objs.put w.key w.v } p).objs = s.objs.put w.key w.v) := by
      intro p
      obtain ⟨hobjs, hledger, hwho⟩ := restartPort_keeps { s with objs := s.objs.put w.key w.v } p
      exact ⟨hledger, isSome_session_of_who hwho hsn, fun _ => hobjs⟩
    dsimp only
    split
    · exact hport .a
    · split
      · exact hport .b
      · exact ⟨rfl, hsn, fun _ => rfl⟩

theorem ledgerWriteDone_ok (s : State) (w : LedgerWrite) (sn : Session) (hw : s.ledger.objWrite = some w)
    (her : s.ledger.obj.erasing = false) (hsn : s.session? w.r.sid = some sn) : ∃ u : State,
    exec (.ledgerWriteDone true true) s = .next u.settleStage.wake ∧ Replied u w.r .ok ∧ u.ledger.obj = s.ledger.obj.commit w.body ∧
    (w.key ≠ okey 0x2900 1 → KMap.find u.objs w.key = some w.v ∧ ∀ k, k ≠ w.key → KMap.find u.objs k = KMap.find s.objs k) := by
  obtain ⟨hledger, hsome, hobjs⟩ := inForce_effect
    ({ s with ledger := { s.ledger with obj := s.ledger.obj.commit w.body, objWrite := none } } : State) w
    (show (s.session? w.r.sid).isSome = true by rw [hsn]; rfl)
  have hrun : exec (.ledgerWriteDone true true) s = .next (((State.inForce
      { s with ledger := { s.ledger with obj := s.ledger.obj.commit w.body, objWrite := none } } w).replyWrite w.r w.key .ok).nextObjWrite).settleStage.wake := by
    show execLedgerWriteDone true true s = _
    simp only [execLedgerWriteDone, State.objWritten, hw, her, Bool.false_eq_true, if_false, if_true]
  generalize State.inForce _ w = v at hrun hledger hsome hobjs
  have hans := answered_replyWrite hsome w.key .ok
  refine ⟨_, hrun, replied_nextObjWrite hans.replied, ?_, fun hkey => ?_⟩
  · rw [nextObjWrite_frame, hans.frame]
    show v.ledger.obj = _
    rw [hledger]
  · have hobjs' : ((v.replyWrite w.r w.key .ok).nextObjWrite).objs = s.objs.put w.key w.v := by
      rw [nextObjWrite_frame, hans.frame]
      exact hobjs hkey
    rw [hobjs']
    exact ⟨KMap.find_put_self _ _ _, fun k hk => by rw [KMap.find_put, if_neg (Ne.symm hk)]⟩

theorem ledgerWriteDone_failed (s : State) (w : LedgerWrite) (sn : Session) (hw : s.ledger.objWrite = some w)
    (her : s.ledger.obj.erasing = false) (hsn : s.session? w.r.sid = some sn) : ∃ u : State,
    exec (.ledgerWriteDone true false) s = .next u.settleStage.wake ∧ Replied u w.r .retryExhausted ∧
    u.ledger.obj.current = s.ledger.obj.current ∧ u.objs = s.objs := by
  have hans := answered_replyWrite (s := ({ s with ledger := { s.ledger with obj := s.ledger.obj.torn true, objWrite := none } } : State))
    (r := w.r) (show (s.session? w.r.sid).isSome = true by rw [hsn]; rfl) w.key .retryExhausted
  have hrun : exec (.ledgerWriteDone true false) s = .next ((State.replyWrite
      { s with ledger := { s.ledger with obj := s.ledger.obj.torn true, objWrite := none } } w.r w.key .retryExhausted).nextObjWrite).settleStage.wake := by
    show execLedgerWriteDone true false s = _
    simp only [execLedgerWriteDone, State.objWritten, hw, her, Bool.false_eq_true, if_false, if_true]
  refine ⟨_, hrun, replied_nextObjWrite hans.replied, ?_, ?_⟩
  · rw [nextObjWrite_frame, hans.frame]
    exact torn_current _ _
  · rw [nextObjWrite_frame, hans.frame]

theorem ledgerWriteDone_confirm (s : State) (r : Requester) (a : ActRec) (sn : Session) (hw : s.ledger.actWrite = some (.confirm r a))
    (her : s.ledger.act.erasing = false) (hsn : s.session? r.sid = some sn) : ∃ u : State,
    exec (.ledgerWriteDone false true) s = .next u.wake ∧ Replied u r .ok ∧ u.ledger.act = s.ledger.act.commit a ∧ u.ledger.actWrite = none := by
  have hans := answered_replyWrite (s := State.writeAct { s with ledger := { s.ledger with actWrite := none } } a) (r := r)
    (show (s.session? r.sid).isSome = true by rw [hsn]; rfl) (okey 0x2801 5) .ok
  have hrun : exec (.ledgerWriteDone false true) s = .next ((State.writeAct { s with ledger := { s.ledger with actWrite := none } } a).replyWrite r
      (okey 0x2801 5) .ok).wake := by
    show execLedgerWriteDone false true s = _
    simp only [execLedgerWriteDone, State.actWritten, hw, her, State.actDone, Bool.false_eq_true, if_false, if_true]
  refine ⟨_, hrun, hans.replied, ?_, ?_⟩ <;> rw [hans.frame] <;> rfl

/-- Settles O54: what each end of a fuse's or a bank's work leaves, before the messages that waited begin. -/
theorem fusesAndLedger : Obligations.FusesAndLedger := by
  unfold Obligations.FusesAndLedger
  refine ⟨fun s r hj hdef => ⟨_, exec_fuseProgramDone hj hdef, rfl⟩, fuse_second, fuse_rollback, ledgerWriteDone_ok, ledgerWriteDone_failed,
    ledgerWriteDone_confirm, fun s her => ?_, fun s her => ?_⟩
  · show execLedgerEraseDone false s = _
    simp only [execLedgerEraseDone, her, Bool.false_eq_true, if_false, if_true]
  · refine ⟨({ s with ledger := { s.ledger with obj := s.ledger.obj.erased } } : State).nextObjWrite, ?_, ?_, ?_⟩
    · show execLedgerEraseDone true s = _
      simp only [execLedgerEraseDone, her, if_true]
    · rw [nextObjWrite_frame]
    · rw [nextObjWrite_frame]

end Sys2Proof.Machine
end

section
/-! SUPPORT. What endings, restores and boundaries leave of the sessions and of the module's counters, and partitions, loads, unloads and
endings of jobs (11 R290 to R299, R306). -/

open Sys2Proof Sys2Proof.Machine Sys2Proof.Claims

namespace Sys2Proof.Machine

/-! Sessions and counters through endings -/

/-- A counter that endings, notices and boundaries do not move: one of the module's own, but for those they count in. -/
def Remote (k : Nat) : Prop := k < okey 0x3000 0 ∧ Quiet k ∧ k ≠ okey 0x2320 9 ∧ k ≠ okey 0x2203 8

/-- The sessions are who they were, and no remote counter moved. -/
structure Calm (s u : State) : Prop where
  who : u.kop.sessions.map Session.who = s.kop.sessions.map Session.who
  count : ∀ k, Remote k → u.count k = s.count k

theorem Calm.refl (s : State) : Calm s s := ⟨rfl, fun _ _ => rfl⟩

theorem Calm.trans {s u w : State} (hu : Calm s u) (hw : Calm u w) : Calm s w :=
  ⟨hw.who.trans hu.who, fun k hk => (hw.count k hk).trans (hu.count k hk)⟩

theorem Calm.foldl {α : Type} (f : State → α → State) (h : ∀ s x, Calm s (f s x)) (l : List α) (s : State) : Calm s (l.foldl f s) := by
  induction l generalizing s with
  | nil => exact .refl s
  | cons x l ih => exact (h s x).trans (ih _)

theorem Calm.ite {p : Prop} [Decidable p] {s u w : State} (hu : Calm s u) (hw : Calm s w) : Calm s (if p then u else w) := by
  split
  · exact hu
  · exact hw

theorem calm_of_eq {s u : State} (hk : u.kop = s.kop) (hc : u.cnt = s.cnt) : Calm s u :=
  ⟨by rw [hk], fun k _ => by rw [State.count, hc]; rfl⟩

theorem Noticed.calm {s u : State} (h : Noticed s u) : Calm s u := ⟨h.who, fun k hk => h.count k hk.2.1⟩

theorem calm_bump (s : State) {k : Nat} (n : Nat) (h : ∀ i, Remote i → k ≠ i) : Calm s (s.bump k n) :=
  ⟨by rw [State.bump_kop], fun i hi => State.count_bump_ne _ _ (h i hi)⟩

theorem dkey_ne_remote (d k sub : Nat) : ∀ i, Remote i → dkey d k sub ≠ i := by
  rintro i ⟨hlt, -⟩ rfl
  unfold dkey okey at hlt
  omega

theorem calm_dbump (s : State) (d k sub n : Nat) : Calm s (s.dbump d k sub n) := calm_bump s n (dkey_ne_remote d k sub)
theorem calm_tbump (s : State) (t k sub n : Nat) : Calm s (s.tbump t k sub n) := calm_bump s n (dkey_ne_remote (dieOf t) k sub)
theorem calm_modTile (s : State) (t : Nat) (f : Tile → Tile) : Calm s (s.modTile t f) := calm_of_eq rfl rfl
theorem calm_modDie (s : State) (d : Nat) (f : Die → Die) : Calm s (s.modDie d f) := calm_of_eq rfl rfl
theorem calm_setTile (s : State) (t : Nat) (x : Tile) : Calm s (s.setTile t x) := calm_of_eq rfl rfl
theorem calm_zeroRange (s : State) (a n : Nat) : Calm s (s.zeroRange a n) := calm_of_eq rfl rfl
theorem calm_setJob (s : State) (j : Nat) (x : Job) : Calm s (s.setJob j x) := calm_of_eq rfl rfl

theorem calm_arrayEvent (s : State) (t : Nat) : Calm s (s.arrayEvent t) := by
  unfold State.arrayEvent
  exact (calm_modDie s _ _).trans (calm_dbump _ _ _ _ _)

theorem calm_knownAnswer (s : State) (t : Nat) : Calm s (s.knownAnswer t) := by
  have hdraw : Calm s s.draw.2 := calm_of_eq rfl rfl
  simp only [State.knownAnswer]
  refine .ite (.refl s) (.ite hdraw (.ite (hdraw.trans (calm_arrayEvent _ _)) ?_))
  exact (hdraw.trans (calm_arrayEvent _ _)).trans (calm_arrayEvent _ _)

theorem calm_blankTile (s : State) (t : Nat) : Calm s (s.blankTile t) := by
  simp only [State.blankTile]
  refine Calm.trans ?_ (calm_knownAnswer _ _)
  refine Calm.trans ?_ (calm_tbump _ _ _ _ _)
  refine Calm.trans ?_ (calm_modDie _ _ _)
  exact (calm_zeroRange s _ _).trans (calm_setTile _ _ _)

theorem calm_zeroTile (s : State) (t : Nat) : Calm s (s.zeroTile t) := by
  unfold State.zeroTile
  exact (calm_blankTile s t).trans (calm_bump _ _ fun i ⟨_, _, hne, _⟩ => Ne.symm hne)

theorem calm_powerOffIdle (s : State) (t : Nat) : Calm s (s.powerOffIdle t) := by
  unfold State.powerOffIdle
  exact .ite (.refl s) ((calm_zeroRange s _ _).trans (calm_setTile _ _ _))

theorem calm_log (s : State) (r : LogRec) : Calm s (s.log r) := Calm.trans (u := s.withRecord r) (calm_of_eq rfl rfl) (noticed_log s r).calm
theorem calm_notifyJob (s : State) (j st endSt : Nat) : Calm s (s.notifyJob j st endSt) := (noticed_notifyJob s j st endSt).calm

theorem calm_failReq (s : State) (r : W32) (st : Status) : Calm s (s.failReq r st) := by
  unfold State.failReq
  split
  · exact .ite (calm_of_eq rfl rfl) (.refl s)
  · exact .refl s

theorem calm_vacate (s : State) (held : List Nat) : Calm s (s.vacate held) := by
  simp only [State.vacate]
  refine Calm.trans ?_ (.foldl _ (fun _ _ => calm_modTile _ _ _) _ _)
  refine Calm.trans ?_ (.foldl _ (fun _ _ => calm_zeroTile _ _) _ _)
  exact .foldl _ (fun _ _ => calm_tbump _ _ _ _ _) _ _

theorem calm_leaveTiles (s : State) (j : Nat) (jb : Job) (st : Status) : Calm s (s.leaveTiles j jb st) :=
  Calm.trans (Calm.foldl _ (fun _ _ => calm_failReq _ _ _) _ _) (calm_vacate _ _)

theorem calm_afterEnd (s : State) (j : Nat) (jb : Job) (st : Status) : Calm s (s.afterEnd j jb st) := by
  simp only [State.afterEnd]
  refine Calm.trans ?_ (calm_notifyJob _ _ _ _)
  refine Calm.trans ?_ (.ite (.refl _) (calm_log _ _))
  refine Calm.trans (u := (jb.tiles.map (·.tile)).foldl State.powerOffIdle s) ?_ (calm_of_eq rfl rfl)
  exact .foldl _ (fun _ _ => calm_powerOffIdle _ _) _ _

/-- A job's resources gone: its pages, its services, and the job itself ENDED. -/
def State.strip (s : State) (j : Nat) (jb : Job) (st : Status) : State :=
  ({ s with pages := endPages s.pages jb.regions }.dropServices j).setJob j (jb.ended st)

theorem calm_strip (s : State) (j : Nat) (jb : Job) (st : Status) : Calm s (s.strip j jb st) := calm_of_eq rfl rfl

theorem calm_jobEnded (s : State) (j : Nat) (jb : Job) (st : Status) : Calm s (s.jobEnded j jb st) :=
  Calm.trans (u := (s.leaveTiles j jb st).strip j jb st) ((calm_leaveTiles s j jb st).trans (calm_strip _ _ _ _)) (calm_afterEnd _ _ _ _)

theorem calm_endJob (s : State) (j : Nat) (st : Status) : Calm s (s.endJob j st) := by
  cases hj : s.job? j with
  | none => rw [endJob_of_none st hj]; exact .refl s
  | some jb =>
    by_cases hlive : jb.state = .ended
    · rw [endJob_of_ended st hj hlive]; exact .refl s
    · rw [endJob_eq st hj hlive]
      have hended := calm_jobEnded s j jb st
      generalize s.jobEnded j jb st = v at hended
      split
      · exact Calm.trans (u := { v with jobs := v.jobs.del j }) (hended.trans (calm_of_eq rfl rfl)) (calm_notifyJob _ _ _ _)
      · exact hended

/-! Jobs that pass to another state, and handles that become free -/

theorem jobTo_eq {s : State} {j : Nat} {jb : Job} (st : JobState) (h : s.job? j = some jb) :
    s.jobTo j st = (s.setJob j { jb with state := st }).notifyJob j st.code jb.endStatus.code := by simp only [State.jobTo, h]

theorem jobs_notifyJob (s : State) (j st endSt : Nat) : (s.notifyJob j st endSt).jobs = s.jobs := (noticed_notifyJob s j st endSt).jobs

theorem jobs_jobTo {s : State} {j : Nat} {jb : Job} (st : JobState) (h : s.job? j = some jb) :
    (s.jobTo j st).jobs = s.jobs.put j { jb with state := st } := by
  rw [jobTo_eq st h, jobs_notifyJob]; rfl

theorem ends_jobTo (s : State) (j : Nat) (st : JobState) : Ends s (s.jobTo j st) := by
  unfold State.jobTo
  split
  · exact Ends.trans (ends_jobs _ (KMap.put _ _ _)) (tears_notifyJob _ _ _ _).ends
  · exact (Tears.refl s).ends

theorem calm_jobTo (s : State) (j : Nat) (st : JobState) : Calm s (s.jobTo j st) := by
  unfold State.jobTo
  split
  · exact (calm_setJob _ _ _).trans (calm_notifyJob _ _ _ _)
  · exact .refl s

theorem freeHandle_calm (s : State) (j : Nat) : Calm s (s.freeHandle j) := by
  unfold State.freeHandle
  split
  · exact Calm.trans (u := { s with jobs := s.jobs.del j }) (calm_of_eq rfl rfl) (calm_notifyJob _ _ _ _)
  · exact .refl s

theorem job_freeHandle (s : State) (j : Nat) : (s.freeHandle j).job? j = none := by
  unfold State.freeHandle
  split
  · rw [State.job?, jobs_notifyJob, KMap.find_del, if_pos rfl]
  · assumption

theorem calm_unloadNow (s : State) (j : Nat) : Calm s (s.unloadNow j) := (calm_endJob s j _).trans (freeHandle_calm _ _)

theorem tears_wakeTile (s : State) (t : Nat) : Tears s (s.wakeTile t) := by
  have hoff : Tears s ((s.zeroRange (sramFa t 0) sramEnd).tbump t 2 3 1) := (tears_zeroRange s _ _).trans (tears_bump _ _ _)
  have hrun : ∀ u : State, Tears s u → Tears s (u.modTile t (fun x => { x with power := .running })) := fun u hu =>
    hu.trans (tears_modTile _ _ _ fun _ => .inl rfl)
  unfold State.wakeTile
  dsimp only
  split
  · exact hrun _ (.refl s)
  · exact hrun _ (tears_bump s _ _)
  · exact hrun _ (tears_bump s _ _)
  · exact hrun _ (tears_bump s _ _)
  · exact hrun _ (tears_bump s _ _)
  · exact hrun _ hoff
  · exact hrun _ hoff

theorem calm_wakeTile (s : State) (t : Nat) : Calm s (s.wakeTile t) := by
  have hoff : Calm s ((s.zeroRange (sramFa t 0) sramEnd).tbump t 2 3 1) := (calm_zeroRange s _ _).trans (calm_tbump _ _ _ _ _)
  have hrun : ∀ u : State, Calm s u → Calm s (u.modTile t (fun x => { x with power := .running })) := fun u hu =>
    hu.trans (calm_modTile _ _ _)
  unfold State.wakeTile
  dsimp only
  split
  · exact hrun _ (.refl s)
  · exact hrun _ (calm_tbump s _ _ _ _)
  · exact hrun _ (calm_tbump s _ _ _ _)
  · exact hrun _ (calm_tbump s _ _ _ _)
  · exact hrun _ (calm_tbump s _ _ _ _)
  · exact hrun _ hoff
  · exact hrun _ hoff

theorem stopRestore_keeps (s : State) (jb : Job) : Tears s (s.stopRestore jb) ∧ Calm s (s.stopRestore jb) := by
  simp only [State.stopRestore]
  have hdraw : Tears s s.draw.2 ∧ Calm s s.draw.2 := ⟨⟨rfl, fun _ => rfl, fun _ => .inl rfl⟩, calm_of_eq rfl rfl⟩
  exact ⟨hdraw.1.trans (.foldl _ (fun _ _ => (tears_wakeTile _ _).trans (tears_zeroTile _ _)) _ _),
    hdraw.2.trans (.foldl _ (fun _ _ => (calm_wakeTile _ _).trans (calm_zeroTile _ _)) _ _)⟩

/-! Restores that begin (11 R298, R304) -/

theorem ends_beginRestore (s : State) (j : Nat) : Ends s (s.beginRestore j) := by
  unfold State.beginRestore
  split
  · split
    · exact ends_jobTo _ _ _
    · exact (Tears.refl s).ends
  · exact (Tears.refl s).ends

theorem calm_beginRestore (s : State) (j : Nat) : Calm s (s.beginRestore j) := by
  unfold State.beginRestore
  split
  · exact .ite (calm_jobTo _ _ _) (.refl s)
  · exact .refl s

theorem ends_beginRestores (s : State) : Ends s s.beginRestores := .foldl _ (fun _ _ => ends_beginRestore _ _) _ _
theorem calm_beginRestores (s : State) : Calm s s.beginRestores := .foldl _ (fun _ _ => calm_beginRestore _ _) _ _

/-- A restore that begins leaves free handles free. -/
theorem job_beginRestore_none {s : State} {i : Nat} (j : Nat) (h : s.job? i = none) : (s.beginRestore j).job? i = none := by
  unfold State.beginRestore
  split
  case h_1 jb hjb =>
    split
    · rw [State.job?, jobs_jobTo _ hjb, KMap.find_put]
      split
      · next hji => subst hji; rw [hjb] at h; exact nomatch h
      · exact h
    · exact h
  case h_2 => exact h

theorem job_beginRestores_none {s : State} {i : Nat} (h : s.job? i = none) : s.beginRestores.job? i = none := by
  unfold State.beginRestores
  generalize s.jobs.map (·.1) = l
  induction l generalizing s with
  | nil => exact h
  | cons j l ih => exact ih (job_beginRestore_none j h)

/-! Unloads (11 R299) -/

/-- What an unload makes of the job it names. -/
theorem unload_effect {s : State} {j : Nat} {jb : Job} (hj : s.job? j = some jb) (hun : jb.unload = false) : Calm s (s.unload j) ∧
    ((jb.state = .running ∨ jb.state = .saving) ∧ jb.resident = false → (s.unload j).job? j = some { jb with unload := true }) ∧
    (¬ ((jb.state = .running ∨ jb.state = .saving) ∧ jb.resident = false) → (s.unload j).job? j = none) := by
  have hnow : ∀ u : State, (u.unloadNow j).job? j = none := fun u => job_freeHandle _ _
  have hheld : (if jb.resident then s.unloadNow j else s.setJob j { jb with unload := true }) = s.unload j →
      (jb.state = .running ∨ jb.state = .saving) → Calm s (s.unload j) ∧
      ((jb.state = .running ∨ jb.state = .saving) ∧ jb.resident = false → (s.unload j).job? j = some { jb with unload := true }) ∧
      (¬ ((jb.state = .running ∨ jb.state = .saving) ∧ jb.resident = false) → (s.unload j).job? j = none) := by
    intro heq hst
    rw [← heq]
    cases hres : jb.resident with
    | true => exact ⟨calm_unloadNow s j, nofun, fun _ => hnow s⟩
    | false => exact ⟨calm_setJob s j _, fun _ => KMap.find_put_self _ _ _, fun h => absurd ⟨hst, rfl⟩ h⟩
  cases hst : jb.state with
  | ended =>
    have heq : s.unload j = s.unloadNow j := by simp only [State.unload, hj, hun, hst, Bool.false_eq_true, if_false]
    rw [heq]
    exact ⟨calm_unloadNow s j, fun h => absurd h.1 (by decide), fun _ => hnow s⟩
  | idle =>
    have heq : s.unload j = s.unloadNow j := by simp only [State.unload, hj, hun, hst, Bool.false_eq_true, if_false]
    rw [heq]
    exact ⟨calm_unloadNow s j, fun h => absurd h.1 (by decide), fun _ => hnow s⟩
  | restoring =>
    have heq : s.unload j = ((s.stopRestore jb).unloadNow j).beginRestores := by
      simp only [State.unload, hj, hun, hst, Bool.false_eq_true, if_false]
    rw [heq]
    exact ⟨((stopRestore_keeps s jb).2.trans (calm_unloadNow _ _)).trans (calm_beginRestores _), fun h => absurd h.1 (by decide),
      fun _ => job_beginRestores_none (hnow _)⟩
  | running => exact hst ▸ hheld (by simp only [State.unload, hj, hun, hst, Bool.false_eq_true, if_false]) (.inl hst)
  | saving => exact hst ▸ hheld (by simp only [State.unload, hj, hun, hst, Bool.false_eq_true, if_false]) (.inr hst)

theorem jobUnload_effect (r : Requester) (v : Bytes) (s : State) (jb : Job) (hmay : WriteMay s r 0x2200 4 v [])
    (hj : s.job? (leNat v) = some jb) (hun : jb.unload = false) : ∃ u, exec (.jobUnload r v) s = .next u ∧ Replied u r .ok ∧
    ((jb.state = .running ∨ jb.state = .saving) ∧ jb.resident = false → u.job? (leNat v) = some { jb with unload := true }) ∧
    (¬ ((jb.state = .running ∨ jb.state = .saving) ∧ jb.resident = false) → u.job? (leNat v) = none) := by
  have hrun : exec (.jobUnload r v) s = .next ((s.unload (leNat v)).replyWrite r (okey 0x2200 4) .ok) :=
    congrArg Host.Outcome.next (objWriteNow_of_may hmay (cond_of_eq_false (by rw [hj]; rfl) .versionGone) (fun s => s.unload (leNat v)))
  obtain ⟨hcalm, hheld, hfree⟩ := unload_effect hj hun
  generalize s.unload (leNat v) = w at hrun hcalm hheld hfree
  have hans := answered_replyWrite (isSome_session_of_who hcalm.who (session_of_may hmay)) (okey 0x2200 4) .ok
  have hjobs : (w.replyWrite r (okey 0x2200 4) .ok).job? (leNat v) = w.job? (leNat v) := by rw [State.job?, hans.frame]; rfl
  exact ⟨_, hrun, hans.replied, fun h => hjobs.trans (hheld h), fun h => hjobs.trans (hfree h)⟩

/-! Partitions, loads and job-end (11 R290, R295, R299) -/

theorem partitionWrite_effect (n : Fin 16) (r : Requester) (v : Bytes) (s : State) (hmay : WriteMay s r 0x2201 (n + 1) v [])
    (hbad : partBad v = false) (hmeet : ∀ e ∈ s.parts, e.1 ≠ n → e.2.meets (partOf v) = false) (hfree : ∀ e ∈ s.jobs, e.2.part ≠ n) : ∃ u,
    exec (.partitionWrite n r v) s = .next u ∧
    u.part? n = (if (partOf v).rows = 0 then none else some (partOf v)) ∧ KMap.find u.objs (okey 0x2201 (n + 1)) = some v ∧
    (∀ i : Nat, i ≠ n → u.part? i = s.part? i) ∧ Replied u r .ok ∧
    u = { s with parts := u.parts, objs := u.objs, cnt := u.cnt, sent := u.sent, kop := u.kop } := by
  have hparts : s.parts.any (fun e => e.1 ≠ n && e.2.meets (partOf v)) = false := by
    rw [List.any_eq_false]
    intro e he
    by_cases hn : e.1 = n
    · simp [hn]
    · simp [hmeet e he hn]
  have hjobs : s.jobs.any (fun e => e.2.part == n) = false := by
    rw [List.any_eq_false]
    exact fun e he => by simpa using hfree e he
  obtain ⟨u, hrun, hans⟩ := exec_writeNow (i := .partitionWrite n r v) (w := { s with
        objs := s.objs.put (okey 0x2201 (n + 1)) v,
        parts := if (partOf v).rows = 0 then s.parts.del n else s.parts.put n (partOf v) }) hmay rfl
    (conds_of_false hbad (by rw [hparts, hjobs]; rfl) .badDescriptor .refusedFit) rfl rfl
  refine ⟨u, hrun, ?_, ?_, fun i hi => ?_, hans.replied, by rw [hans.frame]⟩ <;> rw [hans.frame]
  · show KMap.find (if (partOf v).rows = 0 then s.parts.del n else s.parts.put n (partOf v)) n = _
    split
    · rw [KMap.find_del, if_pos rfl]
    · rw [KMap.find_put_self]
  · exact KMap.find_put_self _ _ _
  · show KMap.find (if (partOf v).rows = 0 then s.parts.del n else s.parts.put n (partOf v)) i = _
    split
    · rw [KMap.find_del, if_neg (Ne.symm hi)]; rfl
    · rw [KMap.find_put, if_neg (Ne.symm hi)]; rfl

theorem objType_jobLoad : objType 0x2200 2 = 8 := rfl

theorem jobLoad_effect (r : Requester) (v : Bytes) (s : State) (hmay : WriteMay s r 0x2200 2 v []) (hbad : s.loadBad v = false) : ∃ u,
    exec (.jobLoad r v) s = .next u ∧ u.load = some ⟨r, v, s.jobDomain (ldHandle v)⟩ ∧
    u.sent = .rdmaRead (ldQp v) (BitVec.ofNat 64 (field v 0 8)) (BitVec.ofNat 32 (field v 12 4)) (field v 8 4) :: s.sent ∧
    u = { s with load := u.load, sent := u.sent, qps := u.qps, cnt := u.cnt } := by
  have hwrite : s.writeJobLoad r v = s.objWrite r 0x2200 2 v 8 (cond (s.loadBad v) .badDescriptor) (fun s => s.startLoad r v) := by
    unfold State.writeJobLoad
    simp only [hbad, Bool.and_false, Bool.false_eq_true, if_false]
  have hrun : exec (.jobLoad r v) s = .next (s.startLoad r v) :=
    exec_writeTyped (act := fun s => s.startLoad r v) hmay objType_jobLoad (congrArg Host.Outcome.next hwrite) (cond_of_eq_false hbad _)
  have hframe := sendFrame_send ({ s with load := some ⟨r, v, s.jobDomain (ldHandle v)⟩ } : State)
    (.rdmaRead (ldQp v) (BitVec.ofNat 64 (field v 0 8)) (BitVec.ofNat 32 (field v 12 4)) (field v 8 4))
  unfold SendFrame at hframe
  refine ⟨_, hrun, ?_, State.sent_send _ _, ?_⟩
  · show (State.send _ _).load = _
    rw [hframe]
  · show State.send _ _ = _
    rw [hframe]; rfl

theorem jobEndInstr_effect (t : TileNo) (s : State) (j : Nat) (jb : Job) (hruns : SeqRuns s t j jb) (hun : jb.unload = false) :
    ((∃ d ∈ jb.tiles, d.tile ≠ t ∧ d.tile ∉ jb.endedTiles) →
      exec (.jobEndInstr t) s = .next (s.setJob j { jb with endedTiles := NSet.add jb.endedTiles t })) ∧
    ((∀ d ∈ jb.tiles, d.tile = t ∨ d.tile ∈ jb.endedTiles) → ∃ u jb', exec (.jobEndInstr t) s = .next u ∧ u.job? j = some jb' ∧
      jb'.state = .ended ∧ jb'.endStatus = .ok ∧ ∀ d ∈ jb.tiles, (u.tile d.tile).job ≠ some j) := by
  have hseq := hruns.seq
  have hjob := hruns.job
  have hlive : jb.state ≠ .ended := by
    intro hended
    unfold State.seqJob at hseq
    dsimp only at hseq
    split at hseq
    · next i _ _ =>
      split at hseq
      · next x hx =>
        split at hseq
        · exact nomatch hseq
        · split at hseq
          · next hstate =>
            obtain rfl := Option.some.inj hseq
            obtain rfl := Option.some.inj (hx.symm.trans hjob)
            simp [hended] at hstate
          · exact nomatch hseq
      · exact nomatch hseq
    · exact nomatch hseq
  have hdone : ∀ d : Nat, (NSet.add jb.endedTiles t).contains d = true ↔ d = t ∨ d ∈ jb.endedTiles := fun d => by
    rw [List.contains_iff_mem]
    exact NSet.mem_add _ _ _
  refine ⟨fun ⟨d, hd, hne, hnot⟩ => ?_, fun hall => ?_⟩
  · have hleft : jb.tiles.all (fun d => (NSet.add jb.endedTiles t).contains d.tile) = false := by
      rw [List.all_eq_false]
      exact ⟨d, hd, fun h => ((hdone d.tile).1 h).elim hne hnot⟩
    show execJobEndInstr t s = _
    simp only [execJobEndInstr, hseq, hjob, hleft, Bool.false_eq_true, if_false]
  · have hover : jb.tiles.all (fun d => (NSet.add jb.endedTiles t).contains d.tile) = true :=
      List.all_eq_true.2 fun d hd => (hdone d.tile).2 (hall d hd)
    refine ⟨s.endJob j .ok, jb.ended .ok, ?_, ?_, rfl, rfl, fun d hd => tile_endJob .ok hjob hlive hd⟩
    · show execJobEndInstr t s = _
      simp only [execJobEndInstr, hseq, hjob, hover, if_true]
    · rw [job_endJob .ok hjob hlive, if_pos rfl, hun]; rfl

/-- Settles O44: unloads by the state of the job (`unload_effect`), a job's end by its ending's lemmas, the others as writes that act. -/
theorem jobCommands : Obligations.JobCommands := by
  unfold Obligations.JobCommands
  refine ⟨partitionWrite_effect, jobLoad_effect, fun img s ld hld hfills hlen hready hformat himage => ?_, jobUnload_effect, jobEndInstr_effect,
    fun r v s hmay => ?_⟩
  · show execJobAdmit (.data img) s = _
    simp only [execJobAdmit, State.admitDone, hld, hfills, hlen, hready, hformat, himage, ne_eq, not_true_eq_false, Bool.false_eq_true, if_false]
  · obtain ⟨u, hrun, hans⟩ := exec_writeNow (i := .privilegedWrite r v) (w := { s with objs := s.objs.put (okey 0x2200 5) v }) hmay rfl rfl rfl rfl
    refine ⟨u, hrun, fun j => ?_, hans.replied, by rw [hans.frame]⟩
    have hfind : KMap.find u.objs (okey 0x2200 5) = some v := by
      rw [hans.frame]
      exact KMap.find_put_self _ _ _
    simp only [State.privileged, hfind]

end Sys2Proof.Machine
end

section
/-! SUPPORT. Cycle tables and slot boundaries (11 R301 to R304, R310), and steps with their watchdog (11 R300, R311, R312). -/

open Sys2Proof Sys2Proof.Machine Sys2Proof.Claims

namespace Sys2Proof.Machine

/-! What a cycle's work leaves of the partitions, the objects and the sessions -/

/-- The partitions and the objects as they were, and the sessions who they were. -/
structure Paced (s u : State) : Prop where
  parts : u.parts = s.parts
  objs : u.objs = s.objs
  who : u.kop.sessions.map Session.who = s.kop.sessions.map Session.who

theorem Paced.refl (s : State) : Paced s s := ⟨rfl, rfl, rfl⟩

theorem Paced.trans {s u w : State} (hu : Paced s u) (hw : Paced u w) : Paced s w :=
  ⟨hw.parts.trans hu.parts, hw.objs.trans hu.objs, hw.who.trans hu.who⟩

theorem Paced.foldl {α : Type} (f : State → α → State) (h : ∀ s x, Paced s (f s x)) (l : List α) (s : State) : Paced s (l.foldl f s) := by
  induction l generalizing s with
  | nil => exact .refl s
  | cons x l ih => exact (h s x).trans (ih _)

theorem Paced.ite {p : Prop} [Decidable p] {s u w : State} (hu : Paced s u) (hw : Paced s w) : Paced s (if p then u else w) := by
  split
  · exact hu
  · exact hw

theorem Paced.part {s u : State} (h : Paced s u) (n : Nat) : u.part? n = s.part? n := by rw [State.part?, h.parts]; rfl

theorem Ends.paced {s u : State} (h : Ends s u) (hc : Calm s u) : Paced s u := by
  have hframe := Tears.frame h
  unfold EndFrame at hframe
  exact ⟨by rw [hframe], by rw [hframe], hc.who⟩

theorem paced_bump (s : State) (k n : Nat) : Paced s (s.bump k n) := by
  obtain ⟨c, hc⟩ := s.bump_frame k n
  rw [hc]
  exact ⟨rfl, rfl, rfl⟩

theorem paced_jobs (s : State) (js : KMap Job) : Paced s { s with jobs := js } := ⟨rfl, rfl, rfl⟩

theorem modJob_frame (s : State) (j : Nat) (f : Job → Job) : ∃ js, s.modJob j f = { s with jobs := js } := by
  unfold State.modJob
  split
  · exact ⟨_, rfl⟩
  · exact ⟨s.jobs, rfl⟩

theorem paced_modJob (s : State) (j : Nat) (f : Job → Job) : Paced s (s.modJob j f) := by
  obtain ⟨js, h⟩ := modJob_frame s j f
  rw [h]
  exact paced_jobs s js

/-! The boundary (R304) -/

theorem paced_jobTo (s : State) (j : Nat) (st : JobState) : Paced s (s.jobTo j st) := (ends_jobTo s j st).paced (calm_jobTo s j st)

theorem paced_startSave (s : State) (j : Nat) (jb : Job) : Paced s (s.startSave j jb) := by
  unfold State.startSave
  refine Paced.trans ?_ (paced_jobTo _ _ _)
  exact (paced_bump s _ _).trans (paced_jobs _ _)

theorem paced_stopRestore (s : State) (jb : Job) : Paced s (s.stopRestore jb) := by
  obtain ⟨ht, hc⟩ := stopRestore_keeps s jb
  exact ht.ends.paced hc

theorem paced_boundaryJob (rs : List Nat) (s : State) (j : Nat) : Paced s (s.boundaryJob rs j) := by
  unfold State.boundaryJob
  split
  · exact .refl s
  · split
    · exact .refl s
    · split
      · exact paced_startSave _ _ _
      · exact (paced_stopRestore _ _).trans (paced_jobTo _ _ _)
      · exact .refl s

theorem paced_boundaryJobs (s : State) (n : Nat) (rs : List Nat) : Paced s (s.boundaryJobs n rs) := by
  unfold State.boundaryJobs
  exact (Paced.foldl _ (fun s j => paced_boundaryJob rs s j) _ _).trans ((ends_beginRestores _).paced (calm_beginRestores _))

/-- What a boundary makes of the partition: the slot, its residents and its grants. -/
theorem boundary_effect {s : State} {n i : Nat} {pt : Partition} {t : CycleTable} (hpt : s.part? n = some pt) (ht : pt.table = some t)
    (hi : i < t.slots.length) : ∃ rs gr, (s.boundary n i).part? n = some { pt with slot := i, residents := rs, granted := gr } ∧
    (s.boundary n i).objs = s.objs ∧ (s.boundary n i).kop.sessions.map Session.who = s.kop.sessions.map Session.who := by
  have hslot : pt.table.bind (fun t => t.slots[i]?) = some t.slots[i] := by rw [ht]; exact List.getElem?_eq_getElem hi
  simp only [State.boundary, hpt, hslot]
  generalize s.slotResidents n i pt t.slots[i] = x
  obtain ⟨rs, g, p⟩ := x
  dsimp only
  generalize List.foldl NSet.add [] rs = residents
  generalize List.foldl NSet.add pt.granted _ = granted
  have hp := paced_boundaryJobs ({ s with
    arb := s.arb.put (grantArb n) p, parts := s.parts.put n { pt with slot := i, residents := residents, granted := granted } } : State) n rs
  refine ⟨residents, granted, ?_, hp.objs, hp.who⟩
  rw [hp.part]
  exact KMap.find_put_self _ _ _

/-! Cycles (R303, R310) -/

theorem paced_notePlaced (s : State) (js : List Nat) : Paced s (s.notePlaced js) := .foldl _ (fun _ _ => paced_modJob _ _ _) _ _

/-- Urgent jobs counted and placed: those placed, the arbiter's pointer, and the slot that takes them with its kind. -/
def State.placeAs (s : State) (n : Nat) (pt : Partition) (urgent : Nat) (placed : List Nat) (q : Nat) (slot : Option (Nat × Nat)) : State :=
  let s := s.bump (okey 0x2203 7) (urgent - placed.length)
  let s := match slot with
    | some (_, 1) => s.bump (okey 0x2203 6) placed.length
    | some (_, 2) => s.bump (okey 0x2203 5) placed.length
    | _ => s
  State.notePlaced { s with
    arb := s.arb.put (urgentArb n) q,
    parts := s.parts.put n { pt with placed := slot.map (fun e => (e.1, placed.foldl NSet.add [])) } } placed

theorem placeUrgent_eq {s : State} {n : Nat} {pt : Partition} (t : CycleTable) (hpt : s.part? n = some pt) :
    ∃ urgent placed q slot, s.placeUrgent n t = s.placeAs n pt urgent placed q slot := by
  unfold State.placeUrgent
  simp only [hpt]
  cases urgentSlot t with
  | none => exact ⟨_, [], _, none, rfl⟩
  | some e => exact ⟨_, _, _, some e, rfl⟩

/-- The urgent jobs of a cycle are placed in the partition's table, and nothing else of it changes. -/
theorem placeUrgent_effect {s : State} {n : Nat} {pt : Partition} (t : CycleTable) (hpt : s.part? n = some pt) : ∃ pl,
    (s.placeUrgent n t).part? n = some { pt with placed := pl } ∧ (s.placeUrgent n t).objs = s.objs ∧
    (s.placeUrgent n t).kop.sessions.map Session.who = s.kop.sessions.map Session.who := by
  obtain ⟨urgent, placed, q, slot, heq⟩ := placeUrgent_eq t hpt
  rw [heq]
  unfold State.placeAs
  dsimp only
  generalize hu : (match slot with
    | some (_, 1) => (s.bump (okey 0x2203 7) (urgent - placed.length)).bump (okey 0x2203 6) placed.length
    | some (_, 2) => (s.bump (okey 0x2203 7) (urgent - placed.length)).bump (okey 0x2203 5) placed.length
    | _ => s.bump (okey 0x2203 7) (urgent - placed.length)) = u
  have hpaced : Paced s u := by
    rw [← hu]
    split
    · exact (paced_bump _ _ _).trans (paced_bump _ _ _)
    · exact (paced_bump _ _ _).trans (paced_bump _ _ _)
    · exact paced_bump _ _ _
  have hp := paced_notePlaced { u with
    arb := u.arb.put (urgentArb n) q,
    parts := u.parts.put n { pt with placed := slot.map (fun e => (e.1, placed.foldl NSet.add [])) } } placed
  exact ⟨_, (hp.part n).trans (KMap.find_put_self _ _ _), hp.objs.trans hpaced.objs, hp.who.trans hpaced.who⟩

theorem beginCycle_effect {s : State} {n : Nat} {pt : Partition} {t : CycleTable} (hpt : s.part? n = some pt) (ht : t.slots ≠ []) : ∃ p,
    (s.beginCycle n t).part? n = some p ∧ p.table = some t ∧ p.next = none ∧ p.slot = 0 ∧ p.cycles = pt.cycles ∧
    (s.beginCycle n t).objs = s.objs ∧ (s.beginCycle n t).kop.sessions.map Session.who = s.kop.sessions.map Session.who := by
  unfold State.beginCycle
  simp only [hpt]
  obtain ⟨pl, hpart, hobjs, hwho⟩ := placeUrgent_effect
    (s := { s with parts := s.parts.put n { pt with table := some t, next := none, granted := [], placed := none } }) t
    (KMap.find_put_self _ _ _)
  generalize State.placeUrgent _ n t = v at hpart hobjs hwho
  obtain ⟨rs, gr, hpart', hobjs', hwho'⟩ := boundary_effect (i := 0) hpart rfl (List.length_pos_of_ne_nil ht)
  exact ⟨_, hpart', rfl, rfl, rfl, rfl, hobjs'.trans hobjs, hwho'.trans hwho⟩

theorem clearTable_effect {s : State} {n : Nat} {pt : Partition} (hpt : s.part? n = some pt) : ∃ p,
    (s.clearTable n).part? n = some p ∧ p.table = none ∧ p.next = none ∧ p.slot = 0 ∧ p.cycles = 0 ∧ (s.clearTable n).objs = s.objs := by
  unfold State.clearTable
  simp only [hpt]
  have hp := paced_boundaryJobs ({ s with parts := s.parts.put n { pt with
    table := none, next := none, slot := 0, cycles := 0, residents := [], granted := [], placed := none } } : State) n []
  exact ⟨_, (hp.part n).trans (KMap.find_put_self _ _ _), rfl, rfl, rfl, rfl, hp.objs⟩

theorem takeTable_effect {s : State} {n : Nat} {pt : Partition} (t : CycleTable) (hpt : s.part? n = some pt) : ∃ p,
    (s.takeTable n t).part? n = some p ∧ (s.takeTable n t).kop.sessions.map Session.who = s.kop.sessions.map Session.who ∧
    (pt.table.isSome = true → p = { pt with next := some t } ∧ s.takeTable n t = { s with parts := (s.takeTable n t).parts }) ∧
    (pt.table = none → t.slots ≠ [] → p.table = some t ∧ p.next = none ∧ p.slot = 0) ∧ (pt.table = none → t.slots = [] → p = pt) := by
  unfold State.takeTable
  simp only [hpt]
  split
  case isTrue hsome =>
    refine ⟨_, KMap.find_put_self _ _ _, rfl, fun _ => ⟨rfl, rfl⟩, fun hnone => ?_, fun hnone => ?_⟩ <;>
      exact absurd hsome (by rw [hnone]; exact Bool.false_ne_true)
  case isFalse hnone =>
    split
    case isTrue hempty => exact ⟨pt, hpt, rfl, fun h => absurd h hnone, fun _ h => absurd hempty h, fun _ _ => rfl⟩
    case isFalse hslots =>
      obtain ⟨p, hpart, htable, hnext, hslot, -, -, hwho⟩ := beginCycle_effect hpt hslots
      exact ⟨p, hpart, hwho, fun h => absurd h hnone, fun _ _ => ⟨htable, hnext, hslot⟩, fun _ h => absurd h hslots⟩

theorem cycleTableWrite_effect (n : Fin 16) (r : Requester) (v : Bytes) (s : State) (pt : Partition) (hmay : WriteMay s r 0x2210 (n + 1) v [])
    (hbad : s.tableBad n v = false) (href : s.tableRefused n (tableOfBytes v) = false) (hpt : s.part? n = some pt) : ∃ u p,
    exec (.cycleTableWrite n r v) s = .next u ∧ Replied u r .ok ∧
    u.part? n = some p ∧ (pt.table.isSome = true → p = { pt with next := some (tableOfBytes v) } ∧
      u = { s with parts := u.parts, cnt := u.cnt, sent := u.sent, kop := u.kop }) ∧
    (pt.table = none → (tableOfBytes v).slots ≠ [] → p.table = some (tableOfBytes v) ∧ p.next = none ∧ p.slot = 0) ∧
    (pt.table = none → (tableOfBytes v).slots = [] → p = pt) := by
  have hrun : exec (.cycleTableWrite n r v) s = .next ((s.takeTable n (tableOfBytes v)).replyWrite r (okey 0x2210 (n + 1)) .ok) :=
    congrArg Host.Outcome.next (objWriteNow_of_may hmay (conds_of_false hbad href .badDescriptor .refusedFit)
      (fun s => s.takeTable n (tableOfBytes v)))
  obtain ⟨p, hpart, hwho, hwaits, hbegins, hnone⟩ := takeTable_effect (tableOfBytes v) hpt
  generalize s.takeTable n (tableOfBytes v) = w at hrun hpart hwho hwaits
  have hans := answered_replyWrite (isSome_session_of_who hwho (session_of_may hmay)) (okey 0x2210 (n + 1)) .ok
  refine ⟨_, p, hrun, hans.replied, ?_, fun hsome => ?_, hbegins, hnone⟩
  · rw [State.part?, hans.frame]
    exact hpart
  · obtain ⟨hp, hw⟩ := hwaits hsome
    refine ⟨hp, ?_⟩
    rw [hans.frame_kop]
    show ({ w with cnt := _, sent := _, kop := _ } : State) = _
    rw [hw]

theorem countRefused_frame (s : State) (n : Nat) (granted : NSet) : Paced s (s.countRefused n granted) := by
  unfold State.countRefused
  refine Paced.foldl _ (fun u e => ?_) _ _
  exact .ite (paced_modJob _ _ _) (paced_modJob _ _ _)

theorem cycleStart_effect (n : Fin 16) (s : State) (pt : Partition) (t : CycleTable) (hpt : s.part? n = some pt) (ht : pt.table = some t)
    (hlast : t.slots.length ≤ pt.slot + 1) : ∃ u p, exec (.cycleStart n) s = .next u ∧ u.part? n = some p ∧ p.next = none ∧ p.slot = 0 ∧
    p.cycles = (if (pt.next.getD t).slots = [] then 0 else (pt.cycles + 1) % 2 ^ 64) ∧
    p.table = (if (pt.next.getD t).slots = [] then none else some (pt.next.getD t)) ∧ u.objs = s.objs := by
  have hcount := countRefused_frame s n pt.granted
  have hrun : exec (.cycleStart n) s = .next (if (pt.next.getD t).slots = [] then
      State.clearTable { s.countRefused n pt.granted with
        parts := (s.countRefused n pt.granted).parts.put n { pt with cycles := (pt.cycles + 1) % 2 ^ 64 } } n
      else State.beginCycle { s.countRefused n pt.granted with
        parts := (s.countRefused n pt.granted).parts.put n { pt with cycles := (pt.cycles + 1) % 2 ^ 64 } } n (pt.next.getD t)) := by
    show execCycleStart n s = _
    simp only [execCycleStart, hpt, ht, Nat.not_lt.2 hlast, if_false]
  generalize s.countRefused n pt.granted = v at hrun hcount
  have hpart : State.part? { v with parts := v.parts.put n { pt with cycles := (pt.cycles + 1) % 2 ^ 64 } } n =
    some { pt with cycles := (pt.cycles + 1) % 2 ^ 64 } := KMap.find_put_self _ _ _
  by_cases hempty : (pt.next.getD t).slots = []
  · rw [if_pos hempty] at hrun
    obtain ⟨p, hp, htable, hnext, hslot, hcycles, hobjs⟩ := clearTable_effect hpart
    exact ⟨_, p, hrun, hp, hnext, hslot, by rw [hcycles, if_pos hempty], by rw [htable, if_pos hempty], hobjs.trans hcount.objs⟩
  · rw [if_neg hempty] at hrun
    obtain ⟨p, hp, htable, hnext, hslot, hcycles, hobjs, -⟩ := beginCycle_effect hpart hempty
    exact ⟨_, p, hrun, hp, hnext, hslot, by rw [hcycles, if_neg hempty], by rw [htable, if_neg hempty], hobjs.trans hcount.objs⟩

theorem job_setJob_self (s : State) (j : Nat) (x : Job) : (s.setJob j x).job? j = some x := KMap.find_put_self _ _ _

theorem boundaryJob_saves {s : State} {rs : List Nat} {j : Nat} {jb : Job} (hj : s.job? j = some jb) (hres : jb.resident = false)
    (hst : jb.state = .running) (hserved : rs.contains j = false) : ∃ jb', (s.boundaryJob rs j).job? j = some jb' ∧ jb'.state = .saving ∧
    jb'.tiles = jb.tiles ∧ jb'.regions = jb.regions := by
  have heq : s.boundaryJob rs j = s.startSave j jb := by
    simp only [State.boundaryJob, hj, hres, hst, hserved, Bool.false_eq_true, if_false]
  rw [heq, State.startSave, State.job?, jobs_jobTo _ (job_setJob_self _ _ _), KMap.find_put_self]
  exact ⟨_, rfl, rfl, rfl, rfl⟩

theorem boundaryJob_givesUp {s : State} {rs : List Nat} {j : Nat} {jb : Job} (hj : s.job? j = some jb) (hres : jb.resident = false)
    (hst : jb.state = .restoring) (hserved : rs.contains j = false) : ∃ jb', (s.boundaryJob rs j).job? j = some jb' ∧ jb'.state = .idle ∧
    jb'.tiles = jb.tiles ∧ jb'.regions = jb.regions := by
  have heq : s.boundaryJob rs j = (s.stopRestore jb).jobTo j .idle := by
    simp only [State.boundaryJob, hj, hres, hst, hserved, Bool.false_eq_true, if_false]
  have hjob : (s.stopRestore jb).job? j = some jb := by rw [State.job?, (stopRestore_keeps s jb).1.jobs]; exact hj
  rw [heq, State.job?, jobs_jobTo _ hjob, KMap.find_put_self]
  exact ⟨_, rfl, rfl, rfl, rfl⟩

theorem boundaryJob_stays {s : State} {rs : List Nat} {j : Nat} {jb : Job} (hj : s.job? j = some jb) (hres : jb.resident = false)
    (h : (jb.state ≠ .running ∧ jb.state ≠ .restoring) ∨ rs.contains j = true) : s.boundaryJob rs j = s := by
  rcases h with ⟨hrun, hrest⟩ | hserved
  · cases hst : jb.state with
    | running => exact absurd hst hrun
    | restoring => exact absurd hst hrest
    | _ => simp only [State.boundaryJob, hj, hres, hst, Bool.false_eq_true, if_false]
  · cases hst : jb.state with
    | _ => simp only [State.boundaryJob, hj, hres, hst, hserved, Bool.false_eq_true, if_false]

/-- The state of a job after a boundary whose next slot serves `served` (R298, R304). -/
theorem boundaryJob_effect (s : State) (rs : List Nat) (j : Nat) (jb : Job) (hj : s.job? j = some jb) :
    (jb.resident = true → s.boundaryJob rs j = s) ∧
    (jb.resident = false → ∃ jb', (s.boundaryJob rs j).job? j = some jb' ∧
      jb'.state = (match jb.state, rs.contains j with
        | .running, false => .saving
        | .restoring, false => .idle
        | st, _ => st) ∧ jb'.tiles = jb.tiles ∧ jb'.regions = jb.regions) := by
  refine ⟨fun hres => by simp only [State.boundaryJob, hj, hres, if_true], fun hres => ?_⟩
  cases hserved : rs.contains j with
  | true =>
    rw [boundaryJob_stays hj hres (.inr hserved)]
    refine ⟨jb, hj, ?_, rfl, rfl⟩
    cases jb.state <;> rfl
  | false =>
    cases hst : jb.state with
    | running => exact boundaryJob_saves hj hres hst hserved
    | restoring => exact boundaryJob_givesUp hj hres hst hserved
    | _ =>
      rw [boundaryJob_stays hj hres (.inl (by rw [hst]; exact ⟨nofun, nofun⟩))]
      exact ⟨jb, hj, hst, rfl, rfl⟩

/-- Settles O45: tables and cycles by what the boundary leaves of its partition (`boundary_effect`), a job's part of it by its state. -/
theorem cycleCommands : Obligations.CycleCommands := by
  unfold Obligations.CycleCommands
  refine ⟨cycleTableWrite_effect, cycleStart_effect, fun n s pt t hpt ht hnext => ?_, boundaryJob_effect⟩
  obtain ⟨rs, gr, hpart, hobjs, -⟩ := boundary_effect (i := pt.slot + 1) hpt ht hnext
  refine ⟨_, _, ?_, hpart, rfl, ht, rfl, hobjs⟩
  show execSlotBoundary n s = _
  simp only [execSlotBoundary, hpt, ht, hnext, if_true]

/-! Steps (R300, R311) -/

/-- Nothing but tiles changed. -/
def TileFrame (s u : State) : Prop := u = { s with tiles := u.tiles }

theorem TileFrame.trans {s u w : State} (hu : TileFrame s u) (hw : TileFrame u w) : TileFrame s w := by
  unfold TileFrame at hu
  exact Eq.trans hw (by rw [hu])

/-- A tile that waited for a step goes on. -/
def State.resumeStep (s : State) (t : Nat) : State := match (s.tile t).seqWait with | some .stepBegin => s.resume t | _ => s

theorem resumeStep_effect (s : State) (t : Nat) : TileFrame s (s.resumeStep t) ∧
    ∀ i, (i = t ∨ (s.tile i).seqWait ≠ some .stepBegin) → ((s.resumeStep t).tile i).seqWait ≠ some .stepBegin := by
  unfold State.resumeStep
  split
  case h_1 hwait =>
    refine ⟨rfl, fun i hi => ?_⟩
    by_cases hti : t = i
    · subst hti
      rw [State.resume, State.tile_modTile]
      exact nofun
    · rw [State.resume, State.modTile, State.tile_setTile_ne _ _ _ _ hti]
      exact hi.elim (fun h => absurd h.symm hti) id
  case h_2 hwait =>
    refine ⟨rfl, fun i hi => ?_⟩
    rcases hi with rfl | hi
    · exact fun h => hwait h
    · exact hi

theorem foldl_resumeStep (l : List Nat) (s : State) : TileFrame s (l.foldl State.resumeStep s) ∧
    ∀ i, (i ∈ l ∨ (s.tile i).seqWait ≠ some .stepBegin) → ((l.foldl State.resumeStep s).tile i).seqWait ≠ some .stepBegin := by
  induction l generalizing s with
  | nil => exact ⟨rfl, fun i h => h.elim (fun h => nomatch h) id⟩
  | cons t l ih =>
    obtain ⟨hframe, hwait⟩ := resumeStep_effect s t
    obtain ⟨hframe', hwait'⟩ := ih (s.resumeStep t)
    refine ⟨hframe.trans hframe', fun i h => hwait' i ?_⟩
    rcases h with h | h
    · rcases List.mem_cons.1 h with rfl | h
      · exact .inr (hwait i (.inl rfl))
      · exact .inl h
    · exact .inr (hwait i (.inr h))

/-- The tiles of a job no longer wait for a step, and nothing but tiles changed. -/
theorem resumeSteps_effect (s : State) (jb : Job) : s.resumeSteps jb = { s with tiles := (s.resumeSteps jb).tiles } ∧
    ∀ d ∈ jb.tiles, ((s.resumeSteps jb).tile d.tile).seqWait ≠ some .stepBegin := by
  have heq : s.resumeSteps jb = (jb.tiles.map (·.tile)).foldl State.resumeStep s := by rw [List.foldl_map]; rfl
  obtain ⟨hframe, hwait⟩ := foldl_resumeStep (jb.tiles.map (·.tile)) s
  rw [heq]
  exact ⟨hframe, fun d hd => hwait _ (.inl (List.mem_map_of_mem hd))⟩

theorem stepGrant_effect (j : Fin 256) (us : Nat) (s : State) (jb : Job) (hj : s.job? j = some jb) (hst : jb.state = .running)
    (hasked : jb.asked = true) :
    (s.stepFits jb us = true → jb.step = .none_ ∨ jb.step = .asked → ∃ u, exec (.stepGrant j us) s = .next u ∧
      u.job? j = some { jb with step := .running, asked := false } ∧ (∀ d ∈ jb.tiles, (u.tile d.tile).seqWait ≠ some .stepBegin) ∧
      u = { s with jobs := u.jobs, tiles := u.tiles }) ∧
    (s.stepFits jb us = true → jb.step = .rerunPending → ∃ u, exec (.stepGrant j us) s = .next u ∧
      u.job? j = some { jb with step := .rerunRunning } ∧ u = { s with jobs := u.jobs, tiles := u.tiles }) ∧
    (s.stepFits jb us = false → jb.step = .none_ → exec (.stepGrant j us) s = .next
      ((s.setJob j { jb with step := .asked }).bump (okey 0x2203 8) 1)) := by
  obtain ⟨hframe, hwait⟩ := resumeSteps_effect s jb
  refine ⟨fun hfits hstep => ?_, fun hfits hstep => ?_, fun hfits hstep => ?_⟩
  · refine ⟨(s.resumeSteps jb).setJob j { jb with step := .running, asked := false }, ?_, KMap.find_put_self _ _ _, hwait, ?_⟩
    · show execStepGrant j us s = _
      rcases hstep with hstep | hstep <;>
        simp only [execStepGrant, hj, hst, hasked, hfits, hstep, ne_eq, not_true_eq_false, Bool.not_true, Bool.false_eq_true, or_self, if_false]
    · rw [hframe]; rfl
  · refine ⟨(s.resumeSteps jb).setJob j { jb with step := .rerunRunning }, ?_, KMap.find_put_self _ _ _, ?_⟩
    · show execStepGrant j us s = _
      simp only [execStepGrant, hj, hst, hasked, hfits, hstep, ne_eq, not_true_eq_false, Bool.not_true, Bool.false_eq_true, or_self, if_false]
    · rw [hframe]; rfl
  · show execStepGrant j us s = _
    simp only [execStepGrant, hj, hst, hasked, hfits, hstep, ne_eq, not_true_eq_false, Bool.not_true, Bool.not_false, Bool.false_eq_true,
      or_self, if_false, if_true]

theorem stepEnd_effect (t : TileNo) (s : State) (j : Nat) (jb : Job) (hlead : s.leadJob t = some (j, jb)) :
    (jb.step = .running → exec (.stepEnd t) s = .next (s.setJob j { jb with step := .none_ })) ∧
    (jb.step = .rerunRunning → ∃ u, exec (.stepEnd t) s = .next u ∧ u.job? j = some { jb with step := .none_ } ∧
      (jb.asked = true → (u.tile t).seqWait = some .stepBegin) ∧ u = { s with jobs := u.jobs, tiles := u.tiles }) := by
  refine ⟨fun hstep => ?_, fun hstep => ?_⟩
  · show execStepEnd t s = _
    simp only [execStepEnd, hlead, hstep]
  · have hrun : exec (.stepEnd t) s = .next (if jb.asked then (s.setJob j { jb with step := .none_ }).await t .stepBegin
        else s.setJob j { jb with step := .none_ }) := by
      show execStepEnd t s = _
      simp only [execStepEnd, hlead, hstep]
    refine ⟨_, hrun, ?_⟩
    split
    · exact ⟨KMap.find_put_self _ _ _, fun _ => by rw [State.await, State.tile_modTile], rfl⟩
    · next hnot => exact ⟨KMap.find_put_self _ _ _, fun h => absurd h hnot, rfl⟩

/-- A tile with nothing queued: what an abandoned step leaves of it (R311). -/
def Tile.idle (x : Tile) : Prop := x.passQ = [] ∧ x.passRun = none ∧ x.moves = [] ∧ x.selQ = []

/-- A change of tiles and dies that leaves idle tiles idle. -/
structure Abandons (s u : State) : Prop where
  frame : u = { s with tiles := u.tiles, dies := u.dies }
  idle : ∀ i, (s.tile i).idle → (u.tile i).idle

theorem Abandons.trans {s u w : State} (hu : Abandons s u) (hw : Abandons u w) : Abandons s w :=
  ⟨hw.frame.trans (by rw [hu.frame]), fun i h => hw.idle i (hu.idle i h)⟩

theorem Abandons.foldl {α : Type} (f : State → α → State) (h : ∀ s x, Abandons s (f s x)) (l : List α) (s : State) : Abandons s (l.foldl f s) := by
  induction l generalizing s with
  | nil => exact ⟨rfl, fun _ h => h⟩
  | cons x l ih => exact (h s x).trans (ih _)

theorem abandons_modTile (s : State) (t : Nat) (f : Tile → Tile) (h : ∀ x : Tile, x.idle → (f x).idle) : Abandons s (s.modTile t f) := by
  refine ⟨rfl, fun i hi => ?_⟩
  by_cases hti : t = i
  · subst hti; rw [State.tile_modTile]; exact h _ hi
  · rw [State.modTile, State.tile_setTile_ne _ _ _ _ hti]; exact hi

theorem abandons_await (s : State) (t : Nat) (w : SeqWait) : Abandons s (s.await t w) := abandons_modTile s t _ fun _ h => h

theorem abandonTile_effect (s : State) (t : Nat) : Abandons s (s.abandonTile t) ∧ ((s.abandonTile t).tile t).idle := by
  unfold State.abandonTile
  refine ⟨?_, ?_⟩
  · have hm := abandons_modTile s t (fun x => { x with
      passQ := [], passRun := none, passDone := [], drains := [], accSt := [], accOpen := [], moves := [], selQ := [], vq := [], vwait := none,
      stream := none, arrived := [], seqWait := none }) fun _ _ => ⟨rfl, rfl, rfl, rfl⟩
    exact hm.trans ⟨rfl, fun _ h => h⟩
  · rw [State.tile_modDie, State.tile_modTile]
    exact ⟨rfl, rfl, rfl, rfl⟩

theorem foldl_abandonTile (l : List TileDecl) (s : State) : Abandons s (l.foldl (fun s d => s.abandonTile d.tile) s) ∧
    ∀ d ∈ l, ((l.foldl (fun s d => s.abandonTile d.tile) s).tile d.tile).idle := by
  have hall : ∀ (l : List TileDecl) (s : State), Abandons s (l.foldl (fun s d => s.abandonTile d.tile) s) := fun l s =>
    .foldl _ (fun s d => (abandonTile_effect s d.tile).1) l s
  refine ⟨hall l s, ?_⟩
  induction l generalizing s with
  | nil => exact fun d h => nomatch h
  | cons x l ih =>
    intro d hd
    rcases List.mem_cons.1 hd with rfl | hd
    · exact (hall l _).idle _ (abandonTile_effect s d.tile).2
    · exact ih _ d hd

theorem abandons_holdForRerun (s : State) (jb : Job) : Abandons s (s.holdForRerun jb) := by
  refine Abandons.foldl _ (fun u d => ?_) _ _
  split
  · exact ⟨rfl, fun _ h => h⟩
  · exact abandons_await _ _ _

/-- A step abandoned on a job's tiles, counted and logged. -/
def State.expire (s : State) (j : Nat) (jb : Job) (st : Status) : State :=
  ((jb.tiles.foldl (fun s d => s.abandonTile d.tile) s).bump (okey 0x2203 9) 1).log
    { status := st, kind := 7, resource := 0x0C, job := j, count := jb.expiries + 1 }

theorem expire_effect (s : State) (j : Nat) (jb : Job) (st : Status) :
    (s.expire j jb st).count (okey 0x2203 9) = (s.count (okey 0x2203 9) + 1) % 2 ^ 64 ∧ (s.expire j jb st).flogSeq = s.flogSeq + 1 ∧
    (∀ d ∈ jb.tiles, ((s.expire j jb st).tile d.tile).idle) ∧ (s.expire j jb st).mem = s.mem ∧ (s.expire j jb st).reqs = s.reqs := by
  unfold State.expire
  obtain ⟨hall, hidle⟩ := foldl_abandonTile jb.tiles s
  generalize jb.tiles.foldl (fun s d => s.abandonTile d.tile) s = v at hall hidle
  obtain ⟨c, hc⟩ := v.bump_frame (okey 0x2203 9) 1
  have hlog := logFrame_log (v.bump (okey 0x2203 9) 1) { status := st, kind := 7, resource := 0x0C, job := j, count := jb.expiries + 1 }
  obtain ⟨htiles, hmem, -, hreqs⟩ := hlog.keeps
  refine ⟨?_, ?_, fun d hd => ?_, ?_, ?_⟩
  · rw [State.count_log _ _ (by unfold Quiet; decide), State.count_bump, if_pos ⟨by decide, rfl⟩, hall.frame]; rfl
  · rw [State.flogSeq_log, hc, hall.frame]
  · rw [hlog.tile, hc]
    exact hidle d hd
  · rw [hmem, hc, hall.frame]
  · rw [hreqs, hc, hall.frame]

theorem watchdogExpiry_first (j : Fin 256) (s : State) (jb : Job) (hj : s.job? j = some jb) (hstep : jb.step = .running) : ∃ u,
    exec (.watchdogExpiry j) s = .next u ∧ u.job? j = some { jb with expiries := jb.expiries + 1, step := .rerunPending } ∧
    u.count (okey 0x2203 9) = (s.count (okey 0x2203 9) + 1) % 2 ^ 64 ∧ u.flogSeq = s.flogSeq + 1 ∧
    (∀ d ∈ jb.tiles, (u.tile d.tile).passQ = [] ∧ (u.tile d.tile).passRun = none ∧ (u.tile d.tile).moves = [] ∧ (u.tile d.tile).selQ = []) ∧
    u.mem = s.mem ∧ u.reqs = s.reqs := by
  have hrun : exec (.watchdogExpiry j) s = .next
      (((s.expire j jb .ok).setJob j { jb with expiries := jb.expiries + 1, step := .rerunPending }).holdForRerun jb) := by
    show execWatchdogExpiry j s = _
    simp only [execWatchdogExpiry, hj, hstep, ne_eq, not_true_eq_false, false_and, if_false, if_true]
    rfl
  obtain ⟨hcount, hseq, hidle, hmem, hreqs⟩ := expire_effect s j jb .ok
  generalize s.expire j jb .ok = v at hrun hcount hseq hidle hmem hreqs
  obtain ⟨hframe, hkeep⟩ := abandons_holdForRerun (v.setJob j { jb with expiries := jb.expiries + 1, step := .rerunPending }) jb
  refine ⟨_, hrun, ?_, ?_, ?_, fun d hd => hkeep _ (hidle d hd), ?_, ?_⟩
  · rw [hframe]
    exact KMap.find_put_self _ _ _
  · rw [hframe]; exact hcount
  · rw [hframe]; exact hseq
  · rw [hframe]; exact hmem
  · rw [hframe]; exact hreqs

/-- Nothing but requests and the queues they wait in changed. -/
def ReqsFrame (s u : State) : Prop := u = { s with reqs := u.reqs, colls := u.colls, models := u.models }

theorem ReqsFrame.trans {s u w : State} (hu : ReqsFrame s u) (hw : ReqsFrame u w) : ReqsFrame s w := by
  unfold ReqsFrame at hu
  exact Eq.trans hw (by rw [hu])

/-- Requests that end: all but the requests and the queues they wait in stays, and those named are WRITING. -/
theorem failReq_effect (s : State) (r : W32) (st : Status) :
    ReqsFrame s (s.failReq r st) ∧
    ∀ i, (i = r ∨ ∀ y, s.req? i = some y → y.state = .writing) → ∀ y, (s.failReq r st).req? i = some y → y.state = .writing := by
  unfold State.failReq
  split
  case h_1 x hx =>
    split
    case isTrue hlive =>
      refine ⟨rfl, fun i hi y hy => ?_⟩
      rw [State.req?, State.setReq, KMap.find_put] at hy
      split at hy
      · exact Option.some.inj hy ▸ rfl
      · next hne => exact hi.elim (fun h => absurd (h ▸ rfl) hne) fun h => h y hy
    case isFalse hended =>
      refine ⟨rfl, fun i hi y hy => ?_⟩
      rcases hi with rfl | hi
      · obtain rfl := Option.some.inj (hx.symm.trans hy)
        simpa [Request.live] using hended
      · exact hi y hy
  case h_2 hnone => exact ⟨rfl, fun i hi y hy => hi.elim (fun h => by subst h; rw [hnone] at hy; exact nomatch hy) fun h => h y hy⟩

theorem foldl_failReq (l : List W32) (s : State) (st : Status) :
    ReqsFrame s (l.foldl (fun s r => s.failReq r st) s) ∧
    ∀ i, (i ∈ l ∨ ∀ y, s.req? i = some y → y.state = .writing) → ∀ y, (l.foldl (fun s r => s.failReq r st) s).req? i = some y →
      y.state = .writing := by
  induction l generalizing s with
  | nil => exact ⟨rfl, fun i hi => hi.elim (fun h => nomatch h) id⟩
  | cons r l ih =>
    obtain ⟨hframe, hw⟩ := failReq_effect s r st
    obtain ⟨hframe', hw'⟩ := ih (s.failReq r st)
    refine ⟨hframe.trans hframe', fun i hi => hw' i ?_⟩
    rcases hi with hi | hi
    · rcases List.mem_cons.1 hi with rfl | hi
      · exact .inr (hw i (.inl rfl))
      · exact .inl hi
    · exact .inr (hw i (.inr hi))

/-- The job after its re-run expired, its lead tile waiting for the step it asked for before. -/
def State.rerunOver (s : State) (j : Nat) (jb : Job) : State :=
  if jb.asked then (s.setJob j { jb with expiries := jb.expiries + 1, step := .none_ }).await jb.lead .stepBegin
  else s.setJob j { jb with expiries := jb.expiries + 1, step := .none_ }

theorem rerunOver_keeps (s : State) (j : Nat) (jb : Job) :
    (s.rerunOver j jb).job? j = some { jb with expiries := jb.expiries + 1, step := .none_ } ∧ (s.rerunOver j jb).cnt = s.cnt ∧
    (s.rerunOver j jb).flogSeq = s.flogSeq ∧ (s.rerunOver j jb).mem = s.mem ∧ (s.rerunOver j jb).reqs = s.reqs := by
  unfold State.rerunOver
  split <;> exact ⟨KMap.find_put_self _ _ _, rfl, rfl, rfl, rfl⟩

theorem watchdogExpiry_second (j : Fin 256) (s : State) (jb : Job) (hj : s.job? j = some jb) (hstep : jb.step = .rerunRunning) : ∃ u,
    exec (.watchdogExpiry j) s = .next u ∧ u.job? j = some { jb with expiries := jb.expiries + 1, step := .none_ } ∧
    u.count (okey 0x2203 9) = (s.count (okey 0x2203 9) + 1) % 2 ^ 64 ∧ u.flogSeq = s.flogSeq + 1 ∧
    (∀ r ∈ s.batchReqs j, ∀ y, u.req? r = some y → y.state = .writing) ∧ u.mem = s.mem := by
  have hrun : exec (.watchdogExpiry j) s = .next ((((s.expire j jb .retryExhausted).rerunOver j jb).batchReqs j).foldl
      (fun s r => s.failReq r .retryExhausted) ((s.expire j jb .retryExhausted).rerunOver j jb)) := by
    show execWatchdogExpiry j s = _
    simp only [execWatchdogExpiry, hj, hstep, ne_eq, not_true_eq_false, and_false, reduceCtorEq, if_false]
    rfl
  obtain ⟨hcount, hseq, -, hmem, hreqs⟩ := expire_effect s j jb .retryExhausted
  generalize s.expire j jb .retryExhausted = v at hrun hcount hseq hmem hreqs
  obtain ⟨hjob, hcnt, hseq', hmem', hreqs'⟩ := rerunOver_keeps v j jb
  generalize v.rerunOver j jb = w at hrun hjob hcnt hseq' hmem' hreqs'
  have hbatch : w.batchReqs j = s.batchReqs j := by rw [State.batchReqs, hreqs', hreqs]; rfl
  rw [hbatch] at hrun
  obtain ⟨hframe, hw⟩ := foldl_failReq (s.batchReqs j) w .retryExhausted
  unfold ReqsFrame at hframe
  refine ⟨_, hrun, ?_, ?_, ?_, fun r hr y hy => hw r (.inl hr) y hy, ?_⟩
  · rw [hframe]; exact hjob
  · rw [hframe]
    exact (congrArg (fun c => KMap.getOr 0 c (okey 0x2203 9)) hcnt).trans hcount
  · rw [hframe]; exact hseq'.trans hseq
  · rw [hframe]; exact hmem'.trans hmem

theorem waitLimitExpiry_effect (t : TileNo) (s : State) (j : Nat) (jb : Job) (htile : (s.tile t).job = some j) (hj : s.job? j = some jb)
    (hst : jb.state = .running) (hun : jb.unload = false) (hwait : (s.tile t).timedWait = true) : ∃ u jb',
    exec (.waitLimitExpiry t) s = .next u ∧ u.job? j = some jb' ∧ jb'.state = .ended ∧ jb'.endStatus = .retryExhausted ∧
    (∀ d ∈ jb.tiles, (u.tile d.tile).job ≠ some j) ∧ u.count (okey 0x2203 0x0A) = (s.count (okey 0x2203 0x0A) + 1) % 2 ^ 64 := by
  have hrun : exec (.waitLimitExpiry t) s = .next (((s.failReqs j .retryExhausted).bump (okey 0x2203 0x0A) 1).endJob j .retryExhausted) := by
    show execWaitLimitExpiry t s = _
    simp only [execWaitLimitExpiry, htile, hj, Option.map_some, hst, hwait, ne_eq, not_true_eq_false, Bool.not_true, Bool.false_eq_true,
      or_self, if_false]
  obtain ⟨hframe, -⟩ := foldl_failReq (s.reqsAt j) s .retryExhausted
  unfold ReqsFrame at hframe
  have hjob : ((s.failReqs j .retryExhausted).bump (okey 0x2203 0x0A) 1).job? j = some jb := by
    obtain ⟨c, hc⟩ := State.bump_frame (s.failReqs j .retryExhausted) (okey 0x2203 0x0A) 1
    rw [hc, State.failReqs, hframe]
    exact hj
  have hcount : ((s.failReqs j .retryExhausted).bump (okey 0x2203 0x0A) 1).count (okey 0x2203 0x0A) =
      (s.count (okey 0x2203 0x0A) + 1) % 2 ^ 64 := by
    rw [State.count_bump, if_pos ⟨by decide, rfl⟩, State.failReqs, hframe]; rfl
  generalize (s.failReqs j .retryExhausted).bump (okey 0x2203 0x0A) 1 = v at hrun hjob hcount
  have hlive : jb.state ≠ .ended := by rw [hst]; exact nofun
  refine ⟨_, jb.ended .retryExhausted, hrun, ?_, rfl, rfl, fun d hd => tile_endJob _ hjob hlive hd, ?_⟩
  · rw [job_endJob _ hjob hlive, if_pos rfl, hun]; rfl
  · rw [(calm_endJob v j _).count _ ⟨by decide, by unfold Quiet; decide, by decide, by decide⟩]
    exact hcount

/-- Settles O47: the grant and the step's end by the job's step, the watchdog by what it abandons (`expire_effect`). -/
theorem stepCommands : Obligations.StepCommands := by
  unfold Obligations.StepCommands
  refine ⟨fun t s j jb hlead => ?_, stepGrant_effect, stepEnd_effect, watchdogExpiry_first, watchdogExpiry_second, waitLimitExpiry_effect⟩
  refine ⟨(s.setJob j { jb with asked := true }).await t .stepBegin, ?_, KMap.find_put_self _ _ _, ?_, rfl⟩
  · show execStepBegin t s = _
    simp only [execStepBegin, hlead]
  · rw [State.await, State.tile_modTile]

end Sys2Proof.Machine
end

section
/-! SUPPORT. What cold and warm resets take away and keep (17 R450 to R458). -/

open Sys2Proof Sys2Proof.Machine Sys2Proof.Claims

namespace Sys2Proof.Machine

/-! Module resets by KOP (R456) -/

theorem moduleReset_effect {r : Requester} {v : Bytes} {s : State} {cmd : Instr} {k : ResetKind} (hmay : WriteMay s r 0x1200 1 v [])
    (hrun : exec cmd s = .next (s.writeModuleReset r v)) (hv : v = [0x01] ∧ k = .warm ∨ v = [0x02] ∧ k = .cold) : ∃ u,
    exec cmd s = .next u ∧ Replied u r .ok ∧
    u.boot = { s.boot with pendingReset := some (if s.boot.pendingReset = some .cold then .cold else k) } ∧
    u = { s with boot := u.boot, cnt := u.cnt, sent := u.sent, kop := u.kop } := by
  have hx : cond (v ≠ [0x01] && v ≠ [0x02]) Status.badDescriptor = [] := by
    rcases hv with ⟨rfl, -⟩ | ⟨rfl, -⟩ <;> rfl
  have hact : s.scheduleReset (if v = [0x02] then .cold else .warm) = s.scheduleReset k := by
    rcases hv with ⟨rfl, rfl⟩ | ⟨rfl, rfl⟩ <;> rfl
  obtain ⟨u, hu, hans⟩ := exec_writeNow hmay hrun hx hact rfl
  have hframe := hans.frame_kop
  have hboot : u.boot = (s.scheduleReset k).boot := by rw [hframe]
  refine ⟨u, hu, hans.replied, hboot, ?_⟩
  rw [hboot]
  exact hframe

/-! What a reset keeps (R453, R454) -/

/-- The module in warm reset, before the reset is counted. -/
theorem warm_bump (s : State) (cause : Nat) : ∃ v : State, s.warm cause = v.bump (okey 0x1202 3) 1 ∧ v.cnt = s.cnt ∧
    v.mem = s.mem.filter (fun c => faSpace c.1 == 0) := ⟨_, rfl, rfl, rfl⟩

theorem count_warm (s : State) (cause : Nat) : (s.warm cause).count (okey 0x1202 3) = (s.count (okey 0x1202 3) + 1) % 2 ^ 64 ∧
    ∀ k, k ≠ okey 0x1202 3 → (s.warm cause).count k = s.count k := by
  obtain ⟨v, hv, hcnt, -⟩ := warm_bump s cause
  have hcount : ∀ k, v.count k = s.count k := fun k => by rw [State.count, hcnt]; rfl
  refine ⟨?_, fun k hk => ?_⟩
  · rw [hv, State.count_bump, hcount, if_pos ⟨by decide, rfl⟩]
  · rw [hv, State.count_bump_ne _ _ hk.symm, hcount]

theorem read_warm (s : State) (cause a : Nat) :
    Memory.read (s.warm cause).mem a = if faSpace a = 0 then Memory.read s.mem a else 0 := by
  obtain ⟨v, hv, -, hmem⟩ := warm_bump s cause
  obtain ⟨c, hc⟩ := State.bump_frame v (okey 0x1202 3) 1
  have hmem : (s.warm cause).mem = s.mem.filter (fun c => faSpace c.1 == 0) := by rw [hv, hc]; exact hmem
  simp only [Memory.read, KMap.getOr, hmem, KMap.find_filter s.mem (fun a => faSpace a == 0), beq_iff_eq]
  split
  · rfl
  · rfl

theorem warm_keeps (s : State) (cause : Nat) : (s.warm cause).jobs = [] ∧ (s.warm cause).boot.lastReset = cause ∧
    (s.warm cause).flogSeq = s.flogSeq := ⟨rfl, rfl, rfl⟩

theorem ledger_tornFuse (s : State) : s.tornFuse.ledger = s.ledger := by
  cases hb : s.fuses.blowing with
  | none => simp only [State.tornFuse, hb]
  | some job =>
    simp only [State.tornFuse, hb, State.draw]
    split
    · rfl
    · rfl

/-! What the straps leave held (R450, R452) -/

theorem leaveCold_effect (s : State) (b k : BitVec 2) (ok : Bool) : (s.leaveCold b k ok).power = { s.power with
      bootSel := b, clkSel := k, hold := if k = 3 then [.clkSel] else if k ≠ 0 ∧ ok = false then [.reference] else [] } ∧
    s.leaveCold b k ok = { s with power := (s.leaveCold b k ok).power } := by
  simp only [State.leaveCold, Bool.not_eq_true', and_self]

/-- Leaving cold reset, whatever let it end. -/
theorem leavesCold_effect (mv : Nat) (b k : BitVec 2) (ok : Bool) (s : State) (cmd : Instr)
    (h : (cmd = .powerGood mv b k ok ∧ s.power.good = false ∧ s.power.charged = true ∧ 46000 ≤ mv ∧ mv ≤ 58000) ∨
     (cmd = .resetNRelease b k ok ∧ s.power.good = true ∧ .resetN ∈ s.power.hold) ∨
     (cmd = .refRecover b k ∧ ok = true ∧ s.power.good = true ∧ .reference ∈ s.power.hold)) : ∃ v : State,
    exec cmd s = .next (v.leaveCold b k ok) ∧ v.power.good = true ∧ v = { s with power := v.power, boot := v.boot } := by
  rcases h with ⟨rfl, hgood, hcharged, hlo, hhi⟩ | ⟨rfl, hgood, hhold⟩ | ⟨rfl, rfl, hgood, hhold⟩
  · refine ⟨{ s with power := { s.power with good := true, busMv := mv, band := .operating }, boot := { s.boot with lastReset := 1 } },
      ?_, rfl, rfl⟩
    show execPowerGood mv b k ok s = _
    have hskip : ¬(s.power.good = true ∨ (!s.power.charged) = true ∨ mv < 46000 ∨ mv > 58000) := by
      rw [hgood, hcharged]
      simp only [Bool.not_true, Bool.false_eq_true, false_or]
      omega
    simp only [execPowerGood, if_neg hskip]
  · refine ⟨s, ?_, hgood, rfl⟩
    show execResetNRelease b k ok s = _
    simp only [execResetNRelease, hgood, List.contains_iff_mem.2 hhold, and_self, if_true]
  · refine ⟨s, ?_, hgood, rfl⟩
    show execRefRecover b k s = _
    simp only [execRefRecover, hgood, List.contains_iff_mem.2 hhold, and_self, if_true]

/-! The resets that failures begin -/

theorem refLoss_effect (s : State) (hgood : s.power.good = true) (hhold : s.power.hold = []) (hclk : s.power.clkSel ≠ 0) : ∃ u,
    exec .refLoss s = .next u ∧ u.power.hold = [.reference] ∧ u.boot.lastReset = 6 ∧
    u.count (okey 0x2000 2) = (s.count (okey 0x2000 2) + 1) % 2 ^ 64 := by
  refine ⟨(s.cold 6 [.reference]).bump (okey 0x2000 2) (s.count (okey 0x2000 2) + 1), ?_, rfl, rfl, ?_⟩
  · show execRefLoss s = _
    simp only [execRefLoss, hgood, hhold, hclk, Bool.not_true, Bool.false_eq_true, ne_eq, not_true_eq_false, or_self, if_false]
  · have hzero : (s.cold 6 [.reference]).count (okey 0x2000 2) = 0 := rfl
    rw [State.count_bump, hzero, Nat.zero_add, if_pos ⟨Nat.succ_ne_zero _, rfl⟩]

/-- Settles O48: what a reset keeps stands in `State.cold` and `State.warm`; a warm one moves one counter (`count_warm`) and keeps
the stacks alone (`read_warm`). -/
theorem moduleResets : Obligations.ModuleResets := by
  unfold Obligations.ModuleResets
  refine ⟨fun r v s cmd k hcmd hmay => ?_, fun s hblow => ⟨fun hp => ?_, fun hp => ?_⟩,
    fun s cause hold => ⟨rfl, rfl, rfl, rfl, rfl, rfl, rfl, rfl, rfl, rfl, rfl, rfl, rfl⟩,
    fun s cause => ⟨rfl, rfl, rfl, rfl, rfl, rfl, rfl, rfl, (count_warm s cause).2, (count_warm s cause).1, read_warm s cause⟩,
    fun s hgood hext hnot => ⟨fun hblow => ?_, fun hblow => ?_⟩, fun s hgood => ?_, fun mv b k ok s cmd hcmd => ?_, refLoss_effect,
    fun s hgood hhold hmode hblow => ⟨fun hw => ?_, fun t hw ht => ?_⟩, fun s hgood hhold => ?_⟩
  · rcases hcmd with ⟨rfl, rfl, rfl⟩ | ⟨rfl, rfl, rfl⟩
    · exact moduleReset_effect hmay rfl (.inl ⟨rfl, rfl⟩)
    · exact moduleReset_effect hmay rfl (.inr ⟨rfl, rfl⟩)
  · show execModuleResetBegin s = _
    simp only [execModuleResetBegin, hblow, hp, Option.isSome_none, Bool.false_eq_true, if_false]
  · show execModuleResetBegin s = _
    simp only [execModuleResetBegin, hblow, hp, Option.isSome_none, Bool.false_eq_true, if_false]
  · show execResetNAssert s = _
    have hnot : s.power.hold.contains .resetN = false := by simpa using hnot
    simp only [execResetNAssert, hgood, hext, hnot, hblow, Bool.not_true, Bool.false_eq_true, or_self, Option.isSome_none, if_false]
  · have hnot : s.power.hold.contains .resetN = false := by simpa using hnot
    have hrun : exec .resetNAssert s = .next (if s.fuses.deferred.contains .resetN then s
        else { s with fuses := { s.fuses with deferred := s.fuses.deferred ++ [.resetN] } }) := by
      show execResetNAssert s = _
      simp only [execResetNAssert, hgood, hext, hnot, hblow, Bool.not_true, Bool.false_eq_true, or_self, if_false, if_true]
    refine ⟨_, hrun, ?_⟩
    split
    · next hin => exact ⟨List.contains_iff_mem.1 hin, rfl⟩
    · exact ⟨List.mem_append_right _ (List.mem_singleton.2 rfl), rfl⟩
  · refine ⟨s.powerLoss, ?_, rfl, rfl, rfl, rfl, rfl, rfl, ?_⟩
    · show execPowerGoodLoss s = _
      simp only [execPowerGoodLoss, hgood, if_true]
    · show (s.tornFuse.ledger.coldResets + 1) % 2 ^ 64 = _
      rw [ledger_tornFuse]
  · obtain ⟨v, hrun, hgood, hv⟩ := leavesCold_effect mv b k ok s cmd hcmd
    obtain ⟨hpower, hframe⟩ := leaveCold_effect v b k ok
    generalize v.leaveCold b k ok = u at hrun hpower hframe
    refine ⟨u, hrun, ?_, ?_, ?_, ?_, ?_⟩
    · rw [hpower]; exact hgood
    · rw [hpower]
    · rw [hpower]
    · rw [hpower]
    · have hboot : u.boot = v.boot := by rw [hframe]
      rw [hboot]
      exact hframe.trans (by rw [hv])
  · show execMcWatchdog s = _
    simp only [execMcWatchdog, hgood, hhold, hmode, hblow, State.watchdogReset, hw, Bool.not_true, Bool.false_eq_true, ne_eq,
      not_true_eq_false, or_self, Option.isSome_none, if_false]
  · show execMcWatchdog s = _
    simp only [execMcWatchdog, hgood, hhold, hmode, hblow, State.watchdogReset, hw, ht, Bool.not_true, Bool.false_eq_true, ne_eq,
      not_true_eq_false, or_self, Option.isSome_none, if_false, if_true]
  · have hrun : exec .mcUncorrectable s = .next ((s.log { kind := 0x0B, resource := 0x0C }).warm 7) := by
      show execMcUncorrectable s = _
      simp only [execMcUncorrectable, hgood, hhold, Bool.not_true, Bool.false_eq_true, ne_eq, not_true_eq_false, or_self, if_false]
    obtain ⟨hjobs, hlast, hseq⟩ := warm_keeps (s.log { kind := 0x0B, resource := 0x0C }) 7
    exact ⟨_, hrun, hlast, hjobs, hseq.trans (State.flogSeq_log s _)⟩

end Sys2Proof.Machine
end

section
/-! SUPPORT. Operations of queue pairs that end, and the resets of dies, tiles and contexts (12 R323; 17 R453, R456 to R458; 16 R441). -/

open Sys2Proof Sys2Proof.Machine Sys2Proof.Claims

namespace Sys2Proof.Machine

/-! Operations in flight that end (R321, R323) -/

/-- The fields that the release of a request, or the end of its output, can change. -/
def ReleaseFrame (s u : State) : Prop :=
  u = { s with cnt := u.cnt, events := u.events, pages := u.pages, colls := u.colls, tables := u.tables, vocabs := u.vocabs,
               models := u.models, patches := u.patches, reqs := u.reqs }

theorem ReleaseFrame.trans {s u w : State} (hu : ReleaseFrame s u) (hw : ReleaseFrame u w) : ReleaseFrame s w := by
  unfold ReleaseFrame at hu
  exact Eq.trans hw (by rw [hu])

theorem releaseFrame_bump (s : State) (k n : Nat) : ReleaseFrame s (s.bump k n) := by
  obtain ⟨c, hc⟩ := s.bump_frame k n
  rw [hc]; rfl

theorem releaseFrame_modReq (s : State) (r : W32) (f : Request → Request) : ReleaseFrame s (s.modReq r f) := by
  unfold State.modReq
  split <;> rfl

theorem releaseFrame_ctxEvent (s : State) (c : Nat) (st : Status) (a b i v : Nat) : ReleaseFrame s (s.ctxEvent c st a b i v) := by
  unfold State.ctxEvent
  split <;> rfl

/-- The ends of a released request are counted. -/
def State.countEnd (s : State) (x : Request) : State :=
  if x.kind = 1 then
    ((s.bump (okey 0x2700 4) 1).bump (okey 0x2700 8) (if x.status = .hemDead then 1 else 0)).bump (okey 0x2700 9)
      (if x.status = .cancelled then 1 else 0)
  else s

theorem releaseFrame_countEnd (s : State) (x : Request) : ReleaseFrame s (s.countEnd x) := by
  unfold State.countEnd
  split
  · exact ((releaseFrame_bump s _ _).trans (releaseFrame_bump _ _ _)).trans (releaseFrame_bump _ _ _)
  · exact rfl

/-- A request out of every pin, queue and list it stands in, before its record goes. -/
def State.letGo (s : State) (r : W32) (x : Request) : State := ((s.unpinAll r).leaveQueues r).freeList r x

theorem letGo_effect (s : State) (r : W32) (x : Request) : ReleaseFrame s (s.letGo r x) ∧ (s.letGo r x).reqs = s.reqs ∧
    (s.letGo r x).cnt = s.cnt ∧ (s.letGo r x).vocabs = (s.unpinAll r).vocabs := by
  unfold State.letGo State.freeList
  split <;> exact ⟨rfl, rfl, rfl, rfl⟩

theorem release_eq (s : State) (r : W32) (x : Request) : s.release r x =
    { (s.countEnd x).letGo r x with reqs := ((s.countEnd x).letGo r x).reqs.del r.toNat } := rfl

theorem releaseFrame_release (s : State) (r : W32) (x : Request) : ReleaseFrame s (s.release r x) := by
  rw [release_eq]
  exact ((releaseFrame_countEnd s x).trans (letGo_effect _ r x).1).trans rfl

theorem releaseFrame_loseRequest (s : State) (r : W32) : ReleaseFrame s (s.loseRequest r) := by
  unfold State.loseRequest State.loseCompletion
  split
  · exact ((releaseFrame_bump s _ _).trans (releaseFrame_ctxEvent _ _ _ _ _ _ _)).trans (releaseFrame_release _ _ _)
  · exact rfl

theorem releaseFrame_completed (s : State) (r : W32) : ReleaseFrame s (s.completed r) := by
  unfold State.completed
  split
  · exact (releaseFrame_bump s _ _).trans (releaseFrame_release _ _ _)
  · exact rfl

/-- The fields that the end of an operation in flight can change. -/
def OpFrame (s u : State) : Prop := ReleaseFrame { s with jobs := u.jobs, dies := u.dies } u

theorem OpFrame.refl (s : State) : OpFrame s s := rfl

theorem OpFrame.trans {s u w : State} (hu : OpFrame s u) (hw : OpFrame u w) : OpFrame s w := by
  unfold OpFrame ReleaseFrame at hu
  exact Eq.trans hw (by rw [hu])

theorem OpFrame.foldl {α : Type} (f : State → α → State) (h : ∀ s x, OpFrame s (f s x)) (l : List α) (s : State) : OpFrame s (l.foldl f s) := by
  induction l generalizing s with
  | nil => exact .refl s
  | cons x l ih => exact (h s x).trans (ih _)

theorem ReleaseFrame.op {s u : State} (h : ReleaseFrame s u) : OpFrame s u := by
  unfold ReleaseFrame at h
  rw [h]; rfl

theorem opFrame_hostGather (s : State) (d id : Nat) (f : Gather → Gather) : OpFrame s (s.hostGather d id f) := rfl

theorem opFrame_failReq (s : State) (r : W32) (st : Status) : OpFrame s (s.failReq r st) := by
  obtain ⟨hframe, -⟩ := failReq_effect s r st
  unfold ReqsFrame at hframe
  rw [hframe]; rfl

theorem opFrame_failOp (st : Status) (s : State) (o : OutOp) : OpFrame s (State.failOp st s o) := by
  cases o with
  | output r => exact (releaseFrame_modReq s _ _).op
  | completion r => exact (releaseFrame_loseRequest s r).op
  | gather d id => exact opFrame_hostGather s d id _
  | event => exact .refl s
  | read r => exact opFrame_failReq s r st

theorem opFrame_ackOp (s : State) (o : OutOp) : OpFrame s (s.ackOp o) := by
  cases o with
  | output r => exact (releaseFrame_modReq s _ _).op
  | completion r => exact (releaseFrame_completed s r).op
  | gather d id => exact opFrame_hostGather s d id _
  | event => exact .refl s
  | read r => exact .refl s

theorem opFrame_failOps (st : Status) (l : List OutOp) (s : State) : OpFrame s (l.foldl (State.failOp st) s) :=
  .foldl _ (opFrame_failOp st) l s

theorem opFrame_ackOps (l : List OutOp) (s : State) : OpFrame s (l.foldl State.ackOp s) := .foldl _ opFrame_ackOp l s

/-! A queue pair back in RESET (R323, R338) -/

/-- The windows left when a queue pair goes, and the queue pairs. -/
def State.dropQp (s : State) (q : Nat) : State := { s with qps := s.qps.del q, windows := s.windows.filter (fun e => e.2.qp ≠ q) }

theorem qpToReset_effect {s : State} {q : Nat} {x : Qp} (h : s.qp? q = some x) : OpFrame (s.dropQp q) (s.qpToReset q) := by
  simp only [State.qpToReset, h]
  exact opFrame_failOps _ _ _

theorem qpToReset_of_none {s : State} {q : Nat} (h : s.qp? q = none) : s.qpToReset q = s := by simp only [State.qpToReset, h]

/-- The end of operations, and of queue pairs and windows with them. -/
def QpsFrame (s u : State) : Prop := OpFrame { s with qps := u.qps, windows := u.windows } u

theorem QpsFrame.trans {s u w : State} (hu : QpsFrame s u) (hw : QpsFrame u w) : QpsFrame s w := by
  unfold QpsFrame OpFrame ReleaseFrame at hu
  exact Eq.trans hw (by rw [hu])

theorem qpsFrame_qpToReset (s : State) (q : Nat) : QpsFrame s (s.qpToReset q) := by
  cases h : s.qp? q with
  | none => rw [qpToReset_of_none h]; exact .refl s
  | some x =>
    have hframe := qpToReset_effect h
    unfold QpsFrame
    unfold OpFrame ReleaseFrame at hframe ⊢
    rw [hframe]; rfl

theorem qp_qpToReset (s : State) (q i : Nat) : (s.qpToReset q).qp? i = if q = i then none else s.qp? i := by
  cases h : s.qp? q with
  | none =>
    rw [qpToReset_of_none h]
    split
    · next hi => rw [← hi, h]
    · rfl
  | some x =>
    have hframe := qpToReset_effect h
    unfold OpFrame ReleaseFrame at hframe
    rw [hframe]
    exact KMap.find_del _ _ _

theorem foldl_qpToReset (l : List Nat) (s : State) : QpsFrame s (l.foldl State.qpToReset s) ∧
    ∀ i, (l.foldl State.qpToReset s).qp? i = if i ∈ l then none else s.qp? i := by
  induction l generalizing s with
  | nil => exact ⟨.refl s, fun i => rfl⟩
  | cons q l ih =>
    obtain ⟨hframe, hqp⟩ := ih (s.qpToReset q)
    refine ⟨(qpsFrame_qpToReset s q).trans hframe, fun i => ?_⟩
    rw [List.foldl_cons, hqp, qp_qpToReset]
    by_cases hl : i ∈ l
    · rw [if_pos hl, if_pos (List.mem_cons_of_mem _ hl)]
    · simp only [hl, if_false, List.mem_cons, or_false, eq_comm]

/-! A context's reset (R457) -/

/-- Cancelling changes requests and counts alone. -/
def Cancels (s u : State) : Prop := u = { s with reqs := u.reqs, cnt := u.cnt }

theorem Cancels.trans {s u w : State} (hu : Cancels s u) (hw : Cancels u w) : Cancels s w := by
  unfold Cancels at hu
  exact Eq.trans hw (by rw [hu])

theorem cancels_bump (s : State) (k n : Nat) : Cancels s (s.bump k n) := by
  obtain ⟨c, hc⟩ := s.bump_frame k n
  rw [hc]; rfl

theorem cancels_cancelFetched (s : State) (ring : Nat) (index : W32) : Cancels s (s.cancelFetched ring index) := by
  unfold State.cancelFetched
  split
  · split
    · rfl
    · exact cancels_bump _ _ _
  · exact cancels_bump _ _ _

theorem cancels_foldl (l : KMap Request) (s : State) :
    Cancels s (l.foldl (fun s (e : Nat × Request) => s.cancelFetched e.2.ring e.2.index) s) := by
  induction l generalizing s with
  | nil => rfl
  | cons e l ih => exact (cancels_cancelFetched s _ _).trans (ih _)

/-- Every queue pair of the context is in RESET; the windows stay. -/
theorem resetContextQps_effect (s : State) (c : Nat) : OpFrame { s with qps := (s.resetContextQps c).qps } (s.resetContextQps c) ∧
    ∀ q x, (s.resetContextQps c).qp? q = some x → x.ctx ≠ c := by
  obtain ⟨hframe, hqp⟩ := foldl_qpToReset ((s.qps.filter (fun e => e.2.ctx == c)).map (·.1)) s
  refine ⟨?_, fun q x hx hctx => ?_⟩
  · unfold QpsFrame OpFrame ReleaseFrame at hframe
    unfold OpFrame ReleaseFrame State.resetContextQps
    simp only []
    rw [hframe]
  · have hx : (((s.qps.filter (fun e => e.2.ctx == c)).map (·.1)).foldl State.qpToReset s).qp? q = some x := hx
    rw [hqp] at hx
    split at hx
    · exact nomatch hx
    · next hnot => exact hnot (List.mem_map.2 ⟨(q, x), List.mem_filter.2 ⟨find_mem hx, beq_iff_eq.2 hctx⟩, rfl⟩)

/-- The context's event queue rinsed, its rings started again, and its resets answered for. -/
def State.contextUp (s : State) (c : Nat) : State :=
  { s with events := s.events.put c (s.ctxQueue c).rinse, rings := s.rings.map (fun e => (e.1, e.2.restart c)),
           boot := { s.boot with ctxResets := s.boot.ctxResets.filter (fun e => e.1 ≠ c) } }

theorem contextUp_effect (s : State) (c : Nat) : (∀ n x, s.ring? n = some x → (s.contextUp c).ring? n = some (x.restart c)) ∧
    (∃ q, KMap.find (s.contextUp c).events c = some q ∧ q.items = []) ∧ ∀ e ∈ (s.contextUp c).boot.ctxResets, e.1 ≠ c := by
  refine ⟨fun n x hx => ?_, ⟨_, KMap.find_put_self _ _ _, rfl⟩, fun e he => ?_⟩
  · rw [State.ring?] at hx
    exact (find_map_values s.rings (·.restart c) n).trans (by rw [hx]; rfl)
  · exact of_decide_eq_true (List.mem_filter.1 he).2

theorem contextResetDone_effect (c : W16) (s : State) (hasked : ∃ e ∈ s.boot.ctxResets, e.1 = c.toNat)
    (hnone : ∀ e ∈ s.reqs, e.2.ctx ≠ c.toNat) : ∃ u, exec (.contextResetDone c) s = .next u ∧
    (∀ q x, u.qp? q = some x → x.ctx ≠ c.toNat) ∧ (∀ n x, s.ring? n = some x → u.ring? n = some (x.restart c.toNat)) ∧
    (∃ q, KMap.find u.events c.toNat = some q ∧ q.items = []) ∧ (∀ e ∈ u.boot.ctxResets, e.1 ≠ c.toNat) ∧ u.windows = s.windows := by
  have hrun : exec (.contextResetDone c) s = .next ((s.boot.ctxResets.filter (fun e => e.1 == c.toNat)).foldl
      (fun s e => s.replyWrite e.2 (okey 0x1200 4) .ok) ((s.resetContextQps c.toNat).contextUp c.toNat)) := by
    show execContextResetDone c s = _
    obtain ⟨e, he, hec⟩ := hasked
    have hsome : s.boot.ctxResets.filter (fun e => e.1 == c.toNat) ≠ [] :=
      List.ne_nil_of_mem (List.mem_filter.2 ⟨he, beq_iff_eq.2 hec⟩)
    have hany : s.reqs.any (fun e => e.2.ctx == c.toNat) = false := by simpa using hnone
    simp only [execContextResetDone, hsome, hany, Bool.false_eq_true, or_self, if_false]
    rfl
  obtain ⟨hframe, hqps⟩ := resetContextQps_effect s c.toNat
  generalize s.resetContextQps c.toNat = v at hrun hframe hqps
  obtain ⟨hring, hevents, hresets⟩ := contextUp_effect v c.toNat
  have hreply : ReplyFrame (v.contextUp c.toNat) ((s.boot.ctxResets.filter (fun e => e.1 == c.toNat)).foldl
    (fun s e => s.replyWrite e.2 (okey 0x1200 4) .ok) (v.contextUp c.toNat)) := .foldl _ (fun s e => replyFrame_replyWrite s _ _ _) _ _
  refine ⟨_, hrun, ?_⟩
  unfold ReplyFrame at hreply
  unfold OpFrame ReleaseFrame at hframe
  rw [hreply]
  refine ⟨fun q x hx => hqps q x hx, fun n x hx => hring n x ?_, hevents, hresets, ?_⟩
  · rw [hframe]; exact hx
  · show v.windows = _
    rw [hframe]

theorem contextReset_effect (r : Requester) (v : Bytes) (s : State) (hmay : WriteMay s r 0x1200 4 v []) (hz : leNat v ≠ 0)
    (hlive : s.contextLive (leNat v) = true) (hnew : ∀ e ∈ s.boot.ctxResets, e.1 ≠ leNat v) : ∃ u, exec (.contextReset r v) s = .next u ∧
    (leNat v, r) ∈ u.boot.ctxResets ∧ (∀ n x, s.ring? n = some x → u.ring? n = some (x.stop (leNat v))) ∧ u.mem = s.mem ∧
    u.jobs = s.jobs := by
  have hrun := exec_write (i := .contextReset r v) (act := fun s => s.startCtxReset (leNat v) r) hmay rfl
    (cond_false_of (by rw [hlive, beq_zero_of_ne hz]; rfl) _)
  generalize leNat v = c at hrun hnew
  have hagain : s.boot.ctxResets.any (fun e => e.1 == c) = false := by simpa using hnew
  simp only [State.startCtxReset, hagain, Bool.false_eq_true, if_false] at hrun
  refine ⟨_, hrun, ?_⟩
  unfold State.cancelContext
  rw [show ∀ (l : KMap Request) (w : State), l.foldl (fun s e => s.cancelFetched e.2.ring e.2.index) w = _ from cancels_foldl]
  refine ⟨List.mem_append_right _ (List.mem_singleton.2 rfl), fun n x hx => ?_, rfl, rfl⟩
  rw [State.ring?] at hx
  exact (find_map_values s.rings (·.stop c) n).trans (by rw [hx]; rfl)

/-! A tile's reset (R453) -/

theorem tile_arrayEvent (s : State) (t i : Nat) : (s.arrayEvent t).tile i = s.tile i ∧ (s.arrayEvent t).mem = s.mem := by
  have heq : s.arrayEvent t = (s.modDie (dieOf t) (fun x => { x with
      events := x.events ++ [⟨.array ⟨tileOf t, Nat.mod_lt _ (by decide)⟩, s.now⟩] })).dbump (dieOf t) 4 5 1 := rfl
  obtain ⟨c, hc⟩ := State.dbump_frame (s.modDie (dieOf t) (fun x => { x with
    events := x.events ++ [⟨.array ⟨tileOf t, Nat.mod_lt _ (by decide)⟩, s.now⟩] })) (dieOf t) 4 5 1
  rw [heq, hc]
  exact ⟨rfl, rfl⟩

theorem tile_knownAnswer (s : State) (t i : Nat) : (s.knownAnswer t).tile i = s.tile i ∧ (s.knownAnswer t).mem = s.mem := by
  simp only [State.knownAnswer]
  obtain ⟨htile, hmem⟩ := tile_arrayEvent s.draw.2 t i
  obtain ⟨htile', hmem'⟩ := tile_arrayEvent (s.draw.2.arrayEvent t) t i
  split
  · exact ⟨rfl, rfl⟩
  · split
    · exact ⟨rfl, rfl⟩
    · split
      · exact ⟨htile, hmem⟩
      · exact ⟨htile'.trans htile, hmem'.trans hmem⟩

/-- What a blanked tile keeps. -/
def Tile.blank (x : Tile) : Tile := { power := x.power, job := x.job, hamper := x.hamper.rinse, lintRow := x.lintRow }

/-- A tile blanked, before its array is tested. -/
theorem blankTile_eq (s : State) (t : Nat) : ∃ f, s.blankTile t = ((((s.zeroRange (sramFa t 0) sramEnd).setTile t (s.tile t).blank).modDie
    (dieOf t) f).tbump t 7 6 1).knownAnswer t := ⟨_, rfl⟩

theorem blankTile_effect (s : State) (t : Nat) : (s.blankTile t).tile t = (s.tile t).blank ∧
    ∀ i < sramEnd, Memory.read (s.blankTile t).mem (sramFa t i) = 0 := by
  obtain ⟨f, hf⟩ := blankTile_eq s t
  generalize (s.tile t).blank = x at hf ⊢
  have hset := State.tile_setTile (s.zeroRange (sramFa t 0) sramEnd) t x
  have hzero : ((s.zeroRange (sramFa t 0) sramEnd).setTile t x).mem = Memory.zero s.mem (sramFa t 0) sramEnd := rfl
  rw [hf]
  generalize (s.zeroRange (sramFa t 0) sramEnd).setTile t x = v at hset hzero
  obtain ⟨c, hc⟩ := State.bump_frame (v.modDie (dieOf t) f) (dkey (dieOf t) 7 6) 1
  obtain ⟨htile, hmem⟩ := tile_knownAnswer ((v.modDie (dieOf t) f).tbump t 7 6 1) t t
  rw [State.tbump, hc] at htile hmem
  rw [State.tbump, hc]
  refine ⟨htile.trans hset, fun i hi => ?_⟩
  rw [hmem]
  show Memory.read v.mem _ = 0
  rw [hzero, Memory.read_zero, if_pos]
  unfold sramFa sramEnd at *
  omega

theorem tileReset_effect (t : TileNo) (r : Requester) (v : Bytes) (s : State) (hv : leNat v = t.val) (hmay : WriteMay s r 0x1200 3 v [])
    (htile : s.isRetired (.tile t) = false) (hdie : s.isRetired (.die (dieOf t)) = false) (hready : (s.die (dieOf t)).state = .ready)
    (hfree : ∀ e ∈ s.holders, (e.2.tileDecl t).isNone = true) : ∃ u, exec (.tileReset r v) s = .next u ∧
    u.tile t = { power := (s.tile t).power, job := (s.tile t).job, hamper := (s.tile t).hamper.rinse, lintRow := (s.tile t).lintRow } ∧
    (∀ i < sramEnd, Memory.read u.mem (sramFa t i) = 0) ∧ Replied u r .ok ∧ u.jobs = s.jobs := by
  have hbad : (decide (leNat v > 9215) || s.isRetired (.tile (leNat v)) || s.isRetired (.die (dieOf (leNat v)))) = false := by
    have hlt : ¬ t.val > 9215 := by omega
    rw [hv, htile, hdie, decide_eq_false hlt]; rfl
  have hstate : decide ((s.die (dieOf (leNat v))).state ≠ .ready) = false := by rw [hv, hready]; rfl
  have hheld : s.holders.any (fun e => (e.2.tileDecl (leNat v)).isSome) = false := by
    rw [hv]
    simpa [Option.isSome_iff_ne_none, Option.isNone_iff_eq_none] using hfree
  have hrun : exec (.tileReset r v) s = .next ((s.blankTile t).replyWrite r (okey 0x1200 3) .ok) := by
    show execTileReset r v s = _
    unfold execTileReset State.writeTileReset
    rw [objWriteNow_of_may hmay (by rw [hbad, hstate, hheld]; rfl), hv]
  have hsn := isSome_session_of_who (calm_blankTile s t).who (session_of_may hmay)
  have hans := answered_replyWrite hsn (okey 0x1200 3) .ok
  have hframe : ReplyFrame _ _ := hans.frame_kop
  obtain ⟨hx, hmem⟩ := blankTile_effect s t
  refine ⟨_, hrun, ?_, fun i hi => ?_, hans.replied, ?_⟩
  · rw [hframe.tile, hx]; rfl
  · rw [hframe.mem, hmem i hi]
  · rw [← (tears_blankTile s t).jobs, hans.frame]

/-! A die's reset (R453, R456) -/

/-- What the reset of a die leaves. -/
structure ResetTo (s u : State) (d : Nat) : Prop where
  state : (u.die d).state = .off
  pll : (u.die d).pll = false
  phy : (u.die d).phy = false
  tile : ∀ i < 144, u.tile (144 * d + i) = {}
  pages : ∀ p ∈ u.pages, faDie p.base ≠ d
  jobs : u.jobs = s.jobs
  resets : u.boot.dieResets = s.boot.dieResets

theorem Die.rise_down (x : Die) (up : Bool) (warn : Int) : (x.rise up warn).pll = x.pll ∧ (x.rise up warn).phy = x.phy := by
  unfold Die.rise
  split <;> exact ⟨rfl, rfl⟩

theorem clearDie_parts (s : State) (d : Nat) : (∀ p ∈ (s.clearDie d).pages, faDie p.base ≠ d) ∧ (s.clearDie d).jobs = s.jobs ∧
    (s.clearDie d).boot = s.boot := by
  unfold State.clearDie State.modDie State.setDie State.dropPages State.zeroRange
  exact ⟨fun _ hp => of_decide_eq_true (List.mem_filter.1 hp).2, rfl, rfl⟩

theorem resetTo_resetDie (s : State) (d : Nat) : ResetTo s (s.resetDie d) d := by
  rw [resetDie_eq]
  have hrisen : ((((s.risen d).unhold d).die d).pll = false ∧ (((s.risen d).unhold d).die d).phy = false) ∧
      (∀ i < 144, ((s.risen d).unhold d).tile (144 * d + i) = {}) ∧ (∀ p ∈ ((s.risen d).unhold d).pages, faDie p.base ≠ d) ∧
      ((s.risen d).unhold d).jobs = s.jobs ∧ ((s.risen d).unhold d).boot = s.boot := by
    unfold State.risen
    have hdie := die_clearDie s d
    have htile := fun i (hi : i < 144) => tile_clearDie s d hi
    obtain ⟨hpages, hjobs, hboot⟩ := clearDie_parts s d
    generalize s.clearDie d = w at hdie htile hpages hjobs hboot
    obtain ⟨hpll, hphy⟩ := Die.rise_down (s.die d).cleared (decide (d / 8 < s.power.groups)) (s.objInt 0x2081 1 9500)
    refine ⟨?_, htile, hpages, hjobs, hboot⟩
    rw [(unhold_keeps _ d).1, State.die_modDie, hdie]
    exact ⟨hpll, hphy⟩
  generalize (s.risen d).unhold d = v at hrisen
  obtain ⟨⟨hpll, hphy⟩, htile, hpages, hjobs, hboot⟩ := hrisen
  have hset := readied_setDieState v d .off
  obtain ⟨c, hc⟩ := State.bump_frame (v.setDieState d .off) (okey 0x1202 4) 1
  have hstate := State.die_setDieState v d .off
  rw [hc]
  refine ⟨?_, ?_, ?_, fun i hi => ?_, ?_, ?_, ?_⟩
  · show ((v.setDieState d .off).die d).state = _
    rw [hstate]
  · show ((v.setDieState d .off).die d).pll = _
    rw [hstate]; exact hpll
  · show ((v.setDieState d .off).die d).phy = _
    rw [hstate]; exact hphy
  · exact (hset.tile _).trans (htile i hi)
  · show ∀ p ∈ (v.setDieState d .off).pages, _
    rw [hset.map_pages.2]; exact hpages
  · exact hset.jobs.trans hjobs
  · show (v.setDieState d .off).boot.dieResets = _
    rw [hset.boot, ← hboot]; rfl

theorem dieReset_effect (d : DieNo) (r : Requester) (v : Bytes) (s : State) (hv : leNat v = d.val) (hmay : WriteMay s r 0x1200 2 v [])
    (hret : s.isRetired (.die d) = false) (hhot : s.dieTooHot d = false) (hfree : ∀ e ∈ s.holders, e.2.onDie d = false)
    (hrings : ∀ e ∈ s.rings, ringDie e.1 ≠ d) (hnew : ∀ e ∈ s.boot.dieResets, e.1 ≠ d) : ∃ u, exec (.dieReset r v) s = .next u ∧
    (d.val, r) ∈ u.boot.dieResets ∧ ∃ w, ResetTo w u d ∧ w.jobs = s.jobs := by
  have hagain : s.boot.dieResets.any (fun e => e.1 == d.val) = false := by simpa using hnew
  have hbad : (decide (leNat v > 63) || s.isRetired (.die (leNat v))) = false := by
    have hlt : ¬ d.val > 63 := by omega
    rw [hv, hret, decide_eq_false hlt]; rfl
  have hheld : (s.holders.any (fun e => e.2.onDie (leNat v)) || s.rings.any (fun e => ringDie e.1 == leNat v)) = false := by
    rw [hv, Bool.or_eq_false_iff]
    exact ⟨by simpa using hfree, by simpa using hrings⟩
  have hrun := exec_write (i := .dieReset r v) (act := fun s => s.startDieReset (leNat v) r) hmay rfl
    (by rw [hbad, hheld, hv, hhot]; rfl)
  rw [hv] at hrun
  simp only [State.startDieReset, hagain, Bool.false_eq_true, if_false] at hrun
  have hreset := resetTo_resetDie { s with boot := { s.boot with dieResets := s.boot.dieResets ++ [(d.val, r)] } } d
  refine ⟨_, hrun, ?_, _, hreset, rfl⟩
  rw [hreset.resets]
  exact List.mem_append_right _ (List.mem_singleton.2 rfl)

theorem escalate_effect (d : DieNo) (s : State) (hret : s.isRetired (.die d) = false)
    (hstate : (s.die d).state = .ready ∨ (s.die d).state = .soak) : ((s.escalateDie d).die d).state = .off ∧
    (∀ i < 144, (s.escalateDie d).tile (144 * d + i) = {}) ∧ ∀ j jb, s.job? j = some jb → jb.onDie d = true → jb.state ≠ .ended →
      ∀ jb', (s.escalateDie d).job? j = some jb' → jb'.state = .ended := by
  have hskip : ¬(s.isRetired (.die d) = true ∨ (s.die d).state ≠ .ready ∧ (s.die d).state ≠ .soak) := by
    rw [hret]
    rintro (h | ⟨h, h'⟩)
    · exact nomatch h
    · exact hstate.elim h h'
  have heq : s.escalateDie d = ((s.log { kind := 0x0B, resource := 0x0B, die := d }).abortDie d).resetDie d := by
    simp only [State.escalateDie, if_neg hskip]
  rw [heq]
  have hreset := resetTo_resetDie ((s.log { kind := 0x0B, resource := 0x0B, die := d }).abortDie d) d
  refine ⟨hreset.state, hreset.tile, fun j jb hj hon _ jb' hj' => ?_⟩
  rw [State.job?, hreset.jobs] at hj'
  refine job_abortDie (s := s.log { kind := 0x0B, resource := 0x0B, die := d }) (jb := jb) ?_ hon hj'
  rw [State.job?, (tears_log s _).jobs]
  exact hj

/-- Settles O49: a write of a reset object acts (`exec_write`); a die's reset is `resetTo_resetDie`, a tile's `blankTile_effect`, and a
context's ends with its queue pairs in RESET (`foldl_qpToReset`). -/
theorem partResets : Obligations.PartResets := by
  unfold Obligations.PartResets
  refine ⟨fun d r v s hv hmay hret hhot hfree hrings hnew => ?_, tileReset_effect, contextReset_effect, contextResetDone_effect,
    fun d s cmd hcmd hret hstate => ?_⟩
  · obtain ⟨u, hrun, hin, w, hreset, hjobs⟩ := dieReset_effect d r v s hv hmay hret hhot hfree hrings hnew
    exact ⟨u, hrun, hin, hreset.state, hreset.pll, hreset.phy, hreset.tile, hreset.pages, hreset.jobs.trans hjobs⟩
  · obtain ⟨hoff, htile, hjobs⟩ := escalate_effect d s hret hstate
    rcases hcmd with rfl | rfl
    · exact ⟨_, rfl, hoff, htile, hjobs⟩
    · exact ⟨_, rfl, hoff, htile, hjobs⟩

end Sys2Proof.Machine
end

section
/-! SUPPORT. Bring-up from the boot ROM to serving dies (14 R396; 17 R451, R459, R460, R464). -/

open Sys2Proof Sys2Proof.Machine Sys2Proof.Claims

namespace Sys2Proof.Machine

/-! The boot ROM alone (18 R482, R483) -/

/-- What the boot ROM leaves when it serves alone: LEDGER and KEYS are set, memory as it was. -/
structure RomServes (s u : State) (mode : BootMode) (waiting : Bool) : Prop where
  mode : u.boot.mode = mode
  waiting : u.boot.waiting = waiting
  ready : readyBit u 0 = true ∧ readyBit u 1 = true
  mem : u.mem = s.mem

theorem Noticed.recorded {s u : State} {r : LogRec} (h : Noticed (s.withRecord r) u) : u.boot = s.boot ∧ u.mem = s.mem :=
  ⟨h.boot, h.mem⟩

theorem loadObjects_keeps (s : State) : s.loadObjects.boot = s.boot ∧ s.loadObjects.mem = s.mem := by
  simp only [State.loadObjects]
  split
  · exact (noticed_log s _).recorded
  · exact ⟨rfl, rfl⟩

theorem romServes_serveRom (s : State) (mode : BootMode) (waiting : Bool) : RomServes s (s.serveRom mode waiting) mode waiting := by
  simp only [State.serveRom]
  obtain ⟨hboot, hmem⟩ := loadObjects_keeps { s with
    boot := { s.boot with mode := mode, waiting := waiting, slotB := false, manifest := [] }, portA := {}, portB := {} }
  generalize State.loadObjects _ = v at hboot hmem
  have hready := readied_withReady v 3 0x1FC
  refine ⟨?_, ?_, ⟨?_, ?_⟩, hready.mem.trans hmem⟩
  · rw [hready.boot, hboot]
  · rw [hready.boot, hboot]
  · rw [readyBit_withReady _ _ _ _ (by decide), show bit 3 0 = true from rfl, Bool.or_true]; rfl
  · rw [readyBit_withReady _ _ _ _ (by decide), show bit 3 1 = true from rfl, Bool.or_true]; rfl

theorem RomServes.log {s u : State} {mode : BootMode} {waiting : Bool} (h : RomServes s u mode waiting) (r : LogRec) :
    RomServes s (u.log r) mode waiting := by
  obtain ⟨hboot, hmem⟩ := (noticed_log u r).recorded
  obtain ⟨hmode, hwaiting, hready, hmem'⟩ := h
  refine ⟨by rw [hboot, hmode], by rw [hboot, hwaiting], ?_, hmem.trans hmem'⟩
  simp only [readyBit, hboot]
  exact hready

/-- Without a record in force the boot ROM enters recovery mode (R480). -/
theorem bootSlot_empty {s : State} (h0 : s.ledger.act.bank0 = none) (h1 : s.ledger.act.bank1 = none) (ok : Bool) :
    s.readLedger.bootSlot ok = s.readLedger.enterRecovery := by
  have hact : s.readLedger.act? = none := by
    have hpick : s.ledger.act.pick = none := by simp only [Banks.pick, h0, h1]
    simp only [State.act?, State.readLedger, Banks.read, hpick, Banks.current, Option.map_none]
  have hselect : s.readLedger.bootSelect ok = (s.readLedger, none) := by simp only [State.bootSelect, hact]
  simp only [State.bootSlot, hselect]

theorem bootRom_effect (ok : Bool) (s : State) (hgood : s.power.good = true) (hhold : s.power.hold = []) (hmode : s.boot.mode = .none_) :
    ∃ u, exec (.bootRom ok) s = .next u ∧ (s.power.bootSel = 1 → u.boot.mode = .network ∧ u.boot.waiting = true) ∧
    (s.power.bootSel = 2 ∨ s.power.bootSel = 3 → u.boot.mode = .recovery) ∧
    (s.ledger.act.bank0 = none → s.ledger.act.bank1 = none → s.power.bootSel = 0 → u.boot.mode = .recovery) ∧
    (s.power.bootSel ≠ 0 → readyBit u 0 = true ∧ readyBit u 1 = true ∧ u.mem = s.mem) := by
  generalize hv : ({ s with boot := s.boot.begun s.now } : State) = v
  have hmem : v.readLedger.mem = s.mem := by rw [← hv]; rfl
  have hledger : v.ledger = s.ledger := by rw [← hv]
  have hrun : exec (.bootRom ok) s = .next (v.readLedger.bootBy s.power.bootSel.toNat ok) := by
    show execBootRom ok s = _
    rw [← hv]
    simp only [execBootRom, hgood, hhold, hmode, Bool.not_true, Bool.false_eq_true, ne_eq, not_true_eq_false, or_self, if_false]
  have hrom := fun mode waiting => romServes_serveRom v.readLedger mode waiting
  refine ⟨_, hrun, fun h => ?_, fun h => ?_, fun h0 h1 h => ?_, fun h => ?_⟩
  · rw [h]
    exact ⟨(hrom .network true).mode, (hrom .network true).waiting⟩
  · rcases h with h | h
    · rw [h]; exact (hrom .recovery false).mode
    · rw [h]; exact ((hrom .recovery false).log _).mode
  · rw [h]
    show (v.readLedger.bootSlot ok).boot.mode = _
    rw [bootSlot_empty (by rw [hledger, h0]) (by rw [hledger, h1])]
    exact (hrom .recovery false).mode
  · have hserves : ∃ mode waiting, RomServes v.readLedger (v.readLedger.bootBy s.power.bootSel.toNat ok) mode waiting := by
      generalize s.power.bootSel = b at h
      match b, h with
      | 1, _ => exact ⟨_, _, hrom .network true⟩
      | 2, _ => exact ⟨_, _, hrom .recovery false⟩
      | 3, _ => exact ⟨_, _, (hrom .recovery false).log _⟩
    obtain ⟨mode, waiting, hserves⟩ := hserves
    exact ⟨hserves.ready.1, hserves.ready.2, hserves.mem.trans hmem⟩

/-! The attestation key (R460) -/

theorem Readied.replies {s u : State} (h : Readied s u) : u = { s with boot := u.boot, kop := u.kop, sent := u.sent, cnt := u.cnt } := by
  have hframe := h.noticed.frame
  exact hframe.trans (by rw [hframe])

theorem akDerived_effect (s : State) (hmode : s.boot.mode ≠ .none_) (hrec : s.recovery = false) (hkeys : readyBit s 1 = true)
    (hnew : readyBit s 2 = false) : ∃ u, exec .akDerived s = .next u ∧ readyBit u 2 = true ∧
    u = { s with boot := u.boot, kop := u.kop, sent := u.sent, cnt := u.cnt } := by
  refine ⟨s.withReady 4 0, ?_, ?_, (readied_withReady s 4 0).replies⟩
  · show execAkDerived s = _
    simp only [execAkDerived, hmode, hrec, hkeys, hnew, Bool.not_true, Bool.false_eq_true, or_self, if_false]
  · rw [readyBit_withReady _ _ _ _ (by decide), show bit 4 2 = true from rfl, Bool.or_true]; rfl

/-! Power by eights (R459) -/

/-- Dies got power: a die's other fields stay, and a die that had power keeps it. -/
structure Powers (s u : State) : Prop where
  frame : u = { s with dies := u.dies }
  keeps : ∀ d, (s.die d).powered = true → (u.die d).powered = true

theorem Powers.trans {s u w : State} (hu : Powers s u) (hw : Powers u w) : Powers s w := by
  obtain ⟨fu, ku⟩ := hu
  obtain ⟨fw, kw⟩ := hw
  exact ⟨fw.trans (by rw [fu]), fun d hd => kw d (ku d hd)⟩

theorem powers_powerDie (s : State) (d : Nat) : Powers s (s.powerDie d) ∧
    (s.isRetired (.die d) = false → ((s.powerDie d).die d).powered = true) := by
  unfold State.powerDie
  cases hret : s.isRetired (.die d) with
  | true => exact ⟨⟨rfl, fun _ h => h⟩, fun h => nomatch h⟩
  | false =>
    have hdie := State.die_modDie s d (fun x => { x with powered := true })
    refine ⟨⟨rfl, fun i hi => ?_⟩, fun _ => by rw [if_neg Bool.false_ne_true, hdie]⟩
    rw [if_neg Bool.false_ne_true]
    by_cases h : d = i
    · rw [← h, hdie]
    · rw [State.modDie, State.die_setDie_ne _ _ _ _ h]
      exact hi

theorem foldl_powerDie (l : List Nat) (f : Nat → Nat) (s : State) : Powers s (l.foldl (fun s i => s.powerDie (f i)) s) ∧
    ∀ i ∈ l, s.isRetired (.die (f i)) = false → ((l.foldl (fun s i => s.powerDie (f i)) s).die (f i)).powered = true := by
  induction l generalizing s with
  | nil => exact ⟨⟨rfl, fun _ h => h⟩, fun _ h => nomatch h⟩
  | cons i l ih =>
    obtain ⟨hpow, hone⟩ := powers_powerDie s (f i)
    obtain ⟨hpow', hrest⟩ := ih (s.powerDie (f i))
    refine ⟨hpow.trans hpow', fun j hj hret => ?_⟩
    rcases List.mem_cons.1 hj with rfl | hj
    · exact hpow'.keeps _ (hone hret)
    · exact hrest j hj (by rw [hpow.frame]; exact hret)

theorem diePowerGroup_effect (s : State) (hrunning : s.running = true) (hok : s.power.coolantOk = true) (hhold : s.power.coolantHold = false)
    (hlt : s.power.groups < 8) : ∃ u, exec .diePowerGroup s = .next u ∧ u.power = { s.power with groups := s.power.groups + 1 } ∧
    (∀ i < 8, s.isRetired (.die (8 * s.power.groups + i)) = false → (u.die (8 * s.power.groups + i)).powered = true) ∧
    u = { s with power := u.power, dies := u.dies } := by
  obtain ⟨⟨hframe, -⟩, hpowered⟩ := foldl_powerDie (List.range 8) (fun i => 8 * s.power.groups + i) s
  generalize hv : (List.range 8).foldl (fun s' i => s'.powerDie (8 * s.power.groups + i)) s = v at hframe hpowered
  have hrun : exec .diePowerGroup s = .next { v with power := { v.power with groups := s.power.groups + 1 } } := by
    show execDiePowerGroup s = _
    have hge : ¬ s.power.groups ≥ 8 := Nat.not_le.2 hlt
    simp only [execDiePowerGroup, hrunning, hok, hhold, hge, Bool.not_true, Bool.false_eq_true, or_self, if_false]
    rw [hv]
  refine ⟨_, hrun, ?_, fun i hi => hpowered i (List.mem_range.2 hi), ?_⟩
  · rw [hframe]
  · rw [hframe]

/-! A die's PLL and PHYs (R459; R396, R397) -/

/-- Parts were measured: the rest of the module stays, and what was measured. -/
structure Measures (s u : State) : Prop where
  frame : u = { s with boot := u.boot }
  keeps : ∀ i ∈ s.boot.measured, i ∈ u.boot.measured

theorem Measures.trans {s u w : State} (hu : Measures s u) (hw : Measures u w) : Measures s w := by
  obtain ⟨fu, ku⟩ := hu
  obtain ⟨fw, kw⟩ := hw
  exact ⟨fw.trans (by rw [fu]), fun i hi => kw i (ku i hi)⟩

theorem measures_measure (s : State) (i : Nat) (part : Bytes) : Measures s (s.measure i part) ∧ i ∈ (s.measure i part).boot.measured := by
  unfold State.measure
  split
  · next h => exact ⟨⟨rfl, fun _ h => h⟩, List.contains_iff_mem.1 h⟩
  · exact ⟨⟨rfl, fun j hj => (NSet.mem_add _ _ _).2 (.inr hj)⟩, (NSet.mem_add _ _ _).2 (.inl rfl)⟩

theorem foldl_measure (l : List Nat) (s : State) : Measures s (l.foldl (fun s i => s.measure i (s.imagePart i)) s) ∧
    ∀ i ∈ l, i ∈ (l.foldl (fun s i => s.measure i (s.imagePart i)) s).boot.measured := by
  induction l generalizing s with
  | nil => exact ⟨⟨rfl, fun _ h => h⟩, fun _ h => nomatch h⟩
  | cons i l ih =>
    obtain ⟨hmeas, hone⟩ := measures_measure s i (s.imagePart i)
    obtain ⟨hmeas', hrest⟩ := ih (s.measure i (s.imagePart i))
    refine ⟨hmeas.trans hmeas', fun j hj => ?_⟩
    rcases List.mem_cons.1 hj with rfl | hj
    · exact hmeas'.keeps _ hone
    · exact hrest j hj

theorem diePllLock_effect (d : DieNo) (ok : Bool) (s : State) (hrunning : s.running = true) (hpow : (s.die d).powered = true)
    (hpll : (s.die d).pll = false) (hoff : (s.die d).state = .off) (hret : s.isRetired (.die d) = false) (h2 : s.imagePartOk 2 = true)
    (h3 : s.imagePartOk 3 = true) (h4 : s.imagePartOk 4 = true) : ∃ u, exec (.diePllLock d ok) s = .next u ∧ (u.die d).pll = true ∧
    2 ∈ u.boot.measured ∧ 3 ∈ u.boot.measured ∧ 4 ∈ u.boot.measured ∧ u = { s with dies := u.dies, boot := u.boot, cnt := u.cnt } := by
  obtain ⟨⟨hframe, -⟩, hin⟩ := foldl_measure [2, 3, 4] (s.modDie d (fun x => { x with pll := true }))
  have hdie := State.die_modDie s d (fun x => { x with pll := true })
  have hmod : s.modDie d (fun x => { x with pll := true }) = { s with dies := (s.modDie d (fun x => { x with pll := true })).dies } := rfl
  have hrun : exec (.diePllLock d ok) s = .next (([2, 3, 4].foldl (fun s i => s.measure i (s.imagePart i))
      (s.modDie d (fun x => { x with pll := true }))).dbump d 2 5 1) := by
    show execDiePllLock d ok s = _
    have hall : [2, 3, 4].all s.imagePartOk = true := by rw [List.all_cons, List.all_cons, List.all_cons, h2, h3, h4]; rfl
    simp only [execDiePllLock, hrunning, hpow, hpll, hoff, hret, hall, Bool.not_true, Bool.false_eq_true, ne_eq, not_true_eq_false, or_self,
      if_false, if_true]
  generalize [2, 3, 4].foldl (fun s i => s.measure i (s.imagePart i)) (s.modDie d (fun x => { x with pll := true })) = v at hrun hframe hin
  generalize s.modDie d (fun x => { x with pll := true }) = w at hframe hdie hmod
  obtain ⟨c, hc⟩ := State.dbump_frame v d 2 5 1
  refine ⟨_, hrun, ?_, ?_, ?_, ?_, ?_⟩
  · rw [State.die_dbump, hframe]
    show (w.die d).pll = true
    rw [hdie]
  · rw [hc]; exact hin 2 (by decide)
  · rw [hc]; exact hin 3 (by decide)
  · rw [hc]; exact hin 4 (by decide)
  · rw [hc, hframe, hmod]

theorem replyFrame_answerDieResets (s : State) (d : Nat) :
    ReplyFrame { s with boot := { s.boot with dieResets := s.boot.dieResets.filter (fun e => e.1 ≠ d) } } (s.answerDieResets d) :=
  .foldl _ (fun _ _ => replyFrame_replyWrite _ _ _ _) _ _

/-- A die whose PHYs are trained, with its remaps. -/
def State.trained (s : State) (d : Nat) : State :=
  s.modDie d (fun x => { x with phy := true, skipFill := false, remaps := s.ledger.remaps.filter (fun e => e.die == d) })

theorem ready_after_training (s : State) (d : Nat) : ((s.setDieState d .ready).answerDieResets d).die d = { s.die d with state := .ready } ∧
    ((s.setDieState d .ready).answerDieResets d).mem = s.mem ∧ ((s.setDieState d .ready).answerDieResets d).jobs = s.jobs := by
  have hset := readied_setDieState s d .ready
  have hdie := State.die_setDieState s d .ready
  have hmem : (s.setDieState d .ready).mem = s.mem := hset.mem
  have hjobs : (s.setDieState d .ready).jobs = s.jobs := hset.jobs
  generalize s.setDieState d .ready = v at hdie hmem hjobs
  have hreply := replyFrame_answerDieResets v d
  refine ⟨(hreply.die d).trans hdie, hreply.mem.trans hmem, ?_⟩
  unfold ReplyFrame at hreply
  rw [hreply]
  exact hjobs

theorem phyTrained_effect (d : DieNo) (s : State) (hrunning : s.running = true) (hpll : (s.die d).pll = true) (hphy : (s.die d).phy = false)
    (hoff : (s.die d).state = .off) (hret : s.isRetired (.die d) = false) : ∃ u, exec (.phyTrained d true) s = .next u ∧
    (u.die d).phy = true ∧ (u.die d).remaps = s.ledger.remaps.filter (fun e => e.die == d.val) ∧
    ((s.die d).skipFill = true → (u.die d).state = .ready) ∧ u.mem = s.mem ∧ u.jobs = s.jobs := by
  have hrun : exec (.phyTrained d true) s = .next (if (s.die d).skipFill then ((s.trained d).setDieState d .ready).answerDieResets d
      else s.trained d) := by
    show execPhyTrained d true s = _
    simp only [execPhyTrained, hrunning, hpll, hphy, hoff, hret, Bool.not_true, Bool.false_eq_true, ne_eq, not_true_eq_false, or_self,
      if_false]
    rfl
  have hdie : (s.trained d).die d = _ := State.die_modDie s d _
  have hparts : (s.trained d).mem = s.mem ∧ (s.trained d).jobs = s.jobs := ⟨rfl, rfl⟩
  obtain ⟨hready, hmem, hjobs⟩ := ready_after_training (s.trained d) d
  generalize s.trained d = v at hrun hdie hparts hready hmem hjobs
  refine ⟨_, hrun, ?_⟩
  cases hskip : (s.die d).skipFill with
  | true =>
    rw [if_pos rfl, hready, hmem, hjobs, hdie]
    exact ⟨rfl, rfl, fun _ => rfl, hparts⟩
  | false =>
    rw [if_neg Bool.false_ne_true, hdie]
    exact ⟨rfl, rfl, fun h => absurd h Bool.false_ne_true, hparts⟩

/-- Settles O50: the boot ROM alone is `romServes_serveRom`; power, measurements and a die's readiness are the folds of their commands. -/
theorem bringUp : Obligations.BringUp := by
  unfold Obligations.BringUp
  exact ⟨bootRom_effect, akDerived_effect, diePowerGroup_effect, diePllLock_effect, phyTrained_effect⟩

end Sys2Proof.Machine
end

section
/-! SUPPORT. Rings, the selection of event queues, and doorbells (12 R327 to R333, R337, R341). -/

open Sys2Proof Sys2Proof.Machine Sys2Proof.Claims

namespace Sys2Proof.Machine

/-! Ring setup and teardown (R327, R328) -/

/-- A setup changes the rings of its kind alone. -/
theorem addRing_effect (s : State) (v : Bytes) :
    (rsComp v = false → (∃ x, (s.addRing v).ring? (rsRing v) = some x ∧ x.depthLog = rsDepth v ∧ x.ctx = rsContext v ∧ x.link = rsLink v ∧
      x.head = 0 ∧ x.tail = 0 ∧ x.slots = []) ∧ (s.addRing v).crings = s.crings) ∧
    (rsComp v = true → (∃ c, (s.addRing v).cring? (rsRing v) = some c ∧ c.depthLog = rsDepth v ∧ c.ctx = rsContext v ∧ c.qp = rsLink v ∧
      c.written = 0 ∧ c.reserved = 0) ∧ (s.addRing v).rings = s.rings) ∧
    s.addRing v = { s with rings := (s.addRing v).rings, crings := (s.addRing v).crings } := by
  simp only [State.addRing]
  cases hc : rsComp v with
  | false => exact ⟨fun _ => ⟨⟨_, KMap.find_put_self _ _ _, rfl, rfl, rfl, rfl, rfl, rfl⟩, rfl⟩, fun h => absurd h Bool.false_ne_true, rfl⟩
  | true => exact ⟨fun h => absurd h Bool.false_ne_true.symm, fun _ => ⟨⟨_, KMap.find_put_self _ _ _, rfl, rfl, rfl, rfl, rfl⟩, rfl⟩, rfl⟩

theorem ringSetup_effect (r : Requester) (v : Bytes) (s : State) (hmay : WriteMay s r 0x2300 3 v []) (hbad : s.ringSetupBad v = false)
    (hready : (s.die (ringDie (rsRing v))).state = .ready) (hfit : s.ringRefused v = false) : ∃ u, exec (.ringSetup r v) s = .next u ∧
    Replied u r .ok ∧
    (rsComp v = false → (∃ x, u.ring? (rsRing v) = some x ∧ x.depthLog = rsDepth v ∧ x.ctx = rsContext v ∧ x.link = rsLink v ∧ x.head = 0 ∧
      x.tail = 0 ∧ x.slots = []) ∧ u.crings = s.crings) ∧
    (rsComp v = true → (∃ c, u.cring? (rsRing v) = some c ∧ c.depthLog = rsDepth v ∧ c.ctx = rsContext v ∧ c.qp = rsLink v ∧ c.written = 0 ∧
      c.reserved = 0) ∧ u.rings = s.rings) ∧
    u = { s with rings := u.rings, crings := u.crings, cnt := u.cnt, sent := u.sent, kop := u.kop } := by
  obtain ⟨hreq, hcomp, hframe⟩ := addRing_effect s v
  generalize hw : s.addRing v = w at hreq hcomp hframe
  have hkop : w.kop = s.kop := by rw [hframe]
  have hx : cond (s.ringSetupBad v) .badDescriptor ++ cond ((s.die (ringDie (rsRing v))).state ≠ .ready) .notReady ++
      cond (s.ringRefused v) .refusedFit = [] := by rw [hbad, hready, hfit]; rfl
  obtain ⟨u, hu, hans⟩ := exec_writeNow (i := .ringSetup r v) hmay rfl hx hw hkop
  have hreply := hans.frame_kop
  have hrings : u.rings = w.rings := by rw [hreply]
  have hcrings : u.crings = w.crings := by rw [hreply]
  refine ⟨u, hu, hans.replied, ?_, ?_, ?_⟩
  · rw [State.ring?, hrings, hcrings]; exact hreq
  · rw [State.cring?, hrings, hcrings]; exact hcomp
  · rw [hrings, hcrings]
    exact hreply.trans (by rw [hframe])

theorem ringTeardown_request {r : Requester} {v : Bytes} {s : State} (hmay : WriteMay s r 0x2300 4 v []) (hsel : ringSelOk (leNat v) = true)
    (hkind : bit (leNat v) 24 = false) (hring : (s.ring? (leNat v % 2 ^ 18)).isSome = true) (hfree : s.boundJob (leNat v % 2 ^ 18) = none) :
    ∃ u, exec (.ringTeardown r v) s = .next u ∧ u.ring? (leNat v % 2 ^ 18) = none ∧ Replied u r .ok ∧
    u = { s with rings := u.rings, reqs := u.reqs, cnt := u.cnt, sent := u.sent, kop := u.kop } := by
  obtain ⟨u, hu, hans⟩ := exec_writeNow (i := .ringTeardown r v) (w := s.dropRing (leNat v % 2 ^ 18)) hmay rfl
    (by rw [hkind, hsel, if_neg Bool.false_ne_true, if_neg Bool.false_ne_true, hfree, ← Option.not_isSome, hring]; rfl) (by rw [hkind]; rfl) rfl
  have hreply := hans.frame_kop
  have hrings : u.rings = s.rings.del (leNat v % 2 ^ 18) := by rw [hreply]; rfl
  have hreqs : u.reqs = (s.dropRing (leNat v % 2 ^ 18)).reqs := by rw [hreply]
  refine ⟨u, hu, ?_, hans.replied, ?_⟩
  · rw [State.ring?, hrings, KMap.find_del, if_pos rfl]
  · rw [hrings, hreqs]
    exact hreply

theorem ringTeardown_completion {r : Requester} {v : Bytes} {s : State} (hmay : WriteMay s r 0x2300 4 v [])
    (hsel : ringSelOk (leNat v) = true) (hkind : bit (leNat v) 24 = true) (hring : (s.cring? (leNat v % 2 ^ 18)).isSome = true)
    (hfree : ∀ e ∈ s.rings, e.2.link ≠ leNat v % 2 ^ 18) : ∃ u, exec (.ringTeardown r v) s = .next u ∧
    u.cring? (leNat v % 2 ^ 18) = none ∧ Replied u r .ok ∧
    u = { s with crings := u.crings, cnt := u.cnt, sent := u.sent, kop := u.kop } := by
  have hheld : s.rings.any (fun e => e.2.link == leNat v % 2 ^ 18) = false := by simpa using hfree
  obtain ⟨u, hu, hans⟩ := exec_writeNow (i := .ringTeardown r v) (w := { s with crings := s.crings.del (leNat v % 2 ^ 18) }) hmay rfl
    (by rw [hkind, hsel, if_pos rfl, if_pos rfl, hheld, ← Option.not_isSome, hring]; rfl) (by rw [hkind]; rfl) rfl
  have hreply := hans.frame_kop
  have hcrings : u.crings = s.crings.del (leNat v % 2 ^ 18) := by rw [hreply]
  refine ⟨u, hu, ?_, hans.replied, ?_⟩
  · rw [State.cring?, hcrings, KMap.find_del, if_pos rfl]
  · rw [hcrings]
    exact hreply

/-! The selection of an event queue (R341) -/

theorem session?_modSession (s : State) (sid i : W32) (f : Session → Session) (h : ∀ x, (f x).sid = x.sid) :
    (s.modSession sid f).session? i = (s.session? i).map (fun x => if x.sid = sid then f x else x) := by
  have hsid : ∀ x, (if x.sid = sid then f x else x).sid = x.sid := fun x => by
    split
    · exact h x
    · rfl
  simp only [State.session?, State.modSession, List.find?_map]
  congr 2
  funext x
  simp only [Function.comp_apply, hsid]

/-- The selections of sessions, unless they are gone. -/
def KeepsSelection (s u : State) (r : Requester) : Prop :=
  ∀ sn, u.session? r.sid = some sn → ∃ sn', s.session? r.sid = some sn' ∧ sn.evSel = sn'.evSel

theorem keepsSelection_answer (s : State) (r : Requester) (type : Byte) (st : Status) (payload : Bytes) :
    KeepsSelection s (s.answer r type st payload) r := by
  intro sn hsn
  unfold State.answer at hsn
  split at hsn
  · exact ⟨sn, hsn, rfl⟩
  · dsimp only at hsn
    rw [send_frame_of_psns _ _ rfl] at hsn
    have hmod : (s.modSession r.sid _).session? r.sid = some sn := hsn
    obtain ⟨sn', hsn', rfl⟩ := Option.map_eq_some_iff.1 ((session?_modSession _ _ _ _ (by intro; rfl)).symm.trans hmod)
    refine ⟨sn', hsn', ?_⟩
    split <;> rfl

theorem keepsSelection_replyWrite (s : State) (r : Requester) (key : Nat) (st : Status) : KeepsSelection s (s.replyWrite r key st) r := by
  simp only [State.replyWrite]
  split
  · intro sn hsn
    obtain ⟨sn', hsn', hev⟩ := keepsSelection_answer _ r _ _ _ sn hsn
    exact ⟨sn', hsn', hev⟩
  · exact keepsSelection_answer s r _ _ _

theorem eventSelect_effect (r : Requester) (v : Bytes) (s : State) (hmay : WriteMay s r 0x2300 0x0C v [])
    (hsel : s.evSelBad (leNat v) = false) : ∃ u, exec (.eventSelect r v) s = .next u ∧ Replied u r .ok ∧
    (∀ sn, u.session? r.sid = some sn → sn.evSel = BitVec.ofNat 32 (leNat v)) ∧
    u = { s with cnt := u.cnt, sent := u.sent, kop := u.kop } := by
  generalize hw : s.modSession r.sid (fun x => { x with evSel := BitVec.ofNat 32 (leNat v) }) = w
  have hsession := session?_modSession s r.sid r.sid (fun x => { x with evSel := BitVec.ofNat 32 (leNat v) }) fun _ => rfl
  rw [hw] at hsession
  have hframe : w = { s with kop := w.kop } := by rw [← hw, State.modSession]
  have hrun : exec (.eventSelect r v) s = .next (w.replyWrite r (okey 0x2300 0x0C) .ok) := by
    show execEventSelect r v s = _
    unfold execEventSelect State.writeEventSelect
    rw [objWriteNow_of_may hmay (cond_of_eq_false hsel _), hw]
  have hans : Answered w (w.replyWrite r (okey 0x2300 0x0C) .ok) r .ok :=
    answered_replyWrite (by rw [hsession, Option.isSome_map]; exact session_of_may hmay) _ _
  refine ⟨_, hrun, hans.replied, fun sn hsn => ?_, ?_⟩
  · obtain ⟨sn', hsn', hev⟩ := keepsSelection_replyWrite w r _ _ sn hsn
    rw [hsession] at hsn'
    obtain ⟨x, hx, rfl⟩ := Option.map_eq_some_iff.1 hsn'
    have hsid : x.sid = r.sid := by
      simpa using List.find?_some hx
    rw [hev, if_pos hsid]
  · exact hans.frame_kop.trans (by rw [hframe])

theorem mem_jobs_setQueue (s : State) (q : QueueId) (x : Queue) : (s.setQueue q x).mem = s.mem ∧ (s.setQueue q x).jobs = s.jobs ∧
    (s.setQueue q x).kop = s.kop := by
  cases q <;> exact ⟨rfl, rfl, rfl⟩

theorem eventRinse_effect (r : Requester) (s : State) (q : QueueId) (x : Queue) (hmay : WriteMay s r 0x2300 0x0E [0x01] [])
    (hsel : s.selectedBy r = some (q, x)) : ∃ u y, exec (.eventRinse r [0x01]) s = .next u ∧ u.queue? q = some y ∧ y.items = [] ∧
    y.rinses = x.rinses + 1 ∧ Replied u r .ok ∧ u.mem = s.mem ∧ u.jobs = s.jobs := by
  have hqueue : s.queue? q = some x := by
    obtain ⟨q', -, hq'⟩ := Option.bind_eq_some_iff.1 hsel
    obtain ⟨x', hx', heq⟩ := Option.map_eq_some_iff.1 hq'
    obtain ⟨rfl, rfl⟩ := Prod.mk.inj heq
    exact hx'
  obtain ⟨hmem, hjobs, hkop⟩ := mem_jobs_setQueue s q x.rinse
  obtain ⟨u, hu, hans⟩ := exec_writeNow (i := .eventRinse r [0x01]) (w := s.setQueue q x.rinse) hmay rfl (by rw [hsel]; rfl)
    (by simp only [hsel]) hkop
  have hreply : ReplyFrame _ u := hans.frame_kop
  refine ⟨u, x.rinse, hu, ?_, rfl, rfl, hans.replied, hreply.mem.trans hmem, ?_⟩
  · rw [queue?_replyFrame hreply]
    exact queue?_setQueue hqueue _
  · rw [hans.frame]; exact hjobs

/-! Doorbells (R332, R333) -/

theorem exec_doorbellTail {n : Fin 262144} {d : Bytes} {s : State} (hlen : d.length = 16) (hkind : dbKind d ≠ 3) :
    exec (.doorbellTail n d) s = .next (s.requestBell 0xFF n d) := by
  show execDoorbellTail n d s = _
  simp only [execDoorbellTail, hlen, hkind, ne_eq, not_true_eq_false, or_self, if_false]

theorem exec_doorbellCancel {n : Fin 262144} {d : Bytes} {s : State} {x : ReqRing} (hx : s.ring? n = some x) (hlen : d.length = 16)
    (hkey : dbKey d = x.key) (hz : zeros d 13 3 = true) (hkind : dbKind d = 3) :
    exec (.doorbellCancel n d) s = .next (s.ringCancel 0xFF n x d) := by
  show execDoorbellCancel n d s = _
  simp only [execDoorbellCancel, State.requestBell, hx, hlen, hkey, hz, hkind, ne_eq, not_true_eq_false, Bool.not_true,
    Bool.false_eq_true, OfNat.ofNat_ne_one, or_self, if_false, if_true]

theorem mem_addIfNew {α : Type} [BEq α] [LawfulBEq α] (l : List α) (v : α) : v ∈ (if l.contains v then l else l ++ [v]) ∧
    ∀ i ∈ (if l.contains v then l else l ++ [v]), i ∈ l ∨ i = v := by
  split
  · next h => exact ⟨List.contains_iff_mem.1 h, fun i hi => .inl hi⟩
  · exact ⟨List.mem_append_right _ (List.mem_singleton.2 rfl), fun i hi => (List.mem_append.1 hi).imp id List.mem_singleton.1⟩

theorem keyMismatch_frame (s : State) (port ctx ring : Nat) (d : Bytes) : s.keyMismatch port ctx ring d =
      { s with events := (s.keyMismatch port ctx ring d).events, cnt := (s.keyMismatch port ctx ring d).cnt } ∧
    (s.keyMismatch port ctx ring d).count (okey 0x2300 0x11) = (s.count (okey 0x2300 0x11) + 1) % 2 ^ 64 := by
  have hbump := State.count_bump s (okey 0x2300 0x11) 1 (okey 0x2300 0x11)
  rw [if_pos ⟨Nat.one_ne_zero, rfl⟩] at hbump
  obtain ⟨c, hc⟩ := s.bump_frame (okey 0x2300 0x11) 1
  unfold State.keyMismatch State.ctxEvent
  rw [hc] at hbump ⊢
  split
  · exact ⟨rfl, hbump⟩
  · exact ⟨rfl, hbump⟩

/-- Settles O40: the writes act at once (`exec_writeNow`), and a doorbell is the one branch its key, format and kind leave. -/
theorem ringsAndDoorbells : Obligations.RingsAndDoorbells := by
  unfold Obligations.RingsAndDoorbells
  refine ⟨⟨ringSetup_effect, fun r v s hmay hsel => ⟨ringTeardown_request hmay hsel, ringTeardown_completion hmay hsel⟩,
    eventSelect_effect, eventRinse_effect⟩, fun n d s x hx hlen hkey hz => ⟨fun hkind htail hfit => ?_, fun hkind htail hhead => ?_,
      fun h q hkind htail hhead hfind hlive => ?_⟩, fun n d s c hc hlen hkey hz hkind hnew hold => ?_, fun n d s x hx hlen hkey hkind => ?_⟩
  · rw [exec_doorbellTail hlen (by rw [hkind]; decide)]
    simp only [State.requestBell, State.ringTail, hx, hkey, hz, hkind, ne_eq, not_true_eq_false, Bool.not_true, Bool.false_eq_true, if_false,
      if_true, if_neg (Int.not_le.2 htail), if_neg (Nat.not_lt.2 hfit)]
  · have hmem := mem_addIfNew x.cancelled (dbValue d)
    have hrun := exec_doorbellCancel hx hlen hkey hz hkind
    simp only [State.ringCancel, if_neg (Int.not_le.2 htail), if_pos hhead] at hrun
    exact ⟨_, _, hrun, KMap.find_put_self _ _ _, hmem.1, hmem.2, rfl, rfl, rfl⟩
  · rw [exec_doorbellCancel hx hlen hkey hz hkind]
    simp only [State.ringCancel, State.cancelFetched, hfind, hlive, if_neg (Int.not_le.2 htail), if_neg (Int.not_le.2 hhead), if_true]
  · show execDoorbellHead n d s = _
    simp only [execDoorbellHead, State.completionBell, hc, hlen, hkey, hz, hkind, ne_eq, not_true_eq_false, Bool.not_true,
      Bool.false_eq_true, or_self, if_false, if_neg (Int.not_le.2 hnew), if_neg (Int.not_lt.2 hold)]
  · have hrun := exec_doorbellTail (n := n) (s := s) hlen hkind
    simp only [State.requestBell, hx, ne_eq, hkey, not_false_eq_true, if_true] at hrun
    obtain ⟨hframe, hcount⟩ := keyMismatch_frame (s.setRing n { x with keyFaults := x.keyFaults + 1 }) 0xFF x.ctx n d
    refine ⟨_, hrun, ?_, hcount, ?_⟩
    · rw [hframe]; exact KMap.find_put_self _ _ _
    · rw [hframe]; rfl

end Sys2Proof.Machine
end

section
/-! SUPPORT. Events of the module, and the ports: training, pause and frames (12 R316 to R319, R339 to R341, R511). -/

open Sys2Proof Sys2Proof.Machine Sys2Proof.Claims

namespace Sys2Proof.Machine

/-! Events (R339 to R341) -/

/-- What an event of the module can change: its queue, the sessions it notifies, and the queue pairs in RTS it goes out on. -/
structure Evented (s u : State) : Prop where
  frame : u = { s with cnt := u.cnt, sent := u.sent, kop := { s.kop with sessions := u.kop.sessions }, qps := u.qps, modEvents := u.modEvents }
  count : ∀ k, Quiet k → u.count k = s.count k
  who : u.kop.sessions.map Session.who = s.kop.sessions.map Session.who
  qp : ∀ q x, s.qp? q = some x → x.state ≠ .rts → u.qp? q = some x

theorem Evented.refl (s : State) : Evented s s := ⟨rfl, fun _ _ => rfl, rfl, fun _ _ h _ => h⟩

theorem Evented.trans {s u w : State} (hu : Evented s u) (hw : Evented u w) : Evented s w := by
  obtain ⟨fu, cu, su, qu⟩ := hu
  obtain ⟨fw, cw, sw, qw⟩ := hw
  exact ⟨fw.trans (by rw [fu]), fun k hk => (cw k hk).trans (cu k hk), sw.trans su, fun q x hx hst => qw q x (qu q x hx hst) hst⟩

theorem Evented.foldl {α : Type} (f : State → α → State) (h : ∀ s x, Evented s (f s x)) (l : List α) (s : State) : Evented s (l.foldl f s) := by
  induction l generalizing s with
  | nil => exact .refl s
  | cons x l ih => exact (h s x).trans (ih _)

theorem Noticed.evented {s u : State} (h : Noticed s u) : Evented s u := by
  obtain ⟨hframe, hcount, hwho⟩ := h
  have hqps : u.qps = s.qps := by rw [hframe]
  have hevents : u.modEvents = s.modEvents := by rw [hframe]
  refine ⟨?_, hcount, hwho, fun q x hx _ => ?_⟩
  · rw [hqps, hevents]; exact hframe
  · rw [State.qp?, hqps]; exact hx

/-- A queue pair after an operation of another. -/
theorem qp_send_ne (s : State) (m : Sent) {i : Nat} (h : ∀ q n, m.psns = some (q, n) → q ≠ i) : (s.send m).qp? i = s.qp? i := by
  have hframe := sendFrame_send s m
  have hqps : ∀ t : State, KMap.find t.qps i = s.qp? i → (match s.framesOf m with
      | some (p, n) => t.bump (okey (portIndex p) 5) n | none => t).qp? i = s.qp? i := fun t ht => by
    cases s.framesOf m with
    | none => exact ht
    | some f =>
      obtain ⟨c, hc⟩ := State.bump_frame t (okey (portIndex f.1) 5) f.2
      simp only [hc, State.qp?]
      exact ht
  simp only [State.send]
  refine hqps _ ?_
  cases hp : m.psns with
  | none => rfl
  | some f =>
    obtain ⟨q, n⟩ := f
    dsimp only
    split
    · exact (KMap.find_put _ _ _ _).trans (if_neg (h q n hp))
    · rfl

/-- One event goes out on one queue pair in RTS. -/
theorem evented_sendTo (s : State) (q : Nat) (x : Qp) (bs : Bytes) (hx : s.qp? q = some x) (hst : x.state = .rts) :
    Evented s (({ s with qps := s.qps.put q { x with out := x.out ++ [.event] } } : State).send (.rdmaSend q bs)) := by
  have hsend := sendFrame_send { s with qps := s.qps.put q { x with out := x.out ++ [.event] } } (.rdmaSend q bs)
  have hqp := fun i => qp_send_ne { s with qps := s.qps.put q { x with out := x.out ++ [.event] } } (.rdmaSend q bs) (i := i)
  have hcount := fun k (hk : Quiet k) => count_send { s with qps := s.qps.put q { x with out := x.out ++ [.event] } } (.rdmaSend q bs) hk
  generalize State.send _ _ = u at hsend hqp hcount
  unfold SendFrame at hsend
  refine ⟨?_, hcount, by rw [hsend], fun i y hy hne => ?_⟩
  · rw [hsend]
  · have hqi : q ≠ i := by
      rintro rfl
      exact hne (Option.some.inj (hx.symm.trans hy) ▸ hst)
    rw [hqp i fun q' n hpsns => by obtain ⟨rfl, -⟩ := Prod.mk.inj (Option.some.inj hpsns); exact hqi]
    exact (KMap.find_put _ _ _ _).trans ((if_neg hqi).trans hy)

theorem evented_sendAdmin (s : State) (bs : Bytes) : Evented s (s.sendAdmin bs) := by
  unfold State.sendAdmin
  refine .foldl _ (fun s q => ?_) _ _
  split
  · next x hx =>
    split
    · next h => exact evented_sendTo s q x bs hx h.2
    · exact .refl s
  · exact .refl s

theorem evented_modEvent (s : State) (st : Status) (a b i v c : Nat) : Evented s (s.modEvent st a b i v c) := by
  unfold State.modEvent
  have hqueue : ∀ q, Evented s { s with modEvents := q } := fun q => ⟨rfl, fun _ _ => rfl, rfl, fun _ _ h _ => h⟩
  exact ((hqueue _).trans (noticed_notify _ _ _).evented).trans (evented_sendAdmin _ _)

theorem Evented.port {s u : State} (h : Evented s u) (p : Port) : u.port p = s.port p := by
  rw [h.frame]
  cases p <;> rfl

theorem Evented.bodies {s u : State} (h : Evented s u) : u.mem = s.mem ∧ u.jobs = s.jobs ∧ u.tiles = s.tiles ∧ u.boot = s.boot := by
  rw [h.frame]
  exact ⟨rfl, rfl, rfl, rfl⟩

theorem evented_portEvent (s : State) (p : Port) (st : Status) : Evented s (s.portEvent p st) := evented_modEvent s _ _ _ _ _ _

end Sys2Proof.Machine
end

section
/-! SUPPORT. Training, pause and received frames of the two host ports (12 R316 to R319, R511). -/

open Sys2Proof Sys2Proof.Machine Sys2Proof.Claims

namespace Sys2Proof.Machine

/-! Ports in the state -/

theorem okey_inj_sub {i a b : Nat} (h : a ≠ b) : okey i a ≠ okey i b := fun he => h (Nat.add_left_cancel he)

/-- A port's counters but that of frames sent are quiet. -/
theorem quiet_port (p : Port) {sub : Nat} (hlt : sub < 256) (hne : sub ≠ 5) : Quiet (okey (portIndex p) sub) := by
  unfold Quiet okey
  cases p <;> simp only [portIndex] <;> omega

theorem count_pbump (s : State) (p : Port) (sub : Nat) :
    (s.pbump p sub 1).count (okey (portIndex p) sub) = (s.count (okey (portIndex p) sub) + 1) % 2 ^ 64 := by
  rw [State.pbump, State.count_bump, if_pos ⟨Nat.one_ne_zero, rfl⟩]

/-- What a step of a frame's way through a port changes: ports, queue pairs, messages and events; a counter outside `moved` stays. -/
structure Framed (moved : Nat → Prop) (s u : State) : Prop where
  frame : u = { s with cnt := u.cnt, sent := u.sent, kop := { s.kop with sessions := u.kop.sessions }, qps := u.qps, modEvents := u.modEvents,
                       portA := u.portA, portB := u.portB }
  count : ∀ k, ¬ moved k → Quiet k → u.count k = s.count k

theorem Framed.refl (moved : Nat → Prop) (s : State) : Framed moved s s := ⟨rfl, fun _ _ _ => rfl⟩

theorem Framed.trans {moved : Nat → Prop} {s u w : State} (hu : Framed moved s u) (hw : Framed moved u w) : Framed moved s w := by
  obtain ⟨fu, cu⟩ := hu
  obtain ⟨fw, cw⟩ := hw
  exact ⟨fw.trans (by rw [fu]), fun k hk hq => (cw k hk hq).trans (cu k hk hq)⟩

theorem Evented.framed {moved : Nat → Prop} {s u : State} (h : Evented s u) : Framed moved s u := by
  obtain ⟨hframe, hcount, -, -⟩ := h
  have ha : u.portA = s.portA := by rw [hframe]
  have hb : u.portB = s.portB := by rw [hframe]
  refine ⟨?_, fun k _ hk => hcount k hk⟩
  rw [ha, hb]; exact hframe

theorem framed_bump {moved : Nat → Prop} (s : State) {k : Nat} (n : Nat) (h : moved k) : Framed moved s (s.bump k n) := by
  refine ⟨?_, fun i hi _ => State.count_bump_ne _ _ fun he => hi (he ▸ h)⟩
  obtain ⟨c, hc⟩ := s.bump_frame k n
  rw [hc]

theorem framed_setPort {moved : Nat → Prop} (s : State) (p : Port) (x : PortState) : Framed moved s (s.setPort p x) := by
  cases p <;> exact ⟨rfl, fun _ _ _ => rfl⟩

theorem framed_setQp {moved : Nat → Prop} (s : State) (q : Nat) (x : Qp) : Framed moved s (s.setQp q x) := ⟨rfl, fun _ _ _ => rfl⟩

theorem framed_send {moved : Nat → Prop} (s : State) (m : Sent) : Framed moved s (s.send m) := by
  have hsend := sendFrame_send s m
  have hcount := fun k (hk : Quiet k) => count_send s m hk
  unfold SendFrame at hsend
  generalize s.send m = u at hsend hcount
  refine ⟨?_, fun k _ hk => hcount k hk⟩
  rw [hsend]

theorem Framed.bodies {moved : Nat → Prop} {s u : State} (h : Framed moved s u) : u.mem = s.mem ∧ u.jobs = s.jobs ∧ u.tiles = s.tiles := by
  rw [h.frame]
  exact ⟨rfl, rfl, rfl⟩

/-! Training (R317) -/

theorem bit_linkBit (p : Port) : bit (linkBit p) (5 + p.code) = true := by cases p <;> rfl
theorem bit_linkBit_off (p : Port) : bit (0x1FF ^^^ linkBit p) (5 + p.code) = false := by cases p <;> rfl
theorem bit_all (p : Port) : bit (0x1FF ^^^ 0) (5 + p.code) = true := by cases p <;> rfl
theorem code_lt (p : Port) : 5 + p.code < 7 := by cases p <;> decide

/-- A port set, the readiness word moved, and the event raised. -/
structure Trained (s u : State) (p : Port) (x : PortState) (on off : Nat) : Prop where
  port : u.port p = x
  ready : readyBit u (5 + p.code) = ((readyBit s (5 + p.code) || bit on (5 + p.code)) && bit (0x1FF ^^^ off) (5 + p.code))
  mem : u.mem = s.mem
  jobs : u.jobs = s.jobs
  tiles : u.tiles = s.tiles
  count : ∀ k, Quiet k → u.count k = s.count k

theorem setPort_keeps (s : State) (p : Port) (x : PortState) : (s.setPort p x).tiles = s.tiles ∧ (s.setPort p x).boot = s.boot := by
  cases p <;> exact ⟨rfl, rfl⟩

theorem trained_withReady (s : State) (p : Port) (on off : Nat) (st : Status) :
    Trained s ((s.withReady on off).portEvent p st) p (s.port p) on off := by
  have hready := readied_withReady s on off
  have hbit := readyBit_withReady s on off (5 + p.code) (code_lt p)
  generalize s.withReady on off = v at hready hbit
  have hevent := evented_portEvent v p st
  obtain ⟨hmem, hjobs, htiles, hboot⟩ := hevent.bodies
  refine ⟨(hevent.port p).trans (hready.port p), ?_, hmem.trans hready.mem, hjobs.trans hready.jobs, htiles.trans hready.tiles,
    fun k hk => (hevent.count k hk).trans (hready.count hk)⟩
  rw [← hbit, readyBit, hboot]; rfl

theorem train_effect {s : State} {p : Port} {lanes l : Byte} {rate : Nat} (h : trainRate (s.portMode p) lanes = some (rate, l)) :
    (s.train p lanes).port p = { s.port p with rate := rate, lanes := l, downRaised := false } ∧
    (s.recovery = false → readyBit (s.train p lanes) (5 + p.code) = true) ∧ (s.train p lanes).mem = s.mem ∧
    (s.train p lanes).jobs = s.jobs ∧ (s.train p lanes).tiles = s.tiles := by
  have htr := trained_withReady (s.setPort p { s.port p with rate := rate, lanes := l, downRaised := false }) p (s.linkMask p) 0 .ok
  have heq : s.train p lanes = ((s.setPort p { s.port p with rate := rate, lanes := l, downRaised := false }).withReady
    (s.linkMask p) 0).portEvent p .ok := by simp only [State.train, h]
  rw [← heq] at htr
  obtain ⟨hport, hready, hmem, hjobs, htiles, -⟩ := htr
  refine ⟨by rw [hport, State.port_setPort], fun hrec => ?_, by rw [hmem, State.mem_setPort], by rw [hjobs, State.jobs_setPort],
    by rw [htiles, (setPort_keeps s p _).1]⟩
  rw [hready, bit_all, State.linkMask, hrec, if_neg Bool.false_ne_true, bit_linkBit, Bool.or_true]; rfl

theorem linkUp_effect (p : Port) (lanes l : Byte) (rate : Nat) (s : State) (cmd : Instr) (hdown : (s.port p).rate = 0)
    (hmay : s.mayTrain p = true) (hcmd : cmd = .portLinkUp p lanes ∨ (cmd = .portRetry p lanes ∧ (s.port p).downRaised = true))
    (hrate : trainRate (s.portMode p) lanes = some (rate, l)) : ∃ u, exec cmd s = .next u ∧
    u.port p = { s.port p with rate := rate, lanes := l, downRaised := false } ∧
    (s.recovery = false → readyBit u (5 + p.code) = true) ∧ u.mem = s.mem ∧ u.jobs = s.jobs ∧ u.tiles = s.tiles := by
  refine ⟨s.train p lanes, ?_, train_effect hrate⟩
  rcases hcmd with rfl | ⟨rfl, hraised⟩
  · show execPortLinkUp p lanes s = _
    simp only [execPortLinkUp, hdown, hmay, and_self, if_true]
  · show execPortRetry p lanes s = _
    simp only [execPortRetry, hdown, hmay, hraised, and_self, if_true]

theorem pbump_keeps (s : State) (p : Port) (sub n : Nat) : (∀ q, (s.pbump p sub n).port q = s.port q) ∧ (s.pbump p sub n).mem = s.mem ∧
    (s.pbump p sub n).jobs = s.jobs ∧ (s.pbump p sub n).tiles = s.tiles := by
  obtain ⟨c, hc⟩ := s.bump_frame (okey (portIndex p) sub) n
  rw [State.pbump, hc]
  exact ⟨fun q => by cases q <;> rfl, rfl, rfl, rfl⟩

theorem laneFail_effect (p : Port) (lanes : Byte) (s : State) (hup : (s.port p).rate ≠ 0) (hlanes : lanesTrain (s.port p).lanes lanes = false) :
    ∃ u, exec (.laneFailFallback p lanes) s = .next u ∧
    (∀ half, fallbackTo (s.portMode p) (s.port p).rate (s.port p).lanes lanes = some half →
      u.port p = { s.port p with rate := 400, lanes := half }) ∧
    (fallbackTo (s.portMode p) (s.port p).rate (s.port p).lanes lanes = none →
      u.port p = { s.port p with rate := 0, lanes := 0, downRaised := true } ∧ readyBit u (5 + p.code) = false) ∧
    u.count (okey (portIndex p) 0x10) = (s.count (okey (portIndex p) 0x10) + 1) % 2 ^ 64 ∧ u.mem = s.mem ∧ u.jobs = s.jobs ∧
    u.tiles = s.tiles := by
  have hquiet : Quiet (okey (portIndex p) 0x10) := quiet_port p (by decide) (by decide)
  have hcounted : ∀ x : PortState, ((s.setPort p x).pbump p 0x10 1).count (okey (portIndex p) 0x10) =
      (s.count (okey (portIndex p) 0x10) + 1) % 2 ^ 64 := fun x => by
    rw [count_pbump, State.count, State.cnt_setPort]; rfl
  have hkeeps : ∀ x : PortState, ((s.setPort p x).pbump p 0x10 1).port p = x ∧ ((s.setPort p x).pbump p 0x10 1).mem = s.mem ∧
      ((s.setPort p x).pbump p 0x10 1).jobs = s.jobs ∧ ((s.setPort p x).pbump p 0x10 1).tiles = s.tiles := fun x => by
    obtain ⟨hport, hmem, hjobs, htiles⟩ := pbump_keeps (s.setPort p x) p 0x10 1
    exact ⟨by rw [hport, State.port_setPort], by rw [hmem, State.mem_setPort], by rw [hjobs, State.jobs_setPort],
      by rw [htiles, (setPort_keeps s p x).1]⟩
  cases hfall : fallbackTo (s.portMode p) (s.port p).rate (s.port p).lanes lanes with
  | some half =>
    have hrun : exec (.laneFailFallback p lanes) s = .next
        (((s.setPort p { s.port p with rate := 400, lanes := half }).pbump p 0x10 1).portEvent p .degraded) := by
      show execLaneFailFallback p lanes s = _
      simp only [execLaneFailFallback, hup, hlanes, hfall, Bool.false_eq_true, or_self, if_false]
    have hcount := hcounted { s.port p with rate := 400, lanes := half }
    obtain ⟨hport, hmem, hjobs, htiles⟩ := hkeeps { s.port p with rate := 400, lanes := half }
    generalize (s.setPort p { s.port p with rate := 400, lanes := half }).pbump p 0x10 1 = v at *
    have hevent := evented_portEvent v p .degraded
    obtain ⟨hmem', hjobs', htiles', -⟩ := hevent.bodies
    refine ⟨_, hrun, fun h hh => ?_, nofun, (hevent.count _ hquiet).trans hcount, hmem'.trans hmem, hjobs'.trans hjobs, htiles'.trans htiles⟩
    obtain rfl := Option.some.inj hh
    exact (hevent.port p).trans hport
  | none =>
    have hrun : exec (.laneFailFallback p lanes) s = .next
        ((((s.setPort p { s.port p with rate := 0, lanes := 0, downRaised := true }).pbump p 0x10 1).withReady 0 (linkBit p)).portEvent p
          .notReady) := by
      show execLaneFailFallback p lanes s = _
      simp only [execLaneFailFallback, hup, hlanes, hfall, Bool.false_eq_true, or_self, if_false]
    have hcount := hcounted { s.port p with rate := 0, lanes := 0, downRaised := true }
    obtain ⟨hport, hmem, hjobs, htiles⟩ := hkeeps { s.port p with rate := 0, lanes := 0, downRaised := true }
    generalize (s.setPort p { s.port p with rate := 0, lanes := 0, downRaised := true }).pbump p 0x10 1 = v at *
    obtain ⟨hport', hready, hmem', hjobs', htiles', hcount'⟩ := trained_withReady v p 0 (linkBit p) .notReady
    refine ⟨_, hrun, nofun, fun _ => ⟨hport'.trans hport, ?_⟩, (hcount' _ hquiet).trans hcount, hmem'.trans hmem, hjobs'.trans hjobs,
      htiles'.trans htiles⟩
    rw [hready, bit_linkBit_off, Bool.and_false]

theorem objType_portMode (p : Port) : objType (portIndex p) 1 = 1 := by cases p <;> rfl

/-! Pause (R318) -/

theorem PortState.pfc_setPfc (x : PortState) (second : Bool) (f : PfcState) : (x.setPfc second f).pfc second = f ∧
    (x.setPfc second f).pfc (!second) = x.pfc (!second) := by
  cases second <;> exact ⟨rfl, rfl⟩

theorem pfc_setPfc (s : State) (p : Port) (second : Bool) (f : PfcState) : ((s.setPfc p second f).port p).pfc second = f ∧
    ((s.setPfc p second f).port p).pfc (!second) = (s.port p).pfc (!second) := by
  rw [State.setPfc, State.port_setPort]
  exact PortState.pfc_setPfc _ _ _

theorem setPfc_frame (s : State) (p : Port) (second : Bool) (f : PfcState) :
    s.setPfc p second f = { s with portA := (s.setPfc p second f).portA, portB := (s.setPfc p second f).portB } := by
  unfold State.setPfc
  cases p <;> rfl

/-- A pause message sent and counted. -/
theorem sendPfc_effect (s : State) (p : Port) (prio : Nat) (off : Bool) : ∃ c, (s.send (.pfc p prio off)).pbump p 0x0A 1 =
    { s with sent := .pfc p prio off :: s.sent, cnt := c } := by
  obtain ⟨c, hc⟩ := State.bump_frame (s.send (.pfc p prio off)) (okey (portIndex p) 0x0A) 1
  refine ⟨c, ?_⟩
  rw [State.pbump, hc, send_frame_of_psns s (.pfc p prio off) rfl]

theorem port_with (s : State) (m : List Sent) (c : KMap Nat) (p : Port) : ({ s with sent := m, cnt := c } : State).port p = s.port p := by
  cases p <;> rfl

theorem pfcXon_effect (p : Port) (second : Bool) (held : Nat) (s : State) (hheld : held ≤ 393216) (hoff : ((s.port p).pfc second).xoff = true) :
    ∃ u, exec (.pfcXon p second held) s = .next u ∧ (u.port p).pfc second = { (s.port p).pfc second with xoff := false } ∧
    (u.port p).pfc (!second) = (s.port p).pfc (!second) ∧ u.sent = .pfc p (s.losslessPrio second) false :: s.sent ∧
    u = { s with portA := u.portA, portB := u.portB, sent := u.sent, cnt := u.cnt } := by
  have hrun : exec (.pfcXon p second held) s = .next (((s.setPfc p second { (s.port p).pfc second with xoff := false }).send
      (.pfc p (s.losslessPrio second) false)).pbump p 0x0A 1) := by
    show execPfcXon p second held s = _
    simp only [execPfcXon, if_neg (Nat.not_lt.2 hheld), hoff, Bool.not_true, Bool.false_eq_true, or_false]
  obtain ⟨hself, hother⟩ := pfc_setPfc s p second { (s.port p).pfc second with xoff := false }
  have hframe := setPfc_frame s p second { (s.port p).pfc second with xoff := false }
  generalize s.setPfc p second { (s.port p).pfc second with xoff := false } = v at hrun hself hother hframe
  obtain ⟨c, hc⟩ := sendPfc_effect v p (s.losslessPrio second) false
  rw [hc] at hrun
  have hsent : v.sent = s.sent := by rw [hframe]
  refine ⟨_, hrun, ?_, ?_, by rw [← hsent], by rw [hframe]⟩
  · rw [port_with]; exact hself
  · rw [port_with]; exact hother

theorem port_pbump (s : State) (p q : Port) (sub n : Nat) : (s.pbump p sub n).port q = s.port q := (pbump_keeps s p sub n).1 q

theorem pfcReceive_effect (p : Port) (prio : Fin 8) (pause second : Bool) (s : State) (hup : (s.port p).rate ≠ 0)
    (hprio : s.lossless prio = some second) (hign : ((s.port p).pfc second).ignoring = false) : ∃ u,
    exec (.pfcReceive p prio pause) s = .next u ∧ (u.port p).pfc second = { (s.port p).pfc second with paused := pause } ∧
    u.count (okey (portIndex p) 9) = (s.count (okey (portIndex p) 9) + 1) % 2 ^ 64 ∧
    u = { s with portA := u.portA, portB := u.portB, cnt := u.cnt } := by
  obtain ⟨c, hc⟩ := s.bump_frame (okey (portIndex p) 9) 1
  have hcount := count_pbump s p 9
  have hport := port_pbump s p p 9 1
  have hlossless : (s.pbump p 9 1).lossless prio = some second := by rw [State.pbump, hc]; exact hprio
  have hrun : exec (.pfcReceive p prio pause) s = .next
      ((s.pbump p 9 1).setPfc p second { ((s.pbump p 9 1).port p).pfc second with paused := pause }) := by
    show execPfcReceive p prio pause s = _
    simp only [execPfcReceive, hup, hlossless, hport, hign, Bool.false_eq_true, if_false]
  rw [hport] at hrun
  have hv : s.pbump p 9 1 = { s with cnt := c } := hc
  generalize s.pbump p 9 1 = v at hrun hcount hport hv
  have hframe := setPfc_frame v p second { (s.port p).pfc second with paused := pause }
  have hself := (pfc_setPfc v p second { (s.port p).pfc second with paused := pause }).1
  generalize v.setPfc p second { (s.port p).pfc second with paused := pause } = u at hrun hframe hself
  refine ⟨u, hrun, hself, ?_, ?_⟩
  · rw [← hcount, hframe]; rfl
  · rw [hframe, hv]

theorem pauseStorm_effect (p : Port) (second : Bool) (s : State) (hpaused : ((s.port p).pfc second).paused = true)
    (hign : ((s.port p).pfc second).ignoring = false) : ∃ u, exec (.pauseStorm p second) s = .next u ∧
    (u.port p).pfc second = { (s.port p).pfc second with paused := false, ignoring := true } ∧
    u.count (okey (portIndex p) 0x0B) = (s.count (okey (portIndex p) 0x0B) + 1) % 2 ^ 64 ∧ u.mem = s.mem ∧ u.jobs = s.jobs := by
  have hrun : exec (.pauseStorm p second) s = .next
      (((s.setPfc p second { (s.port p).pfc second with paused := false, ignoring := true }).pbump p 0x0B 1).portEvent p .degraded) := by
    show execPauseStorm p second s = _
    simp only [execPauseStorm, hpaused, hign, Bool.not_true, Bool.false_eq_true, or_self, if_false]
  have hself := (pfc_setPfc s p second { (s.port p).pfc second with paused := false, ignoring := true }).1
  have hframe := setPfc_frame s p second { (s.port p).pfc second with paused := false, ignoring := true }
  generalize s.setPfc p second { (s.port p).pfc second with paused := false, ignoring := true } = v at hrun hself hframe
  have hcount := count_pbump v p 0x0B
  obtain ⟨hport, hmem, hjobs, -⟩ := pbump_keeps v p 0x0B 1
  generalize v.pbump p 0x0B 1 = w at hrun hcount hport hmem hjobs
  have hevent := evented_portEvent w p .degraded
  obtain ⟨hmem', hjobs', -, -⟩ := hevent.bodies
  refine ⟨_, hrun, ?_, ?_, hmem'.trans (hmem.trans (by rw [hframe])), hjobs'.trans (hjobs.trans (by rw [hframe]))⟩
  · rw [hevent.port, hport]; exact hself
  · rw [hevent.count _ (quiet_port p (by decide) (by decide)), hcount, hframe]; rfl

/-! Frames (R316, R511) -/

/-- The counters that the way of an uncut frame moves once it is counted in. -/
def onWay (k : Nat) : Prop := ∃ p, k = okey (portIndex p) 8 ∨ k = okey (portIndex p) 0x0A ∨ k = okey (portIndex p) 0x0E

theorem framed_xoff (s : State) (p : Port) (prio held : Nat) :
    Framed (fun k => k = okey (portIndex p) 0x0A) s (s.xoff p prio held) ∧ (s.xoff p prio held).qps = s.qps ∧
    ∀ second, s.lossless prio = some second → 655360 ≤ held → (((s.xoff p prio held).port p).pfc second).xoff = true := by
  unfold State.xoff
  split
  · next h => exact ⟨.refl _ s, rfl, fun second hs => by rw [h] at hs; exact nomatch hs⟩
  · next second h =>
    dsimp only
    split
    · next hskip =>
      refine ⟨.refl _ s, rfl, fun second' hs hheld => ?_⟩
      obtain rfl := Option.some.inj (h.symm.trans hs)
      exact hskip.resolve_left (Nat.not_lt.2 hheld)
    · obtain ⟨hself, -⟩ := pfc_setPfc s p second { (s.port p).pfc second with xoff := true }
      have hset : Framed (fun k => k = okey (portIndex p) 0x0A) s (s.setPfc p second { (s.port p).pfc second with xoff := true }) :=
        framed_setPort s p _
      have hframe := setPfc_frame s p second { (s.port p).pfc second with xoff := true }
      generalize s.setPfc p second { (s.port p).pfc second with xoff := true } = v at hself hset hframe
      have hway := (hset.trans (framed_send v (.pfc p prio true))).trans (framed_bump _ 1 rfl)
      obtain ⟨c, hc⟩ := sendPfc_effect v p prio true
      refine ⟨hway, ?_, fun second' hs _ => ?_⟩
      · rw [hc, hframe]
      · obtain rfl := Option.some.inj (h.symm.trans hs)
        rw [hc, port_with, hself]

theorem framed_returnCnp (s : State) (q : Nat) (x : Qp) : Framed (fun k => ∃ p, k = okey (portIndex p) 0x0E) s (s.returnCnp q x) ∧
    ∀ p, (s.returnCnp q x).port p = s.port p := by
  have hport : ∀ p, (((s.setQp q { x with lastCnp := some s.now }).send (.cnp q)).pbump x.port 0x0E 1).port p = s.port p := fun p => by
    rw [port_pbump, send_frame_of_psns (s.setQp q { x with lastCnp := some s.now }) (.cnp q) rfl, port_with]
    cases p <;> rfl
  have hway : Framed (fun k => ∃ p, k = okey (portIndex p) 0x0E) s
      (((s.setQp q { x with lastCnp := some s.now }).send (.cnp q)).pbump x.port 0x0E 1) :=
    ((framed_setQp s q _).trans (framed_send _ _)).trans (framed_bump _ 1 ⟨_, rfl⟩)
  have heq : s.returnCnp q x = _ ∨ s.returnCnp q x = s := ite_eq_or_eq _ _ _
  rcases heq with heq | heq
  · rw [heq]; exact ⟨hway, hport⟩
  · rw [heq]; exact ⟨.refl _ s, fun _ => rfl⟩

theorem Framed.mono {a b : Nat → Prop} {s u : State} (h : Framed a s u) (hab : ∀ k, a k → b k) : Framed b s u :=
  ⟨h.frame, fun k hk hq => h.count k (fun ha => hk (hab k ha)) hq⟩

theorem not_onWay_four (p : Port) : ¬ onWay (okey (portIndex p) 4) := by
  rintro ⟨q, h⟩
  unfold okey at h
  cases p <;> cases q <;> simp only [portIndex] at h <;> omega

/-- A frame that is dropped for what it carries. -/
def State.drops (s : State) (f : Frame) : Prop :=
  f.kind = .fragment ∨ ∃ n, f.kind = .roce n ∧ ∀ q, qpOfQpn n.toNat = some q → s.rts q = none

/-- A frame dropped and counted. -/
theorem framed_drop (s : State) (p : Port) : Framed onWay s (s.pbump p 8 1) ∧ (∀ q, (s.pbump p 8 1).port q = s.port q) :=
  ⟨framed_bump s 1 ⟨p, .inl rfl⟩, fun q => port_pbump s p q 8 1⟩

theorem framed_frameKind (s : State) (p : Port) (f : Frame) : Framed onWay s (s.frameKind p f) ∧ ∀ q, (s.frameKind p f).port q = s.port q := by
  have hanswer : Framed onWay s (s.send (.answer p f.kind)) ∧ ∀ q, (s.send (.answer p f.kind)).port q = s.port q := by
    refine ⟨framed_send s _, fun q => ?_⟩
    rw [send_frame_of_psns s (.answer p f.kind) rfl, port_with]
  have hstay : Framed onWay s s ∧ ∀ q, s.port q = s.port q := ⟨.refl _ s, fun _ => rfl⟩
  unfold State.frameKind
  split
  · exact hanswer
  · exact hanswer
  · exact hanswer
  · exact hstay
  · exact hstay
  · exact framed_drop s p
  · exact framed_drop s p
  · exact framed_drop s p
  · split
    · exact framed_drop s p
    · next q x _ =>
      split
      · obtain ⟨hway, hport⟩ := framed_returnCnp s q x
        exact ⟨hway.mono fun k ⟨q, hk⟩ => ⟨q, .inr (.inr hk)⟩, hport⟩
      · exact hstay
  · exact framed_drop s p
  · split
    · exact hstay
    · exact framed_drop s p
  · exact framed_drop s p
  · exact framed_drop s p
  · split
    · have hevent := evented_modEvent s .refusedFit 7 p.code 0 0 0
      exact ⟨hevent.framed, hevent.port⟩
    · exact hstay

theorem frameKind_drops {s : State} {f : Frame} (p : Port) (h : s.drops f) : s.frameKind p f = s.pbump p 8 1 := by
  rcases h with hk | ⟨n, hk, hnone⟩
  · simp only [State.frameKind, hk]
  · have hbind : (qpOfQpn n.toNat).bind (fun q => (s.rts q).map (fun x => (q, x))) = none := by
      rw [Option.bind_eq_none_iff]
      intro q hq
      rw [hnone q hq]; rfl
    simp only [State.frameKind, hk, hbind]

/-- A frame counted in, with its codewords. -/
def State.countIn (s : State) (p : Port) (f : Frame) : State := ((s.pbump p 4 1).pbump p 6 f.fecCorrected).pbump p 7 f.fecUncorrected

theorem countIn_effect (s : State) (p : Port) (f : Frame) :
    (∃ c, s.countIn p f = { s with cnt := c }) ∧
    (s.countIn p f).count (okey (portIndex p) 4) = (s.count (okey (portIndex p) 4) + 1) % 2 ^ 64 ∧
    (s.countIn p f).count (okey (portIndex p) 8) = s.count (okey (portIndex p) 8) := by
  refine ⟨?_, ?_, ?_⟩
  · obtain ⟨c, hc⟩ := s.bump_frame (okey (portIndex p) 4) 1
    obtain ⟨c', hc'⟩ := State.bump_frame { s with cnt := c } (okey (portIndex p) 6) f.fecCorrected
    obtain ⟨c'', hc''⟩ := State.bump_frame { s with cnt := c' } (okey (portIndex p) 7) f.fecUncorrected
    refine ⟨c'', ?_⟩
    rw [State.countIn, State.pbump, State.pbump, State.pbump, hc, hc', hc'']
  · rw [State.countIn, State.pbump, State.count_bump_ne _ _ (okey_inj_sub (by decide)), State.pbump,
      State.count_bump_ne _ _ (okey_inj_sub (by decide)), count_pbump]
  · rw [State.countIn, State.pbump, State.count_bump_ne _ _ (okey_inj_sub (by decide)), State.pbump,
      State.count_bump_ne _ _ (okey_inj_sub (by decide)), State.pbump, State.count_bump_ne _ _ (okey_inj_sub (by decide))]

theorem frameReceive_effect (p : Port) (f : Frame) (s : State) (hup : (s.port p).rate ≠ 0) : ∃ u, exec (.frameReceive p f) s = .next u ∧
    u.count (okey (portIndex p) 4) = (s.count (okey (portIndex p) 4) + 1) % 2 ^ 64 ∧
    (frameCut f = true ∨ s.drops f → u.count (okey (portIndex p) 8) = (s.count (okey (portIndex p) 8) + 1) % 2 ^ 64) ∧
    (frameCut f = true → u = { s with cnt := u.cnt }) ∧
    (∀ second, frameCut f = false → s.lossless (framePrio f) = some second → 655360 ≤ f.buffered → ((u.port p).pfc second).xoff = true) ∧
    u.mem = s.mem ∧ u.jobs = s.jobs := by
  have hrun : exec (.frameReceive p f) s = .next (if frameCut f then (s.countIn p f).pbump p 8 1
      else ((s.countIn p f).xoff p (framePrio f) f.buffered).frameKind p f) := by
    show execFrameReceive p f s = _
    simp only [execFrameReceive, hup, if_false]
    rfl
  obtain ⟨⟨c, hc⟩, hfour, height⟩ := countIn_effect s p f
  generalize s.countIn p f = v at hrun hc hfour height
  have hquiet := quiet_port p (sub := 4) (by decide) (by decide)
  have hlossless : v.lossless (framePrio f) = s.lossless (framePrio f) := by rw [hc]; rfl
  have hbodies : v.mem = s.mem ∧ v.jobs = s.jobs := by rw [hc]; exact ⟨rfl, rfl⟩
  have hdrops : s.drops f → v.drops f := by rw [hc]; exact id
  refine ⟨_, hrun, ?_⟩
  cases hcut : frameCut f with
  | true =>
    rw [if_pos rfl]
    obtain ⟨hway, -⟩ := framed_drop v p
    refine ⟨(hway.count _ (not_onWay_four p) hquiet).trans hfour, fun _ => ?_, fun _ => ?_, nofun, hway.bodies.1.trans hbodies.1,
      hway.bodies.2.1.trans hbodies.2⟩
    · rw [count_pbump, height]
    · obtain ⟨c', hc'⟩ := v.bump_frame (okey (portIndex p) 8) 1
      rw [State.pbump, hc', hc]
  | false =>
    rw [if_neg Bool.false_ne_true]
    obtain ⟨hx, hqps, hxoff⟩ := framed_xoff v p (framePrio f) f.buffered
    generalize v.xoff p (framePrio f) f.buffered = w at hx hqps hxoff
    obtain ⟨hkind, hport⟩ := framed_frameKind w p f
    have hway := (hx.mono fun k hk => (⟨p, .inr (.inl hk)⟩ : onWay k)).trans hkind
    refine ⟨(hway.count _ (not_onWay_four p) hquiet).trans hfour, fun hd => ?_, nofun, fun second _ hs hheld => ?_,
      hway.bodies.1.trans hbodies.1, hway.bodies.2.1.trans hbodies.2⟩
    · have hwd : w.drops f := by
        refine (hdrops (hd.resolve_left nofun)).imp id fun ⟨n, hn, hnone⟩ => ⟨n, hn, fun q hq => ?_⟩
        rw [State.rts, State.qp?, hqps]
        exact hnone q hq
      rw [frameKind_drops p hwd, count_pbump, hx.count _ (okey_inj_sub (by decide)) (quiet_port p (by decide) (by decide)), height]
    · rw [hport]
      exact hxoff second (hlossless.trans hs) hheld

/-- Settles O42: a port trains by `train_effect`; pause sets one priority's state; a frame's way moves the counters of `onWay` alone. -/
theorem portCommands : Obligations.PortCommands := by
  unfold Obligations.PortCommands
  refine ⟨⟨linkUp_effect, laneFail_effect, fun p r v s hmay hv => ?_⟩, pfcXon_effect, pfcReceive_effect, pauseStorm_effect,
    fun p second s hign => ?_, frameReceive_effect⟩
  · have hgt : decide (leNat v > 2) = false := by simpa using hv
    exact exec_writeTyped (i := .portModeWrite p r v) (act := fun s => s.persist r (okey (portIndex p) 1) v) hmay (objType_portMode p) rfl
      (cond_of_eq_false hgt _)
  · show execPauseHonourResume p second s = _
    simp only [execPauseHonourResume, hign, if_true]

end Sys2Proof.Machine
end

section
/-! SUPPORT. Queue pairs: setup and reset, windows, congestion, acknowledgements, NAKs and retries, inbound WRITEs (12 R319 to R326). -/

open Sys2Proof Sys2Proof.Machine Sys2Proof.Claims

namespace Sys2Proof.Machine

/-! Messages stay sent -/

theorem mem_sent_notifyAll (cls : Nat) (body : Bytes) (l : List Session) (s : State) {m : Sent} (h : m ∈ s.sent) :
    m ∈ (notifyAll s cls body l).2.sent := by
  induction l generalizing s with
  | nil => exact h
  | cons sn l ih =>
    have hone : m ∈ (notifySession s sn cls body).2.sent := by
      simp only [notifySession]
      split
      · obtain ⟨c, hc⟩ := s.bump_frame (okey 0x1110 0x0B) 1
        rw [hc]; exact h
      · rw [State.sent_send]; exact List.mem_cons_of_mem _ h
    simp only [notifyAll]
    split
    · exact ih _ hone
    · exact ih _ h

theorem mem_sent_foldl {α : Type} (f : State → α → State) {m : Sent} (h : ∀ s x, m ∈ s.sent → m ∈ (f s x).sent) (l : List α) (s : State)
    (hs : m ∈ s.sent) : m ∈ (l.foldl f s).sent := by
  induction l generalizing s with
  | nil => exact hs
  | cons x l ih => exact ih _ (h s x hs)

theorem mem_sent_sendAdmin (s : State) (bs : Bytes) {m : Sent} (h : m ∈ s.sent) : m ∈ (s.sendAdmin bs).sent := by
  unfold State.sendAdmin
  refine mem_sent_foldl _ (fun s q hs => ?_) _ _ h
  split
  · split
    · rw [State.sent_send]; exact List.mem_cons_of_mem _ hs
    · exact hs
  · exact hs

theorem mem_sent_modEvent (s : State) (st : Status) (a b i v c : Nat) {m : Sent} (h : m ∈ s.sent) : m ∈ (s.modEvent st a b i v c).sent :=
  mem_sent_sendAdmin _ _ (mem_sent_notifyAll _ _ _ _ h)

/-! A queue pair that enters ERROR (R323, R340) -/

theorem rts_iff {s : State} {q : Nat} {x : Qp} : s.rts q = some x ↔ s.qp? q = some x ∧ x.state = .rts := by
  unfold State.rts
  constructor
  · intro h
    split at h
    · next y hy =>
      split at h
      · next hst => exact Option.some.inj h ▸ ⟨hy, hst⟩
      · exact nomatch h
    · exact nomatch h
  · rintro ⟨hx, hst⟩
    simp only [hx, hst, if_true]

/-- A queue pair as ERROR leaves it. -/
def Qp.failed (x : Qp) (cause : Status) : Qp := { x with state := .error, cause := cause, out := [], tries := 0, rnrTries := 0 }

/-- The event of a queue pair that enters ERROR. -/
def State.qpEvent (s : State) (q : Nat) (x : Qp) (cause : Status) : State :=
  if x.admin then s.modEvent cause 4 x.port.code q 0 x.ctx else s.ctxEvent x.ctx cause 4 x.port.code q 0

theorem qpError_eq {s : State} {q : Nat} {x : Qp} (h : s.rts q = some x) (cause : Status) :
    s.qpError q cause = x.out.foldl (State.failOp cause) ((s.setQp q (x.failed cause)).qpEvent q x cause) := by
  simp only [State.qpError, h]
  rfl

/-- A queue pair that fails is in ERROR with nothing in flight; rings stay, and what was sent. -/
structure Errs (s u : State) (q : Nat) (x : Qp) (cause : Status) : Prop where
  qp : u.qp? q = some (x.failed cause)
  rings : u.rings = s.rings
  sent : ∀ m ∈ s.sent, m ∈ u.sent

theorem qpEvent_effect {s : State} {q : Nat} {y : Qp} (h : s.qp? q = some y) (hst : y.state ≠ .rts) (x : Qp) (cause : Status) :
    (s.qpEvent q x cause).qp? q = some y ∧ (s.qpEvent q x cause).rings = s.rings ∧ ∀ m ∈ s.sent, m ∈ (s.qpEvent q x cause).sent := by
  unfold State.qpEvent
  split
  · have hevent := evented_modEvent s cause 4 x.port.code q 0 x.ctx
    exact ⟨hevent.qp q y h hst, by rw [hevent.frame], fun m => mem_sent_modEvent s _ _ _ _ _ _⟩
  · have hevent := releaseFrame_ctxEvent s x.ctx cause 4 x.port.code q 0
    unfold ReleaseFrame at hevent
    rw [hevent]
    exact ⟨h, rfl, fun m hm => hm⟩

theorem errs_qpError {s : State} {q : Nat} {x : Qp} (h : s.rts q = some x) (cause : Status) : Errs s (s.qpError q cause) q x cause := by
  rw [qpError_eq h]
  have hset : (s.setQp q (x.failed cause)).qp? q = some (x.failed cause) := KMap.find_put_self _ _ _
  obtain ⟨hqp, hrings, hsent⟩ := qpEvent_effect hset (nofun : (x.failed cause).state ≠ .rts) x cause
  generalize (s.setQp q (x.failed cause)).qpEvent q x cause = v at hqp hrings hsent
  have hops := opFrame_failOps cause x.out v
  unfold OpFrame ReleaseFrame at hops
  rw [hops]
  exact ⟨hqp, hrings, hsent⟩

theorem Errs.ends {s u : State} {q : Nat} {x : Qp} {cause : Status} (h : Errs s u q x cause) :
    ∃ y, u.qp? q = some y ∧ y.state = .error ∧ y.cause = cause ∧ y.out = [] := ⟨_, h.qp, rfl, rfl, rfl⟩

/-! Setup and reset (R322, R323), and windows (R337, R338) -/

theorem qpSetup_effect (r : Requester) (v : Bytes) (s : State) (hmay : WriteMay s r 0x2300 7 v []) (hbad : s.qpSetupBad v = false)
    (hroute : s.routable (qpPortOf v) (bit (qpFlags v) 0) = true) (hready : readyBit s (5 + (qpPortOf v).code) = true)
    (hfree : s.qp? (qpNumber v) = none) (hadmin : bit (qpFlags v) 1 = true → ∀ e ∈ s.qps, ¬ (e.2.admin = true ∧ e.2.port = qpPortOf v)) :
    ∃ u, exec (.qpSetup r v) s = .next u ∧ u.qp? (qpNumber v) = some (s.newQp v) ∧ Replied u r .ok ∧
    u = { s with qps := u.qps, cnt := u.cnt, sent := u.sent, kop := u.kop } := by
  have hone : (bit (qpFlags v) 1 && s.qps.any (fun e => e.2.admin && e.2.port == qpPortOf v)) = false := by
    cases hb : bit (qpFlags v) 1 with
    | false => rfl
    | true => simpa using hadmin hb
  obtain ⟨u, hu, hans⟩ := exec_writeNow (i := .qpSetup r v) (w := s.setQp (qpNumber v) (s.newQp v)) hmay rfl
    (by rw [hbad, hroute, hready, hfree, hone]; rfl) rfl rfl
  have hframe := hans.frame_kop
  have hqps : u.qps = s.qps.put (qpNumber v) (s.newQp v) := by rw [hframe]; rfl
  refine ⟨u, hu, ?_, hans.replied, ?_⟩
  · rw [State.qp?, hqps, KMap.find_put_self]
  · rw [hqps]; exact hframe

theorem qpReset_effect (r : Requester) (v : Bytes) (s : State) (hmay : WriteMay s r 0x2300 8 v []) (hv : leNat v ≤ 16383)
    (hqp : (s.qp? (leNat v)).isSome = true) : ∃ u, exec (.qpReset r v) s = .next u ∧ u.qp? (leNat v) = none ∧
    (∀ e ∈ u.windows, e.2.qp ≠ leNat v) ∧ Replied u r .ok := by
  obtain ⟨x, hx⟩ := Option.isSome_iff_exists.1 hqp
  have hreset := qpToReset_effect hx
  unfold OpFrame ReleaseFrame at hreset
  have hgt : decide (leNat v > 16383) = false := decide_eq_false (Nat.not_lt.2 hv)
  obtain ⟨u, hu, hans⟩ := exec_writeNow (i := .qpReset r v) (w := s.qpToReset (leNat v)) hmay rfl (cond_of_eq_false hgt _) rfl
    (by rw [hreset]; rfl)
  have hframe := hans.frame_kop
  have hqps : u.qps = s.qps.del (leNat v) := by rw [hframe, hreset]; rfl
  have hwindows : u.windows = s.windows.filter (fun e => e.2.qp ≠ leNat v) := by rw [hframe, hreset]; rfl
  refine ⟨u, hu, ?_, ?_, hans.replied⟩
  · rw [State.qp?, hqps, KMap.find_del, if_pos rfl]
  · rw [hwindows]
    exact fun e he => of_decide_eq_true (List.mem_filter.1 he).2

theorem windowSetup_effect (r : Requester) (v : Bytes) (s : State) (hmay : WriteMay s r 0x2300 0x0B v []) (hbad : s.windowBad v = false) :
    ∃ u, exec (.windowSetup r v) s = .next u ∧ u.window? (field v 0 2) (field (slice v 4 32) 24 2) =
      (if field (slice v 4 32) 8 8 = 0 then none else some (contextWindow (slice v 4 32))) ∧ Replied u r .ok ∧
    u = { s with windows := u.windows, cnt := u.cnt, sent := u.sent, kop := u.kop } := by
  generalize hk : winKey (field v 0 2) (field (slice v 4 32) 24 2) = k
  generalize hws : (if field (slice v 4 32) 8 8 = 0 then s.windows.del k else s.windows.put k (contextWindow (slice v 4 32))) = ws
  obtain ⟨u, hu, hans⟩ := exec_writeNow (i := .windowSetup r v) (w := { s with windows := ws }) hmay rfl (cond_of_eq_false hbad _)
    (by rw [hk, hws]) rfl
  have hframe := hans.frame_kop
  have hwindows : u.windows = ws := by rw [hframe]
  refine ⟨u, hu, ?_, hans.replied, ?_⟩
  · rw [State.window?, hwindows, hk, ← hws]
    split
    · rw [KMap.find_del, if_pos rfl]
    · rw [KMap.find_put_self]
  · rw [hwindows]; exact hframe

/-! Acknowledgements, NAKs and retries (R321, R323) -/

theorem ackReceive_effect (qp : Fin 16384) (n : Nat) (s : State) (x : Qp) (h : s.rts qp = some x) : ∃ u,
    exec (.ackReceive qp n) s = .next u ∧ u.qp? qp = some { x with out := x.out.drop n, tries := 0, rnrTries := 0 } ∧ u.mem = s.mem ∧
    u.sent = s.sent := by
  have hrun : exec (.ackReceive qp n) s = .next ((x.out.take n).foldl State.ackOp
      (s.setQp qp { x with out := x.out.drop n, tries := 0, rnrTries := 0 })) := by
    show execAckReceive qp n s = _
    simp only [execAckReceive, h]
  have hops := opFrame_ackOps (x.out.take n) (s.setQp qp { x with out := x.out.drop n, tries := 0, rnrTries := 0 })
  generalize (x.out.take n).foldl State.ackOp (s.setQp qp { x with out := x.out.drop n, tries := 0, rnrTries := 0 }) = u at hrun hops
  unfold OpFrame ReleaseFrame at hops
  refine ⟨u, hrun, ?_, ?_, ?_⟩
  · rw [hops]; exact KMap.find_put_self _ _ _
  · rw [hops]; rfl
  · rw [hops]; rfl

theorem resend_effect (s : State) (q : Nat) {x : Qp} {o : OutOp} {rest : List OutOp} (h : x.out = o :: rest) : ∃ n,
    (s.resend q x).sent = .retransmit q n :: s.sent ∧ (s.resend q x).qp? q = some { x with retransmissions := x.retransmissions + n } := by
  refine ⟨s.opPackets o, ?_⟩
  have heq : s.resend q x = ((s.setQp q { x with retransmissions := x.retransmissions + s.opPackets o }).send
      (.retransmit q (s.opPackets o))).pbump x.port 0x0C (s.opPackets o) := by simp only [State.resend, h]
  obtain ⟨c, hc⟩ := State.bump_frame ((s.setQp q { x with retransmissions := x.retransmissions + s.opPackets o }).send
    (.retransmit q (s.opPackets o))) (okey (portIndex x.port) 0x0C) (s.opPackets o)
  rw [heq, State.pbump, hc, send_frame_of_psns (s.setQp q _) (.retransmit q _) rfl]
  exact ⟨rfl, KMap.find_put_self _ _ _⟩

theorem nakReceive_error (qp : Fin 16384) (k : NakKind) (s : State) (x : Qp) (h : s.rts qp = some x)
    (hrnr : k = .rnr → x.rnrRetry ≠ 7 ∧ x.rnrRetry ≤ x.rnrTries) : ∃ u y, exec (.nakReceive qp k) s = .next u ∧ u.qp? qp = some y ∧
    y.state = .error ∧ y.cause = (if k = .remoteAccess then .accessDenied else .retryExhausted) ∧ y.out = [] := by
  have hrun : exec (.nakReceive qp k) s = .next (s.qpError qp (if k = .remoteAccess then .accessDenied else .retryExhausted)) := by
    show execNakReceive qp k s = _
    cases k with
    | remoteAccess => simp only [execNakReceive, h, if_true]
    | other => simp only [execNakReceive, h, reduceCtorEq, if_false]
    | rnr => simp only [execNakReceive, h, if_pos (hrnr rfl), reduceCtorEq, if_false]
  obtain ⟨y, hy⟩ := (errs_qpError h _).ends
  exact ⟨_, y, hrun, hy⟩

theorem nakReceive_again (qp : Fin 16384) (s : State) (x : Qp) (o : OutOp) (rest : List OutOp) (h : s.rts qp = some x)
    (hout : x.out = o :: rest) (htry : x.rnrRetry = 7 ∨ x.rnrTries < x.rnrRetry) : ∃ u n, exec (.nakReceive qp .rnr) s = .next u ∧
    u.sent = .retransmit qp n :: s.sent ∧
    u.qp? qp = some { x with rnrTries := x.rnrTries + 1, retransmissions := x.retransmissions + n } := by
  have hgo : ¬(x.rnrRetry ≠ 7 ∧ x.rnrTries ≥ x.rnrRetry) := by omega
  have hrun : exec (.nakReceive qp .rnr) s = .next (s.resend qp { x with rnrTries := x.rnrTries + 1 }) := by
    show execNakReceive qp .rnr s = _
    simp only [execNakReceive, h, if_neg hgo]
  obtain ⟨n, hsent, hqp⟩ := resend_effect s qp (x := { x with rnrTries := x.rnrTries + 1 }) hout
  exact ⟨_, n, hrun, hsent, hqp⟩

theorem timeout_effect (qp : Fin 16384) (s : State) (x : Qp) (o : OutOp) (rest : List OutOp) (h : s.rts qp = some x)
    (hout : x.out = o :: rest) :
    (x.tries < x.retryCnt → ∃ u n, exec (.retransmitTimeout qp) s = .next u ∧ u.sent = .retransmit qp n :: s.sent ∧
      u.qp? qp = some { x with tries := x.tries + 1, retransmissions := x.retransmissions + n }) ∧
    (x.retryCnt ≤ x.tries → ∃ u y, exec (.retransmitTimeout qp) s = .next u ∧ u.qp? qp = some y ∧ y.state = .error ∧
      y.cause = .retryExhausted ∧ y.out = []) := by
  have hne : x.out ≠ [] := by rw [hout]; exact List.cons_ne_nil _ _
  refine ⟨fun hlt => ?_, fun hle => ?_⟩
  · have hrun : exec (.retransmitTimeout qp) s = .next (s.resend qp { x with tries := x.tries + 1 }) := by
      show execRetransmitTimeout qp s = _
      simp only [execRetransmitTimeout, h, if_neg hne, if_neg (Nat.not_le.2 hlt)]
    obtain ⟨n, hsent, hqp⟩ := resend_effect s qp (x := { x with tries := x.tries + 1 }) hout
    exact ⟨_, n, hrun, hsent, hqp⟩
  · have hrun : exec (.retransmitTimeout qp) s = .next (s.qpError qp .retryExhausted) := by
      show execRetransmitTimeout qp s = _
      simp only [execRetransmitTimeout, h, if_neg hne, ge_iff_le, if_pos hle]
    obtain ⟨y, hy⟩ := (errs_qpError h _).ends
    exact ⟨_, y, hrun, hy⟩

/-! Inbound operations (R320, R325, R326) -/

/-- A NAK goes out and is counted; queue pairs and rings stay. -/
theorem nak_effect (s : State) (p : Port) (q : Nat) (inv : Bool) : ∃ c, (s.send (.nak q inv)).pbump p 0x0D 1 =
    { s with sent := .nak q inv :: s.sent, cnt := c } := by
  obtain ⟨c, hc⟩ := State.bump_frame (s.send (.nak q inv)) (okey (portIndex p) 0x0D) 1
  refine ⟨c, ?_⟩
  rw [State.pbump, hc, send_frame_of_psns s (.nak q inv) rfl]

theorem refused_effect (p : Port) (qp : Fin 16384) (s : State) (x : Qp) (hup : (s.port p).rate ≠ 0) (h : s.rts qp = some x) : ∃ u y,
    exec (.roceOpRefused p qp) s = .next u ∧ .nak qp true ∈ u.sent ∧ u.qp? qp = some y ∧ y.state = .error ∧ y.cause = .retryExhausted ∧
    y.out = [] := by
  have hrun : exec (.roceOpRefused p qp) s = .next (((s.send (.nak qp true)).pbump p 0x0D 1).qpError qp .retryExhausted) := by
    show execRoceOpRefused p qp s = _
    simp only [execRoceOpRefused, hup, h, if_false]
  obtain ⟨c, hc⟩ := nak_effect s p qp true
  rw [hc] at hrun
  have herrs := errs_qpError (s := { s with sent := .nak qp true :: s.sent, cnt := c }) (x := x) h .retryExhausted
  obtain ⟨y, hy⟩ := herrs.ends
  exact ⟨_, y, hrun, herrs.sent _ List.mem_cons_self, hy⟩

theorem writeIn_refused (p : Port) (qp : Fin 16384) (rkey : W32) (va : W64) (data : Bytes) (s : State) (x : Qp)
    (hup : (s.port p).rate ≠ 0) (h : s.rts qp = some x) (hbad : rkey ≠ x.rkey ∨ s.writeTarget x.ctx va.toNat data.length = none) :
    ∃ u y, exec (.roceWriteIn p qp rkey va data) s = .next u ∧ .nak qp false ∈ u.sent ∧ u.qp? qp = some y ∧ y.state = .error ∧
    y.cause = .accessDenied ∧ u.rings = s.rings := by
  have hnone : (if rkey = x.rkey then s.writeTarget x.ctx va.toNat data.length else none) = none := by
    rcases hbad with hne | hnone
    · rw [if_neg hne]
    · rw [hnone, ite_self]
  have hrun : exec (.roceWriteIn p qp rkey va data) s = .next
      ((((s.bump (okey 0x2300 0x13) 1).send (.nak qp false)).pbump p 0x0D 1).qpError qp .accessDenied) := by
    show execRoceWriteIn p qp rkey va data s = _
    simp only [execRoceWriteIn, hup, h, hnone, if_false]
  obtain ⟨c, hc⟩ := s.bump_frame (okey 0x2300 0x13) 1
  obtain ⟨c', hc'⟩ := nak_effect { s with cnt := c } p qp false
  rw [hc, hc'] at hrun
  have herrs := errs_qpError (s := { s with sent := .nak qp false :: s.sent, cnt := c' }) (x := x) h .accessDenied
  obtain ⟨y, hy, hst, hcause, -⟩ := herrs.ends
  exact ⟨_, y, hrun, herrs.sent _ List.mem_cons_self, hy, hst, hcause, herrs.rings⟩

theorem writeIn_entries (p : Port) (qp : Fin 16384) (va : W64) (data : Bytes) (s : State) (x : Qp) (n slot : Nat) (y : ReqRing)
    (hup : (s.port p).rate ≠ 0) (h : s.rts qp = some x) (htarget : s.writeTarget x.ctx va.toNat data.length = some (.entries n slot))
    (hy : s.ring? n = some y) : ∃ u, exec (.roceWriteIn p qp x.rkey va data) s = .next u ∧ u.sent = .ack qp :: s.sent ∧
    u.qp? qp = some { x with recvPsn := x.recvPsn + BitVec.ofNat 24 (packets data.length) } ∧
    u.ring? n = some { y with slots := putSlots y.slots slot data } ∧
    u = { s with qps := u.qps, sent := u.sent, cnt := u.cnt, rings := u.rings } := by
  have hack := send_frame_of_psns (s.setQp qp { x with recvPsn := x.recvPsn + BitVec.ofNat 24 (packets data.length) }) (.ack qp) rfl
  generalize hx' : ({ x with recvPsn := x.recvPsn + BitVec.ofNat 24 (packets data.length) } : Qp) = x' at hack ⊢
  have hring : ((s.setQp qp x').send (.ack qp)).ring? n = some y := by rw [hack]; exact hy
  have hrun : exec (.roceWriteIn p qp x.rkey va data) s = .next
      (((s.setQp qp x').send (.ack qp)).setRing n { y with slots := putSlots y.slots slot data }) := by
    show execRoceWriteIn p qp x.rkey va data s = _
    simp only [execRoceWriteIn, hup, h, htarget, hx', State.applyWrite, hring, if_false, if_true]
  generalize (s.setQp qp x').send (.ack qp) = v at hack hrun
  refine ⟨_, hrun, ?_, ?_, KMap.find_put_self _ _ _, ?_⟩
  · rw [hack]; rfl
  · rw [hack]; exact KMap.find_put_self _ _ _
  · rw [hack]; rfl

/-- Settles O43: a queue pair that fails by `errs_qpError`; the oldest operation again by `resend_effect`; the writes by `exec_writeNow`. -/
theorem queuePairs : Obligations.QueuePairs := by
  unfold Obligations.QueuePairs
  refine ⟨qpSetup_effect, qpReset_effect, windowSetup_effect, fun qp s x h hline => ?_, fun qp s x h hline => ?_, ackReceive_effect,
    nakReceive_error, nakReceive_again, timeout_effect, refused_effect, fun p qp rkey va data s x hup h =>
      ⟨fun n slot y hkey htarget hy => ?_, writeIn_refused p qp rkey va data s x hup h⟩⟩
  · obtain ⟨hx, hst⟩ := rts_iff.1 h
    show execCnpReceive qp s = _
    simp only [execCnpReceive, hx, hline, hst, ne_eq, not_true_eq_false, if_false, State.pbump]
  · show execRateRecover qp s = _
    simp only [execRateRecover, h, hline, if_false]
  · subst hkey
    exact writeIn_entries p qp va data s x n slot y hup h htarget hy

end Sys2Proof.Machine
end

section
/-! SUPPORT. Outputs and completions of requests (10 R285 to R287; 12 R334 to R336; 19 R509). -/

open Sys2Proof Sys2Proof.Machine Sys2Proof.Claims

namespace Sys2Proof.Machine

/-! Requests by handle -/

theorem req_setReq (s : State) (r : W32) (x : Request) : (s.setReq r x).req? r = some x := KMap.find_put_self _ _ _

theorem req_setReq_ne (s : State) {r i : W32} (x : Request) (h : i ≠ r) : (s.setReq r x).req? i = s.req? i :=
  (KMap.find_put _ _ _ _).trans (if_neg fun he => h (BitVec.eq_of_toNat_eq he).symm)

theorem mem_conds_note (x : Request) (st : Status) : st ∈ (x.note st).conds := by
  unfold Request.note
  split
  · next h => exact List.contains_iff_mem.1 h
  · exact List.mem_append_right _ (List.mem_singleton.2 rfl)

/-! The output (R285 to R287, R509) -/

/-- A message sent on a queue pair, and the operation put in flight. -/
theorem sendOut_effect (s : State) (m : Sent) (q : Nat) (o : OutOp) : ∃ qps c, (s.send m).addOut q o =
    { s with qps := qps, sent := m :: s.sent, cnt := c } := by
  have hsent := State.sent_send s m
  have hframe := (sendFrame_send s m).trans (sendFrame_addOut (s.send m) q o).1
  have hsent' := (sendFrame_addOut (s.send m) q o).2.trans hsent
  unfold SendFrame at hframe
  exact ⟨_, _, hframe.trans (by rw [hsent'])⟩

theorem outputWrite_effect (req : W32) (s : State) (x : Request) (w : Window) (hx : s.req? req = some x) (hst : x.state = .writing)
    (hnew : x.outDone = false) (hout : x.noOutput = false) (hw : s.window? x.ctx (rdOutWindow x.desc) = some w)
    (hqp : s.qpCause w.qp = none) : ∃ u, exec (.outputWrite req) s = .next u ∧
    u.sent = .rdmaWrite w.qp (w.base + BitVec.ofNat 64 (rdOutOffset x.desc)) w.rkey (x.output req) none :: s.sent ∧
    u.req? req = some { x with outDone := true, written := (x.output req).length, outstanding := x.outstanding + 1 } ∧
    u = { s with reqs := u.reqs, qps := u.qps, sent := u.sent, cnt := u.cnt } := by
  have hw : s.window? (s.reqContext x) (rdOutWindow x.desc) = some w := hw
  have hrun : exec (.outputWrite req) s = .next (((s.send (.rdmaWrite w.qp (w.base + BitVec.ofNat 64 (rdOutOffset x.desc)) w.rkey
      (x.output req) none)).addOut w.qp (.output req)).setReq req
        { x with outDone := true, written := (x.output req).length, outstanding := x.outstanding + 1 }) := by
    show execOutputWrite req s = _
    simp only [execOutputWrite, hx, hst, hnew, hout, hw, hqp, ne_eq, not_true_eq_false, Bool.false_eq_true, or_self, if_false]
  obtain ⟨qps, c, hsend⟩ := sendOut_effect s (.rdmaWrite w.qp (w.base + BitVec.ofNat 64 (rdOutOffset x.desc)) w.rkey (x.output req) none)
    w.qp (.output req)
  rw [hsend] at hrun
  exact ⟨_, hrun, rfl, req_setReq _ _ _, rfl⟩

theorem outputWriteFail_effect (req : W32) (c : Cause) (s : State) (x : Request) (hx : s.req? req = some x) (hst : x.state = .writing)
    (hout : x.outstanding ≠ 0) : ∃ u y, exec (.outputWriteFail req c) s = .next u ∧ u.req? req = some y ∧ causeStatus c ∈ y.conds ∧
    y.outFailed = true ∧ y.written = 0 ∧ y.outstanding = x.outstanding - 1 ∧ u = { s with reqs := u.reqs, qps := u.qps } := by
  generalize hq : ((s.window? (s.reqContext x) (rdOutWindow x.desc)).map (·.qp)).getD 0 = q
  have hdrop : s.dropOut q (.output req) = { s with qps := (s.dropOut q (.output req)).qps } := by
    unfold State.dropOut
    split <;> rfl
  have hrun : exec (.outputWriteFail req c) s = .next ((s.dropOut q (.output req)).outputFailed req (causeStatus c)) := by
    show execOutputWriteFail req c s = _
    simp only [execOutputWriteFail, hx, hst, hout, ne_eq, not_true_eq_false, or_self, if_false, hq]
  generalize s.dropOut q (.output req) = v at hdrop hrun
  have hvx : v.req? req = some x := by rw [hdrop]; exact hx
  simp only [State.outputFailed, State.modReq, hvx] at hrun
  have hframe : ∀ z : Request, v.setReq req z = { s with reqs := (v.setReq req z).reqs, qps := (v.setReq req z).qps } := fun z => by
    rw [hdrop]; rfl
  refine ⟨_, _, hrun, req_setReq _ _ _, mem_conds_note x _, rfl, rfl, rfl, hframe _⟩

/-! The completion (R334, R335) -/

theorem length_result (x : Request) (h : x.resultBytes = [] ∨ x.resultBytes.length = 16) : x.result.length = 16 := by
  unfold Request.result
  split
  · simp only [List.length_append, length_leBytes, List.length_cons, List.length_nil]
  · split
    · exact List.length_replicate
    · next hne => exact h.resolve_left hne

/-- The last byte of a run read as a field. -/
theorem field_last (bs : Bytes) (n v : Nat) (hn : bs.length = n) (hv : v < 256) : field (bs ++ leBytes 1 v) n 1 = v := by
  have hget : (bs ++ leBytes 1 v).getD (n + 0) 0 = BitVec.ofNat 8 (v % 256) := by
    rw [Nat.add_zero, ← hn, List.getD_append_right _ _ _ _ le_rfl, Nat.sub_self]; rfl
  have hslice : slice (bs ++ leBytes 1 v) n 1 = [BitVec.ofNat 8 (v % 256)] := by
    simp only [slice, List.range_one, List.map_cons, List.map_nil, hget]
  rw [field, hslice]
  simp only [leNat, BitVec.toNat_ofNat, Nat.mul_zero, Nat.add_zero]
  omega

theorem completion_shape (s : State) (r : W32) (x : Request) (c : CompRing) : ∃ bs : Bytes, bs.length = 47 + x.result.length ∧
    s.completion r x c = bs ++ leBytes 1 (if c.written.toNat / 2 ^ c.depthLog % 2 = 0 then 1 else 0) := by
  refine ⟨_, ?_, rfl⟩
  simp only [List.length_append, length_leBytes, List.length_replicate, List.length_cons, List.length_nil]
  omega

theorem completion_phase (s : State) (r : W32) (x : Request) (c : CompRing) (h : x.resultBytes = [] ∨ x.resultBytes.length = 16) :
    (s.completion r x c).length = 64 ∧
    field (s.completion r x c) 63 1 = (if c.written.toNat / 2 ^ c.depthLog % 2 = 0 then 1 else 0) := by
  obtain ⟨bs, hlen, heq⟩ := completion_shape s r x c
  rw [length_result x h] at hlen
  rw [heq]
  refine ⟨by rw [List.length_append, length_leBytes, hlen], field_last bs 63 _ hlen ?_⟩
  split <;> decide

/-- The 32 bits that go with a completion where its ring asks for them. -/
def CompRing.immediate (c : CompRing) : Option W32 :=
  if c.imm then some (BitVec.ofNat 32 (c.immTag.toNat * 65536 + c.written.toNat % 65536)) else none

theorem isSome_immediate (c : CompRing) : c.immediate.isSome = c.imm := by
  unfold CompRing.immediate
  cases c.imm <;> rfl

theorem takeIndex_eq {s : State} {x : Request} {c : CompRing} (h : s.cring? x.cring = some c) :
    s.takeIndex x = s.setCring x.cring { c with written := c.written + 1, reserved := c.reserved - 1 } := by
  simp only [State.takeIndex, h]

theorem completionWrite_effect (req : W32) (s : State) (x : Request) (c : CompRing) (hx : s.req? req = some x)
    (hc : s.cring? x.cring = some c) (hsettled : x.settled = true) (hup : s.cringUp c = true) : ∃ u imm,
    exec (.completionWrite req) s = .next u ∧ u.req? req = some { x with completing := true } ∧
    u.cring? x.cring = some { c with written := c.written + 1, reserved := c.reserved - 1 } ∧
    u.sent = .rdmaWrite c.qp (c.hostAddr + BitVec.ofNat 64 (64 * (c.written.toNat % 2 ^ c.depthLog))) c.hostRkey (s.completion req x c) imm
      :: s.sent ∧ imm.isSome = c.imm ∧
    (x.resultBytes = [] ∨ x.resultBytes.length = 16 → (s.completion req x c).length = 64 ∧
      field (s.completion req x c) 63 1 = (if c.written.toNat / 2 ^ c.depthLog % 2 = 0 then 1 else 0)) ∧
    (∀ r', r' ≠ req → u.req? r' = s.req? r') ∧
    u = { s with reqs := u.reqs, crings := u.crings, qps := u.qps, sent := u.sent, cnt := u.cnt } := by
  obtain ⟨qps, n, hsend⟩ := sendOut_effect s (.rdmaWrite c.qp (c.hostAddr + BitVec.ofNat 64 (64 * (c.written.toNat % 2 ^ c.depthLog)))
    c.hostRkey (s.completion req x c) c.immediate) c.qp (.completion req)
  have hrun : exec (.completionWrite req) s = .next ((((s.send (.rdmaWrite c.qp (c.hostAddr + BitVec.ofNat 64 (64 * (c.written.toNat %
      2 ^ c.depthLog))) c.hostRkey (s.completion req x c) c.immediate)).addOut c.qp (.completion req)).takeIndex x).setReq req
        { x with completing := true }) := by
    show execCompletionWrite req s = _
    simp only [execCompletionWrite, hx, hc, hsettled, hup, Bool.not_true, Bool.false_eq_true, or_self, if_false]
    rfl
  rw [hsend, takeIndex_eq (s := { s with qps := qps, sent := _, cnt := n }) hc] at hrun
  exact ⟨_, c.immediate, hrun, req_setReq _ _ _, KMap.find_put_self _ _ _, rfl, isSome_immediate c, completion_phase s req x c,
    fun r' hr' => req_setReq_ne _ _ hr', rfl⟩

/-! The release (R285, R336) -/

/-- A request gone with its pins; the others stay. -/
structure Released (s u : State) (r : W32) : Prop where
  gone : u.req? r = none
  others : ∀ i, i ≠ r → u.req? i = s.req? i
  pins : ∀ h v, u.vocab? h = some v → r ∉ v.pins
  frame : ReleaseFrame s u
  count : ∀ k, k ≠ okey 0x2700 4 → k ≠ okey 0x2700 8 → k ≠ okey 0x2700 9 → u.count k = s.count k

theorem not_mem_unpin (ps : List W32) (r : W32) : r ∉ unpin ps r := fun h => by
  have hne := (List.mem_filter.1 h).2
  simp at hne

theorem pins_unpinAll {s : State} {r : W32} {h : Nat} {v : Vocab} (hv : (s.unpinAll r).vocab? h = some v) : r ∉ v.pins := by
  have hmem : (h, v) ∈ (s.unpinAll r).vocabs := find_mem hv
  obtain ⟨e, -, he⟩ := List.mem_map.1 (List.mem_filter.1 hmem).1
  rw [← (Prod.mk.inj he).2]
  exact not_mem_unpin _ _

theorem countEnd_effect (s : State) (x : Request) : (s.countEnd x).reqs = s.reqs ∧
    ∀ k, k ≠ okey 0x2700 4 → k ≠ okey 0x2700 8 → k ≠ okey 0x2700 9 → (s.countEnd x).count k = s.count k := by
  unfold State.countEnd
  split
  · refine ⟨by simp only [State.bump_reqs], fun k h4 h8 h9 => ?_⟩
    rw [State.count_bump_ne _ _ h9.symm, State.count_bump_ne _ _ h8.symm, State.count_bump_ne _ _ h4.symm]
  · exact ⟨rfl, fun _ _ _ _ => rfl⟩

theorem released_release (s : State) (r : W32) (x : Request) : Released s (s.release r x) r := by
  have hframe := releaseFrame_release s r x
  obtain ⟨hreqs, hcount⟩ := countEnd_effect s x
  rw [release_eq] at hframe ⊢
  obtain ⟨-, hreqs', hcnt, hvocabs⟩ := letGo_effect (s.countEnd x) r x
  have hfind : ∀ i : W32, KMap.find (((s.countEnd x).letGo r x).reqs.del r.toNat) i.toNat = if r.toNat = i.toNat then none else s.req? i :=
    fun i => by rw [KMap.find_del, hreqs', hreqs]; rfl
  refine ⟨(hfind r).trans (if_pos rfl), fun i hi => (hfind i).trans (if_neg fun he => hi (BitVec.eq_of_toNat_eq he).symm),
    fun h v hv => ?_, hframe, fun k h4 h8 h9 => ?_⟩
  · refine pins_unpinAll (s := s.countEnd x) (h := h) ?_
    rw [← hv, State.vocab?, State.vocab?, ← hvocabs]
  · rw [← hcount k h4 h8 h9, State.count, State.count, ← hcnt]

theorem ReleaseFrame.bodies {s u : State} (h : ReleaseFrame s u) : u.mem = s.mem ∧ u.jobs = s.jobs ∧ u.sent = s.sent := by
  unfold ReleaseFrame at h
  rw [h]
  exact ⟨rfl, rfl, rfl⟩

theorem completed_effect (req : W32) (s : State) (x : Request) (hx : s.req? req = some x) :
    (let u := s.ackOp (.completion req)
     u.req? req = none ∧ (∀ r', r' ≠ req → u.req? r' = s.req? r') ∧
     u.count (okey 0x2300 0x15) = (s.count (okey 0x2300 0x15) + 1) % 2 ^ 64 ∧ (∀ h v, u.vocab? h = some v → req ∉ v.pins) ∧
     u.mem = s.mem ∧ u.jobs = s.jobs ∧ u.sent = s.sent) := by
  have heq : s.ackOp (.completion req) = (s.bump (okey 0x2300 0x15) 1).release req x := by simp only [State.ackOp, State.completed, hx]
  have hbump := State.count_bump s (okey 0x2300 0x15) 1 (okey 0x2300 0x15)
  rw [if_pos ⟨Nat.one_ne_zero, rfl⟩] at hbump
  obtain ⟨c, hc⟩ := s.bump_frame (okey 0x2300 0x15) 1
  rw [hc] at heq hbump
  obtain ⟨hgone, hothers, hpins, hframe, hcount⟩ := released_release { s with cnt := c } req x
  obtain ⟨hmem, hjobs, hsent⟩ := hframe.bodies
  show (s.ackOp (.completion req)).req? req = none ∧ _
  rw [heq]
  exact ⟨hgone, hothers, (hcount _ (by decide) (by decide) (by decide)).trans hbump, hpins, hmem, hjobs, hsent⟩

theorem completionLost_effect (req : W32) (s : State) (x : Request) (hx : s.req? req = some x) (hsettled : x.settled = true)
    (hdown : ∀ c, s.cring? x.cring = some c → s.cringUp c = false) : ∃ u, exec (.completionLost req) s = .next u ∧ u.req? req = none ∧
    u.count (okey 0x2300 0x16) = (s.count (okey 0x2300 0x16) + 1) % 2 ^ 64 ∧ u.sent = s.sent ∧
    (∀ r', r' ≠ req → u.req? r' = s.req? r') ∧ u.mem = s.mem ∧ u.jobs = s.jobs := by
  obtain ⟨cs, htake⟩ : ∃ cs, s.takeIndex x = { s with crings := cs } := by
    unfold State.takeIndex
    split
    · exact ⟨_, rfl⟩
    · exact ⟨s.crings, rfl⟩
  have hrun : exec (.completionLost req) s = .next ((s.takeIndex x).loseRequest req) := by
    show execCompletionLost req s = _
    cases hc : s.cring? x.cring with
    | none => simp only [execCompletionLost, hx, hc, hsettled, Bool.not_true, Bool.false_eq_true, or_self, if_false]
    | some c => simp only [execCompletionLost, hx, hc, hdown c hc, hsettled, Bool.not_true, Bool.false_eq_true, or_self, if_false]
  rw [htake] at hrun
  generalize hv : ({ s with crings := cs } : State) = v at hrun
  have hreq : ∀ i, v.req? i = s.req? i := fun i => by rw [← hv]; rfl
  have hbodies : v.mem = s.mem ∧ v.jobs = s.jobs ∧ v.sent = s.sent ∧ v.cnt = s.cnt := by rw [← hv]; exact ⟨rfl, rfl, rfl, rfl⟩
  have hbump := State.count_bump v (okey 0x2300 0x16) 1 (okey 0x2300 0x16)
  rw [if_pos ⟨Nat.one_ne_zero, rfl⟩] at hbump
  have hlose : v.loseRequest req = (v.loseCompletion x.ctx x.ring x.index).release req x := by
    simp only [State.loseRequest, hreq, hx]
  have hevent : v.loseCompletion x.ctx x.ring x.index = { v.bump (okey 0x2300 0x16) 1 with
      events := (v.loseCompletion x.ctx x.ring x.index).events } := by
    unfold State.loseCompletion State.ctxEvent
    split <;> rfl
  obtain ⟨c, hc⟩ := v.bump_frame (okey 0x2300 0x16) 1
  rw [hc] at hevent hbump
  generalize v.loseCompletion x.ctx x.ring x.index = w at hlose hevent
  obtain ⟨hgone, hothers, -, hframe, hcount⟩ := released_release w req x
  obtain ⟨hmem, hjobs, hsent⟩ := hframe.bodies
  have hwreq : ∀ i, w.req? i = v.req? i := fun i => by rw [hevent]; rfl
  have hwcount : w.count (okey 0x2300 0x16) = (v.count (okey 0x2300 0x16) + 1) % 2 ^ 64 := by rw [← hbump, hevent]; rfl
  have hw : w.mem = v.mem ∧ w.jobs = v.jobs ∧ w.sent = v.sent := by rw [hevent]; exact ⟨rfl, rfl, rfl⟩
  obtain ⟨hvmem, hvjobs, hvsent, hvcnt⟩ := hbodies
  rw [hlose] at hrun
  refine ⟨_, hrun, hgone, ?_, hsent.trans (hw.2.2.trans hvsent), fun r' hr' => ?_, hmem.trans (hw.1.trans hvmem),
    hjobs.trans (hw.2.1.trans hvjobs)⟩
  · rw [hcount _ (by decide) (by decide) (by decide), hwcount, State.count, hvcnt]; rfl
  · rw [hothers r' hr', hwreq, hreq]

/-- Settles O39: what goes out leaves by `sendOut_effect`; a completion's shape is `completion_phase`, its release `released_release`. -/
theorem outputsAndCompletions : Obligations.OutputsAndCompletions := by
  unfold Obligations.OutputsAndCompletions
  refine ⟨fun req s x hx hst hnew hout => ?_, outputWrite_effect, outputWriteFail_effect, completionWrite_effect, completed_effect,
    completionLost_effect⟩
  show execOutputWrite req s = _
  simp only [execOutputWrite, hx, hst, hnew, hout, ne_eq, not_true_eq_false, Bool.false_eq_true, or_self, if_false, if_true]

end Sys2Proof.Machine
end

section
/-! SUPPORT. Searches: admission, the batch that closes, and its results (07 R176, R186 to R190, R195, R200). -/

open Sys2Proof Sys2Proof.Machine Sys2Proof.Claims

namespace Sys2Proof.Machine

/-! Admission (R186, R195) -/

theorem req_of_atStage {s : State} {r : W32} {k : Nat} {x : Request} (h : s.atStage r k = some x) : s.req? r = some x ∧ x.state = .stage := by
  unfold State.atStage at h
  split at h
  · next y hy =>
    split at h
    · next hk =>
      obtain rfl := Option.some.inj h
      exact ⟨hy, hk.2.1⟩
    · exact nomatch h
  · exact nomatch h

theorem searchAdmit_effect (req : W32) (bs : Bytes) (s : State) (x : Request) (c : Coll) (b : Bytes) (hb : rdBlock x.desc 3 256 = b)
    (hx : s.atStage req 2 = some x) (hnone : x.search = none) (hc : s.coll? (sbColl b) = some c) (hblock : searchBlockBad b = false)
    (hdim : sbHost b = false → x.qvec.length = c.dim) (hmin : sbMinEpoch b = 0 ∨ sbMinEpoch b ≤ c.epoch) : ∃ u,
    exec (.searchAdmit req (.data bs)) s = .next u ∧
    u.req? req = some { x with search := some ⟨sbColl b, c.epoch, c.cur.num,
      if sbHost b then wordsOfBytes bs c.dim else x.qvec, false, none⟩ } ∧
    u.coll? (sbColl b) = some { c with cur := { c.cur with pins := c.cur.pins ++ [req] }, batch := c.batch ++ [req] } ∧
    u = { s with reqs := u.reqs, colls := u.colls } := by
  have hbad : (searchBlockBad b || (!(sbHost b) && decide (x.qvec.length ≠ c.dim))) = false := by
    rw [hblock]
    cases hh : sbHost b with
    | true => rfl
    | false => simp [hdim hh]
  have hquery : queryOf x c (sbHost b) (.data bs) = .ok (if sbHost b then wordsOfBytes bs c.dim else x.qvec) := by
    cases sbHost b <;> rfl
  have hepoch : ¬(sbMinEpoch b ≠ 0 ∧ c.epoch < sbMinEpoch b) := by omega
  refine ⟨s.pinSearch req x (sbColl b) c (if sbHost b then wordsOfBytes bs c.dim else x.qvec) false, ?_, req_setReq _ _ _,
    KMap.find_put_self _ _ _, rfl⟩
  show execSearchAdmit req (.data bs) s = _
  simp only [execSearchAdmit, hx, hb, hc, hnone, hbad, hquery, if_neg hepoch, Option.isSome_none, Bool.false_eq_true, if_false]

/-! The queries of a batch keep their requests and epochs (R187 to R190) -/

/-- Whose a query is, and the epoch it runs under. -/
def Query.tag (q : Query) : W32 × Nat := (q.r, q.epoch)

theorem tag_item (q : Query) (s : State) (c : Coll) (v : CollVersion) (bn : Nat) (b : Bin) (j k : Nat) :
    (q.item s c v bn b j k).tag = q.tag := by
  unfold Query.item
  dsimp only
  split
  · rfl
  · split
    · rfl
    · split
      · rfl
      · rfl

theorem map_tag_mapIdx (qs : List Query) (f : Nat → Query → Query) (h : ∀ i q, (f i q).tag = q.tag) :
    (qs.mapIdx f).map Query.tag = qs.map Query.tag := by
  refine List.ext_getElem (by simp) fun i _ _ => ?_
  simp only [List.getElem_map, List.getElem_mapIdx, h]

theorem tags_scanBin (s : State) (c : Coll) (v : CollVersion) (bn : Nat) (acc : List Query × Nat × Nat × Nat) :
    (scanBin s c v bn acc).1.map Query.tag = acc.1.map Query.tag := by
  obtain ⟨qs, k, bins, items⟩ := acc
  simp only [scanBin]
  split
  · rw [List.map_map]
    refine List.map_congr_left fun q _ => ?_
    simp only [Function.comp_apply]
    split <;> rfl
  · generalize List.range (s.bin v bn).count = js
    show (js.foldl _ qs).map Query.tag = qs.map Query.tag
    induction js generalizing qs with
    | nil => rfl
    | cons j js ih => exact (ih _).trans (map_tag_mapIdx _ _ fun i q => tag_item q _ _ _ _ _ _ _)

theorem tags_scanBins (s : State) (c : Coll) (v : CollVersion) (bns : NSet) (acc : List Query × Nat × Nat × Nat) :
    (bns.foldl (fun acc b => scanBin s c v b acc) acc).1.map Query.tag = acc.1.map Query.tag := by
  induction bns generalizing acc with
  | nil => rfl
  | cons b bns ih => exact (ih _).trans (tags_scanBin s c v b acc)

theorem tags_sides (c : Coll) (v : CollVersion) (k : Nat) (es : List (SideSlot × Nat)) (qs : List Query) :
    (es.foldl (fun qs e => qs.mapIdx (fun i q => q.sideSlot c v e.1 (k + 64 * e.2 + i))) qs).map Query.tag = qs.map Query.tag := by
  induction es generalizing qs with
  | nil => rfl
  | cons e es ih => exact (ih _).trans (map_tag_mapIdx _ _ fun i q => rfl)

/-- A request that is in search, and the epoch it was admitted under. -/
def State.searches (s : State) (r : W32) (e : Nat) : Prop := ∃ x se, s.req? r = some x ∧ x.search = some se ∧ se.epoch = e

/-- A walk exists for each request of the batch that is in search, under its own epoch. -/
theorem tags_walkAll (s : State) (c : Coll) (v : CollVersion) (rs : List W32) (k : Nat) :
    (∀ q ∈ (s.walkAll c v rs k).1, s.searches q.r q.epoch) ∧
    ∀ r ∈ rs, ∀ e, s.searches r e → (r, e) ∈ (s.walkAll c v rs k).1.map Query.tag := by
  have hwalk : ∀ r k q, s.walkQuery c v r k = some q → q.r = r ∧ s.searches r q.epoch := fun r k q hq => by
    unfold State.walkQuery at hq
    split at hq
    · exact nomatch hq
    · next x hx =>
      split at hq
      · exact nomatch hq
      · next se hse => exact Option.some.inj hq ▸ ⟨rfl, x, se, hx, hse, rfl⟩
  have hsome : ∀ r k e, s.searches r e → ∃ q, s.walkQuery c v r k = some q := fun r k e ⟨x, se, hx, hse, _⟩ => by
    simp only [State.walkQuery, hx, hse]
    exact ⟨_, rfl⟩
  induction rs generalizing k with
  | nil => exact ⟨fun _ h => (nomatch h), fun _ h => (nomatch h)⟩
  | cons r rs ih =>
    cases hq : s.walkQuery c v r k with
    | none =>
      have heq : s.walkAll c v (r :: rs) k = s.walkAll c v rs k := by simp only [State.walkAll, hq]
      rw [heq]
      refine ⟨(ih k).1, fun r' hr' e he => ?_⟩
      rcases List.mem_cons.1 hr' with rfl | hr'
      · obtain ⟨q, hq'⟩ := hsome r' k e he
        rw [hq] at hq'; exact nomatch hq'
      · exact (ih k).2 r' hr' e he
    | some q =>
      have heq : (s.walkAll c v (r :: rs) k).1 = q :: (s.walkAll c v rs q.walk.k).1 := by simp only [State.walkAll, hq]
      obtain ⟨hr, x, se, hx, hse, hep⟩ := hwalk r k q hq
      rw [heq]
      refine ⟨fun q' hq' => ?_, fun r' hr' e he => ?_⟩
      · rcases List.mem_cons.1 hq' with rfl | hq'
        · exact ⟨x, se, hr ▸ hx, hse, hep⟩
        · exact (ih _).1 q' hq'
      · rcases List.mem_cons.1 hr' with rfl | hr'
        · obtain ⟨x', se', hx', hse', he'⟩ := he
          obtain rfl := Option.some.inj (hx.symm.trans hx')
          obtain rfl := Option.some.inj (hse.symm.trans hse')
          exact List.mem_map.2 ⟨q, List.mem_cons_self, Prod.ext hr (hep.symm.trans he')⟩
        · obtain ⟨q', hq', htag⟩ := List.mem_map.1 ((ih _).2 r' hr' e he)
          exact List.mem_map.2 ⟨q', List.mem_cons_of_mem _ hq', htag⟩

/-- The queries of a batch after the scan of the bins, with the draws, the bins and the items counted. -/
def State.scanBins (s : State) (c : Coll) (v : CollVersion) (rs : List W32) : List Query × Nat × Nat × Nat :=
  let a := s.walkAll c v rs s.free
  (unionOf a.1).foldl (fun acc b => scanBin s c v b acc) (a.1, a.2, 0, 0)

/-- The side slots that every query of a batch meets. -/
def Coll.inserts (c : Coll) : List SideSlot := c.side.filter (·.insert)

/-- The queries of a batch after the scan of the bins and of the side slots. -/
def State.scanned (s : State) (c : Coll) (v : CollVersion) (rs : List W32) : List Query :=
  c.inserts.zipIdx.foldl (fun qs e => qs.mapIdx (fun i q => q.sideSlot c v e.1 ((s.scanBins c v rs).2.1 + 64 * e.2 + i)))
    (s.scanBins c v rs).1

theorem tags_scanned (s : State) (c : Coll) (v : CollVersion) (rs : List W32) :
    (s.scanned c v rs).map Query.tag = (s.walkAll c v rs s.free).1.map Query.tag :=
  (tags_sides c v _ _ _).trans (tags_scanBins s c v _ _)

/-! Results (R190) -/

/-- A request has a result whose header gives an epoch. -/
def State.hasResult (s : State) (r : W32) (e : Nat) : Prop :=
  ∃ y se bs, s.req? r = some y ∧ y.search = some se ∧ se.result = some bs ∧ slice bs 0 6 = leBytes 6 e

theorem slice_prefix (xs ys : Bytes) : slice (xs ++ ys) 0 xs.length = xs := by
  refine List.ext_getElem (by simp [slice]) fun i hi hi' => ?_
  simp only [slice, List.getElem_map, List.getElem_range, Nat.zero_add]
  rw [List.getD_append _ _ _ _ hi', List.getD_eq_getElem _ _ hi']

theorem epoch_bytes (v : CollVersion) (free : Nat) (q : Query) : slice (q.bytes v free) 0 6 = leBytes 6 q.epoch := by
  obtain ⟨ys, hys⟩ : ∃ ys, q.bytes v free = leBytes 6 q.epoch ++ ys := by
    unfold Query.bytes
    dsimp only
    simp only [List.append_assoc]
    exact ⟨_, rfl⟩
  have h := slice_prefix (leBytes 6 q.epoch) ys
  rw [length_leBytes] at h
  rw [hys, h]

/-- What results change: requests, counts and draws. -/
def ResultFrame (s u : State) : Prop := u = { s with reqs := u.reqs, free := u.free, cnt := u.cnt }

theorem ResultFrame.trans {s u w : State} (hu : ResultFrame s u) (hw : ResultFrame u w) : ResultFrame s w := by
  unfold ResultFrame at hu
  exact Eq.trans hw (by rw [hu])

theorem resultFrame_bump (s : State) (k n : Nat) : ResultFrame s (s.bump k n) := by
  obtain ⟨c, hc⟩ := s.bump_frame k n
  rw [hc]; rfl

/-- The record of a query's request with its result in it. -/
def State.answered (s : State) (v : CollVersion) (q : Query) : State :=
  ({ s with free := s.free + 3 } : State).modReq q.r (fun x => { x with search := x.search.map (fun se => { se with
    result := some (q.bytes v s.free) }) })

theorem putResult_eq (s : State) (v : CollVersion) (q : Query) : ∃ c, s.putResult v q = { s.answered v q with cnt := c } := by
  have heq : s.putResult v q = ((((s.answered v q).bump (okey 0x2500 6) q.walk.dangling).bump (okey 0x2500 7) q.walk.fallbacks).bump
    (okey 0x2500 8) q.filtered).bump (okey 0x2500 9) q.poison := rfl
  obtain ⟨c, hc⟩ := State.bump_frame (s.answered v q) (okey 0x2500 6) q.walk.dangling
  obtain ⟨c', hc'⟩ := State.bump_frame { s.answered v q with cnt := c } (okey 0x2500 7) q.walk.fallbacks
  obtain ⟨c'', hc''⟩ := State.bump_frame { s.answered v q with cnt := c' } (okey 0x2500 8) q.filtered
  obtain ⟨c3, hc3⟩ := State.bump_frame { s.answered v q with cnt := c'' } (okey 0x2500 9) q.poison
  exact ⟨c3, by rw [heq, hc, hc', hc'', hc3]⟩

theorem answered_effect (s : State) (v : CollVersion) (q : Query) : ResultFrame s (s.answered v q) ∧
    (∀ e, s.searches q.r e → (s.answered v q).hasResult q.r q.epoch) ∧ ∀ r, r ≠ q.r → (s.answered v q).req? r = s.req? r := by
  unfold State.answered State.modReq
  have hreq : ∀ r, ({ s with free := s.free + 3 } : State).req? r = s.req? r := fun _ => rfl
  split
  · next x hx =>
    refine ⟨rfl, fun e ⟨y, se, hy, hse, _⟩ => ?_, fun r hr => (req_setReq_ne _ _ hr).trans (hreq r)⟩
    obtain rfl := Option.some.inj (hx.symm.trans hy)
    exact ⟨_, { se with result := some (q.bytes v s.free) }, _, req_setReq _ _ _, by dsimp only; rw [hse]; rfl, rfl, epoch_bytes v s.free q⟩
  · next hx => exact ⟨rfl, fun e ⟨y, se, hy, _⟩ => absurd (hx.symm.trans hy) nofun, fun r _ => rfl⟩

theorem putResult_effect (s : State) (v : CollVersion) (q : Query) : ResultFrame s (s.putResult v q) ∧
    (∀ e, s.searches q.r e → (s.putResult v q).hasResult q.r q.epoch) ∧ ∀ r, r ≠ q.r → (s.putResult v q).req? r = s.req? r := by
  obtain ⟨c, hc⟩ := putResult_eq s v q
  obtain ⟨hframe, hself, hothers⟩ := answered_effect s v q
  rw [hc]
  exact ⟨hframe.trans rfl, hself, hothers⟩

theorem State.hasResult.searches {s : State} {r : W32} {e : Nat} (h : s.hasResult r e) : ∃ e', s.searches r e' := by
  obtain ⟨y, se, -, hy, hse, -⟩ := h
  exact ⟨_, y, se, hy, hse, rfl⟩

/-- A request in search has its result once a query of its own has put one, if all its queries run under one epoch. -/
theorem foldl_putResult (v : CollVersion) (r : W32) (e : Nat) (qs : List Query) (hone : ∀ q ∈ qs, q.r = r → q.epoch = e) (s : State)
    (h : s.hasResult r e ∨ (∃ e', s.searches r e') ∧ ∃ q ∈ qs, q.r = r) : (qs.foldl (fun s q => s.putResult v q) s).hasResult r e := by
  induction qs generalizing s with
  | nil => exact h.elim id fun h => h.2.elim fun _ hq => nomatch hq.1
  | cons q qs ih =>
    obtain ⟨-, hself, hothers⟩ := putResult_effect s v q
    refine ih (fun q' hq' => hone q' (List.mem_cons_of_mem _ hq')) _ ?_
    by_cases hq : q.r = r
    · have hs : ∃ e', s.searches r e' := h.elim State.hasResult.searches And.left
      obtain ⟨e', he'⟩ := hs
      have hres := hself e' (hq ▸ he')
      rw [hq, hone q List.mem_cons_self hq] at hres
      exact .inl hres
    · have hsame := hothers r fun he => hq he.symm
      simp only [State.hasResult, State.searches, hsame] at h ⊢
      refine h.imp id fun ⟨hs, q', hq', hr⟩ => ⟨hs, q', ?_, hr⟩
      rcases List.mem_cons.1 hq' with rfl | hq'
      · exact absurd hr hq
      · exact hq'

theorem resultFrame_foldl (v : CollVersion) (qs : List Query) (s : State) :
    ResultFrame s (qs.foldl (fun s q => s.putResult v q) s) := by
  induction qs generalizing s with
  | nil => rfl
  | cons q qs ih => exact (putResult_effect s v q).1.trans (ih _)

/-- A batch taken out of its collection's list. -/
def State.closeBatch (s : State) (h : Nat) (c : Coll) (f : Nat) : State :=
  { s with free := f, colls := s.colls.put h { c with batch := c.batch.filter (fun x => !((s.batchOf c).contains x)) } }

/-- A batch taken from its collection's list, scanned and counted. -/
theorem batchClose_run {coll : Fin 256} {s : State} {c : Coll} (hc : s.coll? coll = some c) (hne : s.batchOf c ≠ []) : ∃ v f w,
    exec (.batchClose coll) s = .next ((s.scanned c v (s.batchOf c)).foldl (fun s q => s.putResult v q) w) ∧
    ∃ n, w = { s.closeBatch coll c f with cnt := n } := by
  obtain ⟨r, rest, hrs⟩ := List.exists_cons_of_ne_nil hne
  generalize hv : c.version (((s.req? r).bind (fun x => x.search.map (·.version))).getD c.cur.num) = v
  generalize hf : (s.scanBins c v (s.batchOf c)).2.1 + 64 * c.inserts.length = f
  have hrun : exec (.batchClose coll) s = .next ((s.scanned c v (s.batchOf c)).foldl (fun s q => s.putResult v q)
      ((((s.closeBatch coll c f).bump (okey 0x2500 3) (s.scanBins c v (s.batchOf c)).2.2.1).bump (okey 0x2500 4)
        (s.scanBins c v (s.batchOf c)).2.2.2).bump (okey 0x2500 5) c.inserts.length)) := by
    show execBatchClose coll s = _
    rw [← hf, ← hv]
    simp only [execBatchClose, hc, State.closeBatch, hrs]
    rfl
  obtain ⟨n, hn⟩ := State.bump_frame (s.closeBatch coll c f) (okey 0x2500 3) (s.scanBins c v (s.batchOf c)).2.2.1
  obtain ⟨n', hn'⟩ := State.bump_frame { s.closeBatch coll c f with cnt := n } (okey 0x2500 4) (s.scanBins c v (s.batchOf c)).2.2.2
  obtain ⟨n'', hn''⟩ := State.bump_frame { s.closeBatch coll c f with cnt := n' } (okey 0x2500 5) c.inserts.length
  exact ⟨v, f, _, hrun, n'', by rw [hn, hn', hn'']⟩

theorem batchClose_effect (coll : Fin 256) (s : State) (c : Coll) (hc : s.coll? coll = some c) (hne : s.batchOf c ≠ []) : ∃ u,
    exec (.batchClose coll) s = .next u ∧
    u.coll? coll = some { c with batch := c.batch.filter (fun r => !((s.batchOf c).contains r)) } ∧
    (∀ r ∈ s.batchOf c, ∀ x se, s.req? r = some x → x.search = some se → ∃ y se' bs, u.req? r = some y ∧ y.search = some se' ∧
      se'.result = some bs ∧ slice bs 0 6 = leBytes 6 se.epoch) ∧
    u = { s with reqs := u.reqs, colls := u.colls, free := u.free, cnt := u.cnt } := by
  obtain ⟨v, f, w, hrun, n, hw⟩ := batchClose_run hc hne
  have hreq : ∀ r, w.req? r = s.req? r := fun r => by rw [hw]; rfl
  have hframe := resultFrame_foldl v (s.scanned c v (s.batchOf c)) w
  have htags := tags_scanned s c v (s.batchOf c)
  obtain ⟨hown, hall⟩ := tags_walkAll s c v (s.batchOf c) s.free
  rw [← htags] at hall
  have hown' : ∀ q ∈ s.scanned c v (s.batchOf c), s.searches q.r q.epoch := fun q hq => by
    have hmem : q.tag ∈ (s.walkAll c v (s.batchOf c) s.free).1.map Query.tag := htags ▸ List.mem_map.2 ⟨q, hq, rfl⟩
    obtain ⟨q', hq', htag⟩ := List.mem_map.1 hmem
    obtain ⟨hr, he⟩ := Prod.mk.inj htag
    exact hr ▸ he ▸ hown q' hq'
  generalize s.scanned c v (s.batchOf c) = qs at hrun hframe hall hown'
  refine ⟨_, hrun, ?_, fun r hr x se hx hse => ?_, ?_⟩
  · unfold ResultFrame at hframe
    rw [hframe, hw]
    exact KMap.find_put_self _ _ _
  · refine foldl_putResult v r se.epoch qs (fun q hq hqr => ?_) w (.inr ⟨⟨se.epoch, x, se, (hreq r).trans hx, hse, rfl⟩, ?_⟩)
    · obtain ⟨x', se', hx', hse', he⟩ := hown' q hq
      rw [hqr] at hx'
      obtain rfl := Option.some.inj (hx.symm.trans hx')
      obtain rfl := Option.some.inj (hse.symm.trans hse')
      exact he.symm
    · obtain ⟨q, hq, htag⟩ := List.mem_map.1 (hall r hr se.epoch ⟨x, se, hx, hse, rfl⟩)
      exact ⟨q, hq, (Prod.mk.inj htag).1⟩
  · unfold ResultFrame at hframe
    rw [hframe, hw]; rfl

theorem searchResult_effect (req : W32) (s : State) (x : Request) (bs : Bytes) (hx : s.atStage req 2 = some x)
    (hres : x.search.bind (·.result) = some bs) (hnew : x.stageOutput ≠ bs) : ∃ u y, exec (.searchResult req) s = .next u ∧
    u.req? req = some y ∧ y.stageOutput = bs ∧ (field bs 6 1 = 2 → .poisoned ∈ y.conds) ∧ (field bs 6 1 = 3 → .degraded ∈ y.conds) ∧
    (field bs 6 1 ≠ 2 → field bs 6 1 ≠ 3 → y = { x with stageOutput := bs }) ∧
    u.count (okey 0x2500 2) = (s.count (okey 0x2500 2) + 1) % 2 ^ 64 ∧ u = { s with reqs := u.reqs, cnt := u.cnt } := by
  generalize hz : (if field bs 6 1 = 2 then x.note .poisoned else if field bs 6 1 = 3 then x.note .degraded else x) = z
  have hrun : exec (.searchResult req) s = .next ((s.bump (okey 0x2500 2) 1).setReq req { z with stageOutput := bs }) := by
    show execSearchResult req s = _
    simp only [execSearchResult, hx, hres, hnew, if_false, hz]
  have hbump := State.count_bump s (okey 0x2500 2) 1 (okey 0x2500 2)
  rw [if_pos ⟨Nat.one_ne_zero, rfl⟩] at hbump
  obtain ⟨n, hn⟩ := s.bump_frame (okey 0x2500 2) 1
  rw [hn] at hrun hbump
  refine ⟨_, _, hrun, req_setReq _ _ _, rfl, fun h => ?_, fun h => ?_, fun h2 h3 => ?_, hbump, rfl⟩
  · rw [← hz, if_pos h]
    exact mem_conds_note x .poisoned
  · rw [← hz, if_neg (by rw [h]; decide), if_pos h]
    exact mem_conds_note x .degraded
  · rw [← hz, if_neg h2, if_neg h3]

/-- Settles O33: the queries of a batch keep their request and epoch through the scan (`tags_scanned`), and each puts its result. -/
theorem searchCommands : Obligations.SearchCommands := by
  unfold Obligations.SearchCommands
  refine ⟨fun req bs s x c hx hnone => ?_, batchClose_effect, searchResult_effect⟩
  intro b hc hblock hdim hmin
  exact searchAdmit_effect req bs s x c b rfl hx hnone hc hblock hdim hmin

end Sys2Proof.Machine
end

section
/-! SUPPORT. Updates, folds and versions of a collection (07 R191 to R194, R197, R198). -/

open Sys2Proof Sys2Proof.Machine Sys2Proof.Claims

namespace Sys2Proof.Machine

/-! A request that ends (R267) -/

theorem failReq_live {s : State} {r : W32} {x : Request} (st : Status) (hx : s.req? r = some x) (hlive : x.state ≠ .writing) :
    s.failReq r st = (s.leaveQueues r).setReq r { x.note st with state := .writing, lookup := none, lastStage := x.stage } := by
  have hl : x.live = true := decide_eq_true hlive
  simp only [State.failReq, hx, hl, if_true]

/-- A collection whose batch a request has left. -/
def Coll.left (r : W32) (c : Coll) : Coll := { c with batch := unpin c.batch r }

theorem coll_leaveQueues (s : State) (r : W32) (h : Nat) : (s.leaveQueues r).coll? h = (s.coll? h).map (Coll.left r) :=
  find_map_values s.colls (Coll.left r) h

/-! Updates (R191 to R194) -/

theorem updateOf_stage {s : State} {h : Nat} {r : W32} {x : Request} (hup : s.updateOf h = some (r, x)) : x.state = .stage := by
  obtain ⟨e, he, heq⟩ := Option.map_eq_some_iff.1 hup
  have hp := List.find?_some he
  simp only [Bool.and_eq_true, beq_iff_eq] at hp
  rw [← (Prod.mk.inj heq).2]
  exact hp.1.2

/-- The entries of an update, one by one, on a collection. -/
def State.sideEntries (s : State) (epoch : Nat) (es : List Bytes) (c : Coll) : Coll := es.foldl (fun c e => s.sideEntry epoch c e) c

/-- Each entry adds one slot of the update's epoch behind the others. -/
theorem side_sideEntries (s : State) (epoch : Nat) (es : List Bytes) (c : Coll) : ∃ new, (s.sideEntries epoch es c).side = c.side ++ new ∧
    new.length = es.length ∧ ∀ sd ∈ new, sd.epoch = epoch := by
  induction es generalizing c with
  | nil => exact ⟨[], (List.append_nil _).symm, rfl, fun _ h => nomatch h⟩
  | cons e es ih =>
    obtain ⟨new, hside, hlen, hepoch⟩ := ih (s.sideEntry epoch c e)
    obtain ⟨sd, hone, hsd⟩ : ∃ sd, (s.sideEntry epoch c e).side = c.side ++ [sd] ∧ sd.epoch = epoch := ⟨_, rfl, rfl⟩
    refine ⟨sd :: new, ?_, congrArg Nat.succ hlen, fun y hy => ?_⟩
    · rw [State.sideEntries, List.foldl_cons]
      exact hside.trans (by rw [hone, List.append_assoc]; rfl)
    · rcases List.mem_cons.1 hy with rfl | hy
      · exact hsd
      · exact hepoch y hy

/-- What a committed update returns. -/
def updateResult (epoch n : Nat) : Bytes := leBytes 6 epoch ++ [0, 0] ++ leBytes 4 n ++ [0, 0, 0, 0]

/-- A collection put back after an update of it. -/
def State.putBack (s : State) (coll src : Nat) (c : Coll) : State :=
  { s with
    colls := s.colls.put coll c
    free := s.free + c.sideSeq + 1
    arb := s.arb.put (commitArb coll) ((src + 1) % 64) }

/-- An update counted. -/
def State.commit (s : State) (coll src : Nat) (c : Coll) : State := (s.putBack coll src c).bump (okey 0x2500 0x0B) 1

theorem commit_effect (s : State) (coll src : Nat) (c : Coll) : (s.commit coll src c).coll? coll = some c ∧
    (∀ r, (s.commit coll src c).req? r = s.req? r) ∧
    (s.commit coll src c).count (okey 0x2500 0x0B) = (s.count (okey 0x2500 0x0B) + 1) % 2 ^ 64 ∧ (s.commit coll src c).mem = s.mem ∧
    (s.commit coll src c).jobs = s.jobs := by
  have hbump := State.count_bump (s.putBack coll src c) (okey 0x2500 0x0B) 1 (okey 0x2500 0x0B)
  rw [if_pos ⟨Nat.one_ne_zero, rfl⟩] at hbump
  obtain ⟨n, hn⟩ := State.bump_frame (s.putBack coll src c) (okey 0x2500 0x0B) 1
  rw [State.commit]
  rw [hn] at hbump ⊢
  exact ⟨KMap.find_put_self _ _ _, fun _ => rfl, hbump, rfl, rfl⟩

/-- The entries of an update of `n` over vectors of `dim` words. -/
def updateEntries (bs : Bytes) (n dim : Nat) : List Bytes := (List.range n).map (fun i => slice bs (i * (32 + 4 * dim)) (32 + 4 * dim))

/-- The collection after an update, under its next epoch. -/
def State.updated (s : State) (c : Coll) (es : List Bytes) : Coll := { s.sideEntries (c.epoch + 1) es c with epoch := c.epoch + 1 }

/-- An update that passes its checks is committed, and its entry ends OK. -/
theorem updateCommit_run {coll : Fin 256} (src : DieNo) {bs : Bytes} {s : State} {r : W32} {x : Request} {c : Coll}
    (hup : s.updateOf coll = some (r, x)) (hc : s.coll? coll = some c) (hblock : updateBlockBad x.block = false)
    (hwin : s.windowConds (s.reqContext x) (field x.block 8 2) (field x.block 16 8) (ubCount x.block * (32 + 4 * c.dim)) false = [])
    (hes : ∀ i < ubCount x.block, updateEntryBad c.dim (slice bs (i * (32 + 4 * c.dim)) (32 + 4 * c.dim)) = false)
    (hfit : c.side.length + ubCount x.block ≤ c.sideCap) (hep : c.epoch + 1 ≤ 0xFFFFFFFFFFFF) :
    exec (.updateCommit coll src (.data bs)) s = .next (((s.commit coll src (s.updated c (updateEntries bs (ubCount x.block) c.dim))).modReq r
      (fun x' => { x' with resultBytes := updateResult (c.epoch + 1) (ubCount x.block) })).failReq r .ok) := by
  have hany : (updateEntries bs (ubCount x.block) c.dim).any (updateEntryBad c.dim) = false := by
    rw [updateEntries, List.any_map, List.any_eq_false]
    intro i hi
    rw [Function.comp_apply, hes i (List.mem_range.1 hi)]
    exact Bool.false_ne_true
  have hok : ¬(c.side.length + ubCount x.block > c.sideCap ∨ c.epoch + 1 > 0xFFFFFFFFFFFF) := by omega
  generalize hlist : updateEntries bs (ubCount x.block) c.dim = es at hany ⊢
  unfold updateEntries at hlist
  unfold State.updated
  generalize hd : s.sideEntries (c.epoch + 1) es c = d
  unfold State.sideEntries at hd
  show execUpdateCommit coll src (.data bs) s = _
  simp only [execUpdateCommit, hup, hc, hblock, hwin, hlist, hany, if_neg hok, hd, Bool.false_eq_true, if_false]
  rfl

/-- The end of an update's entry: its result, and OK among its conditions. -/
theorem endOk_effect {s : State} {r : W32} {x : Request} (f : Request → Request) (hx : s.req? r = some x) (hst : (f x).state = .stage) :
    ((s.modReq r f).failReq r .ok).req? r = some { (f x).note .ok with state := .writing, lookup := none, lastStage := (f x).stage } ∧
    (∀ h, ((s.modReq r f).failReq r .ok).coll? h = (s.coll? h).map (Coll.left r)) ∧
    ((s.modReq r f).failReq r .ok).cnt = s.cnt ∧ ((s.modReq r f).failReq r .ok).mem = s.mem ∧
    ((s.modReq r f).failReq r .ok).jobs = s.jobs ∧ ((s.modReq r f).failReq r .ok).tables = s.tables := by
  have hmod : s.modReq r f = s.setReq r (f x) := by simp only [State.modReq, hx]
  rw [hmod, failReq_live .ok (req_setReq s r (f x)) (by rw [hst]; exact nofun)]
  exact ⟨req_setReq _ _ _, fun h => coll_leaveQueues _ r h, rfl, rfl, rfl, rfl⟩

theorem updateCommit_effect (coll : Fin 256) (src : DieNo) (bs : Bytes) (s : State) (r : W32) (x : Request) (c : Coll)
    (hup : s.updateOf coll = some (r, x)) (hx : s.req? r = some x) (hc : s.coll? coll = some c) (hblock : updateBlockBad x.block = false)
    (hwin : s.windowConds (s.reqContext x) (field x.block 8 2) (field x.block 16 8) (ubCount x.block * (32 + 4 * c.dim)) false = [])
    (hes : ∀ i < ubCount x.block, updateEntryBad c.dim (slice bs (i * (32 + 4 * c.dim)) (32 + 4 * c.dim)) = false)
    (hfit : c.side.length + ubCount x.block ≤ c.sideCap) (hep : c.epoch + 1 ≤ 0xFFFFFFFFFFFF) :
    ∃ u c' y, exec (.updateCommit coll src (.data bs)) s = .next u ∧ u.coll? coll = some c' ∧ c'.epoch = c.epoch + 1 ∧
    c'.side.length = c.side.length + ubCount x.block ∧ c'.side.take c.side.length = c.side ∧
    (∀ sd ∈ c'.side.drop c.side.length, sd.epoch = c.epoch + 1) ∧ u.req? r = some y ∧ y.state = .writing ∧ .ok ∈ y.conds ∧
    y.resultBytes = leBytes 6 (c.epoch + 1) ++ [0, 0] ++ leBytes 4 (ubCount x.block) ++ [0, 0, 0, 0] ∧
    u.count (okey 0x2500 0x0B) = (s.count (okey 0x2500 0x0B) + 1) % 2 ^ 64 ∧ u.mem = s.mem ∧ u.jobs = s.jobs := by
  have hrun := updateCommit_run src hup hc hblock hwin hes hfit hep
  obtain ⟨new, hside, hlen, hepoch⟩ := side_sideEntries s (c.epoch + 1) (updateEntries bs (ubCount x.block) c.dim) c
  rw [updateEntries, List.length_map, List.length_range] at hlen
  have hdside : (s.updated c (updateEntries bs (ubCount x.block) c.dim)).side = c.side ++ new := hside
  have hdepoch : (s.updated c (updateEntries bs (ubCount x.block) c.dim)).epoch = c.epoch + 1 := rfl
  generalize s.updated c (updateEntries bs (ubCount x.block) c.dim) = d at hrun hdside hdepoch
  obtain ⟨hcoll, hreq, hcount, hmem, hjobs⟩ := commit_effect s coll src d
  generalize s.commit coll src d = w at hrun hcoll hreq hcount hmem hjobs
  obtain ⟨hy, hcolls, hcnt, hmem', hjobs', -⟩ := endOk_effect
    (fun x' => { x' with resultBytes := updateResult (c.epoch + 1) (ubCount x.block) }) ((hreq r).trans hx)
    (show x.state = .stage from updateOf_stage hup)
  refine ⟨_, _, _, hrun, (hcolls coll).trans (congrArg (Option.map (Coll.left r)) hcoll), hdepoch, ?_, ?_, fun sd hsd => hepoch sd ?_, hy, rfl,
    mem_conds_note _ _, ?_, ?_, hmem'.trans hmem, hjobs'.trans hjobs⟩
  · show d.side.length = _
    rw [hdside, List.length_append, hlen]
  · show d.side.take _ = _
    rw [hdside, List.take_left']
    rfl
  · replace hsd : sd ∈ d.side.drop c.side.length := hsd
    rwa [hdside, List.drop_left' rfl] at hsd
  · unfold Request.note
    split <;> rfl
  · rw [← hcount, State.count, hcnt]; rfl

/-! Folds and versions (R197, R198) -/

/-- A collection whose older version has gone with the side slots folded into the current one. -/
def Coll.released (c : Coll) : Coll :=
  { c with
    old := none
    side := c.side.filter (fun sd => decide (sd.epoch > c.cur.foldEpoch))
    cur := { c.cur with hides := c.cur.hides.filter (fun h =>
      !((c.side.filter (fun sd => decide (sd.epoch ≤ c.cur.foldEpoch))).any (fun sd => h.target == .side sd.num))) } }

/-- What a release of a version changes: the collections, and the pages it has recycled. -/
def VersionFrame (s u : State) : Prop := u = { s with colls := u.colls, pages := u.pages }

theorem releaseVersion_effect {s : State} (h : Nat) {c : Coll} {v : CollVersion} (hold : c.old = some v) (hpins : v.pins = []) :
    VersionFrame s (s.releaseVersion h c) ∧ (s.releaseVersion h c).colls = s.colls.put h c.released := by
  simp only [State.releaseVersion, hold, hpins, ne_eq, not_true_eq_false, if_false]
  split <;> split <;> exact ⟨rfl, rfl⟩

theorem versionFrame_releaseVersion (s : State) (h : Nat) (c : Coll) : VersionFrame s (s.releaseVersion h c) := by
  cases hold : c.old with
  | none => simp only [State.releaseVersion, hold]; rfl
  | some v =>
    by_cases hpins : v.pins = []
    · exact (releaseVersion_effect h hold hpins).1
    · simp only [State.releaseVersion, hold, hpins, ne_eq, not_false_eq_true, if_true]; rfl

/-- A version published in place of the current one. -/
def Coll.fold (c : Coll) (v : CollVersion) : Coll := { c with cur := v, old := some c.cur, held := none, epoch := c.epoch + 1 }

theorem doFold_eq {s : State} {h : Nat} {c : Coll} {f : FoldRequest} (hok : s.foldOk (s.foldVersion c f) = true)
    (hep : c.epoch + 1 ≤ 0xFFFFFFFFFFFF) (hfe : f.foldEpoch ≤ c.epoch) :
    s.doFold h c f = ({ s with colls := s.colls.put h (c.fold (s.foldVersion c f)) } : State).bump (okey 0x2500 0x0C) 1 := by
  have hgo : ¬((!(s.foldOk (s.foldVersion c f))) = true ∨ c.epoch + 1 > 0xFFFFFFFFFFFF ∨ f.foldEpoch > c.epoch) := by
    rw [hok]
    simp only [Bool.not_true, Bool.false_eq_true, false_or]
    omega
  simp only [State.doFold, if_neg hgo]
  rfl

theorem foldSwitch_run {coll : Fin 256} {f : FoldRequest} {s : State} {c : Coll} {cmd : Instr} (hc : s.coll? coll = some c)
    (hcmd : (∃ jb, cmd = .foldSwitch coll f ∧ s.job? f.job = some jb ∧ jb.state ≠ .ended ∧ c.held = none) ∨
     (cmd = .foldSwitchRelease coll ∧ c.held = some f)) : exec cmd s = .next (s.trySwitch coll f) := by
  rcases hcmd with ⟨jb, rfl, hj, hst, hheld⟩ | ⟨rfl, hheld⟩
  · show execFoldSwitch coll f s = _
    simp only [execFoldSwitch, hc, hj, hst, hheld, Option.isSome_none, Bool.false_eq_true, or_self, if_false]
  · show execFoldSwitchRelease coll s = _
    simp only [execFoldSwitchRelease, hc, Option.bind_some, hheld]

theorem foldSwitch_effect (coll : Fin 256) (f : FoldRequest) (s : State) (c c' : Coll) (jb : Job) (cmd : Instr)
    (hc : s.coll? coll = some c)
    (hcmd : (cmd = .foldSwitch coll f ∧ s.job? f.job = some jb ∧ jb.state ≠ .ended ∧ c.held = none) ∨
     (cmd = .foldSwitchRelease coll ∧ c.held = some f)) (hold : c.old.any (fun v => !v.pins.isEmpty) = false) :
    (let s' := s.releaseVersion coll c
     s'.coll? coll = some c' → s'.foldOk (s'.foldVersion c' f) = true → c'.epoch + 1 ≤ 0xFFFFFFFFFFFF → f.foldEpoch ≤ c'.epoch → ∃ u,
     exec cmd s = .next u ∧
     u.coll? coll = some { c' with cur := s'.foldVersion c' f, old := some c'.cur, held := none, epoch := c'.epoch + 1 } ∧
     u.count (okey 0x2500 0x0C) = (s.count (okey 0x2500 0x0C) + 1) % 2 ^ 64 ∧ u = { s' with colls := u.colls, cnt := u.cnt }) := by
  intro s' hc' hok hep hfe
  have hrun := foldSwitch_run (f := f) hc (hcmd.imp (fun h => ⟨jb, h⟩) id)
  have hframe : VersionFrame s s' := versionFrame_releaseVersion s coll c
  have htry : s.trySwitch coll f = s'.doFold coll c' f := by
    have hs' : s.releaseVersion coll c = s' := rfl
    simp only [State.trySwitch, hc, hold, Bool.false_eq_true, if_false, hs', hc']
  rw [htry, doFold_eq hok hep hfe] at hrun
  clear_value s'
  generalize s'.foldVersion c' f = v at hrun
  have hbump := State.count_bump { s' with colls := s'.colls.put coll (c'.fold v) } (okey 0x2500 0x0C) 1 (okey 0x2500 0x0C)
  rw [if_pos ⟨Nat.one_ne_zero, rfl⟩] at hbump
  obtain ⟨n, hn⟩ := State.bump_frame { s' with colls := s'.colls.put coll (c'.fold v) } (okey 0x2500 0x0C) 1
  have hcnt : s'.cnt = s.cnt := by unfold VersionFrame at hframe; rw [hframe]
  rw [hn] at hrun hbump
  refine ⟨_, hrun, KMap.find_put_self _ _ _, hbump.trans ?_, rfl⟩
  show (KMap.getOr 0 s'.cnt _ + 1) % 2 ^ 64 = _
  rw [hcnt]; rfl

theorem versionRelease_effect (coll : Fin 256) (s : State) (c : Coll) (v : CollVersion) (hc : s.coll? coll = some c)
    (hold : c.old = some v) (hpins : v.pins = []) : ∃ u c', exec (.versionRelease coll) s = .next u ∧ u.coll? coll = some c' ∧
    c'.old = none ∧ c'.epoch = c.epoch ∧ c'.cur.num = c.cur.num ∧
    c'.side = c.side.filter (fun sd => decide (c.cur.foldEpoch < sd.epoch)) ∧ u = { s with colls := u.colls, pages := u.pages } := by
  obtain ⟨hframe, hcolls⟩ := releaseVersion_effect (s := s) coll hold hpins
  have hrun : exec (.versionRelease coll) s = .next (s.releaseVersion coll c) := by
    show execVersionRelease coll s = _
    simp only [execVersionRelease, hc]
  refine ⟨_, c.released, hrun, ?_, rfl, rfl, rfl, rfl, hframe⟩
  rw [State.coll?, hcolls, KMap.find_put_self]

/-- Settles O34: an update's slots stand behind the others (`side_sideEntries`); a switch is `doFold_eq` on the state the release left. -/
theorem updatesAndFolds : Obligations.UpdatesAndFolds := by
  unfold Obligations.UpdatesAndFolds
  refine ⟨fun coll src bs s r x c hup hx hc hblock => ?_, fun coll f s c jb hc hj hst hheld hold => ?_, foldSwitch_effect,
    versionRelease_effect⟩
  · intro n len hwin hes hfit hep
    exact updateCommit_effect coll src bs s r x c hup hx hc hblock hwin hes hfit hep
  · rw [foldSwitch_run (f := f) hc (.inl ⟨jb, rfl, hj, hst, hheld⟩)]
    simp only [State.trySwitch, hc, hold, if_true]

end Sys2Proof.Machine
end

section
/-! SUPPORT. Embedding tables: lookups, serving modes, staging, builds and switches (08 R207 to R218). -/

open Sys2Proof Sys2Proof.Machine Sys2Proof.Claims

namespace Sys2Proof.Machine

/-! Lookups (R207 to R212) -/

theorem lookupAdmit_effect (req : W32) (tr : Transfer) (s : State) (x : Request) (t : ETable) (xs : List Nat) (ws : List W32) (p : Bool)
    (b : Bytes) (hb : rdBlock x.desc 2 64 = b) (hx : s.atStage req 1 = some x) (hhas : rdHas x.desc 2 = true) (hnone : x.lookup = none)
    (hsketch : x.sketch = []) (ht : s.table? (lbTable b) = some t) (hblock : lookupBlockBad b = false)
    (hin : lookupInput b x.query s.free tr = .ok (xs, ws, p)) (hok : p = true ∨ xs.all t.indexOk = true) : ∃ u,
    exec (.lookupAdmit req tr) s = .next u ∧
    u.req? req = some { x with lookup := some ⟨lbTable b, t.cur.num, !t.service, x.home, xs, ws, p⟩ } ∧
    u.table? (lbTable b) = some { t with cur := { t.cur with pins := t.cur.pins ++ [req] } } ∧
    u = { s with reqs := u.reqs, tables := u.tables, free := u.free } := by
  have hgood : (!p && !(xs.all t.indexOk)) = false := by
    rcases hok with rfl | hall
    · rfl
    · rw [hall, Bool.not_true, Bool.and_false]
  generalize hw : ({ s.setTable (lbTable b) { t with cur := { t.cur with pins := t.cur.pins ++ [req] } } with
    free := s.free + lbCount b } : State) = w
  have htable : w.table? (lbTable b) = some { t with cur := { t.cur with pins := t.cur.pins ++ [req] } } := by
    rw [← hw]; exact KMap.find_put_self _ _ _
  have hframe : w = { s with tables := w.tables, free := w.free } := by rw [← hw, State.setTable]
  have hrun : exec (.lookupAdmit req tr) s = .next (w.setReq req { x with
      lookup := some ⟨lbTable b, t.cur.num, !t.service, x.home, xs, ws, p⟩ }) := by
    show execLookupAdmit req tr s = _
    rw [← hw]
    simp only [execLookupAdmit, hx, hhas, hnone, hsketch, hb, ht, hblock, hin, hgood, Option.isSome_none, Bool.not_true, Bool.false_eq_true,
      ne_eq, not_true_eq_false, or_self, if_false]
    rfl
  refine ⟨_, hrun, req_setReq _ _ _, htable, ?_⟩
  rw [hframe]; rfl

/-- Rows and lookups counted: nothing but counters changed. -/
def Counts (s u : State) : Prop := u = { s with cnt := u.cnt }

theorem Counts.trans {s u w : State} (hu : Counts s u) (hw : Counts u w) : Counts s w := by
  unfold Counts at hu
  exact Eq.trans hw (by rw [hu])

theorem Counts.foldl {α : Type} (f : State → α → State) (h : ∀ s x, Counts s (f s x)) (l : List α) (s : State) : Counts s (l.foldl f s) := by
  induction l generalizing s with
  | nil => rfl
  | cons x l ih => exact (h s x).trans (ih _)

theorem counts_dbump (s : State) (d k sub n : Nat) : Counts s (s.dbump d k sub n) := by
  obtain ⟨c, hc⟩ := s.dbump_frame d k sub n
  rw [hc]; rfl

theorem counts_countRows (s : State) (t : ETable) (v : TabVersion) (service : Bool) (xs : List Nat) : Counts s (s.countRows t v service xs) := by
  refine .foldl _ (fun s r => ?_) _ _
  split
  · exact counts_dbump _ _ _ _ _
  · exact counts_dbump _ _ _ _ _

/-- The indices of a lookup with equal rows merged, unless its table serves raw. -/
def Lookup.merged (l : Lookup) (t : ETable) (k : Nat) : List (Nat × W32) :=
  if l.raw then List.zip l.indices l.weights else (List.zip l.indices l.weights).foldl (mergeIndex t k) []

/-- A lookup counted on its home die and on the dies of its rows. -/
def State.countLookup (s : State) (l : Lookup) (t : ETable) (merged : List (Nat × W32)) (gone : List Nat) : State :=
  let s := { s with free := s.free + 1 }
  let s := (s.dbump l.home 0xA 1 1).dbump l.home 0xA 2 (if l.raw then 1 else 0)
  let s := s.dbump l.home 0xA 5 ((List.zip l.indices l.weights).length - merged.length)
  let s := if l.poisonIdx then s else s.countRows t (t.version l.version) (!l.raw) (merged.map (·.1))
  gone.foldl (fun s i => s.dbump (t.owner ((t.rowsOf i).headD (0, 0)).2) 0xA 6 1) s

theorem counts_countLookup (s : State) (l : Lookup) (t : ETable) (merged : List (Nat × W32)) (gone : List Nat) :
    Counts { s with free := s.free + 1 } (s.countLookup l t merged gone) := by
  simp only [State.countLookup]
  refine Counts.trans ?_ (.foldl _ (fun s i => counts_dbump _ _ _ _ _) _ _)
  have hhome := ((counts_dbump { s with free := s.free + 1 } l.home 0xA 1 1).trans (counts_dbump _ l.home 0xA 2
    (if l.raw then 1 else 0))).trans (counts_dbump _ l.home 0xA 5 ((List.zip l.indices l.weights).length - merged.length))
  split
  · exact hhome
  · exact hhome.trans (counts_countRows _ _ _ _ _)

/-- A request whose lookup is done. -/
def Request.lookedUp (x : Request) (l : Lookup) (t : ETable) (b : Bytes) (res : List W32 × Bool × List Nat) : Request :=
  let y : Request := { x with lookup := none, sketch := if l.poisonIdx then List.replicate t.dim 0 else outRound b res.1 }
  if l.poisonIdx || res.2.1 then y.note .poisoned else if res.2.2 ≠ [] then y.note .degraded else y

theorem note_keeps (x : Request) (st : Status) : (x.note st).lookup = x.lookup ∧ (x.note st).sketch = x.sketch := by
  unfold Request.note
  split <;> exact ⟨rfl, rfl⟩

theorem lookedUp_effect (x : Request) (l : Lookup) (t : ETable) (b : Bytes) (res : List W32 × Bool × List Nat) :
    (x.lookedUp l t b res).lookup = none ∧
    (l.poisonIdx = true → (x.lookedUp l t b res).sketch = List.replicate t.dim 0 ∧ .poisoned ∈ (x.lookedUp l t b res).conds) ∧
    (l.poisonIdx = false → (x.lookedUp l t b res).sketch = outRound b res.1 ∧ (res.2.1 = true → .poisoned ∈ (x.lookedUp l t b res).conds)) := by
  unfold Request.lookedUp
  dsimp only
  cases hp : l.poisonIdx with
  | true =>
    rw [Bool.true_or, if_pos rfl, if_pos rfl]
    obtain ⟨hlookup, hsketch⟩ := note_keeps { x with lookup := none, sketch := List.replicate t.dim 0 } .poisoned
    exact ⟨hlookup, fun _ => ⟨hsketch, mem_conds_note _ _⟩, nofun⟩
  | false =>
    rw [Bool.false_or, if_neg Bool.false_ne_true]
    have hkeeps := note_keeps { x with lookup := none, sketch := outRound b res.1 }
    split
    · exact ⟨(hkeeps _).1, nofun, fun _ => ⟨(hkeeps _).2, fun _ => mem_conds_note _ _⟩⟩
    · next hclean =>
      split
      · exact ⟨(hkeeps _).1, nofun, fun _ => ⟨(hkeeps _).2, fun h => absurd h hclean⟩⟩
      · exact ⟨rfl, nofun, fun _ => ⟨rfl, fun h => absurd h hclean⟩⟩

theorem lookupDone_run {req : W32} {s : State} {x : Request} {l : Lookup} {t : ETable} (hx : s.atStage req 1 = some x)
    (hl : x.lookup = some l) (ht : s.table? l.table = some t) (b : Bytes) (hb : rdBlock x.desc 2 64 = b)
    (res : List W32 × Bool × List Nat) (hres : s.pooled t (t.version l.version) b s.free
      (if lbPool b = 0 then List.zip l.indices l.weights else l.merged t s.free) = res) :
    exec (.lookupDone req) s = .next (((s.countLookup l t (l.merged t s.free) res.2.2).setTable l.table
      { t with cur := t.cur.unpin req, old := t.old.map (·.unpin req) }).setReq req (x.lookedUp l t b res)) := by
  obtain ⟨out, p, gone⟩ := res
  unfold Lookup.merged at hres ⊢
  show execLookupDone req s = _
  simp only [execLookupDone, hx, hl, ht, hb, hres]
  rfl

theorem lookupDone_effect (req : W32) (s : State) (x : Request) (l : Lookup) (t : ETable) (hx : s.atStage req 1 = some x)
    (hl : x.lookup = some l) (ht : s.table? l.table = some t) :
    (let b := rdBlock x.desc 2 64
     let es := List.zip l.indices l.weights
     let es := if lbPool b = 0 ∨ l.raw = true then es else es.foldl (mergeIndex t s.free) []
     ∃ u y, exec (.lookupDone req) s = .next u ∧ u.req? req = some y ∧ y.lookup = none ∧
     (l.poisonIdx = true → y.sketch = List.replicate t.dim 0 ∧ .poisoned ∈ y.conds) ∧
     (l.poisonIdx = false → y.sketch = outRound b (s.pooled t (t.version l.version) b s.free es).1 ∧
       ((s.pooled t (t.version l.version) b s.free es).2.1 = true → .poisoned ∈ y.conds)) ∧
     u.table? l.table = some { t with cur := t.cur.unpin req, old := t.old.map (·.unpin req) } ∧
     u = { s with reqs := u.reqs, tables := u.tables, free := u.free, cnt := u.cnt }) := by
  intro b es es'
  have hes : (if lbPool b = 0 then List.zip l.indices l.weights else l.merged t s.free) = es' := by
    unfold Lookup.merged
    by_cases hpool : lbPool b = 0
    · exact (if_pos hpool).trans (if_pos (.inl hpool)).symm
    · rw [if_neg hpool]
      by_cases hraw : l.raw = true
      · exact (if_pos hraw).trans (if_pos (.inr hraw)).symm
      · exact (if_neg hraw).trans (if_neg fun h => h.elim hpool hraw).symm
  clear_value es'
  have hrun := lookupDone_run hx hl ht b rfl _ (by rw [hes])
  generalize s.pooled t (t.version l.version) b s.free es' = res at hrun ⊢
  obtain ⟨hlookup, hbad, hgood⟩ := lookedUp_effect x l t b res
  generalize x.lookedUp l t b res = y at hrun hlookup hbad hgood
  have hcounts := counts_countLookup s l t (l.merged t s.free) res.2.2
  generalize s.countLookup l t (l.merged t s.free) res.2.2 = w at hrun hcounts
  unfold Counts at hcounts
  refine ⟨_, y, hrun, req_setReq _ _ _, hlookup, hbad, hgood, KMap.find_put_self _ _ _, ?_⟩
  rw [hcounts]; rfl

/-! Serving modes (R213) -/

theorem tableMode_effect (r : Requester) (v : Bytes) (s : State) (t : ETable) (hmay : WriteMay s r 0x2520 2 v [])
    (hbits : bits (leNat v) 10 6 = 0) (ht : s.table? (leNat v % 1024) = some t)
    (hmode : leNat v / 2 ^ 16 = 1 ∨ (leNat v / 2 ^ 16 = 2 ∧ t.cur.hotBuilt = true)) : ∃ u, exec (.tableModeWrite r v) s = .next u ∧
    u.table? (leNat v % 1024) = some { t with service := decide (leNat v / 2 ^ 16 = 2) } ∧
    Replied u r .ok ∧ u = { s with tables := u.tables, cnt := u.cnt, sent := u.sent, kop := u.kop } := by
  have hx : cond (bits (leNat v) 10 6 ≠ 0 || (leNat v / 2 ^ 16 ≠ 1 && leNat v / 2 ^ 16 ≠ 2)) .badDescriptor ++
      cond (s.table? (leNat v % 1024)).isNone .versionGone ++
      cond (leNat v / 2 ^ 16 == 2 && ((s.table? (leNat v % 1024)).map (fun t => !t.cur.hotBuilt)).getD false) .notReady = [] := by
    rw [hbits, ht]
    rcases hmode with h | ⟨h, hhot⟩
    · rw [h]; rfl
    · rw [h, Option.map_some, hhot]; rfl
  obtain ⟨u, hu, hans⟩ := exec_writeNow (i := .tableModeWrite r v)
    (w := s.setTable (leNat v % 1024) { t with service := decide (leNat v / 2 ^ 16 = 2) }) hmay rfl hx (by simp only [ht]; rfl) rfl
  have hframe := hans.frame_kop
  have htables : u.tables = s.tables.put (leNat v % 1024) { t with service := decide (leNat v / 2 ^ 16 = 2) } := by rw [hframe]; rfl
  refine ⟨u, hu, ?_, hans.replied, ?_⟩
  · rw [State.table?, htables, KMap.find_put_self]
  · rw [htables]; exact hframe

/-! Staging (R216, R217) -/

theorem stageOf_stage {s : State} {h : Nat} {r : W32} {x : Request} (hst : s.stageOf h = some (r, x)) : x.state = .stage := by
  obtain ⟨e, he, heq⟩ := Option.map_eq_some_iff.1 hst
  have hp := List.find?_some he
  simp only [Bool.and_eq_true, beq_iff_eq] at hp
  rw [← (Prod.mk.inj heq).2]
  exact hp.1.2

/-- The entries of a batch as the owners' logs take them. -/
def Request.logged (x : Request) (t : ETable) (bs : Bytes) : List StageEntry :=
  (List.range (tbCount x.block)).map (fun i => stageEntry x.block x.home t.arrivals t.dim i (slice bs (i * (8 + 4 * t.dim)) (8 + 4 * t.dim)))

/-- A table with a batch behind the entries of its log. -/
def ETable.take (t : ETable) (new : List StageEntry) : ETable := { t with log := t.log ++ new, arrivals := t.arrivals + 1 }

theorem mapIdx_map_range {α β : Type} (n : Nat) (f : Nat → α) (g : Nat → α → β) :
    ((List.range n).map f).mapIdx g = (List.range n).map (fun i => g i (f i)) :=
  List.ext_getElem (by simp) fun i _ _ => by simp

theorem stageBatch_run {table : Fin 1024} {bs : Bytes} {s : State} {r : W32} {x : Request} {t : ETable} (hst : s.stageOf table = some (r, x))
    (ht : s.table? table = some t) (hblock : stageBlockBad x.block = false) (hsub : ¬(field x.block 4 1 = 1 ∧ t.composed = false))
    (hwin : s.windowConds (s.reqContext x) (field x.block 20 2) (field x.block 24 8) (tbCount x.block * (8 + 4 * t.dim)) false = [])
    (hes : ∀ i < tbCount x.block, zeros (slice bs (i * (8 + 4 * t.dim)) (8 + 4 * t.dim)) 4 4 = true ∧
      field (slice bs (i * (8 + 4 * t.dim)) (8 + 4 * t.dim)) 0 4 < t.rows (field x.block 4 1))
    (hopen : t.staging ≠ .none_) (hfit : t.log.length + tbCount x.block ≤ t.logCap) :
    exec (.stageBatch table (.data bs)) s = .next (((x.logged t bs).foldl (fun s e => s.dbump (t.owner e.row) 0xA 7 1)
      (s.setTable table (t.take (x.logged t bs)))).failReq r .ok) := by
  have hbad : (stageBlockBad x.block || (field x.block 4 1 == 1 && !t.composed)) = false := by
    rw [hblock]
    cases hc : t.composed with
    | true => rw [Bool.not_true, Bool.and_false]; rfl
    | false => simpa [hc] using hsub
  have hany : ((List.range (tbCount x.block)).map (fun i => slice bs (i * (8 + 4 * t.dim)) (8 + 4 * t.dim))).any
      (fun e => !(zeros e 4 4) || decide (field e 0 4 ≥ t.rows (field x.block 4 1))) = false := by
    rw [List.any_map, List.any_eq_false]
    intro i hi
    obtain ⟨hz, hlt⟩ := hes i (List.mem_range.1 hi)
    rw [Function.comp_apply, hz, decide_eq_false (Nat.not_le.2 hlt)]
    exact Bool.false_ne_true
  have hok : ¬ t.log.length + tbCount x.block > t.logCap := Nat.not_lt.2 hfit
  show execStageBatch table (.data bs) s = _
  simp only [execStageBatch, hst, ht, hbad, hwin, hany, hopen, hok, Bool.false_eq_true, if_false, mapIdx_map_range]
  rfl

theorem stageBatch_effect (table : Fin 1024) (bs : Bytes) (s : State) (r : W32) (x : Request) (t : ETable)
    (hst : s.stageOf table = some (r, x)) (hx : s.req? r = some x) (ht : s.table? table = some t) (hblock : stageBlockBad x.block = false)
    (hsub : ¬(field x.block 4 1 = 1 ∧ t.composed = false))
    (hwin : s.windowConds (s.reqContext x) (field x.block 20 2) (field x.block 24 8) (tbCount x.block * (8 + 4 * t.dim)) false = [])
    (hes : ∀ i < tbCount x.block, zeros (slice bs (i * (8 + 4 * t.dim)) (8 + 4 * t.dim)) 4 4 = true ∧
      field (slice bs (i * (8 + 4 * t.dim)) (8 + 4 * t.dim)) 0 4 < t.rows (field x.block 4 1))
    (hopen : t.staging ≠ .none_) (hfit : t.log.length + tbCount x.block ≤ t.logCap) : ∃ u t' y,
    exec (.stageBatch table (.data bs)) s = .next u ∧ u.table? table = some t' ∧ t'.log = t.log ++ x.logged t bs ∧
    t' = { t with log := t'.log, arrivals := t.arrivals + 1 } ∧ u.req? r = some y ∧ y.state = .writing ∧ .ok ∈ y.conds ∧ u.mem = s.mem ∧
    u.jobs = s.jobs := by
  have hrun := stageBatch_run hst ht hblock hsub hwin hes hopen hfit
  have hcounts : Counts (s.setTable table (t.take (x.logged t bs))) ((x.logged t bs).foldl (fun s e => s.dbump (t.owner e.row) 0xA 7 1)
      (s.setTable table (t.take (x.logged t bs)))) := .foldl _ (fun s e => counts_dbump _ _ _ _ _) _ _
  generalize (x.logged t bs).foldl (fun s e => s.dbump (t.owner e.row) 0xA 7 1) (s.setTable table (t.take (x.logged t bs))) = w at hrun hcounts
  unfold Counts at hcounts
  have hwx : w.req? r = some x := by rw [hcounts]; exact hx
  have hwbodies : w.mem = s.mem ∧ w.jobs = s.jobs := by rw [hcounts]; exact ⟨rfl, rfl⟩
  have hwtable : w.table? table = some (t.take (x.logged t bs)) := by rw [hcounts]; exact KMap.find_put_self _ _ _
  rw [failReq_live .ok hwx (by rw [stageOf_stage hst]; exact nofun)] at hrun
  exact ⟨_, t.take (x.logged t bs), _, hrun, hwtable, rfl, rfl, req_setReq _ _ _, rfl, mem_conds_note x .ok, hwbodies.1, hwbodies.2⟩

/-! Builds and switches (R214, R215, R218) -/

/-- The version a build asks for. -/
def ETable.next (t : ETable) (b : BuildRequest) : TabVersion :=
  { num := t.cur.num + 1, baseA := b.baseA.toNat, baseB := b.baseB.toNat, hotSel := !t.cur.hotSel, hotA := b.hotA.take t.hotCap,
    hotB := b.hotB.take (t.hotCap - (b.hotA.take t.hotCap).length), hotBuilt := true, pins := [] }

/-- The rows of the next version written, and its hot area filled. -/
def State.buildRows (s : State) (t : ETable) (v : TabVersion) : State :=
  let s := (List.range t.rowsA).foldl (fun s r => s.buildRow t 0 t.cur.baseA v.baseA r) s
  let s := if t.composed then (List.range t.rowsB).foldl (fun s r => s.buildRow t 1 t.cur.baseB v.baseB r) s else s
  s.fillHot t v

theorem length_next_hot (t : ETable) (b : BuildRequest) : (t.next b).hotA.length + (t.next b).hotB.length ≤ t.hotCap := by
  simp only [ETable.next, List.length_take]
  omega

theorem tableBuild_effect (table : Fin 1024) (b : BuildRequest) (s : State) (t : ETable) (ht : s.table? table = some t)
    (hopen : t.staging = .open_) (hbuilt : t.built = none) (hheld : t.held = none) : ∃ u v, exec (.tableBuild table b) s = .next u ∧
    u.table? table = some { t with staging := .building, log := [], built := some v } ∧ v.num = t.cur.num + 1 ∧ v.baseA = b.baseA.toNat ∧
    v.baseB = b.baseB.toNat ∧ v.hotSel = !t.cur.hotSel ∧ v.hotA.length + v.hotB.length ≤ t.hotCap ∧ v.pins = [] := by
  have hrun : exec (.tableBuild table b) s = .next ((s.buildRows t (t.next b)).setTable table
      { t with staging := .building, log := [], built := some (t.next b) }) := by
    show execTableBuild table b s = _
    simp only [execTableBuild, ht, hopen, hbuilt, hheld, ne_eq, not_true_eq_false, Option.isSome_none, Bool.false_eq_true, or_self, if_false]
    rfl
  exact ⟨_, t.next b, hrun, KMap.find_put_self _ _ _, rfl, rfl, rfl, rfl, length_next_hot t b, rfl⟩

theorem tableSwitch_run {table : Fin 1024} {s : State} {t : ETable} {v : TabVersion} {cmd : Instr} (ht : s.table? table = some t)
    (hcmd : (cmd = .tableSwitch table ∧ t.built = some v) ∨ (cmd = .tableSwitchRelease table ∧ t.held = some v)) :
    exec cmd s = .next (s.switchTable table t v) := by
  rcases hcmd with ⟨rfl, hv⟩ | ⟨rfl, hv⟩
  · show execTableSwitch table s = _
    simp only [execTableSwitch, ht, hv]
  · show execTableSwitchRelease table s = _
    simp only [execTableSwitchRelease, ht, hv]

/-- Pages asked back, and nothing else changed. -/
def Recycles (s u : State) : Prop := u = { s with pages := u.pages }

theorem recycles_foldl (l : List Nat) (f : Nat → Nat) (n : Nat) (s : State) : Recycles s (l.foldl (fun s r => s.askRecycle (f r) n) s) := by
  induction l generalizing s with
  | nil => rfl
  | cons r l ih =>
    have hrest : Recycles (s.askRecycle (f r) n) _ := ih (s.askRecycle (f r) n)
    unfold Recycles at hrest
    exact hrest.trans rfl

theorem tableVersionRelease_effect (table : Fin 1024) (s : State) (t : ETable) (v : TabVersion) (ht : s.table? table = some t)
    (hold : t.old = some v) (hpins : v.pins = []) : ∃ u, exec (.tableVersionRelease table) s = .next u ∧
    u.table? table = some { t with old := none } ∧ u = { s with tables := u.tables, pages := u.pages } := by
  generalize hw : (List.range t.rowsA).foldl (fun s r => s.askRecycle (t.rowAt v.baseA r) t.rowBytes) s = w
  have hrowsA : Recycles s w := hw ▸ recycles_foldl _ (fun r => t.rowAt v.baseA r) _ s
  generalize hw' : (if t.composed then (List.range t.rowsB).foldl (fun s r => s.askRecycle (t.rowAt v.baseB r) t.rowBytes) w else w) = w'
  have hrowsB : Recycles w w' := by
    rw [← hw']
    split
    · exact recycles_foldl _ (fun r => t.rowAt v.baseB r) _ w
    · rfl
  have hrun : exec (.tableVersionRelease table) s = .next (w'.setTable table { t with old := none }) := by
    show execTableVersionRelease table s = _
    simp only [execTableVersionRelease, ht, State.releaseTable, hold, hpins, ne_eq, not_true_eq_false, if_false, hw, hw']
  unfold Recycles at hrowsA hrowsB
  refine ⟨_, hrun, KMap.find_put_self _ _ _, ?_⟩
  rw [hrowsB, hrowsA]; rfl

/-- Settles O35: a lookup pins and unpins its table's version; a batch goes behind the log; a build's version is `ETable.next`. -/
theorem tableCommands : Obligations.TableCommands := by
  unfold Obligations.TableCommands
  refine ⟨⟨fun req tr s x t xs ws p hx hhas hnone hsketch => ?_, lookupDone_effect⟩, tableMode_effect,
    fun table bs s r x t hst hx ht hblock => ?_, tableBuild_effect, fun table s t v cmd ht hcmd => ⟨fun hold => ?_, fun hold => ?_⟩,
    tableVersionRelease_effect⟩
  · intro b ht hblock hin hok
    exact lookupAdmit_effect req tr s x t xs ws p b rfl hx hhas hnone hsketch ht hblock hin hok
  · intro n sub len hsub hwin hes hopen hfit
    exact stageBatch_effect table bs s r x t hst hx ht hblock hsub hwin hes hopen hfit
  · rw [tableSwitch_run ht hcmd]
    simp only [State.switchTable, hold, if_true]
  · rw [tableSwitch_run ht hcmd]
    simp only [State.switchTable, hold, Bool.false_eq_true, if_false]

end Sys2Proof.Machine
end
